-- ==== Sys2Proof/Word.lean ====
section
/-! DEFINITION. The word types of the SD2416: bytes of its ports, 16-bit frame numbers, 24-bit tag numbers. -/

namespace Sys2Proof

/-- A byte of the host port or of the field link (R185). -/
abbrev Byte := BitVec 8

/-- A number sent as two bytes (R185). -/
abbrev Word16 := BitVec 16

/-- A frame number, 0 to 65535; it wraps from 65535 to 0 (R3, R7). -/
abbrev Frame := BitVec 16

/-- A tag number as it is sent, three bytes (R185). -/
abbrev Tag := BitVec 24

/-- A slot's generation, 0 to 15; it wraps from 15 to 0 (R52). -/
abbrev Gen := BitVec 4

end Sys2Proof
end

