-- ==== Sys2Proof/Config.lean ====
section
/-! DEFINITION. The sizes that the SD2416 fixes. The manual leaves no value of an effect open that is not fixed here or in
a log entry, so there is no free value. -/

namespace Sys2Proof.Config

/-- The phases in which a request is admitted (R178). -/
inductive Admission where
  | setupOnly | runningOnly | bothPhases
  deriving DecidableEq, Repr

/-- A row of the request table (R186): a code, its number of argument bytes, its phases. -/
structure RequestRow where
  code : Nat
  argBytes : Nat
  phases : Admission
  deriving DecidableEq, Repr

/-- The attention queue holds at most 32 items (R35). -/
abbrev queueCapacity : Nat := 32

/-- The field receive queue holds at most 16 messages (R167). -/
abbrev receiveCapacity : Nat := 16

/-- The roster's slots (R52). -/
abbrev rosterSlots : Nat := 240

/-- The truck table's positions (R114). -/
abbrev truckPositions : Nat := 24

/-- A beacon carries at most 8 alert tags (R15, R145). -/
abbrev beaconAlerts : Nat := 8

/-- A beacon carries at most 4 page tags (R15, R145). -/
abbrev beaconPages : Nat := 4

/-- A warmup count of 4 ends the warmup (R99). -/
abbrev warmupReadings : Nat := 4

/-- The highest repeat count and miss count (R78, R119, R157). -/
abbrev countCeiling : Nat := 15

/-- The highest silence count (R133). -/
abbrev silenceCeiling : Nat := 255

/-- The highest exposure (R87). -/
abbrev exposureCeiling : Nat := 65535

end Sys2Proof.Config
end

