-- ==== Sys2Proof/Syntax.lean ====
section
/-! DEFINITION. The commands of the SD2416: one constructor for each row of spec/opcode_table.json. A request's operands are
its arguments as wide as R186 sends them, so that every argument the host can write, refused ones included, is a term. -/

namespace Sys2Proof

/-- A command: a step of the part (the table's rows, in the table's order). -/
inductive Instr where
  /-- POWER_ON (R181). -/
  | powerOn
  /-- RESET_LINE: the reset line falls (R181). -/
  | resetLine
  /-- RESET_RELEASE: the reset line rises (R181). -/
  | resetRelease
  /-- HOST_PORT_WRITE: a strobe of WR; `code` is C/D high (R175, R176). -/
  | hostPortWrite (code : Bool) (byte : Byte)
  /-- REPLY_READ: a strobe of RD with C/D low (R177). -/
  | replyRead
  /-- STATUS_BYTE_READ: a strobe of RD with C/D high (R177, R187). -/
  | statusByteRead
  /-- UNKNOWN_REQUEST_CODE: the host writes a code that names no request (R176, R177). -/
  | unknownRequestCode (code : Byte)
  /-- SET_FRAME (R10). -/
  | setFrame (total tagEnd haulStart haulEnd callStart callEnd : Word16) (sync : Byte)
  /-- SET_WINDOWS (R11). -/
  | setWindows (tagEnd haulStart haulEnd callStart callEnd : Word16)
  /-- SET_MARK; 65535 is absent (R12, R186). -/
  | setMark (slot : Word16)
  /-- SET_CADENCE (R14). -/
  | setCadence (bit edge : Byte)
  /-- READ_FRAME (R16). -/
  | readFrame
  /-- SET_ZONE (R33). -/
  | setZone (zone kind limit level refuge line : Byte)
  /-- SET_VEHICLE_LIMIT (R32). -/
  | setVehicleLimit (zone limit : Byte)
  /-- READ_ZONE (R34). -/
  | readZone (zone : Byte)
  /-- NEXT_ITEM (R48). -/
  | nextItem
  /-- ACK_ITEM: a kind and a three-byte subject (R49, R186). -/
  | ackItem (kind : Byte) (subject : BitVec 24)
  /-- ENROL; escort slot 255 is absent (R56, R186). -/
  | enrol (tag : Tag) (role escortSlot escortGen : Byte)
  /-- RETIRE (R65). -/
  | retire (slot gen : Byte)
  /-- SET_ESCORT: the visitor's handle, then the escort's (R72). -/
  | setEscort (slot gen escortSlot escortGen : Byte)
  /-- FIND_TAG (R73). -/
  | findTag (tag : Tag)
  /-- READ_PERSON (R74). -/
  | readPerson (slot gen : Byte)
  /-- SET_WALK (R83). -/
  | setWalk (walkStep interval : Byte)
  /-- CLEAR_EXPOSURE (R88). -/
  | clearExposure (slot gen : Byte)
  /-- SET_CHANNEL; zone 255 is absent, trip level 0 is absent (R112, R186). -/
  | setChannel (channel gas zone caution danger trip persistence hysteresis enabled : Byte)
  /-- SET_LEVELS (R107). -/
  | setLevels (channel caution danger : Byte)
  /-- CHANNEL_ON (R110). -/
  | channelOn (channel : Byte)
  /-- CHANNEL_OFF (R111). -/
  | channelOff (channel : Byte)
  /-- AIR_CONTROL (R95). -/
  | airControl (mode groups : Byte)
  /-- TEST_CHANNEL (R108). -/
  | testChannel (channel forced sweeps : Byte)
  /-- CANCEL_TEST (R109). -/
  | cancelTest (channel : Byte)
  /-- RESET_TRIP (R106). -/
  | resetTrip (channel : Byte)
  /-- READ_CHANNEL (R113). -/
  | readChannel (channel : Byte)
  /-- REGISTER_TRUCK (R116). -/
  | registerTruck (number : Word16) (kind : Byte)
  /-- RETIRE_TRUCK (R135). -/
  | retireTruck (number : Word16)
  /-- FORCE_ORDER (R132). -/
  | forceOrder (number : Word16) (order : Byte)
  /-- RELEASE_ORDER (R132). -/
  | releaseOrder (number : Word16)
  /-- READ_TRUCK (R136). -/
  | readTruck (number : Word16)
  /-- RESUME (R134). -/
  | resume
  /-- SET_REFUGE (R148). -/
  | setRefuge (refuge zone capacity : Byte)
  /-- EVACUATE: bit z of the set is zone z (R140, R185). -/
  | evacuate (zones : BitVec 32)
  /-- LIFT (R141). -/
  | lift (zones : BitVec 32)
  /-- READ_REFUGE (R154). -/
  | readRefuge (refuge : Byte)
  /-- ANSWER (R160). -/
  | answer (slot gen : Byte)
  /-- END_CALL (R164). -/
  | endCall (slot gen : Byte)
  /-- PAGE (R166). -/
  | page (slot gen : Byte)
  /-- CANCEL_PAGE (R166). -/
  | cancelPage (slot gen : Byte)
  /-- SET_DISTRICT: the settings of R179 in their order. -/
  | setDistrict (quiet missing outHold portal mode : Byte) (exposure : Word16)
      (lapse close silence escort refugeSilence routineWait emergencyWait : Byte)
  /-- START (R180). -/
  | start
  /-- RESET_PART (R181). -/
  | resetPart
  /-- STATUS (R184). -/
  | status
  /-- SET_CURSOR (R183). -/
  | setCursor (table index : Byte)
  /-- READ_NEXT (R183). -/
  | readNext
  /-- CLEAR_NOTICE (R182). -/
  | clearNotice (notices : Byte)
  /-- SET_NOTICE_MASK (R182). -/
  | setNoticeMask (notices : Byte)
  /-- READ_NOTICE (R182). -/
  | readNotice
  /-- SLOT_STROBE (R2, R3). -/
  | slotStrobe
  /-- FRAME_PULSE (R2, R4). -/
  | framePulse
  /-- AGING_WALK: the roster takes its frame start's walk (R76). -/
  | agingWalk
  /-- AGING_STATE_CHANGE: the state of the record in a slot is judged against the limits (R79). -/
  | agingStateChange (slot : Fin 240)
  /-- ESCORT_LIMIT_JUDGEMENT (R70). -/
  | escortLimitJudgement
  /-- EXPOSURE_COUNT (R85). -/
  | exposureCount
  /-- EXPOSURE_LIMIT_REACHED: the exposure of the record in a slot is judged against the limit (R87). -/
  | exposureLimitReached (slot : Fin 240)
  /-- PANEL_SILENCE (R152). -/
  | panelSilence
  /-- ALERT_ROUND_START: the unit takes a cadence event (R144). -/
  | alertRoundStart
  /-- CALL_WAIT_JUDGEMENT (R159). -/
  | callWaitJudgement
  /-- POLL_FLAG_RENEWAL (R118). -/
  | pollFlagRenewal
  /-- SILENCE_COUNT (R133). -/
  | silenceCount
  /-- ENTER_ALONE: the silence count is judged against the silence limit (R133). -/
  | enterAlone
  /-- VEHICLE_LIMIT_APPLY (R31). -/
  | vehicleLimitApply
  /-- USABLE_CHANNEL_COUNT (R162). -/
  | usableChannelCount
  /-- SWEEP_START (R92). -/
  | sweepStart
  /-- CONVERSION_COMPLETION: the count converted, and whether its turn had been abandoned (R89, R95, R111). -/
  | conversionCompletion (count : Byte) (abandoned : Bool)
  /-- WARMUP_END: a channel's warmup count is judged (R99). -/
  | warmupEnd (channel : Fin 32)
  /-- FAULT_CLEAR: a channel's good count is judged (R102). -/
  | faultClear (channel : Fin 32)
  /-- RUN_STATE_CHANGE: a channel's run count is judged (R103). -/
  | runStateChange (channel : Fin 32)
  /-- TEST_EXPIRY: a channel's sweeps remaining are judged (R109). -/
  | testExpiry (channel : Fin 32)
  /-- FIELD_ARRIVAL: a delivery ends, with the bytes it brought (R168). -/
  | fieldArrival (bytes : List Byte)
  /-- MESSAGE_TAKING (R169). -/
  | messageTaking
  /-- POLL: the haul link takes a HAUL slot start (R118). -/
  | poll
  /-- LINK_LAPSE: a truck's missed polls are judged against the lapse limit (R119). -/
  | linkLapse (number : Word16)
  /-- CHANNEL_HOLD: the call unit takes a VOICE slot start (R161). -/
  | channelHold
  /-- HOLDING_SLOT_CHECK: the field link takes a slot start (R173). -/
  | holdingSlotCheck
  /-- FETCH (R174). -/
  | fetch
  deriving DecidableEq, Repr

end Sys2Proof
end

