-- ==== Sys2Proof/Decode.lean ====
section
/-! DEFINITION. The byte layouts of the host port's requests (R185, R186) and the lengths of the inbound field messages
(R190). The opcode table gives no row any bits, so no table word spells a command. -/

namespace Sys2Proof

open Config (RequestRow)

/-- Two bytes, most significant first, as a number (R185). -/
def word16 (b1 b0 : Byte) : Word16 := b1 ++ b0

/-- Three bytes, most significant first, as a number (R185). -/
def word24 (b2 b1 b0 : Byte) : BitVec 24 := b2 ++ b1 ++ b0

/-- Four bytes, most significant first, as a number (R185). -/
def word32 (b3 b2 b1 b0 : Byte) : BitVec 32 := b3 ++ b2 ++ b1 ++ b0

/-- A two-byte number, most significant byte first (R185). -/
def bytes16 (w : Word16) : List Byte := [w.extractLsb' 8 8, w.extractLsb' 0 8]

/-- A three-byte number, most significant byte first (R185). -/
def bytes24 (w : BitVec 24) : List Byte := [w.extractLsb' 16 8, w.extractLsb' 8 8, w.extractLsb' 0 8]

/-- A four-byte number, most significant byte first (R185). -/
def bytes32 (w : BitVec 32) : List Byte :=
  [w.extractLsb' 24 8, w.extractLsb' 16 8, w.extractLsb' 8 8, w.extractLsb' 0 8]

/-- The requests of chapters 1 to 5: codes, argument bytes and phases (R186). -/
def requestTableFirst : List RequestRow :=
  [⟨1, 13, .setupOnly⟩, ⟨2, 10, .bothPhases⟩, ⟨3, 2, .bothPhases⟩, ⟨4, 2, .bothPhases⟩,
   ⟨5, 0, .bothPhases⟩, ⟨6, 6, .setupOnly⟩, ⟨7, 2, .bothPhases⟩, ⟨8, 1, .bothPhases⟩,
   ⟨9, 0, .bothPhases⟩, ⟨10, 4, .bothPhases⟩, ⟨11, 6, .bothPhases⟩, ⟨12, 2, .bothPhases⟩,
   ⟨13, 4, .bothPhases⟩, ⟨14, 3, .bothPhases⟩, ⟨15, 2, .bothPhases⟩, ⟨16, 2, .bothPhases⟩,
   ⟨17, 2, .bothPhases⟩]

/-- The requests of chapters 6 to 8 (R186). -/
def requestTableMiddle : List RequestRow :=
  [⟨18, 9, .setupOnly⟩, ⟨19, 3, .bothPhases⟩, ⟨20, 1, .bothPhases⟩, ⟨21, 1, .bothPhases⟩,
   ⟨22, 2, .runningOnly⟩, ⟨23, 3, .runningOnly⟩, ⟨24, 1, .bothPhases⟩, ⟨25, 1, .bothPhases⟩,
   ⟨26, 1, .bothPhases⟩, ⟨27, 3, .bothPhases⟩, ⟨28, 2, .bothPhases⟩, ⟨29, 3, .runningOnly⟩,
   ⟨30, 2, .bothPhases⟩, ⟨31, 2, .bothPhases⟩, ⟨32, 0, .runningOnly⟩, ⟨33, 3, .setupOnly⟩,
   ⟨34, 4, .runningOnly⟩, ⟨35, 4, .runningOnly⟩, ⟨36, 1, .bothPhases⟩]

/-- The requests of chapters 9 and 11 (R186). -/
def requestTableLast : List RequestRow :=
  [⟨37, 2, .runningOnly⟩, ⟨38, 2, .bothPhases⟩, ⟨39, 2, .runningOnly⟩, ⟨40, 2, .bothPhases⟩,
   ⟨41, 14, .setupOnly⟩, ⟨42, 0, .setupOnly⟩, ⟨43, 0, .bothPhases⟩, ⟨44, 0, .bothPhases⟩,
   ⟨45, 2, .bothPhases⟩, ⟨46, 0, .bothPhases⟩, ⟨47, 1, .bothPhases⟩, ⟨48, 1, .bothPhases⟩,
   ⟨49, 0, .bothPhases⟩]

/-- The request table (R186). -/
def requestTable : List RequestRow := requestTableFirst ++ requestTableMiddle ++ requestTableLast

/-- The row of a code, none where the code names no request (R176, R186). -/
def requestRow? (code : Byte) : Option RequestRow := requestTable.find? (fun r => r.code == code.toNat)

/-- The request that a code and its argument bytes spell, the arguments in the order the owning rule lists them (R186). -/
def decodeRequest (code : Byte) (args : List Byte) : Option Instr :=
  match code.toNat with
  | 1 =>
    match args with
    | [total1, total0, tagEnd1, tagEnd0, haulStart1, haulStart0, haulEnd1, haulEnd0, callStart1, callStart0, callEnd1,
      callEnd0, sync] => some (.setFrame (word16 total1 total0) (word16 tagEnd1 tagEnd0) (word16 haulStart1 haulStart0)
      (word16 haulEnd1 haulEnd0) (word16 callStart1 callStart0) (word16 callEnd1 callEnd0) sync)
    | _ => none
  | 2 =>
    match args with
    | [tagEnd1, tagEnd0, haulStart1, haulStart0, haulEnd1, haulEnd0, callStart1, callStart0, callEnd1, callEnd0] => some
      (.setWindows (word16 tagEnd1 tagEnd0) (word16 haulStart1 haulStart0) (word16 haulEnd1 haulEnd0) (word16 callStart1
      callStart0) (word16 callEnd1 callEnd0))
    | _ => none
  | 3 =>
    match args with
    | [slot1, slot0] => some (.setMark (word16 slot1 slot0))
    | _ => none
  | 4 =>
    match args with
    | [bit, edge] => some (.setCadence bit edge)
    | _ => none
  | 5 =>
    match args with
    | [] => some .readFrame
    | _ => none
  | 6 =>
    match args with
    | [zone, kind, limit, level, refuge, line] => some (.setZone zone kind limit level refuge line)
    | _ => none
  | 7 =>
    match args with
    | [zone, limit] => some (.setVehicleLimit zone limit)
    | _ => none
  | 8 =>
    match args with
    | [zone] => some (.readZone zone)
    | _ => none
  | 9 =>
    match args with
    | [] => some .nextItem
    | _ => none
  | 10 =>
    match args with
    | [kind, subject2, subject1, subject0] => some (.ackItem kind (word24 subject2 subject1 subject0))
    | _ => none
  | 11 =>
    match args with
    | [tag2, tag1, tag0, role, escortSlot, escortGen] => some (.enrol (word24 tag2 tag1 tag0) role escortSlot escortGen)
    | _ => none
  | 12 =>
    match args with
    | [slot, gen] => some (.retire slot gen)
    | _ => none
  | 13 =>
    match args with
    | [slot, gen, escortSlot, escortGen] => some (.setEscort slot gen escortSlot escortGen)
    | _ => none
  | 14 =>
    match args with
    | [tag2, tag1, tag0] => some (.findTag (word24 tag2 tag1 tag0))
    | _ => none
  | 15 =>
    match args with
    | [slot, gen] => some (.readPerson slot gen)
    | _ => none
  | 16 =>
    match args with
    | [walkStep, interval] => some (.setWalk walkStep interval)
    | _ => none
  | 17 =>
    match args with
    | [slot, gen] => some (.clearExposure slot gen)
    | _ => none
  | 18 =>
    match args with
    | [channel, gas, zone, caution, danger, trip, persistence, hysteresis, enabled] => some (.setChannel channel gas zone
      caution danger trip persistence hysteresis enabled)
    | _ => none
  | 19 =>
    match args with
    | [channel, caution, danger] => some (.setLevels channel caution danger)
    | _ => none
  | 20 =>
    match args with
    | [channel] => some (.channelOn channel)
    | _ => none
  | 21 =>
    match args with
    | [channel] => some (.channelOff channel)
    | _ => none
  | 22 =>
    match args with
    | [mode, groups] => some (.airControl mode groups)
    | _ => none
  | 23 =>
    match args with
    | [channel, forced, sweeps] => some (.testChannel channel forced sweeps)
    | _ => none
  | 24 =>
    match args with
    | [channel] => some (.cancelTest channel)
    | _ => none
  | 25 =>
    match args with
    | [channel] => some (.resetTrip channel)
    | _ => none
  | 26 =>
    match args with
    | [channel] => some (.readChannel channel)
    | _ => none
  | 27 =>
    match args with
    | [number1, number0, kind] => some (.registerTruck (word16 number1 number0) kind)
    | _ => none
  | 28 =>
    match args with
    | [number1, number0] => some (.retireTruck (word16 number1 number0))
    | _ => none
  | 29 =>
    match args with
    | [number1, number0, order] => some (.forceOrder (word16 number1 number0) order)
    | _ => none
  | 30 =>
    match args with
    | [number1, number0] => some (.releaseOrder (word16 number1 number0))
    | _ => none
  | 31 =>
    match args with
    | [number1, number0] => some (.readTruck (word16 number1 number0))
    | _ => none
  | 32 =>
    match args with
    | [] => some .resume
    | _ => none
  | 33 =>
    match args with
    | [refuge, zone, capacity] => some (.setRefuge refuge zone capacity)
    | _ => none
  | 34 =>
    match args with
    | [zones3, zones2, zones1, zones0] => some (.evacuate (word32 zones3 zones2 zones1 zones0))
    | _ => none
  | 35 =>
    match args with
    | [zones3, zones2, zones1, zones0] => some (.lift (word32 zones3 zones2 zones1 zones0))
    | _ => none
  | 36 =>
    match args with
    | [refuge] => some (.readRefuge refuge)
    | _ => none
  | 37 =>
    match args with
    | [slot, gen] => some (.answer slot gen)
    | _ => none
  | 38 =>
    match args with
    | [slot, gen] => some (.endCall slot gen)
    | _ => none
  | 39 =>
    match args with
    | [slot, gen] => some (.page slot gen)
    | _ => none
  | 40 =>
    match args with
    | [slot, gen] => some (.cancelPage slot gen)
    | _ => none
  | 41 =>
    match args with
    | [quiet, missing, outHold, portal, mode, exposure1, exposure0, lapse, close, silence, escort, refugeSilence,
      routineWait, emergencyWait] => some (.setDistrict quiet missing outHold portal mode (word16 exposure1 exposure0) lapse
      close silence escort refugeSilence routineWait emergencyWait)
    | _ => none
  | 42 =>
    match args with
    | [] => some .start
    | _ => none
  | 43 =>
    match args with
    | [] => some .resetPart
    | _ => none
  | 44 =>
    match args with
    | [] => some .status
    | _ => none
  | 45 =>
    match args with
    | [table, index] => some (.setCursor table index)
    | _ => none
  | 46 =>
    match args with
    | [] => some .readNext
    | _ => none
  | 47 =>
    match args with
    | [notices] => some (.clearNotice notices)
    | _ => none
  | 48 =>
    match args with
    | [notices] => some (.setNoticeMask notices)
    | _ => none
  | 49 =>
    match args with
    | [] => some .readNotice
    | _ => none
  | _ => none

/-- The code and the argument bytes with which the host writes a request; none for a command that is no request (R186). -/
def encodeRequest (i : Instr) : Option (Byte × List Byte) :=
  match i with
  | .powerOn => none
  | .resetLine => none
  | .resetRelease => none
  | .hostPortWrite _ _ => none
  | .replyRead => none
  | .statusByteRead => none
  | .unknownRequestCode _ => none
  | .setFrame total tagEnd haulStart haulEnd callStart callEnd sync => some (1, bytes16 total ++ bytes16 tagEnd ++
      bytes16 haulStart ++ bytes16 haulEnd ++ bytes16 callStart ++ bytes16 callEnd ++ [sync])
  | .setWindows tagEnd haulStart haulEnd callStart callEnd => some (2, bytes16 tagEnd ++ bytes16 haulStart ++
      bytes16 haulEnd ++ bytes16 callStart ++ bytes16 callEnd)
  | .setMark slot => some (3, bytes16 slot)
  | .setCadence bit edge => some (4, [bit, edge])
  | .readFrame => some (5, [])
  | .setZone zone kind limit level refuge line => some (6, [zone, kind, limit, level, refuge, line])
  | .setVehicleLimit zone limit => some (7, [zone, limit])
  | .readZone zone => some (8, [zone])
  | .nextItem => some (9, [])
  | .ackItem kind subject => some (10, [kind] ++ bytes24 subject)
  | .enrol tag role escortSlot escortGen => some (11, bytes24 tag ++ [role, escortSlot, escortGen])
  | .retire slot gen => some (12, [slot, gen])
  | .setEscort slot gen escortSlot escortGen => some (13, [slot, gen, escortSlot, escortGen])
  | .findTag tag => some (14, bytes24 tag)
  | .readPerson slot gen => some (15, [slot, gen])
  | .setWalk walkStep interval => some (16, [walkStep, interval])
  | .clearExposure slot gen => some (17, [slot, gen])
  | .setChannel channel gas zone caution danger trip persistence hysteresis enabled => some (18, [channel, gas,
      zone, caution, danger, trip, persistence, hysteresis, enabled])
  | .setLevels channel caution danger => some (19, [channel, caution, danger])
  | .channelOn channel => some (20, [channel])
  | .channelOff channel => some (21, [channel])
  | .airControl mode groups => some (22, [mode, groups])
  | .testChannel channel forced sweeps => some (23, [channel, forced, sweeps])
  | .cancelTest channel => some (24, [channel])
  | .resetTrip channel => some (25, [channel])
  | .readChannel channel => some (26, [channel])
  | .registerTruck number kind => some (27, bytes16 number ++ [kind])
  | .retireTruck number => some (28, bytes16 number)
  | .forceOrder number order => some (29, bytes16 number ++ [order])
  | .releaseOrder number => some (30, bytes16 number)
  | .readTruck number => some (31, bytes16 number)
  | .resume => some (32, [])
  | .setRefuge refuge zone capacity => some (33, [refuge, zone, capacity])
  | .evacuate zones => some (34, bytes32 zones)
  | .lift zones => some (35, bytes32 zones)
  | .readRefuge refuge => some (36, [refuge])
  | .answer slot gen => some (37, [slot, gen])
  | .endCall slot gen => some (38, [slot, gen])
  | .page slot gen => some (39, [slot, gen])
  | .cancelPage slot gen => some (40, [slot, gen])
  | .setDistrict quiet missing outHold portal mode exposure lapse close silence escort refugeSilence routineWait
      emergencyWait => some (41, [quiet, missing, outHold, portal, mode] ++ bytes16 exposure ++ [lapse, close, silence,
      escort, refugeSilence, routineWait, emergencyWait])
  | .start => some (42, [])
  | .resetPart => some (43, [])
  | .status => some (44, [])
  | .setCursor table index => some (45, [table, index])
  | .readNext => some (46, [])
  | .clearNotice notices => some (47, [notices])
  | .setNoticeMask notices => some (48, [notices])
  | .readNotice => some (49, [])
  | .slotStrobe => none
  | .framePulse => none
  | .agingWalk => none
  | .agingStateChange _ => none
  | .escortLimitJudgement => none
  | .exposureCount => none
  | .exposureLimitReached _ => none
  | .panelSilence => none
  | .alertRoundStart => none
  | .callWaitJudgement => none
  | .pollFlagRenewal => none
  | .silenceCount => none
  | .enterAlone => none
  | .vehicleLimitApply => none
  | .usableChannelCount => none
  | .sweepStart => none
  | .conversionCompletion _ _ => none
  | .warmupEnd _ => none
  | .faultClear _ => none
  | .runStateChange _ => none
  | .testExpiry _ => none
  | .fieldArrival _ => none
  | .messageTaking => none
  | .poll => none
  | .linkLapse _ => none
  | .channelHold => none
  | .holdingSlotCheck => none
  | .fetch => none

/-- The bytes of the inbound field message that a delivery brings, up to the message's last byte: none where the delivery
ended before the length its kind requires or its first byte names no inbound kind (R168, R190). -/
def completeMessage (bytes : List Byte) : Option (List Byte) :=
  let upTo (n : Nat) : Option (List Byte) := if n + 1 ≤ bytes.length then some (bytes.take (n + 1)) else none
  match bytes with
  | [] => none
  | kind :: rest =>
    match kind.toNat with
    | 1 => upTo 7
    | 2 =>
      match rest[4]? with
      | some n => upTo (5 + 4 * n.toNat)
      | none => none
    | 3 =>
      match rest[3]?, rest[4]? with
      | some i, some o => upTo (5 + 3 * i.toNat + 3 * o.toNat)
      | _, _ => none
    | _ => none

/-- The command that a word of the opcode table's bits spells: the table gives no row any bits, so none. -/
def decodeTableWord (_nbits _w : Nat) : Option Instr := none

end Sys2Proof
end

