-- ==== Sys2Proof/Machine/State.lean ====
section
/-! DEFINITION. The state of the SD2416 as plain data, block by block, and its value after part reset. -/

namespace Sys2Proof.Machine

/-! ## Names of states, modes and kinds -/

/-- The timer state (R1). -/
inductive TimerState where
  | stopped | armed | counting
  deriving DecidableEq, Repr

/-- The sync mode (R1). -/
inductive SyncMode where
  | free | pulsed
  deriving DecidableEq, Repr

/-- How the current frame began (R1). -/
inductive BeginKind where
  | start | count | pulse
  deriving DecidableEq, Repr

/-- The lock state; `noLock` is NONE (R1, R6). -/
inductive LockState where
  | noLock | locked | seeking | lost
  deriving DecidableEq, Repr

/-- The class of a slot (R8). -/
inductive SlotClass where
  | beacon | tag | haul | voice | guard
  deriving DecidableEq, Repr

/-- The cadence edge (R1, R13). -/
inductive CadenceEdge where
  | rising | falling | both
  deriving DecidableEq, Repr

/-- The kind of a zone (R17). -/
inductive ZoneKind where
  | working | travel | portal | refuge
  deriving DecidableEq, Repr

/-- A zone's air state (R17). -/
inductive AirState where
  | clear | caution | danger | trip | unknown
  deriving DecidableEq, Repr

/-- A zone's evacuation state; `notOrdered` is NONE (R17). -/
inductive EvacState where
  | notOrdered | ordered
  deriving DecidableEq, Repr

/-- A person's role (R54). -/
inductive Role where
  | crew | official | visitor
  deriving DecidableEq, Repr

/-- A person record's state (R54). -/
inductive PersonState where
  | enrolled | present | quiet | missing | mustered | out
  deriving DecidableEq, Repr

/-- A person record's alert; `noAlert` is NONE (R54). -/
inductive Alert where
  | noAlert | sent | acked
  deriving DecidableEq, Repr

/-- A call's precedence; `noCall` is NONE (R156). -/
inductive Precedence where
  | noCall | routine | urgent | emergency
  deriving DecidableEq, Repr

/-- A call's state; `noCall` is NONE (R156). -/
inductive CallState where
  | noCall | waiting | connected
  deriving DecidableEq, Repr

/-- The key a tag report carries; `noKey` is NONE (R64). -/
inductive Key where
  | noKey | call | urgent | emergency | ack | cancel
  deriving DecidableEq, Repr

/-- The sixteen kinds of attention item, in rank order (R36). -/
inductive ItemKind where
  | zoneTrip | manDown | emergencyCall | zoneDanger | refugeFault | missing | intrusion | linkLost
  | urgentCall | channelFault | escortLost | exposure | zoneCaution | routineCall | pageAnswered | stranger
  deriving DecidableEq, Repr

/-- The sorts of item (R36). -/
inductive ItemSort where
  | condition | call | report
  deriving DecidableEq, Repr

/-- What the dispatcher has made of an item (R35). -/
inductive ItemState where
  | new | seen | acked
  deriving DecidableEq, Repr

/-- Whether the matter behind an item still holds (R35). -/
inductive ItemCondition where
  | active | ended
  deriving DecidableEq, Repr

/-- The sequencer's mode (R90). -/
inductive SequencerMode where
  | idle | scan | once | paused
  deriving DecidableEq, Repr

/-- A channel's gas kind (R97). -/
inductive Gas where
  | methane | carbonMonoxide | oxygen | airflow
  deriving DecidableEq, Repr

/-- A channel's state (R97). -/
inductive ChannelState where
  | off | warmup | normal | caution | danger | trip | fault
  deriving DecidableEq, Repr

/-- A channel's run (R97). -/
inductive Run where
  | noRun
  | rise (target : ChannelState)
  | fall
  deriving DecidableEq, Repr

/-- The sweep in flight (R90). -/
inductive Sweep where
  | noSweep
  | group (g : Fin 8)
  | confirm (c : Fin 32)
  deriving DecidableEq, Repr

/-- A truck's kind (R115). -/
inductive TruckKind where
  | diesel | battery
  deriving DecidableEq, Repr

/-- What the haul link knows of a truck's radio (R115). -/
inductive TruckState where
  | registered | linked | lapsed
  deriving DecidableEq, Repr

/-- The status of a truck's entry (R115). -/
inductive EntryStatus where
  | deferred | granted
  deriving DecidableEq, Repr

/-- A truck order (R115). -/
inductive Order where
  | go | slow | hold
  deriving DecidableEq, Repr

/-- A refuge's door (R147). -/
inductive Door where
  | closed | opened | fault
  deriving DecidableEq, Repr

/-- A refuge's supply (R147). -/
inductive Supply where
  | ok | low | fail
  deriving DecidableEq, Repr

/-- A refuge's panel (R147). -/
inductive Panel where
  | reporting | silent
  deriving DecidableEq, Repr

/-- The phase of the part (R175). -/
inductive Phase where
  | setup | running
  deriving DecidableEq, Repr

/-- The exposure mode (R75). -/
inductive ExposureMode where
  | time | entries
  deriving DecidableEq, Repr

/-- The tables that the list cursor can name (R175). -/
inductive ListTable where
  | roster | trucks | zones | channels | refuges | queue
  deriving DecidableEq, Repr

/-- The seven notices (R175). -/
inductive Notice where
  | attention | mark | lock | alone | tripLine | fieldOverrun | txLate
  deriving DecidableEq, Repr

/-- The status code of a reply (R188). -/
inductive ReplyStatus where
  | done | badCode | badArgument | wrongPhase | noRecord | stale | noRoom | refused | noChannel | badSetup | resetDone
  deriving DecidableEq, Repr

/-! ## Frame timer -/

/-- The five window bounds (R1). -/
structure Windows where
  tagEnd : Nat
  haulStart : Nat
  haulEnd : Nat
  callStart : Nat
  callEnd : Nat
  deriving DecidableEq, Repr

/-- The frame timer (R1). -/
structure FrameTimer where
  timer : TimerState
  slot : Nat
  frame : Frame
  total : Nat
  sync : SyncMode
  active : Windows
  pendingWindows : Option Windows
  beginKind : BeginKind
  pulseSeen : Bool
  restartPending : Bool
  lock : LockState
  countRun : Nat
  markSlot : Option Nat
  cadenceBit : Nat
  cadenceEdge : CadenceEdge
  deriving DecidableEq, Repr

/-! ## Zone table -/

/-- A set of evacuation causes (R17). -/
structure Causes where
  air : Bool
  line : Bool
  host : Bool
  deriving DecidableEq, Repr

/-- A zone record (R17). Its three due marks stand in the attention queue's list of marks. -/
structure Zone where
  configured : Bool
  kind : ZoneKind
  monitored : Bool
  reported : AirState
  real : AirState
  persons : Nat
  /-- The truck numbers of the grant set, ascending. -/
  grants : List Nat
  limit : Nat
  pendingLimit : Option Nat
  autoLevel : AirState
  refuge : Option (Fin 8)
  tripLine : Option (Fin 8)
  evac : EvacState
  causes : Causes
  orderedStamp : Option Frame
  deriving DecidableEq, Repr

/-- The zone table: the zone records and the trip lines it drives (R17, R25). -/
structure ZoneTable where
  zones : Vector Zone 32
  lines : Vector Bool 8
  deriving DecidableEq, Repr

/-! ## Attention queue -/

/-- A set of fault reasons of a refuge (R147). -/
structure FaultReasons where
  doorBreach : Bool
  doorFault : Bool
  supply : Bool
  silent : Bool
  overCapacity : Bool
  deriving DecidableEq, Repr

/-- The record an item is about (R35). -/
inductive Subject where
  | zone (z : Fin 32)
  | person (slot : Fin 240) (gen : Gen)
  | truck (number : Nat)
  | refuge (r : Fin 8)
  | channel (c : Fin 32)
  | tag (t : Tag)
  deriving DecidableEq, Repr

/-- An item's detail (R35). -/
inductive Detail where
  | absent
  | faults (reasons : FaultReasons)
  | call (repeats : Nat) (overdue : Bool)
  deriving DecidableEq, Repr

/-- An attention item (R35). -/
structure Item where
  kind : ItemKind
  subject : Subject
  raised : Frame
  insertion : BitVec 16
  state : ItemState
  condition : ItemCondition
  test : Bool
  detail : Detail
  deriving DecidableEq, Repr

/-- A set due mark: the kind, the subject record that bears it, and the stamp it holds (R41). -/
structure DueMark where
  kind : ItemKind
  subject : Subject
  stamp : Frame
  deriving DecidableEq, Repr

/-- The attention queue (R35), with the due marks that it alone writes (R41), in rank and then subject order. -/
structure AttentionQueue where
  items : List Item
  counter : BitVec 16
  due : List DueMark
  deriving DecidableEq, Repr

/-! ## Roster -/

/-- A person's handle: a roster slot and a generation (R52). -/
structure Handle where
  slot : Fin 240
  gen : Gen
  deriving DecidableEq, Repr

/-- A person record (R54). Its eight due marks stand in the attention queue's list of marks. -/
structure Person where
  tag : Tag
  role : Role
  escort : Option Handle
  state : PersonState
  zone : Option (Fin 32)
  refuge : Option (Fin 8)
  heard : Option Frame
  level : Nat
  heardSinceVisit : Bool
  misses : Nat
  exposure : Nat
  exposureFull : Bool
  alert : Alert
  page : Bool
  precedence : Precedence
  callState : CallState
  callStamp : Option Frame
  repeats : Nat
  overdue : Bool
  callChannel : Option (Fin 4)
  lastKey : Option (BitVec 2)
  separation : Option Frame
  escortLost : Bool
  deriving DecidableEq, Repr

/-- A roster slot: its generation, and the record it holds where it is not free (R52). -/
structure Slot where
  gen : Gen
  person : Option Person
  deriving DecidableEq, Repr

/-- The roster, with the walker and the settings of aging and exposure (R52, R75). -/
structure Roster where
  slots : Vector Slot 240
  portalEnrolment : Bool
  escortLimit : Nat
  walkPos : Fin 240
  walkStep : Nat
  walkInterval : Nat
  pendingWalk : Option (Nat × Nat)
  quietLimit : Nat
  missingLimit : Nat
  outHold : Nat
  exposureMode : ExposureMode
  exposureLimit : Nat
  deriving DecidableEq, Repr

/-! ## Air sequencer -/

/-- A channel's test: the forced state and the sweeps remaining (R97). -/
structure ChannelTest where
  forced : ChannelState
  remaining : Nat
  deriving DecidableEq, Repr

/-- A pair of caution and danger levels (R97). -/
structure Levels where
  caution : Nat
  danger : Nat
  deriving DecidableEq, Repr

/-- A channel record (R97). Its due mark stands in the attention queue's list of marks. -/
structure Channel where
  gas : Gas
  zone : Option (Fin 32)
  enabled : Bool
  levels : Levels
  pendingLevels : Option Levels
  tripLevel : Option Nat
  persistence : Nat
  hysteresis : Nat
  reading : Option Nat
  real : ChannelState
  faultFlag : Bool
  goodCount : Nat
  warmupCount : Nat
  run : Run
  runCount : Nat
  confirmPending : Bool
  test : Option ChannelTest
  deriving DecidableEq, Repr

/-- The air sequencer (R90), the select lines it drives (R89) and the channel records (R97). -/
structure AirSequencer where
  mode : SequencerMode
  enableSet : BitVec 8
  lastGroup : Fin 8
  resume : Option (Fin 8)
  onceSet : BitVec 8
  confirmList : List (Fin 32)
  sweep : Sweep
  buffer : Vector (Option Byte) 4
  turnsDone : Nat
  /-- Whether the channel of the turn under way was enabled when the turn began, and has not been turned off since (R93, R96;
  log 15). -/
  turnLive : Bool
  select : Fin 4
  channels : Vector Channel 32
  deriving DecidableEq, Repr

/-! ## Haul link -/

/-- A truck's entry (R115). -/
structure Entry where
  zone : Fin 32
  status : EntryStatus
  deriving DecidableEq, Repr

/-- A proximity entry of a truck report (R115). -/
structure Proximity where
  tag : Tag
  level : Nat
  deriving DecidableEq, Repr

/-- A frame number and a slot count (R7). -/
structure SlotStamp where
  frame : Frame
  slot : Nat
  deriving DecidableEq, Repr

/-- A truck record (R115). Its two due marks stand in the attention queue's list of marks. -/
structure Truck where
  number : Nat
  kind : TruckKind
  state : TruckState
  zone : Option (Fin 32)
  held : Option (Fin 32)
  entry : Option Entry
  proximity : List Proximity
  intrusion : Bool
  forced : Option Order
  lastOrder : Option Order
  lastPoll : Option SlotStamp
  answered : Bool
  missed : Nat
  polled : Bool
  deriving DecidableEq, Repr

/-- The haul link (R114). The poll list and the cursor name the records by truck number. -/
structure HaulLink where
  trucks : Vector (Option Truck) 24
  pollList : List Nat
  cursor : Option Nat
  lapseLimit : Nat
  closeLevel : Nat
  silenceLimit : Nat
  silenceCount : Nat
  alone : Bool
  deriving DecidableEq, Repr

/-! ## Refuge and evacuation unit -/

/-- A refuge record (R147). Its due mark stands in the attention queue's list of marks. -/
structure Refuge where
  configured : Bool
  zone : Option (Fin 32)
  capacity : Nat
  occupancy : Nat
  door : Door
  supply : Supply
  panel : Panel
  lastReport : Frame
  reasons : FaultReasons
  deriving DecidableEq, Repr

/-- The refuge and evacuation unit (R137). -/
structure RefugeUnit where
  refuges : Vector Refuge 8
  silenceLimit : Nat
  roundOn : Bool
  roundStart : Option Frame
  roundCursor : Nat
  deriving DecidableEq, Repr

/-! ## Call unit -/

/-- The call unit (R155). A channel record is FREE (none) or HELD by a handle. -/
structure CallUnit where
  channels : Vector (Option Handle) 4
  usable : Nat
  routineLimit : Nat
  emergencyLimit : Nat
  deriving DecidableEq, Repr

/-! ## Field link -/

/-- An entry of the field receive queue: a message's bytes and its reception stamp (R167). -/
structure Received where
  message : List Byte
  frame : Frame
  slot : Nat
  slotClass : SlotClass
  deriving DecidableEq, Repr

/-- The beacon's fields (R15). -/
structure Beacon where
  frame : Frame
  lock : LockState
  alone : Bool
  evacuation : List (Fin 32 × Option (Fin 8))
  alerts : List Tag
  pages : List Tag
  deriving DecidableEq, Repr

/-- An outbound message (chapter 10, section 10.4). -/
inductive Outbound where
  | beacon (b : Beacon)
  | truckPoll (number : Nat) (order : Order) (grantedZone : Option (Fin 32)) (intrusion : Bool)
  | channelHold (channel : Fin 4) (tag : Tag)
  deriving DecidableEq, Repr

/-- A message of the holding slot with its production stamp (R167). -/
structure Held where
  message : Outbound
  stamp : SlotStamp
  deriving DecidableEq, Repr

/-- The field link (R167). -/
structure FieldLink where
  queue : List Received
  holding : Option Held
  inHand : Option Received
  deriving DecidableEq, Repr

/-! ## Host port -/

/-- The request buffer (R175). -/
inductive RequestBuffer where
  | empty
  | incomplete (code : Byte) (args : List Byte)
  | complete (code : Byte) (args : List Byte)
  deriving DecidableEq, Repr

/-- A set of notices (R175). -/
structure NoticeSet where
  attention : Bool
  mark : Bool
  lock : Bool
  alone : Bool
  tripLine : Bool
  fieldOverrun : Bool
  txLate : Bool
  deriving DecidableEq, Repr

/-- The host port (R175). The reply buffer is empty where `reply` holds no byte. -/
structure HostPort where
  request : RequestBuffer
  reply : List Byte
  readPos : Nat
  overrun : Bool
  phase : Phase
  flags : NoticeSet
  mask : NoticeSet
  cursorTable : ListTable
  cursorIndex : Nat
  deriving DecidableEq, Repr

/-! ## Events handed to the blocks -/

/-- The events that the last slot strobe handed to the blocks and that they have not yet taken (R5, R8): `true` while the
event waits. -/
structure Handed where
  /-- RST: the walk of a frame start (R76). -/
  walk : Bool
  /-- RST: the escort judgement (R70). -/
  escort : Bool
  /-- RST: the exposure count (R85). -/
  exposure : Bool
  /-- REV: the judgement of panel silence (R152). -/
  panel : Bool
  /-- REV: a cadence event (R144). -/
  round : Bool
  /-- CAL: the judgement of call waits (R159). -/
  callWait : Bool
  /-- CAL: a new usable channel count (R162). -/
  usable : Bool
  /-- HLK: the renewal of the polled flags (R118). -/
  pollFlags : Bool
  /-- HLK: the silence count (R133). -/
  silence : Bool
  /-- ZNT: the pending vehicle limits (R31). -/
  limits : Bool
  /-- AIR: a slot start (R92). -/
  sweep : Bool
  /-- HLK: a HAUL slot start (R118). -/
  poll : Bool
  /-- CAL: a VOICE slot start (R161). -/
  hold : Bool
  /-- FLK: a slot start (R173). -/
  check : Bool
  deriving DecidableEq, Repr

/-! ## The whole state -/

/-- The state of the part, its pins, and the queue of commands. -/
structure State where
  frt : FrameTimer
  znt : ZoneTable
  atq : AttentionQueue
  rst : Roster
  air : AirSequencer
  hlk : HaulLink
  rev : RefugeUnit
  cal : CallUnit
  flk : FieldLink
  hpt : HostPort
  handed : Handed
  /-- The reset line is held low (R181). -/
  resetLow : Bool
  /-- The byte that the last read drove on D0 to D7; none where no read has been taken since part reset (log 18). -/
  hostOut : Option Byte
  /-- The bytes that the last fetch was given; none where no fetch has been taken since part reset. -/
  fieldOut : List Byte
  /-- The commands that wait, first in, first out: the model's own. -/
  pending : List Instr
  deriving DecidableEq, Repr

/-- Why a step stops with a fault: the manual names no event that stops the part, so there is no reason and no command
faults (safe: there is nothing to leave out). -/
inductive Fault where
  deriving DecidableEq, Repr

/-- Why a step has no meaning. -/
inductive Refusal where
  /-- Raised only by an arm of exec whose command has no meaning yet; no arm raises it now (safe: it claims nothing). -/
  | notModelled (mnemonic : String)
  deriving DecidableEq, Repr

/-! ## Reset values -/

/-- The windows after part reset (R1). -/
def Windows.reset : Windows := { tagEnd := 160, haulStart := 160, haulEnd := 184, callStart := 184, callEnd := 188 }

/-- The frame timer after part reset (R1). -/
def FrameTimer.reset : FrameTimer :=
  { timer := .stopped, slot := 0, frame := 0, total := 256, sync := .free, active := Windows.reset, pendingWindows := none,
    beginKind := .start, pulseSeen := false, restartPending := false, lock := .noLock, countRun := 0, markSlot := none,
    cadenceBit := 2, cadenceEdge := .rising }

/-- No evacuation cause. -/
def Causes.none : Causes := { air := false, line := false, host := false }

/-- A zone record after part reset (R17). -/
def Zone.reset : Zone :=
  { configured := false, kind := .travel, monitored := false, reported := .clear, real := .clear, persons := 0, grants := [],
    limit := 2, pendingLimit := none, autoLevel := .trip, refuge := none, tripLine := none, evac := .notOrdered,
    causes := Causes.none, orderedStamp := none }

/-- The zone table after part reset (R17, R25). -/
def ZoneTable.reset : ZoneTable := { zones := Vector.replicate 32 Zone.reset, lines := Vector.replicate 8 false }

/-- The attention queue after part reset (R35). -/
def AttentionQueue.reset : AttentionQueue := { items := [], counter := 0, due := [] }

/-- The roster after part reset (R52, R75). -/
def Roster.reset : Roster :=
  { slots := Vector.replicate 240 { gen := 0, person := none }, portalEnrolment := false, escortLimit := 20, walkPos := 0,
    walkStep := 8, walkInterval := 4, pendingWalk := none, quietLimit := 3, missingLimit := 6, outHold := 8,
    exposureMode := .time, exposureLimit := 3600 }

/-- A channel record after part reset (R97). -/
def Channel.reset : Channel :=
  { gas := .methane, zone := none, enabled := false, levels := { caution := 64, danger := 96 }, pendingLevels := none,
    tripLevel := some 128, persistence := 2, hysteresis := 4, reading := none, real := .off, faultFlag := false,
    goodCount := 0, warmupCount := 0, run := .noRun, runCount := 0, confirmPending := false, test := none }

/-- The air sequencer after part reset (R89, R90). -/
def AirSequencer.reset : AirSequencer :=
  { mode := .idle, enableSet := 0xff, lastGroup := 7, resume := none, onceSet := 0, confirmList := [], sweep := .noSweep,
    buffer := Vector.replicate 4 none, turnsDone := 0, turnLive := false, select := 0,
    channels := Vector.replicate 32 Channel.reset }

/-- The haul link after part reset (R114). -/
def HaulLink.reset : HaulLink :=
  { trucks := Vector.replicate 24 none, pollList := [], cursor := none, lapseLimit := 3, closeLevel := 8, silenceLimit := 0,
    silenceCount := 0, alone := false }

/-- No fault reason. -/
def FaultReasons.none : FaultReasons :=
  { doorBreach := false, doorFault := false, supply := false, silent := false, overCapacity := false }

/-- A refuge record after part reset (R147). -/
def Refuge.reset : Refuge :=
  { configured := false, zone := none, capacity := 16, occupancy := 0, door := .closed, supply := .ok, panel := .reporting,
    lastReport := 0, reasons := FaultReasons.none }

/-- The refuge and evacuation unit after part reset (R137). -/
def RefugeUnit.reset : RefugeUnit :=
  { refuges := Vector.replicate 8 Refuge.reset, silenceLimit := 10, roundOn := false, roundStart := none, roundCursor := 0 }

/-- The call unit after part reset (R155). -/
def CallUnit.reset : CallUnit :=
  { channels := Vector.replicate 4 none, usable := 4, routineLimit := 30, emergencyLimit := 10 }

/-- The field link after part reset (R167). -/
def FieldLink.reset : FieldLink := { queue := [], holding := none, inHand := none }

/-- No notice. -/
def NoticeSet.none : NoticeSet :=
  { attention := false, mark := false, lock := false, alone := false, tripLine := false, fieldOverrun := false,
    txLate := false }

/-- The host port after part reset: the reply buffer holds the one byte RESET_DONE, 10 (R175, R188). -/
def HostPort.reset : HostPort :=
  { request := .empty, reply := [10], readPos := 0, overrun := false, phase := .setup, flags := NoticeSet.none,
    mask := NoticeSet.none, cursorTable := .roster, cursorIndex := 0 }

/-- No event waits. -/
def Handed.none : Handed :=
  { walk := false, escort := false, exposure := false, panel := false, round := false, callWait := false, usable := false,
    pollFlags := false, silence := false, limits := false, sweep := false, poll := false, hold := false, check := false }

/-- The part right after reset with the reset line released (R181), no command waiting. -/
def State.reset : State :=
  { frt := FrameTimer.reset, znt := ZoneTable.reset, atq := AttentionQueue.reset, rst := Roster.reset,
    air := AirSequencer.reset, hlk := HaulLink.reset, rev := RefugeUnit.reset, cal := CallUnit.reset,
    flk := FieldLink.reset, hpt := HostPort.reset, handed := Handed.none, resetLow := false, hostOut := none,
    fieldOut := [], pending := [] }

end Sys2Proof.Machine
end

