-- ==== Sys2Proof/Machine/Flags.lean ====
section
/-! DEFINITION. Sets of flags as their bytes (R185), the notice flags and the notice line (R182), the status byte (R187) and
the FRDY line (R167). -/

namespace Sys2Proof.Machine

/-- A byte with the given bits, bit 0 first. -/
def byteOfBits (b0 b1 b2 b3 b4 b5 b6 b7 : Bool) : Byte :=
  BitVec.ofNat 8 (b0.toNat + 2 * b1.toNat + 4 * b2.toNat + 8 * b3.toNat + 16 * b4.toNat + 32 * b5.toNat + 64 * b6.toNat
    + 128 * b7.toNat)

/-- A yes/no field: 1 for yes, 0 for no (R185). -/
def yesNo (b : Bool) : Byte := if b then 1 else 0

/-- A notice set as its byte: bit n for the n-th notice of R175 (R185). -/
def NoticeSet.toByte (n : NoticeSet) : Byte :=
  byteOfBits n.attention n.mark n.lock n.alone n.tripLine n.fieldOverrun n.txLate false

/-- The notice set that a byte names; none where it has a bit for no member (R185). -/
def NoticeSet.ofByte? (b : Byte) : Option NoticeSet :=
  if b.getLsbD 7 then none
  else some { attention := b.getLsbD 0, mark := b.getLsbD 1, lock := b.getLsbD 2, alone := b.getLsbD 3,
              tripLine := b.getLsbD 4, fieldOverrun := b.getLsbD 5, txLate := b.getLsbD 6 }

/-- A notice set with one notice more; a notice already in it stays (R182). -/
def NoticeSet.insert (n : Notice) (flags : NoticeSet) : NoticeSet :=
  match n with
  | .attention => { flags with attention := true }
  | .mark => { flags with mark := true }
  | .lock => { flags with lock := true }
  | .alone => { flags with alone := true }
  | .tripLine => { flags with tripLine := true }
  | .fieldOverrun => { flags with fieldOverrun := true }
  | .txLate => { flags with txLate := true }

/-- A notice set without the notices of another (CLEAR_NOTICE, R182). -/
def NoticeSet.without (flags named : NoticeSet) : NoticeSet :=
  { attention := flags.attention && !named.attention, mark := flags.mark && !named.mark, lock := flags.lock && !named.lock,
    alone := flags.alone && !named.alone, tripLine := flags.tripLine && !named.tripLine,
    fieldOverrun := flags.fieldOverrun && !named.fieldOverrun, txLate := flags.txLate && !named.txLate }

/-- A notice set holds no notice. -/
def NoticeSet.isEmpty (n : NoticeSet) : Bool :=
  !(n.attention || n.mark || n.lock || n.alone || n.tripLine || n.fieldOverrun || n.txLate)

/-- The notice line NOTICE: high while some flag is set and not masked (R182). -/
def noticeLine (s : State) : Bool := !(s.hpt.flags.without s.hpt.mask).isEmpty

/-- The FRDY line: high while the holding slot holds a message (R167). -/
def frdyLine (s : State) : Bool := s.flk.holding.isSome

/-- A notice flag set at the host port, masked or not (R182). -/
def State.notify (n : Notice) (s : State) : State :=
  { s with hpt := { s.hpt with flags := s.hpt.flags.insert n } }

/-- A COMPLETE request waits in the request buffer (R187). -/
def RequestBuffer.isComplete (b : RequestBuffer) : Bool :=
  match b with
  | .complete _ _ => true
  | .incomplete _ _ => false
  | .empty => false

/-- The status byte (R187). -/
def statusByte (s : State) : Byte :=
  byteOfBits s.hpt.request.isComplete (!s.hpt.reply.isEmpty) (s.hpt.phase == .running) s.hlk.alone s.hpt.overrun
    (noticeLine s) false false

/-- A set of evacuation causes as its byte (R185). -/
def Causes.toByte (c : Causes) : Byte := byteOfBits c.air c.line c.host false false false false false

/-- A set of fault reasons as its byte (R185). -/
def FaultReasons.toByte (r : FaultReasons) : Byte :=
  byteOfBits r.doorBreach r.doorFault r.supply r.silent r.overCapacity false false false

/-- A set of fault reasons holds none. -/
def FaultReasons.isEmpty (r : FaultReasons) : Bool :=
  !(r.doorBreach || r.doorFault || r.supply || r.silent || r.overCapacity)

/-- Every reason of the first set is in the second. -/
def FaultReasons.isSubset (r t : FaultReasons) : Bool :=
  (!r.doorBreach || t.doorBreach) && (!r.doorFault || t.doorFault) && (!r.supply || t.supply) && (!r.silent || t.silent)
    && (!r.overCapacity || t.overCapacity)

end Sys2Proof.Machine
end

