-- ==== Sys2Proof/Machine/Operands.lean ====
section
/-! DEFINITION. Operands: every enumerated value as its byte and back (R185), numbers, keys, handles and optional values as the
layouts send them. -/

namespace Sys2Proof.Machine

/-! ## Enumerated values: the place in the manual's list, from 0 (R185) -/

/-- The byte of a value (R1). -/
def TimerState.code (x : TimerState) : Byte :=
  match x with
  | .stopped => 0 | .armed => 1 | .counting => 2

/-- The byte of a value (R185). -/
def SyncMode.code (x : SyncMode) : Byte :=
  match x with
  | .free => 0 | .pulsed => 1

/-- The value of a byte, none past the last value (R185). -/
def SyncMode.ofByte? (b : Byte) : Option SyncMode :=
  match b.toNat with
  | 0 => some .free | 1 => some .pulsed
  | _ => none

/-- The byte of a value (R1). -/
def BeginKind.code (x : BeginKind) : Byte :=
  match x with
  | .start => 0 | .count => 1 | .pulse => 2

/-- The byte of a value (R1). -/
def LockState.code (x : LockState) : Byte :=
  match x with
  | .noLock => 0 | .locked => 1 | .seeking => 2 | .lost => 3

/-- The byte of a value (R8). -/
def SlotClass.code (x : SlotClass) : Byte :=
  match x with
  | .beacon => 0 | .tag => 1 | .haul => 2 | .voice => 3 | .guard => 4

/-- The byte of a value (R185). -/
def CadenceEdge.code (x : CadenceEdge) : Byte :=
  match x with
  | .rising => 0 | .falling => 1 | .both => 2

/-- The value of a byte, none past the last value (R185). -/
def CadenceEdge.ofByte? (b : Byte) : Option CadenceEdge :=
  match b.toNat with
  | 0 => some .rising | 1 => some .falling | 2 => some .both
  | _ => none

/-- The byte of a value (R185). -/
def ZoneKind.code (x : ZoneKind) : Byte :=
  match x with
  | .working => 0 | .travel => 1 | .portal => 2 | .refuge => 3

/-- The value of a byte, none past the last value (R185). -/
def ZoneKind.ofByte? (b : Byte) : Option ZoneKind :=
  match b.toNat with
  | 0 => some .working | 1 => some .travel | 2 => some .portal | 3 => some .refuge
  | _ => none

/-- The byte of a value (R185). -/
def AirState.code (x : AirState) : Byte :=
  match x with
  | .clear => 0 | .caution => 1 | .danger => 2 | .trip => 3 | .unknown => 4

/-- The value of a byte, none past the last value (R185). -/
def AirState.ofByte? (b : Byte) : Option AirState :=
  match b.toNat with
  | 0 => some .clear | 1 => some .caution | 2 => some .danger | 3 => some .trip | 4 => some .unknown
  | _ => none

/-- The byte of a value (R17). -/
def EvacState.code (x : EvacState) : Byte :=
  match x with
  | .notOrdered => 0 | .ordered => 1

/-- The byte of a value (R185). -/
def Role.code (x : Role) : Byte :=
  match x with
  | .crew => 0 | .official => 1 | .visitor => 2

/-- The value of a byte, none past the last value (R185). -/
def Role.ofByte? (b : Byte) : Option Role :=
  match b.toNat with
  | 0 => some .crew | 1 => some .official | 2 => some .visitor
  | _ => none

/-- The byte of a value (R54). -/
def PersonState.code (x : PersonState) : Byte :=
  match x with
  | .enrolled => 0 | .present => 1 | .quiet => 2 | .missing => 3 | .mustered => 4 | .out => 5

/-- The byte of a value (R54). -/
def Alert.code (x : Alert) : Byte :=
  match x with
  | .noAlert => 0 | .sent => 1 | .acked => 2

/-- The byte of a value (R156). -/
def Precedence.code (x : Precedence) : Byte :=
  match x with
  | .noCall => 0 | .routine => 1 | .urgent => 2 | .emergency => 3

/-- The byte of a value (R156). -/
def CallState.code (x : CallState) : Byte :=
  match x with
  | .noCall => 0 | .waiting => 1 | .connected => 2

/-- The byte of a value (R185). -/
def Key.code (x : Key) : Byte :=
  match x with
  | .noKey => 0 | .call => 1 | .urgent => 2 | .emergency => 3 | .ack => 4 | .cancel => 5

/-- The value of a byte, none past the last value (R185). -/
def Key.ofByte? (b : Byte) : Option Key :=
  match b.toNat with
  | 0 => some .noKey | 1 => some .call | 2 => some .urgent | 3 => some .emergency | 4 => some .ack
  | 5 => some .cancel
  | _ => none

/-- The byte of a value (R185: its rank less one). -/
def ItemKind.code (x : ItemKind) : Byte :=
  match x with
  | .zoneTrip => 0 | .manDown => 1 | .emergencyCall => 2 | .zoneDanger => 3 | .refugeFault => 4 | .missing => 5
  | .intrusion => 6 | .linkLost => 7 | .urgentCall => 8 | .channelFault => 9 | .escortLost => 10 | .exposure => 11
  | .zoneCaution => 12 | .routineCall => 13 | .pageAnswered => 14 | .stranger => 15

/-- The value of a byte, none past the last value (R185). -/
def ItemKind.ofByte? (b : Byte) : Option ItemKind :=
  match b.toNat with
  | 0 => some .zoneTrip | 1 => some .manDown | 2 => some .emergencyCall | 3 => some .zoneDanger | 4 => some .refugeFault
  | 5 => some .missing | 6 => some .intrusion | 7 => some .linkLost | 8 => some .urgentCall | 9 => some .channelFault
  | 10 => some .escortLost | 11 => some .exposure | 12 => some .zoneCaution | 13 => some .routineCall | 14 => some .pageAnswered
  | 15 => some .stranger
  | _ => none

/-- The byte of a value (R189). -/
def ItemState.code (x : ItemState) : Byte :=
  match x with
  | .new => 0 | .seen => 1 | .acked => 2

/-- The byte of a value (R189). -/
def ItemCondition.code (x : ItemCondition) : Byte :=
  match x with
  | .active => 0 | .ended => 1

/-- The byte of a value (R185). -/
def SequencerMode.code (x : SequencerMode) : Byte :=
  match x with
  | .idle => 0 | .scan => 1 | .once => 2 | .paused => 3

/-- The value of a byte, none past the last value (R185). -/
def SequencerMode.ofByte? (b : Byte) : Option SequencerMode :=
  match b.toNat with
  | 0 => some .idle | 1 => some .scan | 2 => some .once | 3 => some .paused
  | _ => none

/-- The byte of a value (R185). -/
def Gas.code (x : Gas) : Byte :=
  match x with
  | .methane => 0 | .carbonMonoxide => 1 | .oxygen => 2 | .airflow => 3

/-- The value of a byte, none past the last value (R185). -/
def Gas.ofByte? (b : Byte) : Option Gas :=
  match b.toNat with
  | 0 => some .methane | 1 => some .carbonMonoxide | 2 => some .oxygen | 3 => some .airflow
  | _ => none

/-- The byte of a value (R185). -/
def ChannelState.code (x : ChannelState) : Byte :=
  match x with
  | .off => 0 | .warmup => 1 | .normal => 2 | .caution => 3 | .danger => 4 | .trip => 5
  | .fault => 6

/-- The value of a byte, none past the last value (R185). -/
def ChannelState.ofByte? (b : Byte) : Option ChannelState :=
  match b.toNat with
  | 0 => some .off | 1 => some .warmup | 2 => some .normal | 3 => some .caution | 4 => some .danger
  | 5 => some .trip | 6 => some .fault
  | _ => none

/-- The byte of a value (R185). -/
def TruckKind.code (x : TruckKind) : Byte :=
  match x with
  | .diesel => 0 | .battery => 1

/-- The value of a byte, none past the last value (R185). -/
def TruckKind.ofByte? (b : Byte) : Option TruckKind :=
  match b.toNat with
  | 0 => some .diesel | 1 => some .battery
  | _ => none

/-- The byte of a value (R115). -/
def TruckState.code (x : TruckState) : Byte :=
  match x with
  | .registered => 0 | .linked => 1 | .lapsed => 2

/-- The byte of a value (R115). -/
def EntryStatus.code (x : EntryStatus) : Byte :=
  match x with
  | .deferred => 0 | .granted => 1

/-- The byte of a value (R185). -/
def Order.code (x : Order) : Byte :=
  match x with
  | .go => 0 | .slow => 1 | .hold => 2

/-- The value of a byte, none past the last value (R185). -/
def Order.ofByte? (b : Byte) : Option Order :=
  match b.toNat with
  | 0 => some .go | 1 => some .slow | 2 => some .hold
  | _ => none

/-- The byte of a value (R185). -/
def Door.code (x : Door) : Byte :=
  match x with
  | .closed => 0 | .opened => 1 | .fault => 2

/-- The value of a byte, none past the last value (R185). -/
def Door.ofByte? (b : Byte) : Option Door :=
  match b.toNat with
  | 0 => some .closed | 1 => some .opened | 2 => some .fault
  | _ => none

/-- The byte of a value (R185). -/
def Supply.code (x : Supply) : Byte :=
  match x with
  | .ok => 0 | .low => 1 | .fail => 2

/-- The value of a byte, none past the last value (R185). -/
def Supply.ofByte? (b : Byte) : Option Supply :=
  match b.toNat with
  | 0 => some .ok | 1 => some .low | 2 => some .fail
  | _ => none

/-- The byte of a value (R147). -/
def Panel.code (x : Panel) : Byte :=
  match x with
  | .reporting => 0 | .silent => 1

/-- The byte of a value (R175). -/
def Phase.code (x : Phase) : Byte :=
  match x with
  | .setup => 0 | .running => 1

/-- The byte of a value (R179). -/
def ExposureMode.code (x : ExposureMode) : Byte :=
  match x with
  | .time => 0 | .entries => 1

/-- The value of a byte, none past the last value (R179). -/
def ExposureMode.ofByte? (b : Byte) : Option ExposureMode :=
  match b.toNat with
  | 0 => some .time | 1 => some .entries
  | _ => none

/-- The byte of a value (R175). -/
def ListTable.code (x : ListTable) : Byte :=
  match x with
  | .roster => 0 | .trucks => 1 | .zones => 2 | .channels => 3 | .refuges => 4 | .queue => 5

/-- The value of a byte, none past the last value (R175). -/
def ListTable.ofByte? (b : Byte) : Option ListTable :=
  match b.toNat with
  | 0 => some .roster | 1 => some .trucks | 2 => some .zones | 3 => some .channels | 4 => some .refuges
  | 5 => some .queue
  | _ => none

/-- The byte of a value (R188). -/
def ReplyStatus.code (x : ReplyStatus) : Byte :=
  match x with
  | .done => 0 | .badCode => 1 | .badArgument => 2 | .wrongPhase => 3 | .noRecord => 4 | .stale => 5
  | .noRoom => 6 | .refused => 7 | .noChannel => 8 | .badSetup => 9 | .resetDone => 10

/-! ## Numbers, keys and optional values -/

/-- A number sent as one byte. -/
def byteOf (n : Nat) : Byte := BitVec.ofNat 8 n

/-- A number sent as two bytes. -/
def twoBytes (n : Nat) : List Byte := bytes16 (BitVec.ofNat 16 n)

/-- A yes/no argument; none for a byte that is neither (R185). -/
def yesNo? (b : Byte) : Option Bool :=
  match b.toNat with
  | 0 => some false
  | 1 => some true
  | _ => none

/-- Portal enrolment's argument: ON is the first of its list and OFF the second (R179, R185; DEDUCED, log 14). -/
def portalEnrolment? (b : Byte) : Option Bool :=
  match b.toNat with
  | 0 => some true
  | 1 => some false
  | _ => none

/-- A key below `n`; none for a byte outside the numbering. -/
def key? (n : Nat) (b : Byte) : Option (Fin n) := if h : b.toNat < n then some ⟨b.toNat, h⟩ else none

/-- An optional key below `n`, 255 where absent: the outer none is a byte outside the numbering (R185). -/
def optionalKey? (n : Nat) (b : Byte) : Option (Option (Fin n)) :=
  if b = 255 then some none else (key? n b).map some

/-- An optional one-byte value as it is sent, 255 where absent (R185; log 10). -/
def optionalByte (o : Option Byte) : Byte := o.getD 255

/-- An optional key as it is sent (R185). -/
def optionalKey (o : Option (Fin n)) : Byte := optionalByte (o.map (fun k => byteOf k.val))

/-- An optional frame stamp: a presence byte and two bytes (R185). -/
def optionalStamp (o : Option Frame) : List Byte :=
  match o with
  | some f => 1 :: bytes16 f
  | none => [0, 0, 0]

/-- A number between two bounds, both included. -/
def within (lo hi n : Nat) : Bool := decide (lo ≤ n ∧ n ≤ hi)

/-- A valid tag number: 1 to 16,777,214. -/
def validTag (t : Tag) : Bool := t != 0 && t != 0xffffff

/-- A truck number in 1 to 4095. -/
def validTruckNumber (w : Word16) : Bool := within 1 4095 w.toNat

/-- A handle as two bytes (R185). -/
def Handle.bytes (h : Handle) : List Byte := [byteOf h.slot.val, byteOf h.gen.toNat]

/-- An optional handle: slot 255 where absent, as ENROL sends it (R186; log 10). -/
def optionalHandle (o : Option Handle) : List Byte :=
  match o with
  | some h => h.bytes
  | none => [255, 0]

/-- The slot and generation of a handle whose bytes lie in their ranges (R53, first check). -/
def handle? (slot gen : Byte) : Option Handle :=
  if h : slot.toNat < 240 then
    if gen.toNat < 16 then some { slot := ⟨slot.toNat, h⟩, gen := BitVec.ofNat 4 gen.toNat } else none
  else none

/-- A zone of a four-byte zone set: bit z for zone z (R185). -/
def inZoneSet (zones : BitVec 32) (z : Fin 32) : Bool := zones.getLsbD z.val

/-- A group of a one-byte group set: bit g for group g (R185). -/
def inGroupSet (groups : BitVec 8) (g : Fin 8) : Bool := groups.getLsbD g.val

/-- A group set without one group. -/
def withoutGroup (groups : BitVec 8) (g : Fin 8) : BitVec 8 := groups &&& ~~~(BitVec.twoPow 8 g.val)

/-- A run: NONE 0, RISE 1, FALL 2, then its target as a channel state, 0 where it has none (R185). -/
def Run.bytes (r : Run) : List Byte :=
  match r with
  | .noRun => [0, 0]
  | .rise target => [1, target.code]
  | .fall => [2, 0]

/-- The rank of a kind, 1 the most urgent (R36). -/
def ItemKind.rank (k : ItemKind) : Nat := k.code.toNat + 1

/-- The sort of a kind (R36). -/
def ItemKind.sort (k : ItemKind) : ItemSort :=
  match k with
  | .emergencyCall | .urgentCall | .routineCall => .call
  | .pageAnswered | .stranger => .report
  | .zoneTrip | .manDown | .zoneDanger | .refugeFault | .missing | .intrusion | .linkLost | .channelFault | .escortLost
  | .exposure | .zoneCaution => .condition

/-- The key of a subject within its type (R46). -/
def Subject.key (x : Subject) : Nat :=
  match x with
  | .zone z => z.val
  | .person slot _ => slot.val
  | .truck number => number
  | .refuge r => r.val
  | .channel c => c.val
  | .tag t => t.toNat

/-- A subject as the three bytes of ACK_ITEM (R186). -/
def Subject.bytes (x : Subject) : List Byte :=
  match x with
  | .zone z => [0, 0, byteOf z.val]
  | .person slot gen => [0, byteOf slot.val, byteOf gen.toNat]
  | .truck number => 0 :: twoBytes number
  | .refuge r => [0, 0, byteOf r.val]
  | .channel c => [0, 0, byteOf c.val]
  | .tag t => bytes24 t

/-- The zone subject of a number. -/
def zoneSubject? (n : Nat) : Option Subject := if h : n < 32 then some (.zone ⟨n, h⟩) else none

/-- The handle subject of a slot byte and a generation byte, the byte above them 0. -/
def personSubject? (n : Nat) : Option Subject :=
  if h : n / 256 < 240 then
    if n % 256 < 16 then some (.person ⟨n / 256, h⟩ (BitVec.ofNat 4 (n % 256))) else none
  else none

/-- The truck subject of a number. -/
def truckSubject? (n : Nat) : Option Subject := if within 1 4095 n then some (.truck n) else none

/-- The subject that the three bytes of ACK_ITEM name for a kind, none where it is outside its numbering (R49, R186; an
unused byte that is not 0 is outside the encoding, R185; log 24). -/
def subject? (k : ItemKind) (bytes : BitVec 24) : Option Subject :=
  match k with
  | .zoneTrip | .zoneDanger | .zoneCaution => zoneSubject? bytes.toNat
  | .manDown | .emergencyCall | .missing | .urgentCall | .escortLost | .exposure | .routineCall | .pageAnswered =>
    personSubject? bytes.toNat
  | .intrusion | .linkLost => truckSubject? bytes.toNat
  | .refugeFault => if h : bytes.toNat < 8 then some (.refuge ⟨bytes.toNat, h⟩) else none
  | .channelFault => if h : bytes.toNat < 32 then some (.channel ⟨bytes.toNat, h⟩) else none
  | .stranger => if validTag bytes then some (.tag bytes) else none

/-- An item's detail as two bytes (R189). -/
def Detail.bytes (d : Detail) : List Byte :=
  match d with
  | .absent => [0, 0]
  | .faults reasons => [0, reasons.toByte]
  | .call repeats overdue => [byteOf repeats, yesNo overdue]

/-- An item as its 13 bytes (R189). -/
def Item.bytes (it : Item) : List Byte :=
  [it.kind.code] ++ it.subject.bytes ++ bytes16 it.raised ++ bytes16 it.insertion
    ++ [it.state.code, it.condition.code, yesNo it.test] ++ it.detail.bytes

end Sys2Proof.Machine
end

