-- ==== Sys2Proof/Machine/Ops.lean ====
section
/-! DEFINITION. The named operations over the records: reading and changing one record, replies, stamps, count claims (R27),
grant claims (R29, R30) and the holding slot (R173). -/

namespace Sys2Proof.Machine

/-! ## Walking through keys -/

/-- An event taken for each member of a list, in its order. -/
def forEach (l : List α) (f : α → State → State) (s : State) : State := l.foldl (fun s a => f a s) s

/-- The zones in ascending order. -/
def allZones : List (Fin 32) := List.finRange 32

/-- The channels in ascending order. -/
def allChannels : List (Fin 32) := List.finRange 32

/-- The roster slots in ascending order. -/
def allSlots : List (Fin 240) := List.finRange 240

/-- The refuges in ascending order. -/
def allRefuges : List (Fin 8) := List.finRange 8

/-- The call channels in ascending order. -/
def allCallChannels : List (Fin 4) := List.finRange 4

/-- The truck table's positions in ascending order. -/
def allPositions : List (Fin 24) := List.finRange 24

/-! ## Time -/

/-- Frames since a stamp: the current frame number less the stamp's, modulo 65536 (R7). -/
def framesSince (now stamp : Frame) : Nat := (now - stamp).toNat

/-- The stamp of the current slot (R7). -/
def State.stamp (s : State) : SlotStamp := { frame := s.frt.frame, slot := s.frt.slot }

/-- The class of a slot under a set of windows (R8). -/
def slotClass (w : Windows) (slot : Nat) : SlotClass :=
  if slot = 0 then .beacon
  else if slot < w.tagEnd then .tag
  else if w.haulStart ≤ slot ∧ slot < w.haulEnd then .haul
  else if w.callStart ≤ slot ∧ slot < w.callEnd then .voice
  else .guard

/-- The class of the current slot (R8). -/
def State.slotClass (s : State) : SlotClass := Machine.slotClass s.frt.active s.frt.slot

/-- The usable channel count of a call window (R8, R155). -/
def usableChannels (w : Windows) : Nat := min 4 (w.callEnd - w.callStart)

/-! ## Records -/

/-- A zone record. -/
def State.zone (s : State) (z : Fin 32) : Zone := s.znt.zones[z]

/-- A change of one zone record. -/
def State.modifyZone (z : Fin 32) (f : Zone → Zone) (s : State) : State :=
  { s with znt := { s.znt with zones := s.znt.zones.set z (f (s.zone z)) } }

/-- A roster slot. -/
def State.slot (s : State) (i : Fin 240) : Slot := s.rst.slots[i]

/-- The person record of a slot, where it holds one. -/
def State.person (s : State) (i : Fin 240) : Option Person := (s.slot i).person

/-- A roster slot written. -/
def State.setSlot (i : Fin 240) (v : Slot) (s : State) : State :=
  { s with rst := { s.rst with slots := s.rst.slots.set i v } }

/-- A change of the person record of a slot; a free slot stays free. -/
def State.modifyPerson (i : Fin 240) (f : Person → Person) (s : State) : State :=
  s.setSlot i { gen := (s.slot i).gen, person := (s.person i).map f }

/-- A change of every person record of the roster; generations and free slots stay. -/
def State.mapPersons (f : Person → Person) (s : State) : State :=
  { s with rst := { s.rst with slots := s.rst.slots.map (fun v => { gen := v.gen, person := v.person.map f }) } }

/-- The handle of the record in a slot (R52). -/
def State.handle (s : State) (i : Fin 240) : Handle := { slot := i, gen := (s.slot i).gen }

/-- The subject of the record in a slot. -/
def State.personSubject (s : State) (i : Fin 240) : Subject := .person i (s.slot i).gen

/-- The live record that a handle names, none where it names none (R53). -/
def State.named (s : State) (h : Handle) : Option Person := if (s.slot h.slot).gen = h.gen then s.person h.slot else none

/-- The roster's slots with their numbers, ascending. -/
def State.indexedSlots (s : State) : List (Fin 240 × Slot) := allSlots.zip s.rst.slots.toList

/-- A slot holds a record of a kind. -/
def Slot.holds (f : Person → Bool) (v : Slot) : Bool :=
  match v.person with
  | some p => f p
  | none => false

/-- The slots that hold a record of a kind, ascending. -/
def State.slotsWhere (s : State) (f : Person → Bool) : List (Fin 240) :=
  (s.indexedSlots.filter (fun e => e.2.holds f)).map Prod.fst

/-- The slots that hold a record, ascending. -/
def State.liveSlots (s : State) : List (Fin 240) := s.slotsWhere (fun _ => true)

/-- The slot of the live record that holds a tag number (R55). -/
def State.slotOfTag (s : State) (t : Tag) : Option (Fin 240) :=
  (s.indexedSlots.find? (fun e => e.2.holds (fun p => p.tag == t))).map Prod.fst

/-- The lowest free slot (R56). -/
def State.freeSlot (s : State) : Option (Fin 240) := (s.indexedSlots.find? (fun e => e.2.person.isNone)).map Prod.fst

/-- A channel record. -/
def State.channel (s : State) (c : Fin 32) : Channel := s.air.channels[c]

/-- A change of one channel record. -/
def State.modifyChannel (c : Fin 32) (f : Channel → Channel) (s : State) : State :=
  { s with air := { s.air with channels := s.air.channels.set c (f (s.channel c)) } }

/-- A refuge record. -/
def State.refuge (s : State) (r : Fin 8) : Refuge := s.rev.refuges[r]

/-- A change of one refuge record. -/
def State.modifyRefuge (r : Fin 8) (f : Refuge → Refuge) (s : State) : State :=
  { s with rev := { s.rev with refuges := s.rev.refuges.set r (f (s.refuge r)) } }

/-- The truck record at a position of the truck table. -/
def State.truckAt (s : State) (p : Fin 24) : Option Truck := s.hlk.trucks[p]

/-- The position of the record that holds a truck number. -/
def State.positionOf (s : State) (n : Nat) : Option (Fin 24) :=
  allPositions.find? (fun p => match s.truckAt p with | some t => t.number == n | none => false)

/-- The record that holds a truck number (R114). -/
def State.truck (s : State) (n : Nat) : Option Truck := (s.positionOf n).bind s.truckAt

/-- A position of the truck table written. -/
def State.setTruckAt (p : Fin 24) (v : Option Truck) (s : State) : State :=
  { s with hlk := { s.hlk with trucks := s.hlk.trucks.set p v } }

/-- A change of the record that holds a truck number. -/
def State.modifyTruck (n : Nat) (f : Truck → Truck) (s : State) : State :=
  match s.positionOf n with
  | some p => s.setTruckAt p ((s.truckAt p).map f)
  | none => s

/-! ## Replies -/

/-- A reply placed in the reply buffer: a status code and its data, its read position 0 (R177, R188). -/
def State.reply (status : ReplyStatus) (data : List Byte) (s : State) : State :=
  { s with hpt := { s.hpt with reply := status.code :: data, readPos := 0 } }

/-- A refused request's reply: the status code alone (R177). -/
def State.refuse (status : ReplyStatus) (s : State) : State := s.reply status []

/-- The reply DONE with nothing after it. -/
def State.done (s : State) : State := s.reply .done []

/-- A request that names a person by handle: the checks of R53 in their order, then the owner's part. -/
def withNamed (slot gen : Byte) (f : Fin 240 → Person → State → State) (s : State) : State :=
  match handle? slot gen with
  | none => s.refuse .badArgument
  | some h =>
    match s.person h.slot with
    | none => s.refuse .noRecord
    | some p => if (s.slot h.slot).gen = h.gen then f h.slot p s else s.refuse .stale

/-- A command's effect, which does not come about while the reset line is low (R181). -/
def unlessReset (f : State → State) (s : State) : State := if s.resetLow then s else f s

/-! ## Air states -/

/-- CAUTION, DANGER or TRIP (00_scope.md, "Severity"). -/
def AirState.isBad (a : AirState) : Bool :=
  match a with
  | .caution | .danger | .trip => true
  | .clear | .unknown => false

/-- A place on the scale CLEAR < CAUTION < DANGER < TRIP; UNKNOWN is not on it (00_scope.md, R20). -/
def AirState.severity (a : AirState) : Nat :=
  match a with
  | .clear | .unknown => 0
  | .caution => 1
  | .danger => 2
  | .trip => 3

/-- The kind of item of a reported air state (R22). -/
def AirState.item? (a : AirState) : Option ItemKind :=
  match a with
  | .caution => some .zoneCaution
  | .danger => some .zoneDanger
  | .trip => some .zoneTrip
  | .clear | .unknown => none

/-- The reported state of a channel: its test's forced state, or its real state (R97). -/
def Channel.reported (c : Channel) : ChannelState :=
  match c.test with
  | some t => t.forced
  | none => c.real

/-! ## Person counts (R27) -/

/-- The zone in which a record is counted: its zone while PRESENT or QUIET (R27). -/
def Person.countedZone (p : Person) : Option (Fin 32) :=
  match p.state with
  | .present | .quiet => p.zone
  | .enrolled | .missing | .mustered | .out => none

/-- A count claim, naming a record's counted zone before and after a change (R27). -/
def countClaim (before after : Option (Fin 32)) (s : State) : State :=
  match before, after with
  | none, none => s
  | none, some b => s.modifyZone b (fun z => { z with persons := z.persons + 1 })
  | some a, none => s.modifyZone a (fun z => { z with persons := z.persons - 1 })
  | some a, some b =>
    if a = b then s
    else (s.modifyZone a (fun z => { z with persons := z.persons - 1 })).modifyZone b
      (fun z => { z with persons := z.persons + 1 })

/-! ## Grant sets (R29, R30) -/

/-- A truck number put into an ascending list of them. -/
def insertNumber (n : Nat) : List Nat → List Nat
  | [] => [n]
  | m :: l => if n < m then n :: m :: l else if n = m then m :: l else m :: insertNumber n l

/-- Whether an add claim for a truck in a zone is answered ADDED: the truck is in the set already, or the set holds fewer
trucks than the active vehicle limit (R29). -/
def isAdded (n : Nat) (z : Fin 32) (s : State) : Bool :=
  (s.zone z).grants.contains n || decide ((s.zone z).grants.length < (s.zone z).limit)

/-- An add claim's effect: a truck answered ADDED joins the set, a truck answered FULL does not (R29). -/
def addClaim (n : Nat) (z : Fin 32) (s : State) : State :=
  if isAdded n z s then s.modifyZone z (fun r => { r with grants := insertNumber n r.grants }) else s

/-- A remove claim (R30). -/
def removeClaim (n : Nat) (z : Fin 32) (s : State) : State :=
  s.modifyZone z (fun r => { r with grants := r.grants.filter (fun m => m != n) })

/-- A remove claim in a zone that may be absent. -/
def removeClaim? (n : Nat) (z : Option (Fin 32)) (s : State) : State :=
  match z with
  | some z => removeClaim n z s
  | none => s

/-! ## The holding slot (R173) -/

/-- The holding slot holds a message produced for an earlier slot. -/
def holdsLate (s : State) : Bool :=
  match s.flk.holding with
  | some h => h.stamp != s.stamp
  | none => false

/-- A message handed by a producer, written into the holding slot with the current slot's stamp; an unfetched message of an
earlier slot is dropped and raises TX_LATE (R173). -/
def writeHolding (m : Outbound) (s : State) : State :=
  let s := if holdsLate s then s.notify .txLate else s
  { s with flk := { s.flk with holding := some { message := m, stamp := s.stamp } } }

end Sys2Proof.Machine
end

