-- ==== Sys2Proof/Machine/Attention.lean ====
section
/-! DEFINITION. The attention queue (chapter 3): inserts, the full queue, due marks, ends, removals and reinsertion, and its
two requests. -/

namespace Sys2Proof.Machine

/-! ## Items and due marks -/

/-- An item is about this kind and subject, which are its identity (R35). -/
def Item.isFor (k : ItemKind) (x : Subject) (it : Item) : Bool := it.kind == k && it.subject == x

/-- The item of a kind and subject. -/
def State.item (s : State) (k : ItemKind) (x : Subject) : Option Item := s.atq.items.find? (Item.isFor k x)

/-- The due mark of a kind on a subject record: its stamp where it is set (R41). -/
def State.dueMark (s : State) (k : ItemKind) (x : Subject) : Option Frame :=
  (s.atq.due.find? (fun d => d.kind == k && d.subject == x)).map DueMark.stamp

/-- The canonical order of the due marks: rank, then the subject's key (log 8). -/
def DueMark.before (d e : DueMark) : Bool :=
  decide (d.kind.rank < e.kind.rank) || (d.kind == e.kind && decide (d.subject.key < e.subject.key))

/-- The due marks without one subject's mark of a kind. -/
def clearDueIn (k : ItemKind) (x : Subject) (l : List DueMark) : List DueMark :=
  l.filter (fun d => !(d.kind == k && d.subject == x))

/-- A due mark put in its canonical place. -/
def insertDue (d : DueMark) : List DueMark → List DueMark
  | [] => [d]
  | e :: l => if d.before e then d :: e :: l else e :: insertDue d l

/-- A due mark set with a stamp (R41). -/
def State.setDue (k : ItemKind) (x : Subject) (stamp : Frame) (s : State) : State :=
  { s with atq := { s.atq with due := insertDue { kind := k, subject := x, stamp := stamp } (clearDueIn k x s.atq.due) } }

/-- A due mark cleared (R41). -/
def State.clearDue (k : ItemKind) (x : Subject) (s : State) : State :=
  { s with atq := { s.atq with due := clearDueIn k x s.atq.due } }

/-! ## Queue order (R37) -/

/-- An item of the queue stands before a newly placed one: its rank is higher, or its rank is the same and its raised stamp the
same or older (R37). -/
def Item.standsBefore (now : Frame) (old new : Item) : Bool :=
  decide (old.kind.rank < new.kind.rank)
    || (old.kind == new.kind && decide (framesSince now new.raised ≤ framesSince now old.raised))

/-- An item put into the queue in its place (R37; log 9). -/
def placeItem (now : Frame) (it : Item) : List Item → List Item
  | [] => [it]
  | old :: l => if old.standsBefore now it then old :: placeItem now it l else it :: old :: l

/-- An item takes a place in the queue: it is given the counter's value, and the counter rises by one (R35). -/
def takePlace (it : Item) (s : State) : State :=
  { s with atq := { s.atq with
      items := placeItem s.frt.frame { it with insertion := s.atq.counter } s.atq.items
      counter := s.atq.counter + 1 } }

/-- A fresh NEW and ACTIVE item takes its place and raises ATTENTION (R38, R46, R50). -/
def enterItem (k : ItemKind) (x : Subject) (raised : Frame) (test : Bool) (detail : Detail) (s : State) : State :=
  (takePlace { kind := k, subject := x, raised := raised, insertion := 0, state := .new, condition := .active, test := test,
               detail := detail } s).notify .attention

/-- The queue without the item of a kind and subject; the items behind it move up (R44). -/
def State.eraseItem (k : ItemKind) (x : Subject) (s : State) : State :=
  { s with atq := { s.atq with items := s.atq.items.filter (fun it => !it.isFor k x) } }

/-- A change in place of the item of a kind and subject. -/
def State.changeItem (k : ItemKind) (x : Subject) (f : Item → Item) (s : State) : State :=
  { s with atq := { s.atq with items := s.atq.items.map (fun it => if it.isFor k x then f it else it) } }

/-! ## Reinsertion (R46) -/

/-- A due mark is chosen before another: a higher rank, then the older stamp, then the lower subject key (R46). -/
def DueMark.chosenBefore (now : Frame) (d e : DueMark) : Bool :=
  decide (d.kind.rank < e.kind.rank)
    || (d.kind == e.kind
        && (decide (framesSince now e.stamp < framesSince now d.stamp)
            || (d.stamp == e.stamp && decide (d.subject.key < e.subject.key))))

/-- The due mark that reinsertion chooses (R46). -/
def chosenDue (now : Frame) : List DueMark → Option DueMark
  | [] => none
  | d :: l =>
    match chosenDue now l with
    | some e => if e.chosenBefore now d then some e else some d
    | none => some d

/-- The test mark of a reinserted item: its zone's reported and real air states differ (R24, R46). -/
def freshTest (x : Subject) (s : State) : Bool :=
  match x with
  | .zone z => (s.zone z).reported != (s.zone z).real
  | .person _ _ | .truck _ | .refuge _ | .channel _ | .tag _ => false

/-- The detail of a call item: the record's repeat count and overdue flag (R156). -/
def Person.callDetail (p : Person) : Detail := .call p.repeats p.overdue

/-- The detail of a reinserted item, read from its subject (R46). -/
def freshDetail (k : ItemKind) (x : Subject) (s : State) : Detail :=
  match x with
  | .refuge r => if k = .refugeFault then .faults (s.refuge r).reasons else .absent
  | .person slot _ =>
    match k.sort, s.person slot with
    | .call, some p => p.callDetail
    | _, _ => .absent
  | .zone _ | .truck _ | .channel _ | .tag _ => .absent

/-- One due condition reinserted where the queue has room and a mark is set (R46). -/
def reinsert (s : State) : State :=
  if s.atq.items.length < Config.queueCapacity then
    match chosenDue s.frt.frame s.atq.due with
    | some d => enterItem d.kind d.subject d.stamp (freshTest d.subject s) (freshDetail d.kind d.subject s)
        (s.clearDue d.kind d.subject)
    | none => s
  else s

/-- An item leaves the queue, and reinsertion follows (R44). -/
def removeItem (k : ItemKind) (x : Subject) (s : State) : State := reinsert (s.eraseItem k x)

/-! ## Inserts (R38 to R40) -/

/-- The candidate of a full queue: the last ENDED item, or the last item (R40). -/
def candidate (items : List Item) : Option Item :=
  match items.reverse.find? (fun it => it.condition == .ended) with
  | some it => some it
  | none => items.getLast?

/-- A new item that meets a full queue: it displaces the candidate or waits as a due mark (R40). -/
def meetFullQueue (k : ItemKind) (x : Subject) (test : Bool) (detail : Detail) (s : State) : State :=
  match candidate s.atq.items with
  | none => s
  | some old =>
    if k.rank < old.kind.rank then
      let s1 := s.eraseItem old.kind old.subject
      let s2 := if old.condition = .active ∧ old.kind ≠ .stranger then s1.setDue old.kind old.subject old.raised else s1
      enterItem k x s.frt.frame test detail s2
    else if k = .stranger then s
    else s.setDue k x s.frt.frame

/-- An insert, as the owning block hands it (R38, R39): an update in place, a reactivation, an absorption or a new item. -/
def insertItem (k : ItemKind) (x : Subject) (test : Bool) (detail : Detail) (renew : Bool) (s : State) : State :=
  match s.item k x with
  | some it =>
    if it.condition = .active then
      let s1 := s.changeItem k x (fun i => { i with test := test, detail := detail, state := if renew then .new else i.state })
      if renew && it.state != .new then s1.notify .attention else s1
    else enterItem k x s.frt.frame test detail (s.eraseItem k x)
  | none =>
    match s.dueMark k x with
    | some _ => s
    | none =>
      if s.atq.items.length < Config.queueCapacity then enterItem k x s.frt.frame test detail s
      else meetFullQueue k x test detail s

/-- An insert that carries no test mark, no detail and does not renew. -/
def raiseItem (k : ItemKind) (x : Subject) (s : State) : State := insertItem k x false .absent false s

/-! ## Ends and retirements (R42 to R45) -/

/-- The owner of a condition item's subject ends the condition (R42). -/
def endItem (k : ItemKind) (x : Subject) (s : State) : State :=
  match s.item k x with
  | some it =>
    if it.condition = .active then
      if it.state = .acked then removeItem k x s else s.changeItem k x (fun i => { i with condition := .ended })
    else s
  | none => s.clearDue k x

/-- A call stops waiting: its item leaves at once, or its due mark is cleared (R43). -/
def endCallItem (k : ItemKind) (x : Subject) (s : State) : State :=
  match s.item k x with
  | some _ => removeItem k x s
  | none => s.clearDue k x

/-- A subject record is retired: its due marks are cleared, then its items leave one at a time in queue order, with
reinsertion after each (R45). -/
def retireSubject (x : Subject) (s : State) : State :=
  let s1 := { s with atq := { s.atq with due := s.atq.due.filter (fun d => d.subject != x) } }
  forEach ((s.atq.items.filter (fun it => it.subject == x)).map Item.kind) (fun k => removeItem k x) s1

/-! ## Requests of the dispatcher (R48, R49) -/

/-- NEXT_ITEM (R48). -/
def reqNextItem (s : State) : State :=
  match s.atq.items.find? (fun it => it.state == .new) with
  | none => s.refuse .noRecord
  | some it => (s.changeItem it.kind it.subject (fun i => { i with state := .seen })).reply .done
      { it with state := .seen }.bytes

/-- The effect of an acknowledgement of an item (R49). -/
def acknowledge (it : Item) (s : State) : State :=
  let s1 := s.changeItem it.kind it.subject (fun i => { i with state := .acked })
  match it.kind.sort with
  | .condition => if it.condition = .ended then removeItem it.kind it.subject s1 else s1
  | .call => s1
  | .report => removeItem it.kind it.subject s1

/-- ACK_ITEM (R49). -/
def reqAckItem (kind : Byte) (subject : BitVec 24) (s : State) : State :=
  match ItemKind.ofByte? kind with
  | none => s.refuse .badArgument
  | some k =>
    match subject? k subject with
    | none => s.refuse .badArgument
    | some x =>
      match s.item k x with
      | none => s.refuse .noRecord
      | some it => (acknowledge it s).done

end Sys2Proof.Machine
end

