-- ==== Sys2Proof/Machine/Calls.lean ====
section
/-! DEFINITION. The call unit (chapter 9): call keys, waiting calls, call channels, pages, and its three handed events. -/

namespace Sys2Proof.Machine

/-! ## Calls -/

/-- A precedence's place in ROUTINE < URGENT < EMERGENCY, NONE below them (R156). -/
def Precedence.rank (p : Precedence) : Nat := p.code.toNat

/-- The call kind of a precedence (R156). -/
def Precedence.kind? (p : Precedence) : Option ItemKind :=
  match p with
  | .noCall => none
  | .routine => some .routineCall
  | .urgent => some .urgentCall
  | .emergency => some .emergencyCall

/-- A record whose call fields have their values in state NONE (R156). -/
def Person.withoutCall (p : Person) : Person :=
  { p with precedence := .noCall, callState := .noCall, callStamp := none, repeats := 0, overdue := false, callChannel := none }

/-- A record with a call WAITING at a precedence from the current frame (R157). -/
def Person.waitingAt (p : Person) (precedence : Precedence) (now : Frame) : Person :=
  { p with precedence := precedence, callState := .waiting, callStamp := some now, repeats := 0, overdue := false }

/-- A record whose repeat count has risen by one, staying at 15 (R156, R157; log 21). -/
def Person.withRepeat (p : Person) : Person := { p with repeats := min Config.countCeiling (p.repeats + 1) }

/-- An insert of the present call kind of the record in a slot, with its present detail (R156). -/
def insertCall (i : Fin 240) (renew : Bool) (s : State) : State :=
  match s.person i with
  | some p =>
    match p.precedence.kind? with
    | some k => insertItem k (s.personSubject i) false p.callDetail renew s
    | none => s
  | none => s

/-- An end of the present call kind of the record in a slot (R43). -/
def endCallKind (i : Fin 240) (s : State) : State :=
  match s.person i with
  | some p =>
    match p.precedence.kind? with
    | some k => endCallItem k (s.personSubject i) s
    | none => s
  | none => s

/-- A call raised at a precedence (R157). -/
def raiseCall (i : Fin 240) (precedence : Precedence) (s : State) : State :=
  insertCall i false (s.modifyPerson i (fun p => p.waitingAt precedence s.frt.frame))

/-- A WAITING call upgraded: an end of the old kind, then an insert of the new (R157, R47). -/
def upgradeCall (i : Fin 240) (precedence : Precedence) (s : State) : State := raiseCall i precedence (endCallKind i s)

/-- A CALL, URGENT or EMERGENCY key (R157). A CONNECTED call whose precedence rises keeps its call stamp and its overdue flag:
R157 names neither there, and R156 could be read to renew them; keeping them is the model's choice (log 28). -/
def callKey (i : Fin 240) (precedence : Precedence) (s : State) : State :=
  match s.person i with
  | none => s
  | some p =>
    match p.callState with
    | .noCall => raiseCall i precedence s
    | .waiting =>
      if p.precedence.rank < precedence.rank then upgradeCall i precedence s
      else insertCall i false (s.modifyPerson i Person.withRepeat)
    | .connected =>
      s.modifyPerson i (fun q =>
        { q.withRepeat with precedence := if q.precedence.rank < precedence.rank then precedence else q.precedence })

/-- A call channel record made FREE (R163). -/
def freeCallChannel (c : Option (Fin 4)) (s : State) : State :=
  match c with
  | some c => { s with cal := { s.cal with channels := s.cal.channels.set c none } }
  | none => s

/-- The end of a CONNECTED call; a record without one is unchanged (R163). -/
def endConnected (i : Fin 240) (s : State) : State :=
  match s.person i with
  | none => s
  | some p =>
    match p.callState with
    | .connected => (freeCallChannel p.callChannel s).modifyPerson i Person.withoutCall
    | .waiting | .noCall => s

/-- An end of MAN_DOWN, where the call is an EMERGENCY that has become overdue (R158, R160). -/
def endManDown (i : Fin 240) (p : Person) (s : State) : State :=
  if p.precedence = .emergency ∧ p.overdue then endItem .manDown (s.personSubject i) s else s

/-- A CANCEL key (R158). -/
def cancelKey (i : Fin 240) (s : State) : State :=
  match s.person i with
  | none => s
  | some p =>
    match p.callState with
    | .noCall => s
    | .waiting => (endManDown i p (endCallKind i s)).modifyPerson i Person.withoutCall
    | .connected => endConnected i s

/-! ## Waiting (R159) -/

/-- The judgement of one WAITING call (R159). -/
def judgeCallWait (i : Fin 240) (s : State) : State :=
  match s.person i with
  | none => s
  | some p =>
    match p.callState, p.callStamp with
    | .waiting, some stamp =>
      let waited := framesSince s.frt.frame stamp
      match p.precedence with
      | .noCall => s
      | .routine => if s.cal.routineLimit ≤ waited then upgradeCall i .urgent s else s
      | .urgent =>
        if p.overdue = false ∧ s.cal.routineLimit ≤ waited then
          insertCall i true (s.modifyPerson i (fun q => { q with overdue := true }))
        else s
      | .emergency =>
        if p.overdue = false ∧ s.cal.emergencyLimit ≤ waited then
          raiseItem .manDown (s.personSubject i) (insertCall i false (s.modifyPerson i (fun q => { q with overdue := true })))
        else s
    | _, _ => s

/-- The call unit's judgement of every WAITING call, in ascending slot order (R159). -/
def judgeCallWaits (s : State) : State := forEach s.liveSlots judgeCallWait s

/-! ## Call channels (R160 to R164) -/

/-- The lowest FREE channel below the usable count (R160). -/
def State.freeCallChannel? (s : State) : Option (Fin 4) :=
  allCallChannels.find? (fun c => decide (c.val < s.cal.usable) && s.cal.channels[c].isNone)

/-- A WAITING call connected on a channel: its item ends, and MAN_DOWN where the call was an overdue EMERGENCY (R160). -/
def connectCall (i : Fin 240) (p : Person) (c : Fin 4) (s : State) : State :=
  let s1 := { s with cal := { s.cal with channels := s.cal.channels.set c (some (s.handle i)) } }
  let s2 := s1.modifyPerson i (fun q => { q with callState := .connected, callChannel := some c })
  endManDown i p (endCallKind i s2)

/-- ANSWER (R160). -/
def reqAnswer (slot gen : Byte) (s : State) : State :=
  withNamed slot gen (fun i p s =>
    if p.callState ≠ .waiting then s.refuse .noRecord
    else if p.state ≠ .present ∧ p.state ≠ .mustered then s.refuse .refused
    else
      match s.freeCallChannel? with
      | none => s.refuse .noChannel
      | some c => (connectCall i p c s).reply .done [byteOf c.val]) s

/-- END_CALL (R164). -/
def reqEndCall (slot gen : Byte) (s : State) : State :=
  withNamed slot gen (fun i p s =>
    if p.callState ≠ .connected then s.refuse .noRecord
    else (endConnected i s).reply .done [optionalKey p.callChannel]) s

/-- A new usable channel count, written first; then the calls on the channels at or above it end, ascending (R162). -/
def narrowCalls (usable : Nat) (s : State) : State :=
  forEach (allCallChannels.filter (fun c => decide (usable ≤ c.val)))
    (fun c s =>
      match s.cal.channels[c] with
      | some h => endConnected h.slot s
      | none => s)
    { s with cal := { s.cal with usable := usable } }

/-- The channel hold of a VOICE slot start: a CHANNEL_HOLD where the slot's channel is usable and HELD (R161). -/
def holdChannel (s : State) : State :=
  if s.slotClass = .voice then
    match allCallChannels.find? (fun c => c.val == s.frt.slot - s.frt.active.callStart && decide (c.val < s.cal.usable)) with
    | none => s
    | some c =>
      match s.cal.channels[c] with
      | none => s
      | some h =>
        match s.named h with
        | some p => writeHolding (.channelHold c p.tag) s
        | none => s
  else s

/-! ## Pages (R166) -/

/-- PAGE (R166). -/
def reqPage (slot gen : Byte) (s : State) : State :=
  withNamed slot gen (fun i _ s => (s.modifyPerson i (fun p => { p with page := true })).done) s

/-- CANCEL_PAGE (R166). -/
def reqCancelPage (slot gen : Byte) (s : State) : State :=
  withNamed slot gen (fun i _ s => (s.modifyPerson i (fun p => { p with page := false })).done) s

/-! ## Handed events -/

/-- The frame start's judgement of waits, taken where it waits (R159; log 3). -/
def takeCallWait (s : State) : State :=
  if s.handed.callWait then judgeCallWaits { s with handed := { s.handed with callWait := false } } else s

/-- CALL_WAIT_JUDGEMENT (R159). -/
def execCallWaitJudgement (s : State) : Host.Outcome State Fault Refusal := .next (unlessReset takeCallWait s)

/-- The count that the windows just applied give, taken where it waits (R162; log 3). -/
def takeUsable (s : State) : State :=
  if s.handed.usable then narrowCalls (usableChannels s.frt.active) { s with handed := { s.handed with usable := false } } else s

/-- USABLE_CHANNEL_COUNT (R162). -/
def execUsableChannelCount (s : State) : Host.Outcome State Fault Refusal := .next (unlessReset takeUsable s)

/-- The VOICE slot start, taken where it waits (R161; log 3). -/
def takeHold (s : State) : State :=
  if s.handed.hold then holdChannel { s with handed := { s.handed with hold := false } } else s

/-- CHANNEL_HOLD (R161). -/
def execChannelHold (s : State) : Host.Outcome State Fault Refusal := .next (unlessReset takeHold s)

end Sys2Proof.Machine
end

