-- ==== Sys2Proof/Machine/Escorts.lean ====
section
/-! DEFINITION. Escorts (chapter 4, section 4.6): separation, its judgements and limit, and the withdrawal of an escort. -/

namespace Sys2Proof.Machine

/-- A visitor is separated from an escort it has: it is PRESENT or QUIET, and the escort is not PRESENT in its zone (R68). -/
def isApart (p : Person) (escort : Option Person) : Bool :=
  (p.state == .present || p.state == .quiet)
    && (match escort with
        | some e => e.state != .present || e.zone != p.zone
        | none => true)

/-- A VISITOR record is separated from its escort (R68). -/
def State.isSeparated (s : State) (p : Person) : Bool :=
  match p.escort with
  | none => true
  | some h => isApart p (s.named h)

/-- The separation of the record in a slot, where it is a VISITOR, judged anew (R69). -/
def judgeSeparation (i : Fin 240) (s : State) : State :=
  match s.person i with
  | none => s
  | some p =>
    if p.role = .visitor then
      if s.isSeparated p then
        match p.separation with
        | some _ => s
        | none => s.modifyPerson i (fun q => { q with separation := some s.frt.frame })
      else
        match p.separation with
        | none => s
        | some _ =>
          let s1 := s.modifyPerson i (fun q => { q with separation := none, escortLost := false })
          if p.escortLost then endItem .escortLost (s.personSubject i) s1 else s1
    else s

/-- The slots of the visitors whose escort is a handle, ascending. -/
def State.visitorsOf (s : State) (h : Handle) : List (Fin 240) :=
  s.slotsWhere (fun p => p.role == .visitor && p.escort == some h)

/-- The escort judgement after a change of the record in a slot: the record itself, then each visitor whose escort it is, in
ascending slot order (R63, R80, R150, R151; the order among the visitors is the model's choice, log 27). -/
def judgeEscorts (i : Fin 240) (s : State) : State :=
  forEach (s.visitorsOf (s.handle i)) judgeSeparation (judgeSeparation i s)

/-- The limit judgement of one visitor (R70). -/
def judgeEscortLimit (i : Fin 240) (s : State) : State :=
  match s.person i with
  | none => s
  | some p =>
    match p.separation with
    | none => s
    | some stamp =>
      if p.role = .visitor ∧ p.escortLost = false ∧ s.rst.escortLimit ≤ framesSince s.frt.frame stamp then
        raiseItem .escortLost (s.personSubject i) (s.modifyPerson i (fun q => { q with escortLost := true }))
      else s

/-- The roster's judgement of every separated visitor at a frame start, in ascending slot order (R70; the order is the model's
choice, log 27). -/
def judgeEscortLimits (s : State) : State := forEach s.liveSlots judgeEscortLimit s

/-- The withdrawal of a visitor's escort: it is judged anew, and ESCORT_LOST is ended and then inserted (R71, R47). -/
def withdrawEscort (i : Fin 240) (s : State) : State :=
  let s1 := judgeSeparation i (s.modifyPerson i (fun p => { p with escort := none }))
  (raiseItem .escortLost (s.personSubject i) (endItem .escortLost (s.personSubject i) s1)).modifyPerson i
    (fun p => { p with escortLost := true })

/-- The record an escort handle of a request names, none where it fails a check of R53 or its role is not OFFICIAL (R56,
R72). -/
def State.official? (s : State) (slot gen : Byte) : Option Handle :=
  match handle? slot gen with
  | none => none
  | some h =>
    match s.named h with
    | some e => if e.role = .official then some h else none
    | none => none

/-- SET_ESCORT (R72). -/
def reqSetEscort (slot gen escortSlot escortGen : Byte) (s : State) : State :=
  withNamed slot gen (fun i p s =>
    if p.role = .visitor then
      match s.official? escortSlot escortGen with
      | none => s.refuse .badArgument
      | some h => (judgeSeparation i (s.modifyPerson i (fun q => { q with escort := some h }))).done
    else s.refuse .badArgument) s

/-! ## Handed events -/

/-- The frame start's judgement, taken where it waits (R70; log 3). -/
def takeEscort (s : State) : State :=
  if s.handed.escort then judgeEscortLimits { s with handed := { s.handed with escort := false } } else s

/-- ESCORT_LIMIT_JUDGEMENT (R70). -/
def execEscortLimitJudgement (s : State) : Host.Outcome State Fault Refusal := .next (unlessReset takeEscort s)

end Sys2Proof.Machine
end

