-- ==== Sys2Proof/Machine/Haul.lean ====
section
/-! DEFINITION. The haul link (chapter 7): the truck table, the poll cycle, withdrawals, orders, silence and ALONE. Taken
truck reports stand in TruckReports.lean. -/

namespace Sys2Proof.Machine

/-! ## Withdrawals (R129) -/

/-- The zone of a GRANTED entry (R115). -/
def Truck.grantedZone (t : Truck) : Option (Fin 32) :=
  match t.entry with
  | some e => if e.status = .granted then some e.zone else none
  | none => none

/-- A record whose entry is DEFERRED for a zone. -/
def Truck.deferredTo (t : Truck) (z : Fin 32) : Truck := { t with entry := some { zone := z, status := .deferred } }

/-- The withdrawal of a truck's GRANTED entry: a remove claim, and the entry DEFERRED for the same zone; where `only` names
a zone, an entry to another zone is left (R129). -/
def withdrawEntry (only : Option (Fin 32)) (n : Nat) (s : State) : State :=
  match (s.truck n).bind Truck.grantedZone with
  | none => s
  | some z =>
    if only = none ∨ only = some z then (removeClaim n z s).modifyTruck n (fun t => t.deferredTo z) else s

/-- Every GRANTED entry to a zone withdrawn, in poll list order (R129). -/
def withdrawEntriesTo (z : Fin 32) (s : State) : State := forEach s.hlk.pollList (withdrawEntry (some z)) s

/-- Every GRANTED entry of every truck withdrawn, in poll list order (R129). -/
def withdrawEveryEntry (s : State) : State := forEach s.hlk.pollList (withdrawEntry none) s

/-! ## Silence and ALONE (R133, R134) -/

/-- The part enters ALONE (R133). -/
def enterAlone (s : State) : State :=
  withdrawEveryEntry ({ s with hlk := { s.hlk with alone := true } }.notify .alone)

/-- The silence count judged against the silence limit (R133). -/
def judgeAlone (s : State) : State :=
  if s.hlk.silenceLimit ≠ 0 ∧ s.hlk.silenceLimit ≤ s.hlk.silenceCount ∧ s.hlk.alone = false then enterAlone s else s

/-- The silence count raised at a frame start, and judged (R133). -/
def countSilence (s : State) : State :=
  judgeAlone { s with hlk := { s.hlk with silenceCount := min Config.silenceCeiling (s.hlk.silenceCount + 1) } }

/-- A request taken sets the silence count to 0 (R133, R177). -/
def heardHost (s : State) : State := { s with hlk := { s.hlk with silenceCount := 0 } }

/-- RESUME (R134). -/
def reqResume (s : State) : State := { s with hlk := { s.hlk with silenceCount := 0, alone := false } }.done

/-! ## Orders (R131) -/

/-- The more severe of two orders, GO < SLOW < HOLD (R131). -/
def Order.worse (a b : Order) : Order := if a.code.toNat < b.code.toNat then b else a

/-- The contribution of a zone by its reported air state (R131). -/
def airOrder (kind : TruckKind) (a : AirState) : Order :=
  match a with
  | .trip => .hold
  | .danger =>
    match kind with
    | .diesel => .hold
    | .battery => .slow
  | .caution | .unknown => .slow
  | .clear => .go

/-- The contribution of a zone by its evacuation state (R131). -/
def evacOrder (e : EvacState) : Order :=
  match e with
  | .ordered => .slow
  | .notOrdered => .go

/-- The contribution of a zone of the truck, none where it is absent (R131). -/
def zoneOrder (kind : TruckKind) (z : Option (Fin 32)) (s : State) : Order :=
  match z with
  | some z => (airOrder kind (s.zone z).reported).worse (evacOrder (s.zone z).evac)
  | none => .go

/-- The contribution of the entry (R131). -/
def entryOrder (e : Option Entry) : Order :=
  match e with
  | some e => if e.status = .deferred then .hold else .go
  | none => .go

/-- The contribution of a proximity list under a close level (R131). -/
def proximityOrder (close : Nat) (l : List Proximity) : Order :=
  if l.any (fun e => decide (close ≤ e.level)) then .hold else if l.isEmpty then .go else .slow

/-- The order computed from a truck's zones, entry, intrusion, proximity and the part's ALONE state, without its forced order
(R131, law L5). -/
def unforcedOrder (t : Truck) (s : State) : Order :=
  let zones := ((zoneOrder t.kind t.held s).worse (zoneOrder t.kind t.grantedZone s)).worse (zoneOrder t.kind t.zone s)
  let own := ((entryOrder t.entry).worse (if t.intrusion then .hold else .go)).worse
    (proximityOrder s.hlk.closeLevel t.proximity)
  (zones.worse own).worse (if s.hlk.alone then .slow else .go)

/-- The order computed at a poll (R131). -/
def truckOrder (t : Truck) (s : State) : Order := (unforcedOrder t s).worse (t.forced.getD .go)

/-! ## Polls (R118 to R120) -/

/-- A truck's missed polls judged against the lapse limit (R119). -/
def judgeLapse (n : Nat) (s : State) : State :=
  match s.truck n with
  | none => s
  | some t =>
    if t.state = .linked ∧ s.hlk.lapseLimit ≤ t.missed then
      raiseItem .linkLost (.truck n) (s.modifyTruck n (fun t => { t with state := .lapsed }))
    else s

/-- A poll's judgement of the truck's previous poll (R119). -/
def judgePreviousPoll (n : Nat) (s : State) : State :=
  match s.truck n with
  | none => s
  | some t =>
    if t.lastPoll.isSome ∧ t.answered = false then
      judgeLapse n (s.modifyTruck n (fun t => { t with missed := min Config.countCeiling (t.missed + 1) }))
    else s

/-- The TRUCK_POLL of a truck: its order computed, the message handed to the field link, the poll recorded (R120). -/
def sendPoll (n : Nat) (s : State) : State :=
  match s.truck n with
  | none => s
  | some t =>
    let order := truckOrder t s
    (writeHolding (.truckPoll n order t.grantedZone t.intrusion) s).modifyTruck n (fun t =>
      { t with lastPoll := some s.stamp, answered := false, lastOrder := some order, polled := true })

/-- The member of a list that follows a number, from the tail back to the head (R118). -/
def following (n : Nat) (l : List Nat) : Option Nat :=
  match l.dropWhile (fun m => m != n) with
  | _ :: m :: _ => some m
  | _ => l.head?

/-- The poll cursor moved to the next record in the list (R118). -/
def advanceCursor (n : Nat) (s : State) : State :=
  { s with hlk := { s.hlk with cursor := following n s.hlk.pollList } }

/-- The poll of a HAUL slot start: the truck at the cursor, where it has not polled this frame (R118). -/
def pollSlot (s : State) : State :=
  if s.slotClass = .haul then
    match s.hlk.cursor with
    | none => s
    | some n =>
      match s.truck n with
      | none => s
      | some t => if t.polled then s else advanceCursor n (sendPoll n (judgePreviousPoll n s))
  else s

/-- A frame start sets polled this frame to no in every record (R118). -/
def renewPollFlags (s : State) : State :=
  { s with hlk := { s.hlk with trucks := s.hlk.trucks.map (fun o => o.map (fun t => { t with polled := false })) } }

/-! ## Registration and retirement (R116, R117, R135) -/

/-- A truck record when it is registered (R115). -/
def Truck.registered (number : Nat) (kind : TruckKind) : Truck :=
  { number := number, kind := kind, state := .registered, zone := none, held := none, entry := none, proximity := [],
    intrusion := false, forced := none, lastOrder := none, lastPoll := none, answered := false, missed := 0, polled := false }

/-- The lowest free position of the truck table (R116). -/
def State.freePosition (s : State) : Option (Fin 24) := allPositions.find? (fun p => (s.truckAt p).isNone)

/-- A record made at a position and appended at the tail of the poll list (R116, R117). -/
def addTruck (p : Fin 24) (t : Truck) (s : State) : State :=
  { s with hlk := { s.hlk with
      trucks := s.hlk.trucks.set p (some t)
      pollList := s.hlk.pollList ++ [t.number]
      cursor := if s.hlk.pollList.isEmpty then some t.number else s.hlk.cursor } }

/-- REGISTER_TRUCK (R116). -/
def reqRegisterTruck (number : Word16) (kind : Byte) (s : State) : State :=
  match TruckKind.ofByte? kind with
  | none => s.refuse .badArgument
  | some k =>
    if ¬ validTruckNumber number ∨ (s.positionOf number.toNat).isSome then s.refuse .badArgument
    else
      match s.freePosition with
      | none => s.refuse .noRoom
      | some p => (addTruck p (Truck.registered number.toNat k) s).done

/-- A truck's record leaves the poll list, and the cursor follows (R117). -/
def leavePollList (n : Nat) (s : State) : State :=
  let rest := s.hlk.pollList.filter (fun m => m != n)
  { s with hlk := { s.hlk with
      pollList := rest
      cursor := if s.hlk.cursor = some n then (if rest.isEmpty then none else following n s.hlk.pollList) else s.hlk.cursor } }

/-- The retirement of a truck record (R135). -/
def retireTruck (p : Fin 24) (t : Truck) (s : State) : State :=
  let s1 := removeClaim? t.number t.grantedZone (removeClaim? t.number t.held s)
  (retireSubject (.truck t.number) (leavePollList t.number s1)).setTruckAt p none

/-- A request that names a truck by number: the checks of R132, R135 and R136, then the owner's part. -/
def withTruck (number : Word16) (f : Fin 24 → Truck → State → State) (s : State) : State :=
  if validTruckNumber number then
    match s.positionOf number.toNat with
    | none => s.refuse .noRecord
    | some p =>
      match s.truckAt p with
      | none => s.refuse .noRecord
      | some t => f p t s
  else s.refuse .badArgument

/-- RETIRE_TRUCK (R135). -/
def reqRetireTruck (number : Word16) (s : State) : State := withTruck number (fun p t s => (retireTruck p t s).done) s

/-- FORCE_ORDER (R132). -/
def reqForceOrder (number : Word16) (order : Byte) (s : State) : State :=
  match Order.ofByte? order with
  | none => s.refuse .badArgument
  | some o => withTruck number (fun p t s => (s.setTruckAt p (some { t with forced := some o })).done) s

/-- RELEASE_ORDER (R132). -/
def reqReleaseOrder (number : Word16) (s : State) : State :=
  withTruck number (fun p t s => (s.setTruckAt p (some { t with forced := none })).done) s

/-! ## Handed events -/

/-- The frame start's renewal, taken where it waits (R118; log 3). -/
def takePollFlags (s : State) : State :=
  if s.handed.pollFlags then renewPollFlags { s with handed := { s.handed with pollFlags := false } } else s

/-- POLL_FLAG_RENEWAL (R118). -/
def execPollFlagRenewal (s : State) : Host.Outcome State Fault Refusal := .next (unlessReset takePollFlags s)

/-- The frame start's silence count, taken where it waits (R133; log 3). -/
def takeSilence (s : State) : State :=
  if s.handed.silence then countSilence { s with handed := { s.handed with silence := false } } else s

/-- SILENCE_COUNT (R133). -/
def execSilenceCount (s : State) : Host.Outcome State Fault Refusal := .next (unlessReset takeSilence s)

/-- ENTER_ALONE: the judgement of the silence count (R133; log 5). -/
def execEnterAlone (s : State) : Host.Outcome State Fault Refusal := .next (unlessReset judgeAlone s)

/-- The HAUL slot start, taken where it waits (R118; log 3). -/
def takePoll (s : State) : State :=
  if s.handed.poll then pollSlot { s with handed := { s.handed with poll := false } } else s

/-- POLL (R118). -/
def execPoll (s : State) : Host.Outcome State Fault Refusal := .next (unlessReset takePoll s)

/-- LINK_LAPSE: the judgement of a truck's missed polls (R119; log 5). -/
def execLinkLapse (number : Word16) (s : State) : Host.Outcome State Fault Refusal :=
  .next (unlessReset (judgeLapse number.toNat) s)

end Sys2Proof.Machine
end

