-- ==== Sys2Proof/Machine/Evacuation.lean ====
section
/-! DEFINITION. The refuge and evacuation unit (chapter 8): orders and lifts, alerts, alert rounds, refuge faults and panel
silence. Check-ins and check-outs stand in RefugeReports.lean. -/

namespace Sys2Proof.Machine

/-! ## Orders (R138 to R140) -/

/-- The one cause AIR. -/
def Causes.onlyAir : Causes := { Causes.none with air := true }

/-- The one cause LINE. -/
def Causes.onlyLine : Causes := { Causes.none with line := true }

/-- The one cause HOST. -/
def Causes.onlyHost : Causes := { Causes.none with host := true }

/-- The causes of two sets together. -/
def Causes.union (a b : Causes) : Causes :=
  { air := a.air || b.air, line := a.line || b.line, host := a.host || b.host }

/-- A record whose alert is made SENT where it is NONE (R142). -/
def Person.alerted (p : Person) : Person := { p with alert := if p.alert = .noAlert then .sent else p.alert }

/-- A record that an order of a zone alerts, MISSING judged by its last zone known (R138). -/
def Person.isCaughtIn (z : Fin 32) (p : Person) : Bool :=
  p.zone == some z && (p.state == .present || p.state == .quiet || p.state == .missing)

/-- Every person caught in a zone has an alert of NONE made SENT (R138). -/
def alertCaught (z : Fin 32) (s : State) : State :=
  s.mapPersons (fun p => if p.isCaughtIn z then p.alerted else p)

/-- A zone ordered with a cause (R138). -/
def orderZone (cause : Causes) (z : Fin 32) (s : State) : State :=
  match (s.zone z).evac with
  | .ordered => s.modifyZone z (fun r => { r with causes := r.causes.union cause })
  | .notOrdered =>
    withdrawEntriesTo z (alertCaught z (s.modifyZone z (fun r =>
      { r with evac := .ordered, causes := cause, orderedStamp := some s.frt.frame })))

/-- The zones of a four-byte zone set in ascending order. -/
def zonesOf (zones : BitVec 32) : List (Fin 32) := allZones.filter (inZoneSet zones)

/-- EVACUATE (R140). -/
def reqEvacuate (zones : BitVec 32) (s : State) : State :=
  if zones = 0 then s.refuse .badArgument else (forEach (zonesOf zones) (orderZone Causes.onlyHost) s).done

/-! ## Lifts (R141) -/

/-- A zone taken from ORDERED to NONE (R141). -/
def liftZone (z : Fin 32) (s : State) : State :=
  s.modifyZone z (fun r => { r with evac := .notOrdered, causes := Causes.none, orderedStamp := none })

/-- A zone is given and ORDERED. -/
def State.isOrdered (s : State) (z : Option (Fin 32)) : Bool :=
  match z with
  | some z => (s.zone z).evac == .ordered
  | none => false

/-- The alerts of the records whose zone is absent or not ORDERED made NONE (R141). -/
def clearAlerts (s : State) : State :=
  s.mapPersons (fun p => if s.isOrdered p.zone then p else { p with alert := .noAlert })

/-- A zone's real air state refuses a lift (R141). -/
def State.isUnsafe (s : State) (z : Fin 32) : Bool := (s.zone z).real == .danger || (s.zone z).real == .trip

/-- LIFT (R141). -/
def reqLift (zones : BitVec 32) (s : State) : State :=
  if zones = 0 then s.refuse .badArgument
  else if (zonesOf zones).any s.isUnsafe then s.refuse .refused
  else (clearAlerts (forEach (zonesOf zones) liftZone s)).done

/-! ## Alerts (R142, R143) -/

/-- A record handed on as it now stands: PRESENT in an ORDERED zone with alert NONE, it is made SENT (R63, R142). -/
def alertArrived (i : Fin 240) (s : State) : State :=
  s.modifyPerson i (fun p => if p.state = .present ∧ s.isOrdered p.zone then p.alerted else p)

/-- The ACK key (R143). -/
def ackKey (i : Fin 240) (s : State) : State :=
  match s.person i with
  | none => s
  | some p =>
    let s1 := s.modifyPerson i (fun q => { q with alert := if q.alert = .sent then .acked else q.alert })
    if p.page then raiseItem .pageAnswered (s.personSubject i) (s1.modifyPerson i (fun q => { q with page := false })) else s1

/-! ## Alert rounds (R144, R145) -/

/-- A record has work for a round: alert SENT or page set (R144). -/
def Person.isWaited (p : Person) : Bool := p.alert == .sent || p.page

/-- Some record has work for a round (R144). -/
def State.hasRoundWork (s : State) : Bool :=
  s.rst.slots.toList.any (Slot.holds Person.isWaited)

/-- A cadence event at the unit: a round starts where none is in progress and a record has work (R144). -/
def startRound (s : State) : State :=
  if s.rev.roundOn = false ∧ s.hasRoundWork = true then
    { s with rev := { s.rev with roundOn := true, roundStart := some s.frt.frame, roundCursor := 0 } }
  else s

/-- The tags a record gives the alert list (R145). -/
def Person.alertTags (p : Person) : List Tag := if p.alert = .sent then [p.tag] else []

/-- The tags a record gives the page list (R145). -/
def Person.pageTags (p : Person) : List Tag := if p.page then [p.tag] else []

/-- The scan of a list of slots: the two lists, and the slot at which it stopped, none where it passed the last (R145). -/
def scanSlots (s : State) (alerts pages : List Tag) : List (Fin 240) → List Tag × List Tag × Option (Fin 240)
  | [] => (alerts, pages, none)
  | i :: l =>
    match s.person i with
    | none => scanSlots s alerts pages l
    | some p =>
      if Config.beaconAlerts < (alerts ++ p.alertTags).length ∨ Config.beaconPages < (pages ++ p.pageTags).length then
        (alerts, pages, some i)
      else scanSlots s (alerts ++ p.alertTags) (pages ++ p.pageTags) l

/-- The alert and page lists of a beacon under a round in progress, empty without one (R15, R145). -/
def roundLists (s : State) : List Tag × List Tag × Option (Fin 240) :=
  if s.rev.roundOn then scanSlots s [] [] (s.liveSlots.filter (fun i => decide (s.rev.roundCursor ≤ i.val))) else ([], [], none)

/-- The round after it has supplied a beacon: its cursor moved on, or the round ended (R144, R145). -/
def advanceRound (s : State) : State :=
  if s.rev.roundOn then
    match (roundLists s).2.2 with
    | some i => { s with rev := { s.rev with roundCursor := i.val } }
    | none => { s with rev := { s.rev with roundOn := false, roundStart := none, roundCursor := Config.rosterSlots } }
  else s

/-! ## Refuge faults (R153) -/

/-- The fault reasons that hold for a refuge record in a zone of a real air state (R153). -/
def Refuge.derived (r : Refuge) (air : Option AirState) : FaultReasons :=
  { doorBreach := r.door == .opened && (air == some .danger || air == some .trip)
    doorFault := r.door == .fault
    supply := r.supply == .low || r.supply == .fail
    silent := r.panel == .silent
    overCapacity := decide (r.capacity < r.occupancy) }

/-- A change of a refuge's reason set handed to the attention queue (R153). -/
def handReasons (r : Fin 8) (old new : FaultReasons) (s : State) : State :=
  if new = old then s
  else if new.isEmpty then endItem .refugeFault (.refuge r) s
  else insertItem .refugeFault (.refuge r) false (.faults new) (!old.isEmpty && !new.isSubset old) s

/-- The fault reasons of a refuge derived anew; those of a refuge not configured stay empty (R147, R153). -/
def deriveReasons (r : Fin 8) (s : State) : State :=
  if (s.refuge r).configured then
    let new := (s.refuge r).derived ((s.refuge r).zone.map (fun z => (s.zone z).real))
    handReasons r (s.refuge r).reasons new (s.modifyRefuge r (fun x => { x with reasons := new }))
  else s

/-- An occupancy claim: the occupancy falls by one, and the fault reasons are derived anew (R151). -/
def occupancyClaim (r : Option (Fin 8)) (s : State) : State :=
  match r with
  | some r => deriveReasons r (s.modifyRefuge r (fun x => { x with occupancy := x.occupancy - 1 }))
  | none => s

/-- The silence judgement of one panel (R152). -/
def judgePanel (r : Fin 8) (s : State) : State :=
  let x := s.refuge r
  if x.configured = true ∧ x.panel = .reporting ∧ s.rev.silenceLimit ≤ framesSince s.frt.frame x.lastReport then
    deriveReasons r (s.modifyRefuge r (fun x => { x with panel := .silent }))
  else s

/-- The unit's judgement of every panel at a frame start, in ascending refuge number (R152; the order is the model's choice,
log 27). -/
def judgePanels (s : State) : State := forEach allRefuges judgePanel s

/-! ## Real air (R139) -/

/-- The zones other than `z` on a trip line, ascending (R139). -/
def State.sharingLine (s : State) (z : Fin 32) (line : Fin 8) : List (Fin 32) :=
  allZones.filter (fun w => w != z && (s.zone w).tripLine == some line)

/-- The air part of a zone's real change to `y` (R139). -/
def orderByAir (z : Fin 32) (y : AirState) (s : State) : State :=
  if y.isBad = true ∧ (s.zone z).autoLevel.severity ≤ y.severity then orderZone Causes.onlyAir z s else s

/-- The line part of a zone's real change from `x` to `y` (R139). -/
def orderByLine (z : Fin 32) (x y : AirState) (s : State) : State :=
  if y = .trip ∧ x ≠ .trip then
    match (s.zone z).tripLine with
    | some line => forEach (s.sharingLine z line) (orderZone Causes.onlyLine) s
    | none => s
  else s

/-- The unit takes a zone's real air state change: the air part, the line part, and DOOR_BREACH of its refuges, in ascending
refuge number (R139, R153; the order of the refuges is the model's choice, log 27). -/
def evacuateByAir (z : Fin 32) (x y : AirState) (s : State) : State :=
  forEach (allRefuges.filter (fun r => (s.refuge r).zone == some z)) deriveReasons (orderByLine z x y (orderByAir z y s))

/-! ## Setup (R148) -/

/-- SET_REFUGE (R148). -/
def reqSetRefuge (refuge zone capacity : Byte) (s : State) : State :=
  match key? 8 refuge, key? 32 zone with
  | some r, some z =>
    if within 1 64 capacity.toNat then
      (s.modifyRefuge r (fun x => { x with configured := true, zone := some z, capacity := capacity.toNat })).done
    else s.refuse .badArgument
  | _, _ => s.refuse .badArgument

/-! ## Handed events -/

/-- The frame start's judgement of panels, taken where it waits (R152; log 3). -/
def takePanel (s : State) : State :=
  if s.handed.panel then judgePanels { s with handed := { s.handed with panel := false } } else s

/-- PANEL_SILENCE (R152). -/
def execPanelSilence (s : State) : Host.Outcome State Fault Refusal := .next (unlessReset takePanel s)

/-- The frame start's cadence event, taken where it waits (R144; log 3). -/
def takeRound (s : State) : State :=
  if s.handed.round then startRound { s with handed := { s.handed with round := false } } else s

/-- ALERT_ROUND_START (R144). -/
def execAlertRoundStart (s : State) : Host.Outcome State Fault Refusal := .next (unlessReset takeRound s)

end Sys2Proof.Machine
end

