-- ==== Sys2Proof/Machine/Exposure.lean ====
section
/-! DEFINITION. Exposure (chapter 5, section 5.6): raises, the count of TIME mode, the moves and rises of ENTRIES mode. -/

namespace Sys2Proof.Machine

/-- The exposure of the record in a slot judged against the exposure limit (R87). -/
def judgeExposure (i : Fin 240) (s : State) : State :=
  match s.person i with
  | some p => if p.exposure = s.rst.exposureLimit then raiseItem .exposure (s.personSubject i) s else s
  | none => s

/-- A record whose exposure, below 65535, has risen by one (R87). -/
def Person.raised (p : Person) : Person :=
  { p with exposure := p.exposure + 1, exposureFull := p.exposureFull || p.exposure + 1 == Config.exposureCeiling }

/-- A raise of the exposure of the record in a slot (R87). -/
def raiseExposure (i : Fin 240) (s : State) : State :=
  match s.person i with
  | some p => if p.exposure < Config.exposureCeiling then judgeExposure i (s.modifyPerson i Person.raised) else s
  | none => s

/-- A zone is given and its real air state is CAUTION or worse (R84). -/
def State.isBadAir (s : State) (z : Option (Fin 32)) : Bool :=
  match z with
  | some z => (s.zone z).real.isBad
  | none => false

/-- The record in a slot is counted in a zone whose real air state is CAUTION or worse (R84, R85). -/
def State.isExposed (s : State) (i : Fin 240) : Bool :=
  match s.person i with
  | some p => s.isBadAir p.countedZone
  | none => false

/-- The exposure count of a frame start, taken in TIME mode only (R85). -/
def countExposure (s : State) : State :=
  match s.rst.exposureMode with
  | .time => forEach s.liveSlots (fun i s => if s.isExposed i then raiseExposure i s else s) s
  | .entries => s

/-- A record's move between counted zones, which counts in ENTRIES mode only (R86). -/
def exposeMove (i : Fin 240) (before after : Option (Fin 32)) (s : State) : State :=
  match s.rst.exposureMode with
  | .time => s
  | .entries => if after ≠ before ∧ s.isBadAir after = true then raiseExposure i s else s

/-- The record in a slot is counted in a zone (R86). -/
def State.isCountedIn (s : State) (z : Fin 32) (i : Fin 240) : Bool :=
  match s.person i with
  | some p => p.countedZone == some z
  | none => false

/-- A zone's real air state change from `x` to `y` at the roster, which counts in ENTRIES mode only (R23, R86). -/
def exposeRise (z : Fin 32) (x y : AirState) (s : State) : State :=
  match s.rst.exposureMode with
  | .time => s
  | .entries =>
    if x = .clear ∧ y.isBad = true then
      forEach s.liveSlots (fun i s => if s.isCountedIn z i then raiseExposure i s else s) s
    else s

/-- CLEAR_EXPOSURE (R88). -/
def reqClearExposure (slot gen : Byte) (s : State) : State :=
  withNamed slot gen (fun i _ s =>
    (endItem .exposure (s.personSubject i)
      (s.modifyPerson i (fun p => { p with exposure := 0, exposureFull := false }))).done) s

/-! ## Handed events -/

/-- The frame start's exposure count, taken where it waits (R85; log 3). -/
def takeExposure (s : State) : State :=
  if s.handed.exposure then countExposure { s with handed := { s.handed with exposure := false } } else s

/-- EXPOSURE_COUNT (R85). -/
def execExposureCount (s : State) : Host.Outcome State Fault Refusal := .next (unlessReset takeExposure s)

/-- EXPOSURE_LIMIT_REACHED: the judgement of one record's exposure (R87; log 5). -/
def execExposureLimitReached (slot : Fin 240) (s : State) : Host.Outcome State Fault Refusal :=
  .next (unlessReset (judgeExposure slot) s)

end Sys2Proof.Machine
end

