-- ==== Sys2Proof/Machine/Roster.lean ====
section
/-! DEFINITION. The roster (chapter 4): enrolment, strangers, sightings, keys and retirement. -/

namespace Sys2Proof.Machine

/-! ## Records -/

/-- A record when ENROL makes it (R54). -/
def Person.enrolled (tag : Tag) (role : Role) (escort : Option Handle) : Person :=
  { tag := tag, role := role, escort := escort, state := .enrolled, zone := none, refuge := none, heard := none, level := 0,
    heardSinceVisit := false, misses := 0, exposure := 0, exposureFull := false, alert := .noAlert, page := false,
    precedence := .noCall, callState := .noCall, callStamp := none, repeats := 0, overdue := false, callChannel := none,
    lastKey := none, separation := none, escortLost := false }

/-- A record when a portal makes it (R54, R57). -/
def Person.atPortal (tag : Tag) (z : Fin 32) (level : Nat) (frame : Frame) : Person :=
  { Person.enrolled tag .crew none with
    state := .present, zone := some z, heard := some frame, level := level, heardSinceVisit := true }

/-- A record made in a free slot, with the slot's present generation (R52). -/
def makeRecord (i : Fin 240) (p : Person) (s : State) : State := s.setSlot i { gen := (s.slot i).gen, person := some p }

/-! ## Enrolment (R56, R73) -/

/-- The escort that ENROL's arguments give a role: none where they are refused (R56; slot 255 is absent, R186). -/
def State.enrolEscort? (s : State) (role : Role) (slot gen : Byte) : Option (Option Handle) :=
  match role with
  | .visitor => if slot = 255 then none else (s.official? slot gen).map some
  | .crew | .official => if slot = 255 then some none else none

/-- ENROL (R56). -/
def reqEnrol (tag : Tag) (role escortSlot escortGen : Byte) (s : State) : State :=
  match Role.ofByte? role with
  | none => s.refuse .badArgument
  | some r =>
    match s.enrolEscort? r escortSlot escortGen with
    | none => s.refuse .badArgument
    | some escort =>
      if ¬ validTag tag ∨ (s.slotOfTag tag).isSome then s.refuse .badArgument
      else
        match s.freeSlot with
        | none => s.refuse .noRoom
        | some i => (makeRecord i (Person.enrolled tag r escort) s).reply .done (s.handle i).bytes

/-- FIND_TAG (R73). -/
def reqFindTag (tag : Tag) (s : State) : State :=
  if validTag tag then
    match s.slotOfTag tag with
    | none => s.refuse .noRecord
    | some i => s.reply .done (s.handle i).bytes
  else s.refuse .badArgument

/-! ## Keys (R64) -/

/-- A key acted on by the block it is handed to (R64). -/
def actOnKey (i : Fin 240) (k : Key) (s : State) : State :=
  match k with
  | .noKey => s
  | .call => callKey i .routine s
  | .urgent => callKey i .urgent s
  | .emergency => callKey i .emergency s
  | .ack => ackKey i s
  | .cancel => cancelKey i s

/-- The key event of a tag report: a key with a new sequence is recorded and acted on (R64). -/
def keyEvent (i : Fin 240) (k : Key) (sequence : BitVec 2) (s : State) : State :=
  match s.person i with
  | none => s
  | some p =>
    if p.lastKey = some sequence then s
    else actOnKey i k (s.modifyPerson i (fun q => { q with lastKey := some sequence }))

/-! ## Sightings (R59 to R63) -/

/-- The zone and frame level that a sighting leaves a record: the contest of R61. -/
def contest (p : Person) (z : Fin 32) (level : Nat) (frame : Frame) : Option (Fin 32) × Nat :=
  if p.heard = some frame ∧ level ≤ p.level then (p.zone, p.level) else (some z, level)

/-- A record PRESENT and heard afresh in a zone (R60); the refuge field is absent unless MUSTERED (R54, R62). -/
def Person.heardIn (p : Person) (zone : Option (Fin 32)) (level : Nat) (frame : Frame) : Person :=
  { p with state := .present, zone := zone, refuge := none, heard := some frame, level := level, misses := 0,
           heardSinceVisit := true }

/-- A sighting's change handed on, up to the alert: `p` is the record before and `q` after (R63, items 1 to 6). -/
def handSighting (i : Fin 240) (p q : Person) (s : State) : State :=
  let s1 := countClaim p.countedZone q.countedZone s
  let s2 := if p.state = .mustered then occupancyClaim p.refuge s1 else s1
  let s3 := if p.state = .missing then endItem .missing (s.personSubject i) s2 else s2
  let s4 := if p.state = q.state ∧ p.zone = q.zone then s3 else judgeEscorts i s3
  alertArrived i (exposeMove i p.countedZone q.countedZone s4)

/-- A sighting that makes a record PRESENT in its winning zone (R60 to R63). -/
def placeSighted (i : Fin 240) (p : Person) (z : Fin 32) (level : Nat) (frame : Frame) (s : State) : State :=
  let q := p.heardIn (contest p z level frame).1 (contest p z level frame).2 frame
  handSighting i p q (s.modifyPerson i (fun _ => q))

/-- A tag report of a MUSTERED record: a check-out where another zone than its refuge's wins, or the record stays (R62). -/
def sightMustered (i : Fin 240) (p : Person) (z : Fin 32) (level : Nat) (frame : Frame) (s : State) : State :=
  let won := contest p z level frame
  if won.1 = p.refuge.bind (fun r => (s.refuge r).zone) then
    alertArrived i (s.modifyPerson i (fun q => { q with heard := some frame, level := won.2 }))
  else placeSighted i p z level frame s

/-- A tag report of a record (R60). -/
def sightByReader (i : Fin 240) (p : Person) (z : Fin 32) (level : Nat) (frame : Frame) (s : State) : State :=
  match p.state with
  | .mustered => sightMustered i p z level frame s
  | .enrolled | .present | .quiet | .missing | .out => placeSighted i p z level frame s

/-- A proximity entry of a record (R60). -/
def sightByTruck (i : Fin 240) (p : Person) (z : Fin 32) (frame : Frame) (s : State) : State :=
  match p.state with
  | .mustered => s
  | .enrolled | .present | .quiet | .missing | .out => placeSighted i p z 0 frame s

/-- The slot in which a portal enrols an unknown tag, none where R57 does not enrol it. -/
def State.portalSlot? (s : State) (z : Fin 32) : Option (Fin 240) :=
  if (s.zone z).kind = .portal ∧ s.rst.portalEnrolment = true then s.freeSlot else none

/-- A portal enrolment, handed on as a sighting that takes the record from no counted zone to the portal zone (R57). -/
def enrolAtPortal (i : Fin 240) (tag : Tag) (z : Fin 32) (level : Nat) (frame : Frame) (s : State) : State :=
  handSighting i (Person.enrolled tag .crew none) (Person.atPortal tag z level frame)
    (makeRecord i (Person.atPortal tag z level frame) s)

/-- A tag report at the roster (R57 to R64). -/
def takeTagReport (z : Fin 32) (tag : Tag) (level : Nat) (k : Key) (sequence : BitVec 2) (frame : Frame) (s : State) : State :=
  if validTag tag then
    match s.slotOfTag tag with
    | some i =>
      match s.person i with
      | some p => keyEvent i k sequence (sightByReader i p z level frame s)
      | none => s
    | none =>
      match s.portalSlot? z with
      | some i => keyEvent i k sequence (enrolAtPortal i tag z level frame s)
      | none => raiseItem .stranger (.tag tag) s
  else s

/-- A proximity entry of a taken truck report at the roster; one of a report without a zone is ignored (R58, R59, R123). -/
def takeProximity (z : Option (Fin 32)) (frame : Frame) (e : Proximity) (s : State) : State :=
  match z with
  | none => s
  | some z =>
    if validTag e.tag then
      match s.slotOfTag e.tag with
      | some i =>
        match s.person i with
        | some p => sightByTruck i p z frame s
        | none => s
      | none => raiseItem .stranger (.tag e.tag) s
    else s

/-! ## Retirement (R65, R66) -/

/-- A slot freed, its generation risen by one (R52, R66). -/
def freeTheSlot (i : Fin 240) (s : State) : State := s.setSlot i { gen := (s.slot i).gen + 1, person := none }

/-- The retirement of a person record, in the order of R66. -/
def retirePerson (i : Fin 240) (s : State) : State :=
  match s.person i with
  | none => s
  | some p =>
    let s1 := countClaim p.countedZone none s
    let s2 := if p.state = .mustered then occupancyClaim p.refuge s1 else s1
    let s3 := retireSubject (s.personSubject i) (endConnected i s2)
    let s4 := if p.role = .official then forEach (s3.visitorsOf (s.handle i)) withdrawEscort s3 else s3
    freeTheSlot i s4

/-- RETIRE (R65). -/
def reqRetire (slot gen : Byte) (s : State) : State := withNamed slot gen (fun i _ s => (retirePerson i s).done) s

end Sys2Proof.Machine
end

