-- ==== Sys2Proof/Machine/Aging.lean ====
section
/-! DEFINITION. The aging walker (chapter 5, sections 5.1 to 5.5): walks, visits, changes of state and SET_WALK. -/

namespace Sys2Proof.Machine

/-! ## Visits (R78 to R81) -/

/-- A visit ages a record in this state (R78). -/
def PersonState.isAged (x : PersonState) : Bool :=
  match x with
  | .present | .quiet | .missing | .out => true
  | .enrolled | .mustered => false

/-- A record whose miss count a visit has judged (R78). -/
def Person.visited (p : Person) : Person :=
  if p.heardSinceVisit then { p with heardSinceVisit := false, misses := 0 }
  else { p with misses := min Config.countCeiling (p.misses + 1) }

/-- A change of state by aging, handed to its neighbours in the order of R80. -/
def ageTo (i : Fin 240) (p : Person) (x : PersonState) (s : State) : State :=
  let q := { p with state := x }
  let s1 := countClaim p.countedZone q.countedZone (s.modifyPerson i (fun _ => q))
  let s2 := if x = .missing then raiseItem .missing (s.personSubject i) s1 else s1
  judgeEscorts i (endConnected i s2)

/-- The state that aging gives a PRESENT record at its quiet limit: OUT in a zone of kind PORTAL, QUIET elsewhere (R79). -/
def State.agedFrom (s : State) (z : Option (Fin 32)) : PersonState :=
  match z with
  | some z => if (s.zone z).kind = .portal then .out else .quiet
  | none => .quiet

/-- The state of the record in a slot judged against the limits (R79, R81). -/
def judgeAging (i : Fin 240) (s : State) : State :=
  match s.person i with
  | none => s
  | some p =>
    match p.state with
    | .present => if s.rst.quietLimit ≤ p.misses then ageTo i p (s.agedFrom p.zone) s else s
    | .quiet => if s.rst.missingLimit ≤ p.misses then ageTo i p .missing s else s
    | .out => if s.rst.outHold ≤ p.misses then retirePerson i s else s
    | .enrolled | .missing | .mustered => s

/-- A visit to a slot (R78). -/
def visit (i : Fin 240) (s : State) : State :=
  match s.person i with
  | none => s
  | some p => if p.state.isAged then judgeAging i (s.modifyPerson i Person.visited) else s

/-! ## Walks (R76, R77) -/

/-- The slot a number of places above a slot, wrapping from 239 to 0 (R77). -/
def slotAfter (i : Fin 240) (k : Nat) : Fin 240 := Fin.ofNat 240 (i.val + k)

/-- A walk: step-many slots from the walker position, and the position moved on (R77). -/
def walk (s : State) : State :=
  let s1 := forEach ((List.range s.rst.walkStep).map (slotAfter s.rst.walkPos)) visit s
  { s1 with rst := { s1.rst with walkPos := slotAfter s.rst.walkPos s.rst.walkStep } }

/-- The pending walk step and interval made active (R76). -/
def applyWalk (s : State) : State :=
  match s.rst.pendingWalk with
  | some w => { s with rst := { s.rst with walkStep := w.1, walkInterval := w.2, pendingWalk := none } }
  | none => s

/-- The roster's walk of a frame start (R76). -/
def walkAtFrameStart (s : State) : State :=
  let s1 := applyWalk s
  if s1.frt.frame.toNat % s1.rst.walkInterval = 0 then walk s1 else s1

/-! ## SET_WALK (R83) -/

/-- The steps of a walk (R75). -/
def walkSteps : List Nat := [1, 2, 4, 8, 16, 32, 64, 128]

/-- The walker's reply data: position, active step and interval, pending step and interval (R83, R185). -/
def walkReply (s : State) : List Byte :=
  [byteOf s.rst.walkPos.val, byteOf s.rst.walkStep, byteOf s.rst.walkInterval]
    ++ (match s.rst.pendingWalk with
        | some w => [1, byteOf w.1, byteOf w.2]
        | none => [0, 0, 0])

/-- SET_WALK (R83). -/
def reqSetWalk (walkStep interval : Byte) (s : State) : State :=
  if walkStep.toNat ∈ walkSteps ∧ within 1 4 interval.toNat = true then
    let s1 :=
      match s.hpt.phase with
      | .setup => { s with rst := { s.rst with walkStep := walkStep.toNat, walkInterval := interval.toNat, pendingWalk := none } }
      | .running => { s with rst := { s.rst with pendingWalk := some (walkStep.toNat, interval.toNat) } }
    s1.reply .done (walkReply s1)
  else s.refuse .badArgument

/-! ## Handed events -/

/-- The frame start's walk, taken where it waits (R76; log 3). -/
def takeWalk (s : State) : State :=
  if s.handed.walk then walkAtFrameStart { s with handed := { s.handed with walk := false } } else s

/-- AGING_WALK (R76). -/
def execAgingWalk (s : State) : Host.Outcome State Fault Refusal := .next (unlessReset takeWalk s)

/-- AGING_STATE_CHANGE: the judgement of one record's state (R79; log 5). -/
def execAgingStateChange (slot : Fin 240) (s : State) : Host.Outcome State Fault Refusal :=
  .next (unlessReset (judgeAging slot) s)

end Sys2Proof.Machine
end

