-- ==== Sys2Proof/Machine/RefugeReports.lean ====
section
/-! DEFINITION. Refuge reports at the refuge and evacuation unit: check-ins and check-outs (R149 to R151). -/

namespace Sys2Proof.Machine

/-- A refuge's occupancy changed. -/
def setOccupancy (r : Fin 8) (f : Nat → Nat) (s : State) : State :=
  s.modifyRefuge r (fun x => { x with occupancy := f x.occupancy })

/-- The occupancies that a check-in at `r` moves: one more there unless the record is MUSTERED there already, one less at
another refuge it leaves, whose fault reasons are derived anew (R150). -/
def moveOccupancy (p : Person) (r : Fin 8) (s : State) : State :=
  if p.state = .mustered then
    if p.refuge = some r then s else setOccupancy r (· + 1) (occupancyClaim p.refuge s)
  else setOccupancy r (· + 1) s

/-- A record MUSTERED at a refuge (R150). -/
def Person.musteredAt (p : Person) (r : Fin 8) (zone : Option (Fin 32)) (frame : Frame) : Person :=
  { p with state := .mustered, refuge := some r, zone := zone, alert := .noAlert, misses := 0, heard := some frame, level := 15 }

/-- A check-in of the record in a slot (R150). -/
def checkIn (r : Fin 8) (frame : Frame) (i : Fin 240) (s : State) : State :=
  match s.person i with
  | none => s
  | some p =>
    let s1 := moveOccupancy p r (s.modifyPerson i (fun q => q.musteredAt r (s.refuge r).zone frame))
    let s2 := countClaim p.countedZone none s1
    let s3 := if p.state = .missing then endItem .missing (s.personSubject i) s2 else s2
    judgeEscorts i s3

/-- A record checked out into a refuge's zone (R151). -/
def Person.checkedOut (p : Person) (zone : Option (Fin 32)) (frame : Frame) : Person :=
  { p with state := .present, refuge := none, zone := zone, heard := some frame, level := 15, misses := 0,
           heardSinceVisit := true }

/-- A check-out by report of the record in a slot, which acts only where it is MUSTERED at the refuge (R151). -/
def checkOut (r : Fin 8) (frame : Frame) (i : Fin 240) (s : State) : State :=
  match s.person i with
  | none => s
  | some p =>
    if p.state = .mustered ∧ p.refuge = some r then
      let zone := (s.refuge r).zone
      let s1 := (setOccupancy r (· - 1) s).modifyPerson i (fun q => q.checkedOut zone frame)
      alertArrived i (exposeMove i none zone (judgeEscorts i (countClaim none zone s1)))
    else s

/-- Each tag of a list acted on; one that is not valid or that no live record holds is ignored (R149). -/
def forTags (tags : List Tag) (act : Fin 240 → State → State) (s : State) : State :=
  forEach (tags.filter validTag) (fun t s => match s.slotOfTag t with | some i => act i s | none => s) s

/-- A refuge report at the unit (R149). -/
def takeRefugeReport (r : Fin 8) (door : Door) (supply : Supply) (checkIns checkOuts : List Tag) (frame : Frame) (s : State) :
    State :=
  if (s.refuge r).configured then
    let s1 := s.modifyRefuge r (fun x => { x with door := door, supply := supply, lastReport := frame, panel := .reporting })
    deriveReasons r (forTags checkOuts (checkOut r frame) (forTags checkIns (checkIn r frame) s1))
  else s

end Sys2Proof.Machine
end

