-- ==== Sys2Proof/Machine/TruckReports.lean ====
section
/-! DEFINITION. Truck reports at the haul link: the checks of R121 and the steps of R122 to R128. -/

namespace Sys2Proof.Machine

/-- A truck report as it is handed on, its zones as the truck sent them (R121, R172). -/
structure TruckReport where
  number : Nat
  zone : Byte
  requested : Byte
  proximity : List Proximity
  deriving DecidableEq, Repr

/-- Step 1: answered, the missed polls 0, LINKED; LINK_LOST ends where the truck was LAPSED (R122). -/
def reportAnswers (n : Nat) (t : Truck) (s : State) : State :=
  let s1 := s.modifyTruck n (fun t => { t with answered := true, missed := 0, state := .linked })
  if t.state = .lapsed then endItem .linkLost (.truck n) s1 else s1

/-- Step 2: the reported zone and the proximity list (R122). -/
def reportPlaces (n : Nat) (zone : Option (Fin 32)) (l : List Proximity) (s : State) : State :=
  s.modifyTruck n (fun t => { t with zone := zone, proximity := l })

/-- Step 3: the arrival at a GRANTED entry (R126). -/
def arrive (n : Nat) (z : Fin 32) (s : State) : State :=
  match s.truck n with
  | none => s
  | some t =>
    if t.grantedZone = some z then
      (if t.held = some z then s else removeClaim? n t.held s).modifyTruck n (fun t => { t with held := some z, entry := none })
    else s

/-- Step 4: a first grant tried (R125). -/
def tryFirstGrant (n : Nat) (z : Fin 32) (s : State) : State :=
  match s.truck n with
  | none => s
  | some t =>
    if t.held = none ∧ s.hlk.alone = false ∧ isAdded n z s = true then
      (addClaim n z s).modifyTruck n (fun t => { t with held := some z })
    else s

/-- An entry ended by the truck: a remove claim where it was GRANTED, and the entry absent (R127). -/
def endEntry (n : Nat) (s : State) : State :=
  match s.truck n with
  | none => s
  | some t => (removeClaim? n t.grantedZone s).modifyTruck n (fun t => { t with entry := none })

/-- A zone is fit to be entered on a request: reported CLEAR or CAUTION, not ORDERED, the part not ALONE (R127, law L6). -/
def isFit (q : Fin 32) (s : State) : Bool :=
  ((s.zone q).reported == .clear || (s.zone q).reported == .caution) && (s.zone q).evac == .notOrdered && !s.hlk.alone

/-- A request for a zone judged (R127). -/
def judgeRequest (n : Nat) (q : Fin 32) (s : State) : State :=
  if isFit q s = true ∧ isAdded n q s = true then
    (addClaim n q s).modifyTruck n (fun t => { t with entry := some { zone := q, status := .granted } })
  else s.modifyTruck n (fun t => t.deferredTo q)

/-- Step 5: the requested zone judged against the entry (R127). -/
def reportRequests (n : Nat) (requested : Option (Fin 32)) (s : State) : State :=
  match s.truck n with
  | none => s
  | some t =>
    match requested with
    | none => endEntry n s
    | some q =>
      if t.held = some q then endEntry n s
      else
        match t.entry with
        | none => judgeRequest n q s
        | some e =>
          if e.zone = q then (if e.status = .granted then s else judgeRequest n q s) else judgeRequest n q (endEntry n s)

/-- Step 6: the intrusion flag judged anew (R128). -/
def judgeIntrusion (n : Nat) (z : Fin 32) (s : State) : State :=
  match s.truck n with
  | none => s
  | some t =>
    let intruding := t.held != some z
    let s1 := s.modifyTruck n (fun t => { t with intrusion := intruding })
    if t.intrusion = intruding then s1
    else if intruding then raiseItem .intrusion (.truck n) s1 else endItem .intrusion (.truck n) s1

/-- The steps of a taken report that a reported zone calls for and one that gives none skips. -/
def inZone (zone : Option (Fin 32)) (f : Fin 32 → State → State) (s : State) : State :=
  match zone with
  | some z => f z s
  | none => s

/-- A taken report, in the steps of R122. -/
def takeReport (n : Nat) (t : Truck) (zone requested : Option (Fin 32)) (l : List Proximity) (frame : Frame) (s : State) :
    State :=
  let s2 := reportPlaces n zone l (reportAnswers n t s)
  let s4 := inZone zone (tryFirstGrant n) (inZone zone (arrive n) s2)
  let s6 := inZone zone (judgeIntrusion n) (reportRequests n requested s4)
  forEach l (takeProximity zone frame) s6

/-- A truck report at the haul link, taken where the checks of R121 hold and discarded otherwise. -/
def takeTruckReport (r : TruckReport) (stamp : SlotStamp) (s : State) : State :=
  match s.truck r.number, optionalKey? 32 r.zone, optionalKey? 32 r.requested with
  | some t, some zone, some requested =>
    if t.lastPoll = some stamp ∧ t.answered = false then takeReport r.number t zone requested r.proximity stamp.frame s else s
  | _, _, _ => s

end Sys2Proof.Machine
end

