-- ==== Sys2Proof/Machine/Field.lean ====
section
/-! DEFINITION. The field link (chapter 10): arrivals, the taking of messages, the holding slot's check and the fetch, with the
layouts of R190. -/

namespace Sys2Proof.Machine

/-! ## Arrivals (R168) -/

/-- A message appended at the tail of the receive queue with the current slot's stamp (R168). -/
def appendMessage (message : List Byte) (s : State) : State :=
  { s with flk := { s.flk with queue := s.flk.queue ++
      [{ message := message, frame := s.frt.frame, slot := s.frt.slot, slotClass := s.slotClass }] } }

/-- An arrival: a delivery's bytes, judged in the order of R168. -/
def arriveMessage (bytes : List Byte) (s : State) : State :=
  if s.frt.timer = .counting then
    match completeMessage bytes with
    | none => s
    | some message =>
      if s.flk.queue.length < Config.receiveCapacity then appendMessage message s else s.notify .fieldOverrun
  else s

/-! ## Inbound messages (R170 to R172, R190) -/

/-- A tag report's fields in their ranges (R170). -/
structure TagReport where
  zone : Fin 32
  tag : Tag
  level : Nat
  key : Key
  sequence : BitVec 2
  deriving DecidableEq, Repr

/-- A refuge report's fields in their ranges (R171). -/
structure RefugeReport where
  refuge : Fin 8
  door : Door
  supply : Supply
  checkIns : List Tag
  checkOuts : List Tag
  deriving DecidableEq, Repr

/-- An inbound message whose fields lie in their tables (R169). -/
inductive Inbound where
  | tag (r : TagReport)
  | truck (r : TruckReport)
  | refuge (r : RefugeReport)
  deriving DecidableEq, Repr

/-- The tag report of its bytes after the kind, none where a field lies outside its table (R170, R190). -/
def tagReport? (bytes : List Byte) : Option Inbound :=
  match bytes with
  | [zone, t2, t1, t0, level, key, sequence] =>
    match key? 32 zone, Key.ofByte? key with
    | some z, some k =>
      if level.toNat ≤ 15 ∧ sequence.toNat ≤ 3 then
        some (.tag { zone := z, tag := word24 t2 t1 t0, level := level.toNat, key := k,
                     sequence := BitVec.ofNat 2 sequence.toNat })
      else none
    | _, _ => none
  | _ => none

/-- A list of tag numbers of three bytes each (R190). -/
def tagsOf : List Byte → List Tag
  | t2 :: t1 :: t0 :: l => word24 t2 t1 t0 :: tagsOf l
  | _ => []

/-- The refuge report of its bytes after the kind, none where a field lies outside its table (R171, R190). -/
def refugeReport? (bytes : List Byte) : Option Inbound :=
  match bytes with
  | refuge :: door :: supply :: i :: o :: tags =>
    match key? 8 refuge, Door.ofByte? door, Supply.ofByte? supply with
    | some r, some d, some p =>
      if i.toNat ≤ 4 ∧ o.toNat ≤ 4 then
        some (.refuge { refuge := r, door := d, supply := p, checkIns := (tagsOf tags).take i.toNat,
                        checkOuts := ((tagsOf tags).drop i.toNat).take o.toNat })
      else none
    | _, _, _ => none
  | _ => none

/-- A proximity list of four bytes an entry (R190). -/
def proximityOf : List Byte → List Proximity
  | t2 :: t1 :: t0 :: level :: l => { tag := word24 t2 t1 t0, level := level.toNat } :: proximityOf l
  | _ => []

/-- The truck report of its bytes after the kind, none where a field lies outside its table; the haul link judges the zones
(R172, R121, R190). -/
def truckReport? (bytes : List Byte) : Option Inbound :=
  match bytes with
  | n1 :: n0 :: zone :: requested :: n :: entries =>
    if (word16 n1 n0).toNat ≤ 4095 ∧ n.toNat ≤ 4 ∧ (proximityOf entries).all (fun e => decide (e.level ≤ 15)) = true then
      some (.truck { number := (word16 n1 n0).toNat, zone := zone, requested := requested, proximity := proximityOf entries })
    else none
  | _ => none

/-- The inbound message of its bytes (R190). -/
def inbound? (message : List Byte) : Option Inbound :=
  match message with
  | [] => none
  | kind :: rest =>
    match kind.toNat with
    | 1 => tagReport? rest
    | 2 => truckReport? rest
    | 3 => refugeReport? rest
    | _ => none

/-! ## Taking messages (R169) -/

/-- An accepted message handed to its owner; one whose stamp is of another window, or whose reader's zone is not configured,
is discarded (R170 to R172). -/
def handInbound (m : Inbound) (e : Received) (s : State) : State :=
  match m with
  | .tag r =>
    if e.slotClass = .tag ∧ (s.zone r.zone).configured = true then
      takeTagReport r.zone r.tag r.level r.key r.sequence e.frame s
    else s
  | .truck r => if e.slotClass = .haul then takeTruckReport r { frame := e.frame, slot := e.slot } s else s
  | .refuge r =>
    if e.slotClass = .tag then takeRefugeReport r.refuge r.door r.supply r.checkIns r.checkOuts e.frame s else s

/-- A message in hand judged, and handed on or discarded (R169). -/
def judgeMessage (e : Received) (s : State) : State :=
  match inbound? e.message with
  | some m => handInbound m e s
  | none => s

/-- The message in hand written. -/
def setInHand (m : Option Received) (s : State) : State := { s with flk := { s.flk with inHand := m } }

/-- The head of the receive queue taken, where no message is in hand (R169; log 23). -/
def takeMessage (s : State) : State :=
  match s.flk.inHand, s.flk.queue with
  | none, e :: rest => setInHand none (judgeMessage e (setInHand (some e) { s with flk := { s.flk with queue := rest } }))
  | _, _ => s

/-! ## The holding slot (R173, R174) -/

/-- A slot start at the field link: an unfetched message of an earlier slot is dropped, with TX_LATE (R173). -/
def checkHoldingSlot (s : State) : State :=
  if holdsLate s then { s with flk := { s.flk with holding := none } }.notify .txLate else s

/-- A list preceded by its one-byte count (R185). -/
def counted (l : List α) (bytes : α → List Byte) : List Byte := byteOf l.length :: l.flatMap bytes

/-- A slot stamp as four bytes (R190). -/
def SlotStamp.bytes (t : SlotStamp) : List Byte := bytes16 t.frame ++ twoBytes t.slot

/-- An outbound message's kind byte (R190). -/
def Outbound.kind (m : Outbound) : Byte :=
  match m with
  | .beacon _ => 8
  | .truckPoll _ _ _ _ => 9
  | .channelHold _ _ => 10

/-- A beacon's bytes after its stamp (R190). -/
def Beacon.bytes (b : Beacon) : List Byte :=
  bytes16 b.frame ++ [b.lock.code, yesNo b.alone]
    ++ counted b.evacuation (fun e => [byteOf e.1.val, optionalKey e.2]) ++ counted b.alerts bytes24 ++ counted b.pages bytes24

/-- An outbound message's bytes after its stamp (R190). -/
def Outbound.body (m : Outbound) : List Byte :=
  match m with
  | .beacon b => b.bytes
  | .truckPoll number order zone intrusion => twoBytes number ++ [order.code, optionalKey zone, yesNo intrusion]
  | .channelHold channel tag => byteOf channel.val :: bytes24 tag

/-- A held message as the fetch is given it: kind, production stamp, fields (R174, R190). -/
def Held.bytes (h : Held) : List Byte := h.message.kind :: (h.stamp.bytes ++ h.message.body)

/-- A fetch of the holding slot; an empty slot gives the idle answer, the one byte 0 (R174, R190; log 18). -/
def fetchHeld (s : State) : State :=
  match s.flk.holding with
  | some h => { s with flk := { s.flk with holding := none }, fieldOut := h.bytes }
  | none => { s with fieldOut := [0] }

/-! ## Events -/

/-- FIELD_ARRIVAL (R168). -/
def execFieldArrival (bytes : List Byte) (s : State) : Host.Outcome State Fault Refusal :=
  .next (unlessReset (arriveMessage bytes) s)

/-- MESSAGE_TAKING (R169). -/
def execMessageTaking (s : State) : Host.Outcome State Fault Refusal := .next (unlessReset takeMessage s)

/-- The slot start, taken where it waits (R173; log 3). -/
def takeCheck (s : State) : State :=
  if s.handed.check then checkHoldingSlot { s with handed := { s.handed with check := false } } else s

/-- HOLDING_SLOT_CHECK (R173). -/
def execHoldingSlotCheck (s : State) : Host.Outcome State Fault Refusal := .next (unlessReset takeCheck s)

/-- FETCH (R174). -/
def execFetch (s : State) : Host.Outcome State Fault Refusal := .next (unlessReset fetchHeld s)

end Sys2Proof.Machine
end

