-- ==== Sys2Proof/Machine/Zones.lean ====
section
/-! DEFINITION. The zone table (chapter 2): air states and what their changes are handed to, trip lines, vehicle limits and
the zone's setup. -/

namespace Sys2Proof.Machine

/-! ## Air states (R20) -/

/-- A channel state's contribution to its zone's air state (R20). -/
def ChannelState.contribution (x : ChannelState) : Option AirState :=
  match x with
  | .normal => some .clear
  | .caution => some .caution
  | .danger => some .danger
  | .trip => some .trip
  | .off | .warmup | .fault => none

/-- The more severe of a contribution and those before it (R20). -/
def worseAir (a : Option AirState) (b : Option AirState) : Option AirState :=
  match a, b with
  | none, b => b
  | some a, none => some a
  | some a, some b => if a.severity < b.severity then some b else some a

/-- The contribution of a channel to a zone, by a chosen state of it. -/
def Channel.contributionTo (z : Fin 32) (f : Channel → ChannelState) (c : Channel) : Option AirState :=
  if c.zone = some z then (f c).contribution else none

/-- The most severe contribution among the zone's channels; UNKNOWN where no channel makes one (R20, law L8). -/
def State.derivedAir (s : State) (f : Channel → ChannelState) (z : Fin 32) : AirState :=
  (s.air.channels.foldl (fun a c => worseAir a (c.contributionTo z f)) none).getD .unknown

/-- A zone is monitored: some channel record names it (R19). -/
def State.isBound (s : State) (z : Fin 32) : Bool := s.air.channels.any (fun c => c.zone == some z)

/-- A zone's reported air state as its channels give it; CLEAR where it is not monitored (R19, R20). -/
def State.reportedAir (s : State) (z : Fin 32) : AirState :=
  if (s.zone z).monitored then s.derivedAir Channel.reported z else .clear

/-- A zone's real air state as its channels give it; CLEAR where it is not monitored (R19, R20). -/
def State.realAir (s : State) (z : Fin 32) : AirState :=
  if (s.zone z).monitored then s.derivedAir Channel.real z else .clear

/-! ## Trip lines (R25, R26) -/

/-- Some zone mapped to a trip line has real air state TRIP (R25, law L12). -/
def State.isTripped (s : State) (line : Fin 8) : Bool :=
  s.znt.zones.any (fun z => z.tripLine == some line && z.real == .trip)

/-- A trip line judged anew; an assertion or a release raises TRIP_LINE (R26). -/
def judgeLine (line : Fin 8) (s : State) : State :=
  if s.znt.lines[line] = s.isTripped line then s
  else { s with znt := { s.znt with lines := s.znt.lines.set line (s.isTripped line) } }.notify .tripLine

/-- The trip line of a zone judged anew, where it has one (R26). -/
def judgeZoneLine (z : Fin 32) (s : State) : State :=
  match (s.zone z).tripLine with
  | some line => judgeLine line s
  | none => s

/-! ## Changes handed on (R21 to R24) -/

/-- The condition of an air state of a zone ended (R22). -/
def endZoneItem (z : Fin 32) (x : AirState) (s : State) : State :=
  match x.item? with
  | some k => endItem k (.zone z) s
  | none => s

/-- An item of an air state of a zone inserted with its test mark (R22). -/
def insertZoneItem (z : Fin 32) (y : AirState) (test : Bool) (s : State) : State :=
  match y.item? with
  | some k => insertItem k (.zone z) test .absent false s
  | none => s

/-- A new reported state that withdraws the GRANTED entries to the zone (R22, R129). -/
def AirState.withdraws (y : AirState) : Bool := y == .danger || y == .trip || y == .unknown

/-- A zone's reported air state change from `x` to `y` handed on (R22). -/
def handReported (z : Fin 32) (x y : AirState) (s : State) : State :=
  if x = y then s
  else
    let s1 := insertZoneItem z y ((s.zone z).real != y) (endZoneItem z x s)
    if y.withdraws then withdrawEntriesTo z s1 else s1

/-- The test mark that the zone's ACTIVE item carries made true, where it differs (R24). -/
def updateTestMark (z : Fin 32) (s : State) : State :=
  match (s.zone z).reported.item? with
  | none => s
  | some k =>
    match s.item k (.zone z) with
    | none => s
    | some it =>
      let test := (s.zone z).reported != (s.zone z).real
      if it.condition = .active ∧ it.test ≠ test then insertItem k (.zone z) test .absent false s else s

/-- A zone's real air state change from `x` to `y` handed on: the trip line, then REV, then RST (R23; log 6). -/
def handReal (z : Fin 32) (x y : AirState) (s : State) : State :=
  if x = y then s else exposeRise z x y (evacuateByAir z x y (judgeZoneLine z s))

/-- The air states of a zone recomputed, and each change acted on (R21). -/
def recomputeZone (z : Fin 32) (s : State) : State :=
  let old := s.zone z
  let reported := s.reportedAir z
  let real := s.realAir z
  if reported = old.reported ∧ real = old.real then s
  else
    let s1 := s.modifyZone z (fun r => { r with reported := reported, real := real })
    handReal z old.real real (updateTestMark z (handReported z old.reported reported s1))

/-- A zone that may be absent recomputed. -/
def recomputeZone? (z : Option (Fin 32)) (s : State) : State :=
  match z with
  | some z => recomputeZone z s
  | none => s

/-- The monitored flag and the air states of a zone recomputed after a channel was bound or moved (R19). -/
def rebindZone (z : Option (Fin 32)) (s : State) : State :=
  match z with
  | some z => recomputeZone z (s.modifyZone z (fun r => { r with monitored := s.isBound z }))
  | none => s

/-- A change of a channel record; a change of its reported or real state is taken by the zone table (R21, R105). -/
def changeChannel (c : Fin 32) (f : Channel → Channel) (s : State) : State :=
  let old := s.channel c
  let new := f old
  let s1 := s.modifyChannel c f
  if new.reported = old.reported ∧ new.real = old.real then s1 else recomputeZone? new.zone s1

/-! ## Vehicle limits (R31, R32) -/

/-- A zone record whose pending vehicle limit is made active (R31). -/
def Zone.withLimitApplied (r : Zone) : Zone :=
  match r.pendingLimit with
  | some n => { r with limit := n, pendingLimit := none }
  | none => r

/-- Every zone's pending vehicle limit made active (R31). -/
def applyLimits (s : State) : State := { s with znt := { s.znt with zones := s.znt.zones.map Zone.withLimitApplied } }

/-- SET_VEHICLE_LIMIT (R32). -/
def reqSetVehicleLimit (zone limit : Byte) (s : State) : State :=
  match key? 32 zone with
  | none => s.refuse .badArgument
  | some z =>
    if within 0 4 limit.toNat then
      match s.hpt.phase with
      | .setup => (s.modifyZone z (fun r => { r with limit := limit.toNat, pendingLimit := none })).done
      | .running => (s.modifyZone z (fun r => { r with pendingLimit := some limit.toNat })).done
    else s.refuse .badArgument

/-! ## Setup (R33) -/

/-- An auto-evacuation level argument: DANGER or TRIP, as an air state (R33, R185). -/
def autoLevel? (b : Byte) : Option AirState :=
  match AirState.ofByte? b with
  | some .danger => some .danger
  | some .trip => some .trip
  | some .clear | some .caution | some .unknown | none => none

/-- SET_ZONE (R33). -/
def reqSetZone (zone kind limit level refuge line : Byte) (s : State) : State :=
  match key? 32 zone, ZoneKind.ofByte? kind, autoLevel? level, optionalKey? 8 refuge, optionalKey? 8 line with
  | some z, some k, some l, some r, some t =>
    if within 0 4 limit.toNat then
      (s.modifyZone z (fun x => { x with
        configured := true, kind := k, limit := limit.toNat, pendingLimit := none, autoLevel := l, refuge := r,
        tripLine := t })).done
    else s.refuse .badArgument
  | _, _, _, _, _ => s.refuse .badArgument

/-! ## Handed events -/

/-- The frame start's pending limits, taken where it waits (R31; log 3). -/
def takeLimits (s : State) : State :=
  if s.handed.limits then applyLimits { s with handed := { s.handed with limits := false } } else s

/-- VEHICLE_LIMIT_APPLY (R31). -/
def execVehicleLimitApply (s : State) : Host.Outcome State Fault Refusal := .next (unlessReset takeLimits s)

end Sys2Proof.Machine
end

