-- ==== Sys2Proof/Machine/Channels.lean ====
section
/-! DEFINITION. Channel records (chapter 6, sections 6.3 to 6.9): levels, the judgement of a reading, faults, the trip latch,
tests, and the channel requests. -/

namespace Sys2Proof.Machine

/-! ## Levels (R98) -/

/-- A rising gas: a higher reading is worse (R97, R98). -/
def Gas.isRising (g : Gas) : Bool := g == .methane || g == .carbonMonoxide

/-- A reading is beyond a level (R98). -/
def isBeyond (g : Gas) (level v : Nat) : Bool := if g.isRising then decide (level ≤ v) else decide (v ≤ level)

/-- A reading is back within a level (R98). -/
def isBackWithin (g : Gas) (level hysteresis v : Nat) : Bool :=
  if g.isRising then decide (v + hysteresis < level) else decide (level + hysteresis < v)

/-- A set of levels is well ordered for a gas kind (R98). -/
def wellOrdered (g : Gas) (caution danger : Nat) (trip : Option Nat) : Bool :=
  match g with
  | .methane =>
    match trip with
    | some t => decide (caution < danger ∧ danger < t)
    | none => false
  | .carbonMonoxide => decide (caution < danger)
  | .oxygen | .airflow => decide (danger < caution)

/-- A reading is a rail value (R89). -/
def isRail (v : Byte) : Bool := v == 0 || v == 255

/-- A reading is at or above the trip level of a channel that has one (R94, R104). -/
def Channel.isAtTrip (c : Channel) (v : Byte) : Bool :=
  match c.tripLevel with
  | some t => decide (t ≤ v.toNat)
  | none => false

/-! ## Runs (R103) -/

/-- A channel record with its run NONE. -/
def Channel.runCleared (c : Channel) : Channel := { c with run := .noRun, runCount := 0 }

/-- The place of a state that runs change in NORMAL < CAUTION < DANGER. -/
def ChannelState.grade (x : ChannelState) : Nat :=
  match x with
  | .caution => 1
  | .danger => 2
  | .trip => 3
  | .normal | .off | .warmup | .fault => 0

/-- The less severe of two targets. -/
def milder (a b : ChannelState) : ChannelState := if b.grade < a.grade then b else a

/-- The target of a reading (R103). -/
def Channel.target (c : Channel) (v : Byte) : ChannelState :=
  if isBeyond c.gas c.levels.danger v.toNat then .danger
  else if isBeyond c.gas c.levels.caution v.toNat then .caution
  else .normal

/-- A reading is back within the level of the present state (R103). -/
def Channel.isReturning (c : Channel) (v : Byte) : Bool :=
  match c.real with
  | .caution => isBackWithin c.gas c.levels.caution c.hysteresis v.toNat
  | .danger => isBackWithin c.gas c.levels.danger c.hysteresis v.toNat
  | .off | .warmup | .normal | .trip | .fault => false

/-- A channel record whose run a good reading has judged (R103). -/
def Channel.runJudged (c : Channel) (v : Byte) : Channel :=
  if c.real.grade < (c.target v).grade then
    match c.run with
    | .rise t => { c with run := .rise (milder t (c.target v)), runCount := c.runCount + 1 }
    | .noRun | .fall => { c with run := .rise (c.target v), runCount := 1 }
  else if c.isReturning v then
    match c.run with
    | .fall => { c with runCount := c.runCount + 1 }
    | .noRun | .rise _ => { c with run := .fall, runCount := 1 }
  else c.runCleared

/-- One level lower (R103). -/
def ChannelState.lowered (x : ChannelState) : ChannelState :=
  match x with
  | .danger => .caution
  | .caution => .normal
  | .off | .warmup | .normal | .trip | .fault => x

/-- A channel state that runs change. -/
def ChannelState.isJudged (x : ChannelState) : Bool := x == .normal || x == .caution || x == .danger

/-- A channel record whose run has changed its state (R103). -/
def Channel.ranOut (c : Channel) : Channel :=
  match c.run with
  | .rise t => { c.runCleared with real := t }
  | .fall => { c.runCleared with real := c.real.lowered }
  | .noRun => c

/-- A channel's run count judged against its persistence (R103). -/
def judgeRun (c : Fin 32) (s : State) : State :=
  let r := s.channel c
  if r.real.isJudged = true ∧ r.persistence ≤ r.runCount then changeChannel c Channel.ranOut s else s

/-! ## Warmup and fault (R99 to R102) -/

/-- A channel's warmup count judged: at 4 the state becomes NORMAL (R99). -/
def judgeWarmup (c : Fin 32) (s : State) : State :=
  let r := s.channel c
  if r.real = .warmup ∧ Config.warmupReadings ≤ r.warmupCount then
    changeChannel c (fun r => { r.runCleared with real := .normal }) s
  else s

/-- A channel record in FAULT becomes NORMAL; one in TRIP stays TRIP (R102). -/
def Channel.faultCleared (r : Channel) : Channel :=
  if r.real = .fault then { r.runCleared with real := .normal, faultFlag := false, goodCount := 0 }
  else { r with faultFlag := false, goodCount := 0 }

/-- A channel's good count judged against its persistence: the zone table first, CHANNEL_FAULT second (R102, R105). -/
def judgeFaultClear (c : Fin 32) (s : State) : State :=
  let r := s.channel c
  if r.faultFlag = true ∧ r.persistence ≤ r.goodCount then
    endItem .channelFault (.channel c) (changeChannel c Channel.faultCleared s)
  else s

/-- A channel record that a rail value has faulted (R101). -/
def Channel.faulted (r : Channel) : Channel :=
  { r.runCleared with
    faultFlag := true, goodCount := 0, warmupCount := 0, real := if r.real = .trip then .trip else .fault }

/-- A rail value handed to a channel that is not OFF (R101, R105). -/
def takeRail (c : Fin 32) (s : State) : State :=
  if (s.channel c).faultFlag then s.modifyChannel c (fun r => { r with goodCount := 0 })
  else raiseItem .channelFault (.channel c) (changeChannel c Channel.faulted s)

/-! ## The judgement of a reading (R99) -/

/-- A METHANE channel put on the confirm list (R104). -/
def appendConfirm (c : Fin 32) (s : State) : State :=
  let s1 := s.modifyChannel c (fun r => { r with confirmPending := true })
  if s.air.confirmList.contains c then s1 else { s1 with air := { s1.air with confirmList := s1.air.confirmList ++ [c] } }

/-- A good reading in the reading field (R100). -/
def Channel.withReading (r : Channel) (v : Byte) : Channel := { r with reading := some v.toNat }

/-- A good reading handed to a channel (R99, R102 to R104). -/
def takeGood (inGroup : Bool) (c : Fin 32) (v : Byte) (s : State) : State :=
  let r := s.channel c
  match r.real with
  | .off => s
  | .warmup =>
    judgeWarmup c (s.modifyChannel c (fun r => { r.withReading v with warmupCount := r.warmupCount + 1 }))
  | .fault => judgeFaultClear c (s.modifyChannel c (fun r => { r.withReading v with goodCount := r.goodCount + 1 }))
  | .trip =>
    if r.faultFlag then
      judgeFaultClear c (s.modifyChannel c (fun r => { r.withReading v with goodCount := r.goodCount + 1 }))
    else s.modifyChannel c (fun r => r.withReading v)
  | .normal | .caution | .danger =>
    if inGroup = true ∧ r.gas = .methane ∧ r.isAtTrip v = true then
      appendConfirm c (s.modifyChannel c (fun r => r.withReading v))
    else judgeRun c (s.modifyChannel c (fun r => (r.withReading v).runJudged v))

/-- A reading handed to a channel's judgement, from a group sweep or from a confirm sweep (R99). -/
def takeReading (inGroup : Bool) (c : Fin 32) (v : Byte) (s : State) : State :=
  if (s.channel c).real = .off then s else if isRail v then takeRail c s else takeGood inGroup c v s

/-! ## Tests (R108, R109) -/

/-- A channel's test removed where its count has reached 0 (R109). -/
def judgeTest (c : Fin 32) (s : State) : State :=
  match (s.channel c).test with
  | some t => if t.remaining = 0 then changeChannel c (fun r => { r with test := none }) s else s
  | none => s

/-- The end of a sweep that handed a channel a reading, at its test (R109; log 16). -/
def countTest (c : Fin 32) (s : State) : State :=
  judgeTest c (s.modifyChannel c (fun r =>
    { r with test := r.test.map (fun t => { t with remaining := t.remaining - 1 }) }))

/-- A request that names a channel. -/
def withChannel (channel : Byte) (f : Fin 32 → Channel → State → State) (s : State) : State :=
  match key? 32 channel with
  | none => s.refuse .badArgument
  | some c => f c (s.channel c) s

/-- A forced state argument: CAUTION, DANGER or TRIP, as a channel state (R108, R185). -/
def forced? (b : Byte) : Option ChannelState :=
  match ChannelState.ofByte? b with
  | some .caution => some .caution
  | some .danger => some .danger
  | some .trip => some .trip
  | some .off | some .warmup | some .normal | some .fault | none => none

/-- TEST_CHANNEL (R108). -/
def reqTestChannel (channel forced sweeps : Byte) (s : State) : State :=
  match forced? forced with
  | none => s.refuse .badArgument
  | some x =>
    if sweeps = 0 then s.refuse .badArgument
    else withChannel channel (fun c r s =>
      if r.real = .off ∨ r.real = .trip then s.refuse .refused
      else (changeChannel c (fun r => { r with test := some { forced := x, remaining := sweeps.toNat } }) s).done) s

/-- CANCEL_TEST (R109). -/
def reqCancelTest (channel : Byte) (s : State) : State :=
  withChannel channel (fun c r s =>
    match r.test with
    | none => s.refuse .noRecord
    | some _ => (changeChannel c (fun r => { r with test := none }) s).done) s

/-! ## The trip latch (R106) -/

/-- A channel record tripped by a confirm sweep, its test removed (R94, R106). -/
def Channel.tripped (r : Channel) (reading : Option Nat) : Channel :=
  { r.runCleared with real := .trip, test := none, reading := reading }

/-- A reading refuses RESET_TRIP: it is at or above the caution level, or there is none (R106; log 26). -/
def Channel.holdsTrip (r : Channel) : Bool :=
  match r.reading with
  | some v => decide (r.levels.caution ≤ v)
  | none => true

/-- RESET_TRIP (R106). -/
def reqResetTrip (channel : Byte) (s : State) : State :=
  withChannel channel (fun c r s =>
    if r.real ≠ .trip ∨ r.faultFlag = true ∨ r.holdsTrip = true then s.refuse .refused
    else (changeChannel c (fun r => { r.runCleared with real := .normal, goodCount := 0 }) s).done) s

/-! ## Levels and setup (R107, R112) -/

/-- A channel record whose pending levels a sweep start has made active (R107). -/
def Channel.withLevelsApplied (r : Channel) : Channel :=
  match r.pendingLevels with
  | some l => { r.runCleared with levels := l, pendingLevels := none }
  | none => r

/-- A level argument in 1 to 254 (R97). -/
def validLevel (b : Byte) : Bool := within 1 254 b.toNat

/-- SET_LEVELS (R107). -/
def reqSetLevels (channel caution danger : Byte) (s : State) : State :=
  withChannel channel (fun c r s =>
    if validLevel caution && validLevel danger && wellOrdered r.gas caution.toNat danger.toNat r.tripLevel then
      let l : Levels := { caution := caution.toNat, danger := danger.toNat }
      match s.hpt.phase with
      | .setup => (s.modifyChannel c (fun r => { r with levels := l, pendingLevels := none })).done
      | .running => (s.modifyChannel c (fun r => { r with pendingLevels := some l })).done
    else s.refuse .badArgument) s

/-- A trip level argument, 0 where absent: given for METHANE and for no other gas (R112, R186). -/
def tripLevel? (g : Gas) (trip : Byte) : Option (Option Nat) :=
  match g with
  | .methane => if validLevel trip then some (some trip.toNat) else none
  | .carbonMonoxide | .oxygen | .airflow => if trip = 0 then some none else none

/-- The setup of a channel written, and the zones concerned recomputed where its zone has changed, the zone it leaves first
(R112, R19; log 27). -/
def setupChannel (c : Fin 32) (f : Channel → Channel) (s : State) : State :=
  let old := (s.channel c).zone
  let s1 := s.modifyChannel c f
  if (s1.channel c).zone = old then s1 else rebindZone (s1.channel c).zone (rebindZone old s1)

/-- SET_CHANNEL (R112). -/
def reqSetChannel (channel gas zone caution danger trip persistence hysteresis enabled : Byte) (s : State) : State :=
  match key? 32 channel, Gas.ofByte? gas, optionalKey? 32 zone, yesNo? enabled with
  | some c, some g, some z, some on =>
    match tripLevel? g trip with
    | none => s.refuse .badArgument
    | some t =>
      if (!on || z.isSome) && validLevel caution && validLevel danger && wellOrdered g caution.toNat danger.toNat t
          && within 1 7 persistence.toNat && within 0 31 hysteresis.toNat then
        (setupChannel c (fun r => { r with
          gas := g, zone := z, levels := { caution := caution.toNat, danger := danger.toNat }, pendingLevels := none,
          tripLevel := t, persistence := persistence.toNat, hysteresis := hysteresis.toNat, enabled := on }) s).done
      else s.refuse .badArgument
  | _, _, _, _ => s.refuse .badArgument

/-! ## Turning a channel on and off (R110, R111) -/

/-- A channel record going to WARMUP at START (R91). -/
def Channel.warming (r : Channel) : Channel := { r with real := .warmup, warmupCount := 0 }

/-- CHANNEL_ON (R110). -/
def reqChannelOn (channel : Byte) (s : State) : State :=
  withChannel channel (fun c r s =>
    if r.zone = none then s.refuse .badArgument
    else if r.enabled then s.done
    else
      match s.hpt.phase with
      | .setup => (s.modifyChannel c (fun r => { r with enabled := true })).done
      | .running =>
        (changeChannel c (fun r => { r.runCleared.warming with enabled := true, goodCount := 0, faultFlag := false }) s).done) s

/-- A confirm sweep of a channel aborted by CHANNEL_OFF (R111, step 1). -/
def abortConfirm (c : Fin 32) (s : State) : State :=
  if s.air.sweep = .confirm c then
    { s with air := { s.air with sweep := .noSweep, buffer := Vector.replicate 4 none, turnLive := false } }
  else s

/-- A group sweep in flight without the reading of a channel; the result of a turn on it that is under way is not stored either
(R111, step 2; R96; log 15). -/
def dropReading (c : Fin 32) (s : State) : State :=
  match s.air.sweep with
  | .group g =>
    if c.val % 8 = g.val then
      { s with air := { s.air with
          buffer := s.air.buffer.set (Fin.ofNat 4 (c.val / 8)) none
          turnLive := s.air.turnLive && s.air.turnsDone != c.val / 8 } }
    else s
  | .confirm _ | .noSweep => s

/-- A channel off the confirm list (R94, R111). -/
def leaveConfirmList (c : Fin 32) (s : State) : State :=
  { s with air := { s.air with confirmList := s.air.confirmList.filter (fun d => d != c) } }.modifyChannel c
    (fun r => { r with confirmPending := false })

/-- A channel record turned off; the reading field keeps the last good reading (R111, step 3). -/
def Channel.turnedOff (r : Channel) : Channel :=
  { r.runCleared with enabled := false, real := .off, warmupCount := 0, goodCount := 0, test := none }

/-- A channel turned off, in the steps of R111. -/
def turnOff (c : Fin 32) (s : State) : State :=
  let s1 := dropReading c (leaveConfirmList c (abortConfirm c s))
  let s2 := changeChannel c Channel.turnedOff s1
  if (s.channel c).faultFlag then
    endItem .channelFault (.channel c) (s2.modifyChannel c (fun r => { r with faultFlag := false }))
  else s2

/-- CHANNEL_OFF (R111). -/
def reqChannelOff (channel : Byte) (s : State) : State :=
  withChannel channel (fun c r s =>
    if r.real = .trip then s.refuse .refused else if r.enabled then (turnOff c s).done else s.done) s

/-! ## Judgements of one channel (log 5) -/

/-- WARMUP_END: the judgement of a warmup count (R99; log 5). -/
def execWarmupEnd (channel : Fin 32) (s : State) : Host.Outcome State Fault Refusal :=
  .next (unlessReset (judgeWarmup channel) s)

/-- FAULT_CLEAR: the judgement of a good count (R102; log 5). -/
def execFaultClear (channel : Fin 32) (s : State) : Host.Outcome State Fault Refusal :=
  .next (unlessReset (judgeFaultClear channel) s)

/-- RUN_STATE_CHANGE: the judgement of a run count (R103; log 5). -/
def execRunStateChange (channel : Fin 32) (s : State) : Host.Outcome State Fault Refusal :=
  .next (unlessReset (judgeRun channel) s)

/-- TEST_EXPIRY: the judgement of a test's sweeps remaining (R109; log 5). -/
def execTestExpiry (channel : Fin 32) (s : State) : Host.Outcome State Fault Refusal :=
  .next (unlessReset (judgeTest channel) s)

end Sys2Proof.Machine
end

