-- ==== Sys2Proof/Machine/Sequencer.lean ====
section
/-! DEFINITION. The sweep sequencer (chapter 6, sections 6.1 and 6.2): the choice of a sweep, its turns and its end. -/

namespace Sys2Proof.Machine

/-! ## Turns (R89, R93) -/

/-- The channel of a group at a selector position (R89). -/
def channelOf (g : Fin 8) (position : Fin 4) : Fin 32 := Fin.ofNat 32 (g.val + 8 * position.val)

/-- The channel that a sweep converts at its turn k (R93, R94). -/
def Sweep.channelAt (w : Sweep) (k : Nat) : Option (Fin 32) :=
  match w with
  | .noSweep => none
  | .group g => some (channelOf g (Fin.ofNat 4 k))
  | .confirm c => some c

/-- A channel is converted by a sweep (R107, R113). -/
def Sweep.converts (w : Sweep) (c : Fin 32) : Bool :=
  match w with
  | .noSweep => false
  | .group g => c.val % 8 == g.val
  | .confirm d => c == d

/-- A conversion turn begun: the select lines driven to its channel's position (R89). -/
def beginTurn (s : State) : State :=
  match s.air.sweep.channelAt s.air.turnsDone with
  | some c => { s with air := { s.air with select := Fin.ofNat 4 (c.val / 8), turnLive := (s.channel c).enabled } }
  | none => s

/-! ## The choice of a sweep (R92) -/

/-- The first group of a set after a group, counting upward and wrapping from 7 to 0, that group itself last (R92). -/
def nextGroup (groups : BitVec 8) (last : Fin 8) : Option (Fin 8) :=
  ((List.range 8).map (fun k => Fin.ofNat 8 (last.val + 1 + k))).find? (inGroupSet groups)

/-- The group that a set gives: the resume group where it is in the set, or the next after the last swept (R92). -/
def chosenGroup (groups : BitVec 8) (s : State) : Option (Fin 8) :=
  match s.air.resume with
  | some g => if inGroupSet groups g then some g else nextGroup groups s.air.lastGroup
  | none => nextGroup groups s.air.lastGroup

/-- A sweep started: the buffer cleared, no turn done, the pending levels of its channels applied, its first turn begun (R92,
R107). -/
def startSweep (w : Sweep) (s : State) : State :=
  let s1 := { s with air := { s.air with sweep := w, buffer := Vector.replicate 4 none, turnsDone := 0 } }
  beginTurn (forEach (allChannels.filter w.converts) (fun c => State.modifyChannel c Channel.withLevelsApplied) s1)

/-- A group sweep of a set started where the set gives a group; the resume group is cleared in either case (R92; log 22). -/
def startGroup (groups : BitVec 8) (s : State) : State :=
  let s1 := { s with air := { s.air with resume := none } }
  match chosenGroup groups s with
  | some g => startSweep (.group g) s1
  | none => s1

/-- A slot start at the sequencer: a sweep chosen and started where none is in flight (R92). -/
def sweepAtSlotStart (s : State) : State :=
  if s.air.sweep = .noSweep ∧ s.air.mode ≠ .idle then
    match s.air.confirmList with
    | c :: _ => startSweep (.confirm c) s
    | [] =>
      match s.air.mode with
      | .scan => startGroup s.air.enableSet s
      | .once => startGroup s.air.onceSet s
      | .idle | .paused => s
  else s

/-! ## The end of a sweep (R93, R94) -/

/-- A reading of a group sweep taken to its channel, where its buffer entry holds one and the channel is still enabled; its
test is counted (R93, R109; log 16). -/
def takeGroupReading (g : Fin 8) (k : Fin 4) (s : State) : State :=
  let c := channelOf g k
  match s.air.buffer[k] with
  | some v => if (s.channel c).enabled then countTest c (takeReading true c v s) else s
  | none => s

/-- The group schedule after a group sweep (R93). -/
def advanceSchedule (g : Fin 8) (s : State) : State :=
  let rest := withoutGroup s.air.onceSet g
  match s.air.mode with
  | .once =>
    { s with air := { s.air with
        lastGroup := g, onceSet := rest, mode := if rest = 0 then .paused else .once, sweep := .noSweep } }
  | .scan | .paused | .idle => { s with air := { s.air with lastGroup := g, sweep := .noSweep } }

/-- The end of a group sweep (R93). -/
def endGroupSweep (g : Fin 8) (s : State) : State :=
  advanceSchedule g (forEach (List.finRange 4) (takeGroupReading g) s)

/-- The readings that a sweep buffer holds, in the order of their turns. -/
def State.readings (s : State) : List Byte := s.air.buffer.toList.filterMap id

/-- The trip count of a channel's four readings (R94). -/
def Channel.tripCount (r : Channel) (l : List Byte) : Nat := l.countP (fun v => !isRail v && r.isAtTrip v)

/-- The last good reading of a list, none where it holds none (R94). -/
def lastGood (l : List Byte) : Option Nat := (l.reverse.find? (fun v => !isRail v)).map BitVec.toNat

/-- A confirm sweep's decision to trip: TRIP, then the fault flag where a reading was a rail value (R94, R106). -/
def confirmTrip (c : Fin 32) (l : List Byte) (s : State) : State :=
  let s1 := changeChannel c (fun r => r.tripped (lastGood l)) s
  if l.any isRail then takeRail c s1 else s1

/-- The end of a confirm sweep (R94). -/
def endConfirmSweep (c : Fin 32) (s : State) : State :=
  let l := s.readings
  let s1 := leaveConfirmList c s
  let s2 :=
    if 3 ≤ (s1.channel c).tripCount l then confirmTrip c l s1
    else countTest c (forEach l (fun v => takeReading false c v) s1)
  { s2 with air := { s2.air with sweep := .noSweep } }

/-- The end of the sweep in flight. -/
def endSweep (s : State) : State :=
  match s.air.sweep with
  | .noSweep => s
  | .group g => endGroupSweep g s
  | .confirm c => endConfirmSweep c s

/-- A turn's result stored in its buffer entry, where its channel was enabled when the turn began (R93). -/
def storeResult (count : Byte) (s : State) : State :=
  { s with air := { s.air with
      buffer := if s.air.turnLive then s.air.buffer.set (Fin.ofNat 4 s.air.turnsDone) (some count) else s.air.buffer
      turnsDone := s.air.turnsDone + 1 } }

/-- A conversion completion of the turn under way; without a sweep in flight there is none, and it is discarded (R89, R90). -/
def completeTurn (count : Byte) (s : State) : State :=
  if s.air.sweep = .noSweep then s
  else
    let s1 := storeResult count s
    if s1.air.turnsDone < 4 then beginTurn s1 else endSweep s1

/-! ## Requests (R91, R95) -/

/-- The sweep in flight aborted (R95, step 1). -/
def abortSweep (s : State) : State :=
  match s.air.sweep with
  | .noSweep => s
  | .group g =>
    { s with air := { s.air with
        sweep := .noSweep, buffer := Vector.replicate 4 none, turnLive := false, resume := some g } }
  | .confirm _ => { s with air := { s.air with sweep := .noSweep, buffer := Vector.replicate 4 none, turnLive := false } }

/-- The group enable set and the mode written (R95, steps 2 and 3). -/
def writeMode (mode : SequencerMode) (groups : BitVec 8) (s : State) : State :=
  match mode with
  | .once =>
    { s with air := { s.air with enableSet := groups, onceSet := groups, mode := if groups = 0 then .paused else .once } }
  | .scan | .paused | .idle => { s with air := { s.air with enableSet := groups, onceSet := 0, mode := mode } }

/-- AIR_CONTROL (R95). -/
def reqAirControl (mode groups : Byte) (s : State) : State :=
  match SequencerMode.ofByte? mode with
  | some .scan => (writeMode .scan groups (abortSweep s)).done
  | some .once => (writeMode .once groups (abortSweep s)).done
  | some .paused => (writeMode .paused groups (abortSweep s)).done
  | some .idle | none => s.refuse .badArgument

/-- The sequencer at START: SCAN over all groups, and every enabled channel from OFF to WARMUP (R91). -/
def startSequencer (s : State) : State :=
  let s1 := { s with air := { s.air with
    mode := .scan, enableSet := 0xff, lastGroup := 7, resume := none, onceSet := 0 } }
  forEach (allChannels.filter (fun c => (s.channel c).enabled && (s.channel c).real == .off))
    (fun c => changeChannel c Channel.warming) s1

/-! ## Events -/

/-- The slot start, taken where it waits (R92; log 3). -/
def takeSweep (s : State) : State :=
  if s.handed.sweep then sweepAtSlotStart { s with handed := { s.handed with sweep := false } } else s

/-- SWEEP_START (R92). -/
def execSweepStart (s : State) : Host.Outcome State Fault Refusal := .next (unlessReset takeSweep s)

/-- CONVERSION_COMPLETION: the completion of an abandoned turn is discarded (R89, R90, R95; log 15). -/
def execConversionCompletion (count : Byte) (abandoned : Bool) (s : State) : Host.Outcome State Fault Refusal :=
  .next (unlessReset (fun s => if abandoned then s else completeTurn count s) s)

end Sys2Proof.Machine
end

