-- ==== Sys2Proof/Machine/Frame.lean ====
section
/-! DEFINITION. The frame timer (chapter 1): the slot strobe, the frame pulse, windows, lock, MARK, cadence, the beacon, and
the frame requests. -/

namespace Sys2Proof.Machine

/-! ## Notices and lock (R6, R12) -/

/-- The lock state written; a change raises LOCK (R6). -/
def setLock (x : LockState) (s : State) : State :=
  if s.frt.lock = x then s else { s with frt := { s.frt with lock := x } }.notify .lock

/-- The lock state of a count run of 1 or more (R6). -/
def lockOfRun (run : Nat) : LockState := if run < 4 then .seeking else .lost

/-- Lock judged on the current frame (R6). -/
def judgeLock (s : State) : State :=
  if s.frt.pulseSeen then setLock .locked { s with frt := { s.frt with countRun := 0 } }
  else
    match s.frt.beginKind with
    | .count =>
      let run := min 4 (s.frt.countRun + 1)
      setLock (lockOfRun run) { s with frt := { s.frt with countRun := run } }
    | .start | .pulse => s

/-- Lock judged at the slot start of slot 1, in PULSED mode (R6). -/
def judgeLockAtSlot (s : State) : State := if s.frt.slot = 1 ∧ s.frt.sync = .pulsed then judgeLock s else s

/-- The slot start of the mark slot raises MARK (R12). -/
def markSlotStart (s : State) : State := if s.frt.markSlot = some s.frt.slot then s.notify .mark else s

/-! ## Frame starts (R5, R9, R13, R15) -/

/-- The pending windows made active; the new usable channel count is handed to the call unit (R9). -/
def applyWindows (s : State) : State :=
  match s.frt.pendingWindows with
  | some w =>
    { s with frt := { s.frt with active := w, pendingWindows := none }, handed := { s.handed with usable := true } }
  | none => s

/-- A transition of a bit makes a cadence edge (R13). -/
def CadenceEdge.isMade (e : CadenceEdge) (before after : Bool) : Bool :=
  match e with
  | .rising => !before && after
  | .falling => before && !after
  | .both => before != after

/-- The cadence event of a frame number: the cadence bit of it and of the number before it (R13). -/
def isCadence (t : FrameTimer) (frame : Frame) : Bool :=
  t.cadenceEdge.isMade ((frame - 1).getLsbD t.cadenceBit) (frame.getLsbD t.cadenceBit)

/-- The evacuation list of a beacon: each ORDERED zone and its refuge, ascending (R15). -/
def State.evacuationList (s : State) : List (Fin 32 × Option (Fin 8)) :=
  (allZones.filter (fun z => (s.zone z).evac == .ordered)).map (fun z => (z, (s.zone z).refuge))

/-- The beacon of the current frame, each field as its owner holds it (R15). -/
def beaconOf (s : State) : Beacon :=
  { frame := s.frt.frame, lock := s.frt.lock, alone := s.hlk.alone, evacuation := s.evacuationList,
    alerts := (roundLists s).1, pages := (roundLists s).2.1 }

/-- The beacon built and handed to the field link; the round in progress has supplied its lists and moves on (R15, R145). -/
def buildBeacon (s : State) : State := advanceRound (writeHolding (.beacon (beaconOf s)) s)

/-- The frame start handed to the blocks that act on it, with its cadence event (R5, R13; log 3). -/
def handFrameStart (cadence : Bool) (s : State) : State :=
  { s with handed := { s.handed with
      walk := true, escort := true, exposure := true, panel := true, round := cadence, callWait := true, pollFlags := true,
      silence := true, limits := true } }

/-- A frame start: pending windows, cadence, beacon, and then the blocks (R5); frame 0 after START makes no cadence event
(R13). -/
def frameStart (first : Bool) (s : State) : State :=
  let s1 := buildBeacon (applyWindows s)
  handFrameStart (!first && isCadence s1.frt s1.frt.frame) s1

/-- The slot start handed to the blocks that act on it, by its class (R8; log 3). -/
def handSlotStart (s : State) : State :=
  { s with handed := { s.handed with
      sweep := true, poll := s.slotClass == .haul, hold := s.slotClass == .voice, check := true } }

/-- The slot start of the current slot: MARK, lock at slot 1, and then the blocks (R6, R8, R12). -/
def slotStart (s : State) : State := handSlotStart (judgeLockAtSlot (markSlotStart s))

/-! ## Slot strobe and frame pulse (R2 to R4) -/

/-- The events of the last slot strobe that still wait, taken before the next one (R5; log 4). -/
def takeHanded (s : State) : State :=
  takeCheck (takeHold (takePoll (takeSweep (takeLimits (takeSilence (takePollFlags (takeCallWait (takeUsable
    (takeRound (takePanel (takeExposure (takeEscort (takeWalk s)))))))))))))

/-- Slot 0 of a frame begun, with its frame number, begin kind and pulse seen (R2, R3). -/
def beginFrame (frame : Frame) (kind : BeginKind) (s : State) : State :=
  { s with frt := { s.frt with
      timer := .counting, slot := 0, frame := frame, beginKind := kind, pulseSeen := kind == .pulse,
      restartPending := false } }

/-- The first slot strobe after START: frame 0 (R2). -/
def strobeArmed (s : State) : State :=
  slotStart (frameStart true (beginFrame 0 (if s.frt.restartPending then .pulse else .start) s))

/-- A slot strobe that begins a new frame (R3). -/
def strobeNewFrame (kind : BeginKind) (s : State) : State :=
  slotStart (frameStart false (beginFrame (s.frt.frame + 1) kind s))

/-- A slot strobe within a frame (R3). -/
def strobeWithin (s : State) : State := slotStart { s with frt := { s.frt with slot := s.frt.slot + 1 } }

/-- A slot strobe taken while COUNTING (R3). -/
def strobeCounting (s : State) : State :=
  if s.frt.restartPending then strobeNewFrame .pulse s
  else if s.frt.slot + 1 = s.frt.total then strobeNewFrame .count s
  else strobeWithin s

/-- A slot strobe (R1 to R3). -/
def strobe (s : State) : State :=
  match s.frt.timer with
  | .stopped => s
  | .armed => strobeArmed s
  | .counting => strobeCounting (takeHanded s)

/-- A frame pulse (R1, R2, R4). -/
def pulse (s : State) : State :=
  match s.frt.sync, s.frt.timer with
  | .free, _ => s
  | .pulsed, .stopped => s
  | .pulsed, .armed => { s with frt := { s.frt with restartPending := true } }
  | .pulsed, .counting =>
    if s.frt.slot = 0 then { s with frt := { s.frt with pulseSeen := true } }
    else { s with frt := { s.frt with restartPending := true } }

/-- The frame timer at START (R2). -/
def armTimer (s : State) : State :=
  let s1 := { s with frt := { s.frt with timer := .armed, slot := 0, frame := 0, restartPending := false, countRun := 0 } }
  match s.frt.sync with
  | .pulsed => setLock .seeking s1
  | .free => s1

/-! ## Requests (R10 to R16) -/

/-- The window order and the length of the haul window (R11, R180). -/
def Windows.areOrdered (w : Windows) (total : Nat) : Bool :=
  decide (1 ≤ w.tagEnd ∧ w.tagEnd ≤ w.haulStart ∧ w.haulStart ≤ w.haulEnd ∧ w.haulEnd ≤ w.callStart ∧ w.callStart ≤ w.callEnd
    ∧ w.callEnd ≤ total ∧ w.haulEnd - w.haulStart ≤ 24)

/-- Five bounds as they are sent (R10, R11). -/
def windowsOf (tagEnd haulStart haulEnd callStart callEnd : Word16) : Windows :=
  { tagEnd := tagEnd.toNat, haulStart := haulStart.toNat, haulEnd := haulEnd.toNat, callStart := callStart.toNat,
    callEnd := callEnd.toNat }

/-- Every bound lies in 0 to 1024 (R10). -/
def Windows.areInRange (w : Windows) : Bool :=
  decide (w.tagEnd ≤ 1024 ∧ w.haulStart ≤ 1024 ∧ w.haulEnd ≤ 1024 ∧ w.callStart ≤ 1024 ∧ w.callEnd ≤ 1024)

/-- The mark slot, where present, is below a total (R10). -/
def State.markFits (s : State) (total : Nat) : Bool :=
  match s.frt.markSlot with
  | some m => decide (m < total)
  | none => true

/-- The active windows written, and the usable channel count that follows at once (R11, R155). -/
def writeWindows (w : Windows) (s : State) : State :=
  { s with frt := { s.frt with active := w }, cal := { s.cal with usable := usableChannels w } }

/-- SET_FRAME (R10). -/
def reqSetFrame (total tagEnd haulStart haulEnd callStart callEnd : Word16) (sync : Byte) (s : State) : State :=
  let w := windowsOf tagEnd haulStart haulEnd callStart callEnd
  match SyncMode.ofByte? sync with
  | none => s.refuse .badArgument
  | some m =>
    if within 64 1024 total.toNat && w.areInRange && s.markFits total.toNat then
      (writeWindows w { s with frt := { s.frt with total := total.toNat, sync := m } }).done
    else s.refuse .badArgument

/-- SET_WINDOWS (R11). -/
def reqSetWindows (tagEnd haulStart haulEnd callStart callEnd : Word16) (s : State) : State :=
  let w := windowsOf tagEnd haulStart haulEnd callStart callEnd
  if w.areOrdered s.frt.total then
    match s.frt.timer with
    | .stopped => (writeWindows w s).done
    | .armed | .counting => { s with frt := { s.frt with pendingWindows := some w } }.done
  else s.refuse .badArgument

/-- SET_MARK; 65535 is absent (R12, R186). -/
def reqSetMark (slot : Word16) (s : State) : State :=
  if slot = 0xffff then { s with frt := { s.frt with markSlot := none } }.done
  else if slot.toNat < s.frt.total then { s with frt := { s.frt with markSlot := some slot.toNat } }.done
  else s.refuse .badArgument

/-- SET_CADENCE (R14). -/
def reqSetCadence (bit edge : Byte) (s : State) : State :=
  match CadenceEdge.ofByte? edge with
  | some e =>
    if bit.toNat ≤ 7 then { s with frt := { s.frt with cadenceBit := bit.toNat, cadenceEdge := e } }.done
    else s.refuse .badArgument
  | none => s.refuse .badArgument

/-- Five window bounds as they are sent (R16, R185). -/
def Windows.bytes (w : Windows) : List Byte :=
  twoBytes w.tagEnd ++ twoBytes w.haulStart ++ twoBytes w.haulEnd ++ twoBytes w.callStart ++ twoBytes w.callEnd

/-- Five pending window bounds as they are sent, after a presence byte (R16, R185). -/
def pendingBytes (w : Option Windows) : List Byte :=
  match w with
  | some w => 1 :: w.bytes
  | none => List.replicate 11 0

/-- A mark slot as it is sent, 65535 where absent (R16, R186; log 10). -/
def markBytes (m : Option Nat) : List Byte :=
  match m with
  | some n => twoBytes n
  | none => [255, 255]

/-- The frame timer as READ_FRAME gives it (R16). -/
def frameBytes (s : State) : List Byte :=
  [s.frt.timer.code] ++ bytes16 s.frt.frame ++ twoBytes s.frt.slot ++ [s.slotClass.code] ++ twoBytes s.frt.total
    ++ [s.frt.sync.code, s.frt.lock.code, byteOf s.frt.countRun, s.frt.beginKind.code, yesNo s.frt.pulseSeen]
    ++ s.frt.active.bytes ++ pendingBytes s.frt.pendingWindows ++ markBytes s.frt.markSlot
    ++ [byteOf s.frt.cadenceBit, s.frt.cadenceEdge.code]

/-- READ_FRAME (R16). -/
def reqReadFrame (s : State) : State := s.reply .done (frameBytes s)

/-! ## Events -/

/-- SLOT_STROBE (R2, R3). -/
def execSlotStrobe (s : State) : Host.Outcome State Fault Refusal := .next (unlessReset strobe s)

/-- FRAME_PULSE (R2, R4). -/
def execFramePulse (s : State) : Host.Outcome State Fault Refusal := .next (unlessReset pulse s)

end Sys2Proof.Machine
end

