-- ==== Sys2Proof/Machine/Records.lean ====
section
/-! DEFINITION. The records as the read requests give them, field by field in the order of R34, R74, R113, R136 and R154, and
the requests that read one record. -/

namespace Sys2Proof.Machine

/-- A due mark as it is sent: a presence byte and the stamp (R185; log 11). -/
def dueBytes (k : ItemKind) (x : Subject) (s : State) : List Byte := optionalStamp (s.dueMark k x)

/-- A zone record (R34). -/
def zoneBytes (z : Fin 32) (s : State) : List Byte :=
  let r := s.zone z
  let asserted : Bool := match r.tripLine with | some l => s.znt.lines[l] | none => false
  [yesNo r.configured, r.kind.code, yesNo r.monitored, r.reported.code, r.real.code, byteOf r.persons]
    ++ counted r.grants twoBytes
    ++ [byteOf r.limit, optionalByte (r.pendingLimit.map byteOf), r.autoLevel.code, optionalKey r.refuge,
        optionalKey r.tripLine, yesNo asserted, r.evac.code, r.causes.toByte]
    ++ optionalStamp r.orderedStamp
    ++ dueBytes .zoneCaution (.zone z) s ++ dueBytes .zoneDanger (.zone z) s ++ dueBytes .zoneTrip (.zone z) s

/-- READ_ZONE (R34). -/
def reqReadZone (zone : Byte) (s : State) : State :=
  match key? 32 zone with
  | some z => s.reply .done (zoneBytes z s)
  | none => s.refuse .badArgument

/-- The kinds of a person record's due marks, in the order of R54. -/
def personMarks : List ItemKind :=
  [.manDown, .emergencyCall, .missing, .urgentCall, .escortLost, .exposure, .routineCall, .pageAnswered]

/-- A person record (R74). -/
def personBytes (i : Fin 240) (p : Person) (s : State) : List Byte :=
  (s.handle i).bytes ++ bytes24 p.tag ++ [p.role.code] ++ optionalHandle p.escort
    ++ [p.state.code, optionalKey p.zone, optionalKey p.refuge]
    ++ optionalStamp p.heard ++ [byteOf p.level, yesNo p.heardSinceVisit, byteOf p.misses]
    ++ twoBytes p.exposure ++ [yesNo p.exposureFull, p.alert.code, yesNo p.page, p.precedence.code, p.callState.code]
    ++ optionalStamp p.callStamp
    ++ [byteOf p.repeats, yesNo p.overdue, optionalKey p.callChannel, optionalByte (p.lastKey.map (fun q => byteOf q.toNat))]
    ++ optionalStamp p.separation ++ [yesNo p.escortLost]
    ++ personMarks.flatMap (fun k => dueBytes k (s.personSubject i) s)

/-- READ_PERSON (R74). -/
def reqReadPerson (slot gen : Byte) (s : State) : State :=
  withNamed slot gen (fun i p s => s.reply .done (personBytes i p s)) s

/-- A pair of pending levels as it is sent, after a presence byte (R113, R185). -/
def pendingLevelBytes (l : Option Levels) : List Byte :=
  match l with
  | some l => [1, byteOf l.caution, byteOf l.danger]
  | none => [0, 0, 0]

/-- A test as it is sent, after a presence byte (R113, R185). -/
def testBytes (t : Option ChannelTest) : List Byte :=
  match t with
  | some t => [1, t.forced.code, byteOf t.remaining]
  | none => [0, 0, 0]

/-- The place of a value in a list, counted from 0 at its head (R113, R136); 255 where it is not on it (the model's choice, log
10). -/
def placeByte [BEq α] (a : α) (l : List α) : Byte := if l.contains a then byteOf (l.idxOf a) else 255

/-- A channel record (R113). -/
def channelBytes (c : Fin 32) (s : State) : List Byte :=
  let r := s.channel c
  [r.gas.code, optionalKey r.zone, yesNo r.enabled, byteOf r.levels.caution, byteOf r.levels.danger]
    ++ pendingLevelBytes r.pendingLevels
    ++ [byteOf (r.tripLevel.getD 0), byteOf r.persistence, byteOf r.hysteresis, optionalByte (r.reading.map byteOf),
        r.real.code, r.reported.code, yesNo r.faultFlag, byteOf r.goodCount, byteOf r.warmupCount]
    ++ r.run.bytes
    ++ [byteOf r.runCount, yesNo r.confirmPending, placeByte c s.air.confirmList]
    ++ testBytes r.test ++ [yesNo (s.air.sweep.converts c)] ++ dueBytes .channelFault (.channel c) s

/-- READ_CHANNEL (R113). -/
def reqReadChannel (channel : Byte) (s : State) : State := withChannel channel (fun c _ s => s.reply .done (channelBytes c s)) s

/-- An entry as it is sent, after a presence byte (R136, R185). -/
def entryBytes (e : Option Entry) : List Byte :=
  match e with
  | some e => [1, byteOf e.zone.val, e.status.code]
  | none => [0, 0, 0]

/-- A last poll stamp as it is sent, after a presence byte (R136, R185). -/
def pollBytes (t : Option SlotStamp) : List Byte :=
  match t with
  | some t => 1 :: t.bytes
  | none => [0, 0, 0, 0, 0]

/-- A truck record (R136). -/
def truckBytes (t : Truck) (s : State) : List Byte :=
  twoBytes t.number ++ [t.kind.code, t.state.code, optionalKey t.zone, optionalKey t.held] ++ entryBytes t.entry
    ++ counted t.proximity (fun e => bytes24 e.tag ++ [byteOf e.level])
    ++ [yesNo t.intrusion, optionalByte (t.forced.map Order.code), optionalByte (t.lastOrder.map Order.code)]
    ++ pollBytes t.lastPoll ++ [yesNo t.answered, byteOf t.missed, yesNo t.polled]
    ++ [placeByte t.number s.hlk.pollList, yesNo (s.hlk.cursor == some t.number)]
    ++ dueBytes .intrusion (.truck t.number) s ++ dueBytes .linkLost (.truck t.number) s

/-- READ_TRUCK (R136). -/
def reqReadTruck (number : Word16) (s : State) : State := withTruck number (fun _ t s => s.reply .done (truckBytes t s)) s

/-- A refuge record and the round state (R154). -/
def refugeBytes (r : Fin 8) (s : State) : List Byte :=
  let x := s.refuge r
  [yesNo x.configured, optionalKey x.zone, byteOf x.capacity, byteOf x.occupancy, x.door.code, x.supply.code, x.panel.code]
    ++ bytes16 x.lastReport ++ [x.reasons.toByte] ++ dueBytes .refugeFault (.refuge r) s
    ++ [yesNo s.rev.roundOn] ++ optionalStamp s.rev.roundStart ++ [byteOf s.rev.roundCursor]

/-- READ_REFUGE (R154). -/
def reqReadRefuge (refuge : Byte) (s : State) : State :=
  match key? 8 refuge with
  | some r => s.reply .done (refugeBytes r s)
  | none => s.refuse .badArgument

end Sys2Proof.Machine
end

