-- ==== Sys2Proof/Machine/Port.lean ====
section
/-! DEFINITION. The host port (chapter 11): lists, status, notices, the district settings, START, part reset, and the taking of
requests. -/

namespace Sys2Proof.Machine

/-! ## Lists (R183) -/

/-- The number of indices of a table (R183). -/
def ListTable.size (t : ListTable) : Nat :=
  match t with
  | .roster => 240
  | .trucks => 24
  | .zones | .channels | .queue => 32
  | .refuges => 8

/-- SET_CURSOR (R183). -/
def reqSetCursor (table index : Byte) (s : State) : State :=
  match ListTable.ofByte? table with
  | some t =>
    if index.toNat < t.size then { s with hpt := { s.hpt with cursorTable := t, cursorIndex := index.toNat } }.done
    else s.refuse .badArgument
  | none => s.refuse .badArgument

/-- The keys below `n` from an index upward, wrapping after the last (R183). -/
def keysFrom (n : Nat) [NeZero n] (index : Nat) : List (Fin n) := (List.range n).map (fun k => Fin.ofNat n (index + k))

/-- The entry at the cursor, where there is one: its index, its contents, and the length of the walk that the next index wraps
at (R183). -/
def cursorEntry (s : State) : Option (Nat × List Byte × Nat) :=
  match s.hpt.cursorTable with
  | .zones => some (s.hpt.cursorIndex, zoneBytes (Fin.ofNat 32 s.hpt.cursorIndex) s, 32)
  | .channels => some (s.hpt.cursorIndex, channelBytes (Fin.ofNat 32 s.hpt.cursorIndex) s, 32)
  | .refuges => some (s.hpt.cursorIndex, refugeBytes (Fin.ofNat 8 s.hpt.cursorIndex) s, 8)
  | .roster =>
    (keysFrom 240 s.hpt.cursorIndex).findSome? (fun i => (s.person i).map (fun p => (i.val, personBytes i p s, 240)))
  | .trucks =>
    (keysFrom 24 s.hpt.cursorIndex).findSome? (fun p => (s.truckAt p).map (fun t => (p.val, truckBytes t s, 24)))
  | .queue =>
    let index := if s.hpt.cursorIndex < s.atq.items.length then s.hpt.cursorIndex else 0
    s.atq.items[index]?.map (fun it => (index, it.bytes, s.atq.items.length))

/-- READ_NEXT (R183, R51; log 12). -/
def reqReadNext (s : State) : State :=
  match cursorEntry s with
  | none => s.refuse .noRecord
  | some (index, bytes, wrap) =>
    { s with hpt := { s.hpt with cursorIndex := (index + 1) % wrap } }.reply .done (byteOf index :: bytes)

/-! ## Status (R184, R154) -/

/-- A count over the roster's records. -/
def State.countPersons (s : State) (f : Person → Bool) : Nat :=
  s.rst.slots.toList.countP (Slot.holds f)

/-- The part's state as STATUS gives it (R184; log 13). -/
def statusBytes (s : State) : List Byte :=
  [s.hpt.phase.code, yesNo s.hlk.alone, s.frt.lock.code, byteOf (s.countPersons (fun p => p.alert == .sent)),
   byteOf (s.countPersons (fun p => p.alert == .acked)), byteOf (s.countPersons (fun p => p.state == .mustered)),
   byteOf s.atq.items.length, s.air.mode.code] ++ s.znt.lines.toList.map yesNo

/-- STATUS (R184). -/
def reqStatus (s : State) : State := s.reply .done (statusBytes s)

/-! ## Notices (R182) -/

/-- CLEAR_NOTICE (R182). -/
def reqClearNotice (notices : Byte) (s : State) : State :=
  match NoticeSet.ofByte? notices with
  | some n => { s with hpt := { s.hpt with flags := s.hpt.flags.without n } }.done
  | none => s.refuse .badArgument

/-- SET_NOTICE_MASK (R182). -/
def reqSetNoticeMask (notices : Byte) (s : State) : State :=
  match NoticeSet.ofByte? notices with
  | some n => { s with hpt := { s.hpt with mask := n } }.done
  | none => s.refuse .badArgument

/-- READ_NOTICE (R182). -/
def reqReadNotice (s : State) : State := s.reply .done [s.hpt.flags.toByte, s.hpt.mask.toByte]

/-! ## District settings (R179) -/

/-- SET_DISTRICT (R179). -/
def reqSetDistrict (quiet missing outHold portal mode : Byte) (exposure : Word16)
    (lapse close silence escort refugeSilence routineWait emergencyWait : Byte) (s : State) : State :=
  match portalEnrolment? portal, ExposureMode.ofByte? mode with
  | some on, some m =>
    if within 1 7 quiet.toNat && within (quiet.toNat + 1) 15 missing.toNat && within (quiet.toNat + 1) 15 outHold.toNat
        && decide (1 ≤ exposure.toNat) && within 1 15 lapse.toNat && within 0 15 close.toNat && decide (1 ≤ escort.toNat)
        && decide (1 ≤ refugeSilence.toNat) && decide (1 ≤ routineWait.toNat) && decide (1 ≤ emergencyWait.toNat) then
      { s with
        rst := { s.rst with
          quietLimit := quiet.toNat, missingLimit := missing.toNat, outHold := outHold.toNat, portalEnrolment := on,
          exposureMode := m, exposureLimit := exposure.toNat, escortLimit := escort.toNat }
        hlk := { s.hlk with lapseLimit := lapse.toNat, closeLevel := close.toNat, silenceLimit := silence.toNat }
        rev := { s.rev with silenceLimit := refugeSilence.toNat }
        cal := { s.cal with routineLimit := routineWait.toNat, emergencyLimit := emergencyWait.toNat } }.done
    else s.refuse .badArgument
  | _, _ => s.refuse .badArgument

/-! ## START (R180) -/

/-- A channel's zone is absent or configured (R180, check 2). -/
def State.channelZoneHolds (s : State) (c : Fin 32) : Bool :=
  match (s.channel c).zone with
  | some z => (s.zone z).configured
  | none => true

/-- A refuge is not configured or names a zone whose kind is REFUGE (R180, check 3). -/
def State.refugeZoneHolds (s : State) (r : Fin 8) : Bool :=
  !(s.refuge r).configured || (match (s.refuge r).zone with | some z => (s.zone z).kind == .refuge | none => false)

/-- A zone's refuge is absent or configured (R180, check 4). -/
def State.zoneRefugeHolds (s : State) (z : Fin 32) : Bool :=
  match (s.zone z).refuge with
  | some r => (s.refuge r).configured
  | none => true

/-- A zone's trip line is absent, or the zone is monitored (R180, check 5). -/
def State.tripLineHolds (s : State) (z : Fin 32) : Bool := (s.zone z).tripLine.isNone || (s.zone z).monitored

/-- The first check of START that fails, with the key it names (R180). -/
def startFailure (s : State) : Option (Nat × Nat) :=
  if s.frt.active.areOrdered s.frt.total then
    match allChannels.find? (fun c => !s.channelZoneHolds c) with
    | some c => some (2, c.val)
    | none =>
      match allRefuges.find? (fun r => !s.refugeZoneHolds r) with
      | some r => some (3, r.val)
      | none =>
        match allZones.find? (fun z => !s.zoneRefugeHolds z) with
        | some z => some (4, z.val)
        | none => (allZones.find? (fun z => !s.tripLineHolds z)).map (fun z => (5, z.val))
  else some (1, 0)

/-- START (R180). -/
def reqStart (s : State) : State :=
  match startFailure s with
  | some (check, key) => s.reply .badSetup [byteOf check, byteOf key]
  | none => (startSequencer (armTimer { s with hpt := { s.hpt with phase := .running } })).done

/-! ## Part reset (R181) -/

/-- Part reset: every block at its reset values; the reset line and the commands that wait are not the part's (R181; log
17). -/
def partReset (s : State) : State := { State.reset with resetLow := s.resetLow, pending := s.pending }

/-! ## The taking of requests (R176 to R178) -/

/-- A phase admits a request (R178). -/
def admits (a : Config.Admission) (p : Phase) : Bool :=
  match a with
  | .setupOnly => p == .setup
  | .runningOnly => p == .running
  | .bothPhases => true

/-- A request carried out by its owner (R177); the commands that are no requests stand at the end. -/
def carryOut (i : Instr) (s : State) : State :=
  match i with
  | .setFrame total tagEnd haulStart haulEnd callStart callEnd sync =>
    reqSetFrame total tagEnd haulStart haulEnd callStart callEnd sync s
  | .setWindows tagEnd haulStart haulEnd callStart callEnd => reqSetWindows tagEnd haulStart haulEnd callStart callEnd s
  | .setMark slot => reqSetMark slot s
  | .setCadence bit edge => reqSetCadence bit edge s
  | .readFrame => reqReadFrame s
  | .setZone zone kind limit level refuge line => reqSetZone zone kind limit level refuge line s
  | .setVehicleLimit zone limit => reqSetVehicleLimit zone limit s
  | .readZone zone => reqReadZone zone s
  | .nextItem => reqNextItem s
  | .ackItem kind subject => reqAckItem kind subject s
  | .enrol tag role escortSlot escortGen => reqEnrol tag role escortSlot escortGen s
  | .retire slot gen => reqRetire slot gen s
  | .setEscort slot gen escortSlot escortGen => reqSetEscort slot gen escortSlot escortGen s
  | .findTag tag => reqFindTag tag s
  | .readPerson slot gen => reqReadPerson slot gen s
  | .setWalk walkStep interval => reqSetWalk walkStep interval s
  | .clearExposure slot gen => reqClearExposure slot gen s
  | .setChannel channel gas zone caution danger trip persistence hysteresis enabled =>
    reqSetChannel channel gas zone caution danger trip persistence hysteresis enabled s
  | .setLevels channel caution danger => reqSetLevels channel caution danger s
  | .channelOn channel => reqChannelOn channel s
  | .channelOff channel => reqChannelOff channel s
  | .airControl mode groups => reqAirControl mode groups s
  | .testChannel channel forced sweeps => reqTestChannel channel forced sweeps s
  | .cancelTest channel => reqCancelTest channel s
  | .resetTrip channel => reqResetTrip channel s
  | .readChannel channel => reqReadChannel channel s
  | .registerTruck number kind => reqRegisterTruck number kind s
  | .retireTruck number => reqRetireTruck number s
  | .forceOrder number order => reqForceOrder number order s
  | .releaseOrder number => reqReleaseOrder number s
  | .readTruck number => reqReadTruck number s
  | .resume => reqResume s
  | .setRefuge refuge zone capacity => reqSetRefuge refuge zone capacity s
  | .evacuate zones => reqEvacuate zones s
  | .lift zones => reqLift zones s
  | .readRefuge refuge => reqReadRefuge refuge s
  | .answer slot gen => reqAnswer slot gen s
  | .endCall slot gen => reqEndCall slot gen s
  | .page slot gen => reqPage slot gen s
  | .cancelPage slot gen => reqCancelPage slot gen s
  | .setDistrict quiet missing outHold portal mode exposure lapse close silence escort refugeSilence routineWait emergencyWait =>
    reqSetDistrict quiet missing outHold portal mode exposure lapse close silence escort refugeSilence routineWait
      emergencyWait s
  | .start => reqStart s
  | .resetPart => partReset s
  | .status => reqStatus s
  | .setCursor table index => reqSetCursor table index s
  | .readNext => reqReadNext s
  | .clearNotice notices => reqClearNotice notices s
  | .setNoticeMask notices => reqSetNoticeMask notices s
  | .readNotice => reqReadNotice s
  | .powerOn
  | .resetLine
  | .resetRelease
  | .hostPortWrite _ _
  | .replyRead
  | .statusByteRead
  | .unknownRequestCode _
  | .slotStrobe
  | .framePulse
  | .agingWalk
  | .agingStateChange _
  | .escortLimitJudgement
  | .exposureCount
  | .exposureLimitReached _
  | .panelSilence
  | .alertRoundStart
  | .callWaitJudgement
  | .pollFlagRenewal
  | .silenceCount
  | .enterAlone
  | .vehicleLimitApply
  | .usableChannelCount
  | .sweepStart
  | .conversionCompletion _ _
  | .warmupEnd _
  | .faultClear _
  | .runStateChange _
  | .testExpiry _
  | .fieldArrival _
  | .messageTaking
  | .poll
  | .linkLapse _
  | .channelHold
  | .holdingSlotCheck
  | .fetch => s

/-- The request buffer written. -/
def setRequest (b : RequestBuffer) (s : State) : State := { s with hpt := { s.hpt with request := b } }

/-- Overrun set (R176). -/
def setOverrun (s : State) : State := { s with hpt := { s.hpt with overrun := true } }

/-- A request taken: the request buffer empties, the silence count becomes 0, the port judges code and phase, and the owner
carries it out (R176, R177). -/
def takeRequest (code : Byte) (i : Option Instr) (s : State) : State :=
  let s1 := heardHost (setRequest .empty s)
  match requestRow? code, i with
  | some row, some i => if admits row.phases s.hpt.phase then carryOut i s1 else s1.refuse .wrongPhase
  | _, _ => s1.refuse .badCode

/-- A COMPLETE request taken where the reply buffer is empty (R176). -/
def settleRequest (s : State) : State :=
  match s.hpt.request, s.hpt.reply with
  | .complete code args, [] => takeRequest code (decodeRequest code args) s
  | _, _ => s

/-- The number of argument bytes that a code fixes; 0 for a code that names no request (R176). -/
def argBytes (code : Byte) : Nat :=
  match requestRow? code with
  | some row => row.argBytes
  | none => 0

/-- A request buffer holding a code and some of its argument bytes, COMPLETE where they are all there (R176). -/
def bufferOf (code : Byte) (args : List Byte) : RequestBuffer :=
  if args.length = argBytes code then .complete code args else .incomplete code args

/-- A write strobe (R176). -/
def hostWrite (isCode : Bool) (byte : Byte) (s : State) : State :=
  match s.hpt.request with
  | .complete _ _ => setOverrun s
  | .empty => if isCode then settleRequest (setRequest (bufferOf byte []) s) else setOverrun s
  | .incomplete code args =>
    if isCode then settleRequest (setRequest (bufferOf byte []) s)
    else settleRequest (setRequest (bufferOf code (args ++ [byte])) s)

/-- A request written whole, its code and then its argument bytes: discarded where a COMPLETE request waits, taken where the
reply buffer is empty, and waiting otherwise (R176; log 2). -/
def submit (i : Instr) (s : State) : State :=
  match encodeRequest i with
  | none => s
  | some (code, args) =>
    if s.hpt.request.isComplete then setOverrun s
    else if s.hpt.reply.isEmpty then takeRequest code (some i) s
    else setRequest (.complete code args) s

/-! ## Reads (R177) -/

/-- The byte at the read position of the reply, 0 where the reply buffer is empty (R177). -/
def replyByte (s : State) : Byte := s.hpt.reply.getD s.hpt.readPos 0

/-- The reply buffer after a read of a reply byte: the position moves on, and the reply buffer empties after the last byte; a COMPLETE request that
waits is then taken (R177). -/
def advanceReply (s : State) : State :=
  if s.hpt.reply.isEmpty then s
  else if s.hpt.readPos + 1 < s.hpt.reply.length then { s with hpt := { s.hpt with readPos := s.hpt.readPos + 1 } }
  else settleRequest { s with hpt := { s.hpt with reply := [], readPos := 0 } }

/-- A read of a reply byte, which stays driven whatever request is taken after it, RESET_PART too (R177; log 18). -/
def readReply (s : State) : State := { advanceReply s with hostOut := some (replyByte s) }

/-- A read of the status byte, which then makes overrun no (R177). -/
def readStatus (s : State) : State :=
  { s with hostOut := some (statusByte s), hpt := { s.hpt with overrun := false } }

/-! ## Reset lines and port strobes -/

/-- POWER_ON: part reset (R181; log 17). -/
def execPowerOn (s : State) : Host.Outcome State Fault Refusal := .next (partReset s)

/-- RESET_LINE: part reset, held from now on (R181). -/
def execResetLine (s : State) : Host.Outcome State Fault Refusal := .next { partReset s with resetLow := true }

/-- RESET_RELEASE: the part begins to take events again (R181). -/
def execResetRelease (s : State) : Host.Outcome State Fault Refusal := .next { s with resetLow := false }

/-- HOST_PORT_WRITE (R176). -/
def execHostPortWrite (code : Bool) (byte : Byte) (s : State) : Host.Outcome State Fault Refusal :=
  .next (unlessReset (hostWrite code byte) s)

/-- REPLY_READ (R177). -/
def execReplyRead (s : State) : Host.Outcome State Fault Refusal := .next (unlessReset readReply s)

/-- STATUS_BYTE_READ (R177, R187). -/
def execStatusByteRead (s : State) : Host.Outcome State Fault Refusal := .next (unlessReset readStatus s)

/-- UNKNOWN_REQUEST_CODE: a code write (R176, R177; log 2). -/
def execUnknownRequestCode (code : Byte) (s : State) : Host.Outcome State Fault Refusal :=
  .next (unlessReset (hostWrite true code) s)

end Sys2Proof.Machine
end

