-- ==== Sys2Proof/Machine/Requests.lean ====
section
/-! DEFINITION. The meanings of the 49 requests: each is written whole at the host port, where it is taken, waits or is
discarded (R176; log 2), and carried out by its owner under the rule cited. -/

namespace Sys2Proof.Machine

/-- SET_FRAME (R10). -/
def execSetFrame (total tagEnd haulStart haulEnd callStart callEnd : Word16) (sync : Byte) (s : State) : Host.Outcome
    State Fault Refusal :=
  .next (unlessReset (submit (.setFrame total tagEnd haulStart haulEnd callStart callEnd sync)) s)

/-- SET_WINDOWS (R11). -/
def execSetWindows (tagEnd haulStart haulEnd callStart callEnd : Word16) (s : State) : Host.Outcome State Fault
    Refusal :=
  .next (unlessReset (submit (.setWindows tagEnd haulStart haulEnd callStart callEnd)) s)

/-- SET_MARK (R12). -/
def execSetMark (slot : Word16) (s : State) : Host.Outcome State Fault Refusal :=
  .next (unlessReset (submit (.setMark slot)) s)

/-- SET_CADENCE (R14). -/
def execSetCadence (bit edge : Byte) (s : State) : Host.Outcome State Fault Refusal :=
  .next (unlessReset (submit (.setCadence bit edge)) s)

/-- READ_FRAME (R16). -/
def execReadFrame (s : State) : Host.Outcome State Fault Refusal :=
  .next (unlessReset (submit .readFrame) s)

/-- SET_ZONE (R33). -/
def execSetZone (zone kind limit level refuge line : Byte) (s : State) : Host.Outcome State Fault Refusal :=
  .next (unlessReset (submit (.setZone zone kind limit level refuge line)) s)

/-- SET_VEHICLE_LIMIT (R32). -/
def execSetVehicleLimit (zone limit : Byte) (s : State) : Host.Outcome State Fault Refusal :=
  .next (unlessReset (submit (.setVehicleLimit zone limit)) s)

/-- READ_ZONE (R34). -/
def execReadZone (zone : Byte) (s : State) : Host.Outcome State Fault Refusal :=
  .next (unlessReset (submit (.readZone zone)) s)

/-- NEXT_ITEM (R48). -/
def execNextItem (s : State) : Host.Outcome State Fault Refusal :=
  .next (unlessReset (submit .nextItem) s)

/-- ACK_ITEM (R49). -/
def execAckItem (kind : Byte) (subject : BitVec 24) (s : State) : Host.Outcome State Fault Refusal :=
  .next (unlessReset (submit (.ackItem kind subject)) s)

/-- ENROL (R56). -/
def execEnrol (tag : Tag) (role escortSlot escortGen : Byte) (s : State) : Host.Outcome State Fault Refusal :=
  .next (unlessReset (submit (.enrol tag role escortSlot escortGen)) s)

/-- RETIRE (R65). -/
def execRetire (slot gen : Byte) (s : State) : Host.Outcome State Fault Refusal :=
  .next (unlessReset (submit (.retire slot gen)) s)

/-- SET_ESCORT (R72). -/
def execSetEscort (slot gen escortSlot escortGen : Byte) (s : State) : Host.Outcome State Fault Refusal :=
  .next (unlessReset (submit (.setEscort slot gen escortSlot escortGen)) s)

/-- FIND_TAG (R73). -/
def execFindTag (tag : Tag) (s : State) : Host.Outcome State Fault Refusal :=
  .next (unlessReset (submit (.findTag tag)) s)

/-- READ_PERSON (R74). -/
def execReadPerson (slot gen : Byte) (s : State) : Host.Outcome State Fault Refusal :=
  .next (unlessReset (submit (.readPerson slot gen)) s)

/-- SET_WALK (R83). -/
def execSetWalk (walkStep interval : Byte) (s : State) : Host.Outcome State Fault Refusal :=
  .next (unlessReset (submit (.setWalk walkStep interval)) s)

/-- CLEAR_EXPOSURE (R88). -/
def execClearExposure (slot gen : Byte) (s : State) : Host.Outcome State Fault Refusal :=
  .next (unlessReset (submit (.clearExposure slot gen)) s)

/-- SET_CHANNEL (R112). -/
def execSetChannel (channel gas zone caution danger trip persistence hysteresis enabled : Byte) (s : State) :
    Host.Outcome State Fault Refusal :=
  .next (unlessReset (submit (.setChannel channel gas zone caution danger trip persistence hysteresis enabled)) s)

/-- SET_LEVELS (R107). -/
def execSetLevels (channel caution danger : Byte) (s : State) : Host.Outcome State Fault Refusal :=
  .next (unlessReset (submit (.setLevels channel caution danger)) s)

/-- CHANNEL_ON (R110). -/
def execChannelOn (channel : Byte) (s : State) : Host.Outcome State Fault Refusal :=
  .next (unlessReset (submit (.channelOn channel)) s)

/-- CHANNEL_OFF (R111). -/
def execChannelOff (channel : Byte) (s : State) : Host.Outcome State Fault Refusal :=
  .next (unlessReset (submit (.channelOff channel)) s)

/-- AIR_CONTROL (R95). -/
def execAirControl (mode groups : Byte) (s : State) : Host.Outcome State Fault Refusal :=
  .next (unlessReset (submit (.airControl mode groups)) s)

/-- TEST_CHANNEL (R108). -/
def execTestChannel (channel forced sweeps : Byte) (s : State) : Host.Outcome State Fault Refusal :=
  .next (unlessReset (submit (.testChannel channel forced sweeps)) s)

/-- CANCEL_TEST (R109). -/
def execCancelTest (channel : Byte) (s : State) : Host.Outcome State Fault Refusal :=
  .next (unlessReset (submit (.cancelTest channel)) s)

/-- RESET_TRIP (R106). -/
def execResetTrip (channel : Byte) (s : State) : Host.Outcome State Fault Refusal :=
  .next (unlessReset (submit (.resetTrip channel)) s)

/-- READ_CHANNEL (R113). -/
def execReadChannel (channel : Byte) (s : State) : Host.Outcome State Fault Refusal :=
  .next (unlessReset (submit (.readChannel channel)) s)

/-- REGISTER_TRUCK (R116). -/
def execRegisterTruck (number : Word16) (kind : Byte) (s : State) : Host.Outcome State Fault Refusal :=
  .next (unlessReset (submit (.registerTruck number kind)) s)

/-- RETIRE_TRUCK (R135). -/
def execRetireTruck (number : Word16) (s : State) : Host.Outcome State Fault Refusal :=
  .next (unlessReset (submit (.retireTruck number)) s)

/-- FORCE_ORDER (R132). -/
def execForceOrder (number : Word16) (order : Byte) (s : State) : Host.Outcome State Fault Refusal :=
  .next (unlessReset (submit (.forceOrder number order)) s)

/-- RELEASE_ORDER (R132). -/
def execReleaseOrder (number : Word16) (s : State) : Host.Outcome State Fault Refusal :=
  .next (unlessReset (submit (.releaseOrder number)) s)

/-- READ_TRUCK (R136). -/
def execReadTruck (number : Word16) (s : State) : Host.Outcome State Fault Refusal :=
  .next (unlessReset (submit (.readTruck number)) s)

/-- RESUME (R134). -/
def execResume (s : State) : Host.Outcome State Fault Refusal :=
  .next (unlessReset (submit .resume) s)

/-- SET_REFUGE (R148). -/
def execSetRefuge (refuge zone capacity : Byte) (s : State) : Host.Outcome State Fault Refusal :=
  .next (unlessReset (submit (.setRefuge refuge zone capacity)) s)

/-- EVACUATE (R140). -/
def execEvacuate (zones : BitVec 32) (s : State) : Host.Outcome State Fault Refusal :=
  .next (unlessReset (submit (.evacuate zones)) s)

/-- LIFT (R141). -/
def execLift (zones : BitVec 32) (s : State) : Host.Outcome State Fault Refusal :=
  .next (unlessReset (submit (.lift zones)) s)

/-- READ_REFUGE (R154). -/
def execReadRefuge (refuge : Byte) (s : State) : Host.Outcome State Fault Refusal :=
  .next (unlessReset (submit (.readRefuge refuge)) s)

/-- ANSWER (R160). -/
def execAnswer (slot gen : Byte) (s : State) : Host.Outcome State Fault Refusal :=
  .next (unlessReset (submit (.answer slot gen)) s)

/-- END_CALL (R164). -/
def execEndCall (slot gen : Byte) (s : State) : Host.Outcome State Fault Refusal :=
  .next (unlessReset (submit (.endCall slot gen)) s)

/-- PAGE (R166). -/
def execPage (slot gen : Byte) (s : State) : Host.Outcome State Fault Refusal :=
  .next (unlessReset (submit (.page slot gen)) s)

/-- CANCEL_PAGE (R166). -/
def execCancelPage (slot gen : Byte) (s : State) : Host.Outcome State Fault Refusal :=
  .next (unlessReset (submit (.cancelPage slot gen)) s)

/-- SET_DISTRICT (R179). -/
def execSetDistrict (quiet missing outHold portal mode : Byte) (exposure : Word16) (lapse close silence escort
    refugeSilence routineWait emergencyWait : Byte) (s : State) : Host.Outcome State Fault Refusal :=
  .next (unlessReset (submit (.setDistrict quiet missing outHold portal mode exposure lapse close silence escort
      refugeSilence routineWait emergencyWait)) s)

/-- START (R180). -/
def execStart (s : State) : Host.Outcome State Fault Refusal :=
  .next (unlessReset (submit .start) s)

/-- RESET_PART (R181). -/
def execResetPart (s : State) : Host.Outcome State Fault Refusal :=
  .next (unlessReset (submit .resetPart) s)

/-- STATUS (R184). -/
def execStatus (s : State) : Host.Outcome State Fault Refusal :=
  .next (unlessReset (submit .status) s)

/-- SET_CURSOR (R183). -/
def execSetCursor (table index : Byte) (s : State) : Host.Outcome State Fault Refusal :=
  .next (unlessReset (submit (.setCursor table index)) s)

/-- READ_NEXT (R183). -/
def execReadNext (s : State) : Host.Outcome State Fault Refusal :=
  .next (unlessReset (submit .readNext) s)

/-- CLEAR_NOTICE (R182). -/
def execClearNotice (notices : Byte) (s : State) : Host.Outcome State Fault Refusal :=
  .next (unlessReset (submit (.clearNotice notices)) s)

/-- SET_NOTICE_MASK (R182). -/
def execSetNoticeMask (notices : Byte) (s : State) : Host.Outcome State Fault Refusal :=
  .next (unlessReset (submit (.setNoticeMask notices)) s)

/-- READ_NOTICE (R182). -/
def execReadNotice (s : State) : Host.Outcome State Fault Refusal :=
  .next (unlessReset (submit .readNotice) s)

end Sys2Proof.Machine
end

