-- ==== Sys2Proof/Machine/Dispatch.lean ====
section
/-! DEFINITION. The meaning of each command, one arm for each constructor of Instr in the order of the table. -/

namespace Sys2Proof.Machine

/-- The effect of a command on everything but the queue. -/
def exec (i : Instr) (s : State) : Host.Outcome State Fault Refusal :=
  match i with
  | .powerOn => Sys2Proof.Machine.execPowerOn s
  | .resetLine => Sys2Proof.Machine.execResetLine s
  | .resetRelease => Sys2Proof.Machine.execResetRelease s
  | .hostPortWrite code byte => Sys2Proof.Machine.execHostPortWrite code byte s
  | .replyRead => Sys2Proof.Machine.execReplyRead s
  | .statusByteRead => Sys2Proof.Machine.execStatusByteRead s
  | .unknownRequestCode code => Sys2Proof.Machine.execUnknownRequestCode code s
  | .setFrame total tagEnd haulStart haulEnd callStart callEnd sync => Sys2Proof.Machine.execSetFrame total tagEnd haulStart haulEnd callStart callEnd sync s
  | .setWindows tagEnd haulStart haulEnd callStart callEnd => Sys2Proof.Machine.execSetWindows tagEnd haulStart haulEnd callStart callEnd s
  | .setMark slot => Sys2Proof.Machine.execSetMark slot s
  | .setCadence bit edge => Sys2Proof.Machine.execSetCadence bit edge s
  | .readFrame => Sys2Proof.Machine.execReadFrame s
  | .setZone zone kind limit level refuge line => Sys2Proof.Machine.execSetZone zone kind limit level refuge line s
  | .setVehicleLimit zone limit => Sys2Proof.Machine.execSetVehicleLimit zone limit s
  | .readZone zone => Sys2Proof.Machine.execReadZone zone s
  | .nextItem => Sys2Proof.Machine.execNextItem s
  | .ackItem kind subject => Sys2Proof.Machine.execAckItem kind subject s
  | .enrol tag role escortSlot escortGen => Sys2Proof.Machine.execEnrol tag role escortSlot escortGen s
  | .retire slot gen => Sys2Proof.Machine.execRetire slot gen s
  | .setEscort slot gen escortSlot escortGen => Sys2Proof.Machine.execSetEscort slot gen escortSlot escortGen s
  | .findTag tag => Sys2Proof.Machine.execFindTag tag s
  | .readPerson slot gen => Sys2Proof.Machine.execReadPerson slot gen s
  | .setWalk walkStep interval => Sys2Proof.Machine.execSetWalk walkStep interval s
  | .clearExposure slot gen => Sys2Proof.Machine.execClearExposure slot gen s
  | .setChannel channel gas zone caution danger trip persistence hysteresis enabled => Sys2Proof.Machine.execSetChannel channel gas zone caution danger trip persistence hysteresis enabled s
  | .setLevels channel caution danger => Sys2Proof.Machine.execSetLevels channel caution danger s
  | .channelOn channel => Sys2Proof.Machine.execChannelOn channel s
  | .channelOff channel => Sys2Proof.Machine.execChannelOff channel s
  | .airControl mode groups => Sys2Proof.Machine.execAirControl mode groups s
  | .testChannel channel forced sweeps => Sys2Proof.Machine.execTestChannel channel forced sweeps s
  | .cancelTest channel => Sys2Proof.Machine.execCancelTest channel s
  | .resetTrip channel => Sys2Proof.Machine.execResetTrip channel s
  | .readChannel channel => Sys2Proof.Machine.execReadChannel channel s
  | .registerTruck number kind => Sys2Proof.Machine.execRegisterTruck number kind s
  | .retireTruck number => Sys2Proof.Machine.execRetireTruck number s
  | .forceOrder number order => Sys2Proof.Machine.execForceOrder number order s
  | .releaseOrder number => Sys2Proof.Machine.execReleaseOrder number s
  | .readTruck number => Sys2Proof.Machine.execReadTruck number s
  | .resume => Sys2Proof.Machine.execResume s
  | .setRefuge refuge zone capacity => Sys2Proof.Machine.execSetRefuge refuge zone capacity s
  | .evacuate zones => Sys2Proof.Machine.execEvacuate zones s
  | .lift zones => Sys2Proof.Machine.execLift zones s
  | .readRefuge refuge => Sys2Proof.Machine.execReadRefuge refuge s
  | .answer slot gen => Sys2Proof.Machine.execAnswer slot gen s
  | .endCall slot gen => Sys2Proof.Machine.execEndCall slot gen s
  | .page slot gen => Sys2Proof.Machine.execPage slot gen s
  | .cancelPage slot gen => Sys2Proof.Machine.execCancelPage slot gen s
  | .setDistrict quiet missing outHold portal mode exposure lapse close silence escort refugeSilence routineWait emergencyWait => Sys2Proof.Machine.execSetDistrict quiet missing outHold portal mode exposure lapse close silence escort refugeSilence routineWait emergencyWait s
  | .start => Sys2Proof.Machine.execStart s
  | .resetPart => Sys2Proof.Machine.execResetPart s
  | .status => Sys2Proof.Machine.execStatus s
  | .setCursor table index => Sys2Proof.Machine.execSetCursor table index s
  | .readNext => Sys2Proof.Machine.execReadNext s
  | .clearNotice notices => Sys2Proof.Machine.execClearNotice notices s
  | .setNoticeMask notices => Sys2Proof.Machine.execSetNoticeMask notices s
  | .readNotice => Sys2Proof.Machine.execReadNotice s
  | .slotStrobe => Sys2Proof.Machine.execSlotStrobe s
  | .framePulse => Sys2Proof.Machine.execFramePulse s
  | .agingWalk => Sys2Proof.Machine.execAgingWalk s
  | .agingStateChange slot => Sys2Proof.Machine.execAgingStateChange slot s
  | .escortLimitJudgement => Sys2Proof.Machine.execEscortLimitJudgement s
  | .exposureCount => Sys2Proof.Machine.execExposureCount s
  | .exposureLimitReached slot => Sys2Proof.Machine.execExposureLimitReached slot s
  | .panelSilence => Sys2Proof.Machine.execPanelSilence s
  | .alertRoundStart => Sys2Proof.Machine.execAlertRoundStart s
  | .callWaitJudgement => Sys2Proof.Machine.execCallWaitJudgement s
  | .pollFlagRenewal => Sys2Proof.Machine.execPollFlagRenewal s
  | .silenceCount => Sys2Proof.Machine.execSilenceCount s
  | .enterAlone => Sys2Proof.Machine.execEnterAlone s
  | .vehicleLimitApply => Sys2Proof.Machine.execVehicleLimitApply s
  | .usableChannelCount => Sys2Proof.Machine.execUsableChannelCount s
  | .sweepStart => Sys2Proof.Machine.execSweepStart s
  | .conversionCompletion count abandoned => Sys2Proof.Machine.execConversionCompletion count abandoned s
  | .warmupEnd channel => Sys2Proof.Machine.execWarmupEnd channel s
  | .faultClear channel => Sys2Proof.Machine.execFaultClear channel s
  | .runStateChange channel => Sys2Proof.Machine.execRunStateChange channel s
  | .testExpiry channel => Sys2Proof.Machine.execTestExpiry channel s
  | .fieldArrival bytes => Sys2Proof.Machine.execFieldArrival bytes s
  | .messageTaking => Sys2Proof.Machine.execMessageTaking s
  | .poll => Sys2Proof.Machine.execPoll s
  | .linkLapse number => Sys2Proof.Machine.execLinkLapse number s
  | .channelHold => Sys2Proof.Machine.execChannelHold s
  | .holdingSlotCheck => Sys2Proof.Machine.execHoldingSlotCheck s
  | .fetch => Sys2Proof.Machine.execFetch s

end Sys2Proof.Machine
end

