-- ==== Sys2Proof/Safety.lean ====
section
/-! DEFINITION. The manual's laws L1 to L12, each over the states or the operations that it speaks of, and the words in which
statements speak of requests, handles, trucks and raised conditions. -/

namespace Sys2Proof.Safety

open Sys2Proof.Machine

/-- L1 (R27): a zone's person count is the number of records in PRESENT or QUIET whose zone it is. -/
def CountsAgree (s : State) : Prop := ∀ z : Fin 32, (s.zone z).persons = (allSlots.filter (s.isCountedIn z)).length

/-- The record in a slot is MUSTERED and names a refuge (R151). -/
def isMusteredAt (s : State) (r : Fin 8) (i : Fin 240) : Bool :=
  match s.person i with
  | some p => p.state == .mustered && p.refuge == some r
  | none => false

/-- L2 (R151): a refuge's occupancy is the number of MUSTERED records that name it. -/
def OccupanciesAgree (s : State) : Prop :=
  ∀ r : Fin 8, (s.refuge r).occupancy = (allSlots.filter (isMusteredAt s r)).length

/-- L3 (R29): an add claim that changes a zone's grant set found it below the active vehicle limit. -/
def AddsBelowLimit (n : Nat) (z : Fin 32) (s : State) : Prop :=
  ((addClaim n z s).zone z).grants ≠ (s.zone z).grants → (s.zone z).grants.length < (s.zone z).limit

/-- R115 and L4 (R127): a truck is in a grant set exactly while the zone is its held grant or its GRANTED entry's zone. -/
def GrantsAgree (s : State) : Prop :=
  ∀ (p : Fin 24) (t : Truck), s.truckAt p = some t →
    ∀ z : Fin 32, t.number ∈ (s.zone z).grants ↔ t.held = some z ∨ t.grantedZone = some z

/-- L4 (R114, R115, R127) as a step keeps it: no two trucks share a number, the grant sets agree with the trucks, each grant
set is an ascending list of numbers of live trucks, and no truck has a GRANTED entry to the zone of its held grant. -/
def GrantsHold (s : State) : Prop :=
  (∀ (p q : Fin 24) (t u : Truck), s.truckAt p = some t → s.truckAt q = some u → t.number = u.number → p = q)
    ∧ GrantsAgree s
    ∧ (∀ z : Fin 32, (s.zone z).grants.Pairwise (· < ·))
    ∧ (∀ z : Fin 32, ∀ n ∈ (s.zone z).grants, ∃ (p : Fin 24) (t : Truck), s.truckAt p = some t ∧ t.number = n)
    ∧ ∀ (p : Fin 24) (t : Truck) (z : Fin 32), s.truckAt p = some t → t.held = some z → t.grantedZone ≠ some z

/-- L5 (R131): the order sent is never less restrictive than the order computed without the forced order. -/
def OrderHolds (t : Truck) (s : State) : Prop := (unforcedOrder t s).code.toNat ≤ (truckOrder t s).code.toNat

/-- L6 (R127): a request that adds a truck to a grant set found the zone fit. -/
def RequestsFit (n : Nat) (q : Fin 32) (s : State) : Prop :=
  ((judgeRequest n q s).zone q).grants ≠ (s.zone q).grants → isFit q s = true

/-- L7 (R41): at most 32 items, never two with the same kind and subject, and a due mark only while no item of its kind and
subject is in the queue. -/
def QueueHolds (q : AttentionQueue) : Prop :=
  q.items.length ≤ Config.queueCapacity
    ∧ q.items.Pairwise (fun a b => ¬ (a.kind = b.kind ∧ a.subject = b.subject))
    ∧ ∀ d ∈ q.due, ∀ it ∈ q.items, ¬ (it.kind = d.kind ∧ it.subject = d.subject)

/-- L8 (R20): a monitored zone's air states are derived from its channels' states. -/
def AirAgrees (s : State) : Prop :=
  ∀ z : Fin 32, (s.zone z).reported = s.reportedAir z ∧ (s.zone z).real = s.realAir z

/-- The next step takes a RESET_TRIP of a channel (R106, R176, R177): one written whole where the port takes it at once, the last
byte of one written to the port, or one that waits COMPLETE, at the read that empties the reply buffer. -/
def TakesResetTrip (c : Fin 32) (s : State) : Prop :=
  s.resetLow = false ∧ ∃ (command : Instr) (later : List Instr) (key : Byte), s.pending = command :: later ∧ key.toNat = c.val
    ∧ ((command = .resetTrip key ∧ s.hpt.request.isComplete = false ∧ s.hpt.reply = [])
      ∨ (command = .hostPortWrite false key ∧ s.hpt.request = .incomplete 25 [] ∧ s.hpt.reply = [])
      ∨ (command = .replyRead ∧ s.hpt.request = .complete 25 [key] ∧ s.hpt.reply ≠ []
        ∧ s.hpt.reply.length ≤ s.hpt.readPos + 1))

/-- L9 (R106) over one step: a channel in real state TRIP stays there until the step takes a RESET_TRIP of it, which finds its
fault flag no and its reading below its caution level and leaves it NORMAL, or is part reset. -/
def TripsStay (s t : State) : Prop :=
  ∀ c : Fin 32, (s.channel c).real = .trip →
    (t.channel c).real = .trip
      ∨ t = { State.reset with resetLow := t.resetLow, hostOut := t.hostOut, pending := t.pending }
      ∨ (TakesResetTrip c s ∧ (t.channel c).real = .normal ∧ (s.channel c).faultFlag = false
        ∧ ∃ v, (s.channel c).reading = some v ∧ v < (s.channel c).levels.caution)

/-- L10 (R142): a record in PRESENT or QUIET whose zone is ORDERED has alert SENT or ACKED. -/
def AlertsHold (s : State) : Prop :=
  ∀ (i : Fin 240) (p : Person), s.person i = some p → (p.state = .present ∨ p.state = .quiet) → s.isOrdered p.zone = true →
    p.alert ≠ .noAlert

/-- L11 (R156): a held call channel names a live record whose CONNECTED call holds that channel, and a CONNECTED call holds
its channel. -/
def ChannelsAgree (s : State) : Prop :=
  (∀ (c : Fin 4) (h : Handle), s.cal.channels[c] = some h →
      ∃ p, s.named h = some p ∧ p.callState = .connected ∧ p.callChannel = some c)
    ∧ ∀ (i : Fin 240) (p : Person), s.person i = some p → p.callState = .connected →
      ∃ c : Fin 4, p.callChannel = some c ∧ s.cal.channels[c] = some (s.handle i)

/-- L12 (R25): a trip line is asserted exactly while some zone mapped to it has real air state TRIP. -/
def LinesAgree (s : State) : Prop := ∀ line : Fin 8, s.znt.lines[line] = s.isTripped line

/-- The part before START as L12 needs it: no sweep, every channel OFF, no zone in real TRIP (R25, R90, 11.2). -/
def SetupIsQuiet (s : State) : Prop :=
  s.hpt.phase = .setup →
    s.air.mode = .idle ∧ s.air.sweep = .noSweep ∧ (∀ c : Fin 32, (s.channel c).real = .off)
      ∧ ∀ z : Fin 32, (s.zone z).real ≠ .trip

/-- What L9 needs of a state: SETUP is quiet and its confirm list empty, and a channel that is not OFF, is on the confirm list,
or is converted by a confirm sweep is enabled (R90, R94, R97, R111). -/
def EnablesHold (s : State) : Prop :=
  SetupIsQuiet s ∧ (s.hpt.phase = .setup → s.air.confirmList = [])
    ∧ ∀ c : Fin 32, (s.channel c).real ≠ .off ∨ c ∈ s.air.confirmList ∨ s.air.sweep = .confirm c →
      (s.channel c).enabled = true

/-! ## The words of statements -/

/-- The host port takes a request as soon as it is written: the reset line is high, no COMPLETE request waits, and the reply
buffer is empty (R176, R181). -/
def Ready (s : State) : Prop := s.resetLow = false ∧ s.hpt.request.isComplete = false ∧ s.hpt.reply = []

/-- A state as a request leaves it that is taken and answered: the silence count 0, the request buffer empty, the reply in the
reply buffer (R176, R177, R133). -/
def answered (status : ReplyStatus) (data : List Byte) (s : State) : State :=
  { s with
    hlk := { s.hlk with silenceCount := 0 }
    hpt := { s.hpt with request := .empty, reply := status.code :: data, readPos := 0 } }

/-- A state whose port has taken a request and not yet placed its reply: the silence count 0, the request buffer empty (R176,
R133). -/
def taken (s : State) : State :=
  { s with hlk := { s.hlk with silenceCount := 0 }, hpt := { s.hpt with request := .empty } }

/-- Two argument bytes are the handle of a live record (R52, R53). -/
def Names (s : State) (slot gen : Byte) (i : Fin 240) (p : Person) : Prop :=
  slot.toNat = i.val ∧ gen.toNat = (s.slot i).gen.toNat ∧ s.person i = some p

/-- A truck number is that of the record at a position, and of no other (R114). -/
def NamesTruck (s : State) (number : Word16) (q : Fin 24) (t : Truck) : Prop :=
  1 ≤ number.toNat ∧ number.toNat ≤ 4095 ∧ s.truckAt q = some t ∧ t.number = number.toNat
    ∧ ∀ (r : Fin 24) (u : Truck), s.truckAt r = some u → u.number = number.toNat → r = q

/-- A condition or a call is raised: it has an ACTIVE item, or waits as a due mark (R41). -/
def Raised (k : ItemKind) (x : Subject) (s : State) : Prop :=
  (∃ it, s.item k x = some it ∧ it.condition = .active) ∨ ∃ f, s.dueMark k x = some f

/-- A condition or a call is not raised: it has no ACTIVE item and no due mark (R42, R43). -/
def NotRaised (k : ItemKind) (x : Subject) (s : State) : Prop :=
  (∀ it ∈ s.atq.items, it.kind = k → it.subject = x → it.condition = .ended) ∧ s.dueMark k x = none

/-- A visitor is with its escort: the escort is a live record, PRESENT in the visitor's zone (R68). -/
def IsWithEscort (w : Person) (s : State) : Prop :=
  ∃ (h : Handle) (e : Person), w.escort = some h ∧ s.person h.slot = some e ∧ (s.slot h.slot).gen = h.gen
    ∧ e.state = .present ∧ e.zone = w.zone

/-- A VISITOR record is separated from its escort (R68). -/
def IsSeparated (w : Person) (s : State) : Prop :=
  w.escort = none ∨ ((w.state = .present ∨ w.state = .quiet) ∧ ¬ IsWithEscort w s)

/-- The separation of the visitor in a slot judged (R69): `v` is its record before, in `s`, and `w` after, in `t`. Separation
begins or goes on with its stamp kept, or it ends, with escort lost no and ESCORT_LOST ended. -/
def SeparationJudged (j : Fin 240) (v w : Person) (s t : State) : Prop :=
  (IsSeparated w t → w.separation = some (v.separation.getD s.frt.frame) ∧ w.escortLost = v.escortLost)
    ∧ (¬ IsSeparated w t → w.separation = none
        ∧ (v.separation = none → w.escortLost = v.escortLost)
        ∧ (v.separation ≠ none → w.escortLost = false
            ∧ (v.escortLost = true → QueueHolds s.atq → NotRaised .escortLost (s.personSubject j) t)))

/-- The slots of the roster other than one stay (R63: a sighting that changes neither state nor zone). -/
def OthersStay (i : Fin 240) (s t : State) : Prop := ∀ j, j ≠ i → t.slot j = s.slot j

/-- A change of the record in a slot handed to the escort judgement (R63, R68, R80, R150, R151): the record itself where it is a
VISITOR, and each visitor whose escort it is, are judged; no other record's separation or escort lost changes, and the other
records stay but for these two fields. -/
def EscortsJudged (i : Fin 240) (s t : State) : Prop :=
  (∀ j, j ≠ i → s.person j = none → t.slot j = s.slot j)
    ∧ ∀ j v, s.person j = some v →
      let concerned := v.role = .visitor ∧ (j = i ∨ v.escort = some (s.handle i))
      ∃ w, t.person j = some w
        ∧ (concerned → SeparationJudged j v w s t)
        ∧ (¬ concerned → w.separation = v.separation ∧ w.escortLost = v.escortLost)
        ∧ (j ≠ i → t.slot j = { gen := (s.slot j).gen, person := some (
            { v with separation := w.separation, escortLost := w.escortLost }) })

/-- A command is a request whose code is in a list. -/
def hasCodeIn (codes : List Byte) (i : Instr) : Bool :=
  match encodeRequest i with
  | some e => codes.contains e.1
  | none => false

/-- The requests admitted in SETUP only: SET_FRAME, SET_ZONE, SET_CHANNEL, SET_REFUGE, SET_DISTRICT, START (R178, R186). -/
def isSetupOnly (i : Instr) : Bool := hasCodeIn [1, 6, 18, 33, 41, 42] i

/-- The requests admitted in RUNNING only: EVACUATE, LIFT, ANSWER, PAGE, TEST_CHANNEL, FORCE_ORDER, AIR_CONTROL, RESUME (R178,
R186). -/
def isRunningOnly (i : Instr) : Bool := hasCodeIn [34, 35, 37, 39, 23, 29, 22, 32] i

/-- Commands executed one after another, stopping where one does not answer a next state. -/
def execAll : List Instr → State → Host.Outcome State Fault Refusal
  | [], s => .next s
  | c :: rest, s =>
    match exec c s with
    | .next t => execAll rest t
    | .fault f => .fault f
    | .refused r => .refused r

/-- The writes of the host port that spell a code and its argument bytes (R176). -/
def portWrites (code : Byte) (args : List Byte) : List Instr :=
  .hostPortWrite true code :: args.map (.hostPortWrite false)

end Sys2Proof.Safety
end

