-- ==== Sys2Proof/Certificates/Slice0/Obligations.lean ====
section
/-! DEFINITION. The statements for the provers, from the manual's numbered rules. `answered status data s` is `s` as a taken
request leaves it with that reply; `Ready s` says that a request written is taken at once. -/

open Sys2Proof Sys2Proof.Machine Sys2Proof.Safety

/-! ## The queue of commands and part reset -/

/-- A step takes the command at the front of the queue and is its meaning on the queue's rest; with no command waiting the part
idles (the model's choice, log 1). -/
def Obligations.StepTakesFrontCommand : Prop :=
  (∀ (c : Instr) (s : State), step { s with pending := c :: s.pending } = exec c s)
    ∧ ∀ s : State, s.pending = [] → step s = .next s

/-- Part reset leaves the values of the tables of R1, R17, R35, R52, R75, R90, R97, R114, R137, R147, R155, R167 and R175, and
with them L7, L11, L12 and the quiet of SETUP hold. -/
def Obligations.ResetHoldsTheManualsValues : Prop :=
  State.reset.frt =
      { timer := .stopped, slot := 0, frame := 0, total := 256, sync := .free,
        active := { tagEnd := 160, haulStart := 160, haulEnd := 184, callStart := 184, callEnd := 188 },
        pendingWindows := none, beginKind := .start, pulseSeen := false, restartPending := false, lock := .noLock,
        countRun := 0, markSlot := none, cadenceBit := 2, cadenceEdge := .rising }
    ∧ (∀ z : Fin 32, State.reset.zone z =
        { configured := false, kind := .travel, monitored := false, reported := .clear, real := .clear, persons := 0,
          grants := [], limit := 2, pendingLimit := none, autoLevel := .trip, refuge := none, tripLine := none,
          evac := .notOrdered, causes := { air := false, line := false, host := false }, orderedStamp := none })
    ∧ (∀ line : Fin 8, State.reset.znt.lines[line] = false)
    ∧ State.reset.atq = { items := [], counter := 0, due := [] }
    ∧ (∀ i : Fin 240, State.reset.slot i = { gen := 0, person := none })
    ∧ (State.reset.rst.portalEnrolment = false ∧ State.reset.rst.escortLimit = 20 ∧ State.reset.rst.walkPos = 0
        ∧ State.reset.rst.walkStep = 8 ∧ State.reset.rst.walkInterval = 4 ∧ State.reset.rst.pendingWalk = none
        ∧ State.reset.rst.quietLimit = 3 ∧ State.reset.rst.missingLimit = 6 ∧ State.reset.rst.outHold = 8
        ∧ State.reset.rst.exposureMode = .time ∧ State.reset.rst.exposureLimit = 3600)
    ∧ (State.reset.air.mode = .idle ∧ State.reset.air.enableSet = 0xff ∧ State.reset.air.lastGroup = 7
        ∧ State.reset.air.resume = none ∧ State.reset.air.onceSet = 0 ∧ State.reset.air.confirmList = []
        ∧ State.reset.air.sweep = .noSweep ∧ (∀ k : Fin 4, State.reset.air.buffer[k] = none)
        ∧ State.reset.air.turnsDone = 0 ∧ State.reset.air.select = 0)
    ∧ (∀ c : Fin 32, State.reset.channel c =
        { gas := .methane, zone := none, enabled := false, levels := { caution := 64, danger := 96 }, pendingLevels := none,
          tripLevel := some 128, persistence := 2, hysteresis := 4, reading := none, real := .off, faultFlag := false,
          goodCount := 0, warmupCount := 0, run := .noRun, runCount := 0, confirmPending := false, test := none })
    ∧ (∀ p : Fin 24, State.reset.truckAt p = none)
    ∧ (State.reset.hlk.pollList = [] ∧ State.reset.hlk.cursor = none ∧ State.reset.hlk.lapseLimit = 3
        ∧ State.reset.hlk.closeLevel = 8 ∧ State.reset.hlk.silenceLimit = 0 ∧ State.reset.hlk.silenceCount = 0
        ∧ State.reset.hlk.alone = false)
    ∧ (∀ r : Fin 8, State.reset.refuge r =
        { configured := false, zone := none, capacity := 16, occupancy := 0, door := .closed, supply := .ok,
          panel := .reporting, lastReport := 0,
          reasons := { doorBreach := false, doorFault := false, supply := false, silent := false, overCapacity := false } })
    ∧ (State.reset.rev.silenceLimit = 10 ∧ State.reset.rev.roundOn = false ∧ State.reset.rev.roundStart = none
        ∧ State.reset.rev.roundCursor = 0)
    ∧ (∀ c : Fin 4, State.reset.cal.channels[c] = none)
    ∧ (State.reset.cal.usable = 4 ∧ State.reset.cal.routineLimit = 30 ∧ State.reset.cal.emergencyLimit = 10)
    ∧ State.reset.flk = { queue := [], holding := none, inHand := none }
    ∧ (State.reset.hpt.request = .empty ∧ State.reset.hpt.reply = [10] ∧ State.reset.hpt.readPos = 0
        ∧ State.reset.hpt.overrun = false ∧ State.reset.hpt.phase = .setup ∧ State.reset.hpt.flags.toByte = 0
        ∧ State.reset.hpt.mask.toByte = 0 ∧ State.reset.hpt.cursorTable = .roster ∧ State.reset.hpt.cursorIndex = 0)
    ∧ QueueHolds State.reset.atq ∧ ChannelsAgree State.reset ∧ LinesAgree State.reset ∧ SetupIsQuiet State.reset

/-- Power-on, the fall of the reset line and RESET_PART are part reset; the commands that wait stay (the model's own), and a
power-on leaves the reset line as it is (log 17). The release lets events be taken again; while the line is low, no command but
power-on and a change of the line itself changes anything. -/
def Obligations.PartResetHasThreeCauses : Prop :=
  ∀ s : State,
    exec .powerOn s = .next { State.reset with resetLow := s.resetLow, pending := s.pending }
      ∧ exec .resetLine s = .next { State.reset with resetLow := true, pending := s.pending }
      ∧ exec .resetRelease s = .next { s with resetLow := false }
      ∧ (Ready s → exec .resetPart s = .next { State.reset with pending := s.pending })
      ∧ (s.resetLow = true → ∀ c : Instr, c ≠ .powerOn → c ≠ .resetLine → c ≠ .resetRelease → exec c s = .next s)

/-! ## The host port -/

/-- A write strobe: a code makes the request buffer PARTIAL, or COMPLETE where it takes no argument bytes; an argument byte is
added to a PARTIAL request; an argument to an empty buffer and any byte to a COMPLETE request are discarded with overrun; a
request COMPLETE with an empty reply buffer is taken. A code that names no request takes no argument bytes and is answered
BAD_CODE; the table's row for it is that write (log 2). -/
def Obligations.WriteStrobeFillsRequestBuffer : Prop :=
  ∀ (s : State) (byte : Byte), s.resetLow = false →
    (∀ isCode code args, s.hpt.request = .complete code args →
        exec (.hostPortWrite isCode byte) s = .next { s with hpt := { s.hpt with overrun := true } })
      ∧ (s.hpt.request = .empty → exec (.hostPortWrite false byte) s = .next { s with hpt := { s.hpt with overrun := true } })
      ∧ (s.hpt.request.isComplete = false → argBytes byte ≠ 0 →
          exec (.hostPortWrite true byte) s = .next { s with hpt := { s.hpt with request := .incomplete byte [] } })
      ∧ (s.hpt.request.isComplete = false → argBytes byte = 0 → s.hpt.reply ≠ [] →
          exec (.hostPortWrite true byte) s = .next { s with hpt := { s.hpt with request := .complete byte [] } })
      ∧ (s.hpt.request.isComplete = false → argBytes byte = 0 → s.hpt.reply = [] →
          exec (.hostPortWrite true byte) s = .next (takeRequest byte (decodeRequest byte []) s))
      ∧ (∀ code args, s.hpt.request = .incomplete code args →
          (args.length + 1 ≠ argBytes code →
            exec (.hostPortWrite false byte) s =
              .next { s with hpt := { s.hpt with request := .incomplete code (args ++ [byte]) } })
          ∧ (args.length + 1 = argBytes code → s.hpt.reply ≠ [] →
            exec (.hostPortWrite false byte) s =
              .next { s with hpt := { s.hpt with request := .complete code (args ++ [byte]) } })
          ∧ (args.length + 1 = argBytes code → s.hpt.reply = [] →
            exec (.hostPortWrite false byte) s =
              .next (takeRequest code (decodeRequest code (args ++ [byte])) s)))
      ∧ (requestRow? byte = none →
          exec (.unknownRequestCode byte) s = exec (.hostPortWrite true byte) s
            ∧ (Ready s → exec (.unknownRequestCode byte) s = .next (answered .badCode [] s)))

/-- A read with C/D low drives the reply byte at the read position; after the last byte the reply buffer is empty, and a
COMPLETE request that waits is taken; a read of an empty reply buffer gives 0 and changes nothing (the byte driven is kept in
the model's own field, log 18). -/
def Obligations.ReplyReadDrivesNextByte : Prop :=
  ∀ s : State, s.resetLow = false →
    (s.hpt.reply = [] → exec .replyRead s = .next { s with hostOut := some 0 })
      ∧ (s.hpt.readPos + 1 < s.hpt.reply.length →
          exec .replyRead s =
            .next { s with hostOut := some (s.hpt.reply.getD s.hpt.readPos 0),
                           hpt := { s.hpt with readPos := s.hpt.readPos + 1 } })
      ∧ (s.hpt.readPos + 1 = s.hpt.reply.length → s.hpt.request.isComplete = false →
          exec .replyRead s =
            .next { s with hostOut := some (s.hpt.reply.getD s.hpt.readPos 0),
                           hpt := { s.hpt with reply := [], readPos := 0 } })
      ∧ ∀ code args, s.hpt.readPos + 1 = s.hpt.reply.length → s.hpt.request = .complete code args →
          exec .replyRead s =
            .next { takeRequest code (decodeRequest code args) { s with hpt := { s.hpt with reply := [], readPos := 0 } } with
              hostOut := some (s.hpt.reply.getD s.hpt.readPos 0) }

/-- A read with C/D high drives the status byte, bit by bit, and then makes overrun no; bit 5 is the notice line, high while some
notice flag is set and not masked. (The byte driven is kept in the model's own field: log 18.) -/
def Obligations.StatusByteShowsThePort : Prop :=
  ∀ s : State, s.resetLow = false →
    ∃ b : Byte,
      exec .statusByteRead s = .next { s with hostOut := some b, hpt := { s.hpt with overrun := false } }
        ∧ (b.getLsbD 0 = true ↔ ∃ code args, s.hpt.request = .complete code args)
        ∧ (b.getLsbD 1 = true ↔ s.hpt.reply ≠ [])
        ∧ (b.getLsbD 2 = true ↔ s.hpt.phase = .running)
        ∧ b.getLsbD 3 = s.hlk.alone
        ∧ b.getLsbD 4 = s.hpt.overrun
        ∧ b.getLsbD 5 = noticeLine s
        ∧ (noticeLine s = true ↔
            (s.hpt.flags.attention = true ∧ s.hpt.mask.attention = false) ∨ (s.hpt.flags.mark = true ∧ s.hpt.mask.mark = false)
            ∨ (s.hpt.flags.lock = true ∧ s.hpt.mask.lock = false) ∨ (s.hpt.flags.alone = true ∧ s.hpt.mask.alone = false)
            ∨ (s.hpt.flags.tripLine = true ∧ s.hpt.mask.tripLine = false)
            ∨ (s.hpt.flags.fieldOverrun = true ∧ s.hpt.mask.fieldOverrun = false)
            ∨ (s.hpt.flags.txLate = true ∧ s.hpt.mask.txLate = false))
        ∧ b.getLsbD 6 = false
        ∧ b.getLsbD 7 = false

/-- Every request's bytes decode to the request, and bytes that decode to a request are that request's bytes; the request table
gives as many argument bytes as the request has. -/
def Obligations.RequestBytesAndRequestsAgree : Prop :=
  ∀ (i : Instr) (code : Byte) (args : List Byte),
    (encodeRequest i = some (code, args) → decodeRequest code args = some i ∧ argBytes code = args.length)
      ∧ (decodeRequest code args = some i → encodeRequest i = some (code, args))

/-- A request taken as one command is the run of its port writes, code first and argument bytes after it, in every state in
which the reset line is high (log 2). Written while a COMPLETE request waits it is discarded with overrun; written while a
reply waits it becomes the COMPLETE request and changes nothing else. -/
def Obligations.RequestIsTheRunOfItsPortWrites : Prop :=
  ∀ (i : Instr) (code : Byte) (args : List Byte) (s : State), encodeRequest i = some (code, args) → s.resetLow = false →
    execAll (portWrites code args) s = exec i s
      ∧ (s.hpt.request.isComplete = true → exec i s = .next { s with hpt := { s.hpt with overrun := true } })
      ∧ (s.hpt.request.isComplete = false → s.hpt.reply ≠ [] →
          exec i s = .next { s with hpt := { s.hpt with request := .complete code args } })

/-- A request not admitted in the present phase is answered WRONG_PHASE and changes nothing; every other request is carried out
by its owner. -/
def Obligations.PhaseAdmitsRequests : Prop :=
  ∀ (i : Instr) (code : Byte) (args : List Byte) (s : State), encodeRequest i = some (code, args) → Ready s →
    ((isSetupOnly i = true ∧ s.hpt.phase = .running) ∨ (isRunningOnly i = true ∧ s.hpt.phase = .setup) →
        exec i s = .next (answered .wrongPhase [] s))
      ∧ (¬ ((isSetupOnly i = true ∧ s.hpt.phase = .running) ∨ (isRunningOnly i = true ∧ s.hpt.phase = .setup)) →
        exec i s = .next (carryOut i { s with hlk := { s.hlk with silenceCount := 0 },
                                              hpt := { s.hpt with request := .empty } }))

/-- A request that names a person by handle checks its ranges, then the slot, then the generation, and answers the first check
that fails; it changes nothing then. An escort's handle that fails any of them is answered BAD_ARGUMENT. -/
def Obligations.HandlesAreCheckedInOrder : Prop :=
  ∀ (slot gen escortSlot escortGen : Byte) (s : State), Ready s →
    (∀ i ∈ [Instr.retire slot gen, .setEscort slot gen escortSlot escortGen, .readPerson slot gen, .clearExposure slot gen,
            .answer slot gen, .endCall slot gen, .page slot gen, .cancelPage slot gen],
      (isRunningOnly i = true → s.hpt.phase = .running) →
        (240 ≤ slot.toNat ∨ 16 ≤ gen.toNat → exec i s = .next (answered .badArgument [] s))
          ∧ ∀ k : Fin 240, slot.toNat = k.val → gen.toNat < 16 →
            (s.person k = none → exec i s = .next (answered .noRecord [] s))
              ∧ ∀ p, s.person k = some p → gen.toNat ≠ (s.slot k).gen.toNat → exec i s = .next (answered .stale [] s))
      ∧ ((240 ≤ escortSlot.toNat ∨ 16 ≤ escortGen.toNat
            ∨ ∃ k : Fin 240, escortSlot.toNat = k.val
                ∧ (s.person k = none ∨ escortGen.toNat ≠ (s.slot k).gen.toNat)) →
          (∀ tag : Tag, exec (.enrol tag 2 escortSlot escortGen) s = .next (answered .badArgument [] s))
            ∧ ∀ k p, Names s slot gen k p → exec (.setEscort slot gen escortSlot escortGen) s = .next (answered .badArgument [] s))

/-! ## The frame timer -/

/-- SET_FRAME refuses a total, bound, sync mode or mark slot out of range, and writes the shape of the frame otherwise, with the
usable call channel count that follows. SET_WINDOWS refuses bounds out of order; it writes the active windows while the timer is
STOPPED and the pending windows while it is ARMED or COUNTING. -/
def Obligations.FrameRequestsWriteTheWindows : Prop :=
  ∀ (total tagEnd haulStart haulEnd callStart callEnd : Word16) (sync : Byte) (s : State), Ready s →
    let w : Windows := { tagEnd := tagEnd.toNat, haulStart := haulStart.toNat, haulEnd := haulEnd.toNat,
                         callStart := callStart.toNat, callEnd := callEnd.toNat }
    let badFrame := total.toNat < 64 ∨ 1024 < total.toNat ∨ 1024 < w.tagEnd ∨ 1024 < w.haulStart ∨ 1024 < w.haulEnd
      ∨ 1024 < w.callStart ∨ 1024 < w.callEnd ∨ 1 < sync.toNat ∨ ∃ m, s.frt.markSlot = some m ∧ total.toNat ≤ m
    let ordered := 1 ≤ w.tagEnd ∧ w.tagEnd ≤ w.haulStart ∧ w.haulStart ≤ w.haulEnd ∧ w.haulEnd ≤ w.callStart
      ∧ w.callStart ≤ w.callEnd ∧ w.callEnd ≤ s.frt.total ∧ w.haulEnd - w.haulStart ≤ 24
    (s.hpt.phase = .setup →
        (badFrame → exec (.setFrame total tagEnd haulStart haulEnd callStart callEnd sync) s =
          .next (answered .badArgument [] s))
        ∧ (¬ badFrame → exec (.setFrame total tagEnd haulStart haulEnd callStart callEnd sync) s =
          .next (answered .done []
            { s with frt := { s.frt with total := total.toNat, sync := if sync = 0 then .free else .pulsed, active := w },
                     cal := { s.cal with usable := min 4 (callEnd.toNat - callStart.toNat) } })))
      ∧ (¬ ordered → exec (.setWindows tagEnd haulStart haulEnd callStart callEnd) s = .next (answered .badArgument [] s))
      ∧ (ordered → s.frt.timer = .stopped →
          exec (.setWindows tagEnd haulStart haulEnd callStart callEnd) s =
            .next (answered .done [] { s with frt := { s.frt with active := w },
                                              cal := { s.cal with usable := min 4 (callEnd.toNat - callStart.toNat) } }))
      ∧ (ordered → s.frt.timer ≠ .stopped →
          exec (.setWindows tagEnd haulStart haulEnd callStart callEnd) s =
            .next (answered .done [] { s with frt := { s.frt with pendingWindows := some w } }))

/-- SET_MARK writes or removes the mark slot, SET_CADENCE the cadence bit and edge, SET_WALK the active walk step and interval in
SETUP and the pending ones in RUNNING, replying with the walker as it then stands, SET_CURSOR the list cursor and
SET_NOTICE_MASK the mask; CLEAR_NOTICE clears the notices named. Each refuses values out of range. -/
def Obligations.SettingRequestsWriteTheirSettings : Prop :=
  ∀ (slot : Word16) (bit edge walkStep interval table index notices : Byte) (s : State), Ready s →
    let badWalk := walkStep.toNat ∉ [1, 2, 4, 8, 16, 32, 64, 128] ∨ interval.toNat < 1 ∨ 4 < interval.toNat
    (slot = 0xffff → exec (.setMark slot) s = .next (answered .done [] { s with frt := { s.frt with markSlot := none } }))
      ∧ (slot ≠ 0xffff → slot.toNat < s.frt.total →
          exec (.setMark slot) s = .next (answered .done [] { s with frt := { s.frt with markSlot := some slot.toNat } }))
      ∧ (slot ≠ 0xffff → s.frt.total ≤ slot.toNat → exec (.setMark slot) s = .next (answered .badArgument [] s))
      ∧ (7 < bit.toNat ∨ 2 < edge.toNat → exec (.setCadence bit edge) s = .next (answered .badArgument [] s))
      ∧ (bit.toNat ≤ 7 → edge.toNat ≤ 2 →
          exec (.setCadence bit edge) s =
            .next (answered .done []
              { s with frt := { s.frt with
                  cadenceBit := bit.toNat
                  cadenceEdge := if edge = 0 then .rising else if edge = 1 then .falling else .both } }))
      ∧ (badWalk → exec (.setWalk walkStep interval) s = .next (answered .badArgument [] s))
      ∧ (¬ badWalk → s.hpt.phase = .setup →
          exec (.setWalk walkStep interval) s =
            .next (answered .done [byteOf s.rst.walkPos.val, walkStep, interval, 0, 0, 0]
              { s with rst := { s.rst with walkStep := walkStep.toNat, walkInterval := interval.toNat, pendingWalk := none } }))
      ∧ (¬ badWalk → s.hpt.phase = .running →
          exec (.setWalk walkStep interval) s =
            .next (answered .done
              [byteOf s.rst.walkPos.val, byteOf s.rst.walkStep, byteOf s.rst.walkInterval, 1, walkStep, interval]
              { s with rst := { s.rst with pendingWalk := some (walkStep.toNat, interval.toNat) } }))
      ∧ (∀ t : ListTable, t.code = table → index.toNat < t.size →
          exec (.setCursor table index) s =
            .next (answered .done [] { s with hpt := { s.hpt with cursorTable := t, cursorIndex := index.toNat } }))
      ∧ ((∀ t : ListTable, t.code = table → t.size ≤ index.toNat) →
          exec (.setCursor table index) s = .next (answered .badArgument [] s))
      ∧ (notices.getLsbD 7 = true → exec (.clearNotice notices) s = .next (answered .badArgument [] s)
          ∧ exec (.setNoticeMask notices) s = .next (answered .badArgument [] s))
      ∧ ∀ n : NoticeSet, n.toByte = notices →
          exec (.clearNotice notices) s =
              .next (answered .done [] { s with hpt := { s.hpt with flags :=
                { attention := s.hpt.flags.attention && !n.attention, mark := s.hpt.flags.mark && !n.mark,
                  lock := s.hpt.flags.lock && !n.lock, alone := s.hpt.flags.alone && !n.alone,
                  tripLine := s.hpt.flags.tripLine && !n.tripLine,
                  fieldOverrun := s.hpt.flags.fieldOverrun && !n.fieldOverrun,
                  txLate := s.hpt.flags.txLate && !n.txLate } } })
            ∧ exec (.setNoticeMask notices) s = .next (answered .done [] { s with hpt := { s.hpt with mask := n } })

/-- A slot strobe is ignored while STOPPED, begins frame 0 while ARMED, and while COUNTING begins a new frame on restart pending
or at the last slot, and counts one slot otherwise; a new frame makes the pending windows active. It hands a slot start, and at
a new frame a frame start with its cadence event, to the blocks (held as flags: the model's own, log 3; the flags of the last
strobe that still wait are taken before the next one, log 4). The first clauses give the class of a slot under the active
windows. -/
def Obligations.SlotStrobeCountsSlotsAndFrames : Prop :=
  ∀ s : State,
    let w := s.frt.active
    let n := s.frt.slot
    let tag := n ≠ 0 ∧ n < w.tagEnd
    let haul := n ≠ 0 ∧ w.tagEnd ≤ n ∧ w.haulStart ≤ n ∧ n < w.haulEnd
    let voice := n ≠ 0 ∧ w.tagEnd ≤ n ∧ w.callStart ≤ n ∧ n < w.callEnd ∧ ¬ haul
    ((n = 0 → s.slotClass = .beacon) ∧ (tag → s.slotClass = .tag) ∧ (haul → s.slotClass = .haul)
      ∧ (voice → s.slotClass = .voice) ∧ (n ≠ 0 → ¬ tag → ¬ haul → ¬ voice → s.slotClass = .guard))
    ∧ (s.resetLow = false →
    (s.frt.timer = .stopped → exec .slotStrobe s = .next s)
      ∧ (s.frt.timer = .armed → ∃ t, exec .slotStrobe s = .next t ∧ t.frt.timer = .counting ∧ t.frt.slot = 0
          ∧ t.frt.frame = 0 ∧ t.frt.beginKind = (if s.frt.restartPending then .pulse else .start)
          ∧ t.frt.pulseSeen = s.frt.restartPending ∧ t.frt.restartPending = false
          ∧ t.frt.total = s.frt.total ∧ t.frt.sync = s.frt.sync ∧ t.frt.markSlot = s.frt.markSlot
          ∧ t.frt.active = s.frt.pendingWindows.getD s.frt.active ∧ t.frt.pendingWindows = none
          ∧ (s.frt.pendingWindows ≠ none → t.handed.usable = true)
          ∧ t.handed.walk = true ∧ t.handed.escort = true ∧ t.handed.exposure = true ∧ t.handed.panel = true
          ∧ t.handed.callWait = true ∧ t.handed.pollFlags = true ∧ t.handed.silence = true ∧ t.handed.limits = true
          ∧ t.handed.round = false ∧ t.handed.sweep = true ∧ t.handed.check = true ∧ t.handed.poll = false
          ∧ t.handed.hold = false)
      ∧ (s.frt.timer = .counting → ∃ t, exec .slotStrobe s = .next t
          ∧ t.frt.timer = .counting ∧ t.frt.restartPending = false
          ∧ t.frt.total = s.frt.total ∧ t.frt.sync = s.frt.sync ∧ t.frt.markSlot = s.frt.markSlot
          ∧ t.handed.sweep = true ∧ t.handed.check = true
          ∧ (t.handed.poll = true ↔ t.frt.slot ≠ 0 ∧ t.frt.active.tagEnd ≤ t.frt.slot ∧ t.frt.active.haulStart ≤ t.frt.slot
              ∧ t.frt.slot < t.frt.active.haulEnd)
          ∧ (t.handed.hold = true ↔ t.frt.slot ≠ 0 ∧ t.frt.active.tagEnd ≤ t.frt.slot
              ∧ t.frt.active.callStart ≤ t.frt.slot ∧ t.frt.slot < t.frt.active.callEnd
              ∧ ¬ (t.frt.active.haulStart ≤ t.frt.slot ∧ t.frt.slot < t.frt.active.haulEnd))
          ∧ (s.frt.restartPending = false → s.frt.slot + 1 ≠ s.frt.total →
              t.frt.slot = s.frt.slot + 1 ∧ t.frt.frame = s.frt.frame ∧ t.frt.beginKind = s.frt.beginKind
                ∧ t.frt.pulseSeen = s.frt.pulseSeen ∧ t.frt.active = s.frt.active
                ∧ t.frt.pendingWindows = s.frt.pendingWindows ∧ t.handed.walk = false)
          ∧ (s.frt.restartPending = true ∨ s.frt.slot + 1 = s.frt.total →
              t.frt.slot = 0 ∧ t.frt.frame = s.frt.frame + 1
                ∧ t.frt.beginKind = (if s.frt.restartPending then .pulse else .count)
                ∧ t.frt.pulseSeen = s.frt.restartPending
                ∧ t.frt.active = s.frt.pendingWindows.getD s.frt.active ∧ t.frt.pendingWindows = none
                ∧ t.handed.walk = true ∧ t.handed.escort = true ∧ t.handed.exposure = true ∧ t.handed.panel = true
                ∧ t.handed.callWait = true ∧ t.handed.pollFlags = true ∧ t.handed.silence = true ∧ t.handed.limits = true
                ∧ t.handed.usable = s.frt.pendingWindows.isSome
                ∧ ∀ before after : Bool, before = s.frt.frame.getLsbD s.frt.cadenceBit →
                    after = (s.frt.frame + 1).getLsbD s.frt.cadenceBit →
                    (s.frt.cadenceEdge = .rising → (t.handed.round = true ↔ before = false ∧ after = true))
                    ∧ (s.frt.cadenceEdge = .falling → (t.handed.round = true ↔ before = true ∧ after = false))
                    ∧ (s.frt.cadenceEdge = .both → (t.handed.round = true ↔ before ≠ after)))))

/-- A strobe into the mark slot raises MARK. In PULSED mode a strobe into slot 1 judges lock: LOCKED with the count run 0 where
the frame has seen a pulse, SEEKING or LOST by the count run where the count began it, and nothing where START began it; a
change of the lock state raises LOCK. No other strobe changes the lock state; the strobe that ends ARMED is the slot start of
slot 0, which raises MARK where the mark slot is 0 and judges no lock. -/
def Obligations.SlotStartRaisesMarkAndJudgesLock : Prop :=
  ∀ s : State, s.resetLow = false →
    (s.frt.timer = .armed → ∃ t, exec .slotStrobe s = .next t
      ∧ (t.hpt.flags.mark = true ↔ s.hpt.flags.mark = true ∨ s.frt.markSlot = some 0)
      ∧ t.hpt.flags.lock = s.hpt.flags.lock ∧ t.frt.lock = s.frt.lock ∧ t.frt.countRun = s.frt.countRun)
    ∧ (s.frt.timer = .counting → ∃ t, exec .slotStrobe s = .next t
      ∧ (t.hpt.flags.mark = true ↔ s.hpt.flags.mark = true ∨ s.frt.markSlot = some t.frt.slot)
      ∧ (t.hpt.flags.lock = true ↔ s.hpt.flags.lock = true ∨ t.frt.lock ≠ s.frt.lock)
      ∧ (s.frt.sync = .free ∨ t.frt.slot ≠ 1 → t.frt.lock = s.frt.lock ∧ t.frt.countRun = s.frt.countRun)
      ∧ (s.frt.sync = .pulsed → t.frt.slot = 1 →
          (t.frt.pulseSeen = true → t.frt.lock = .locked ∧ t.frt.countRun = 0)
          ∧ (t.frt.pulseSeen = false → t.frt.beginKind = .count →
              t.frt.countRun = min 4 (s.frt.countRun + 1)
                ∧ t.frt.lock = (if s.frt.countRun + 1 < 4 then .seeking else .lost))
          ∧ (t.frt.pulseSeen = false → t.frt.beginKind = .start →
              t.frt.lock = s.frt.lock ∧ t.frt.countRun = s.frt.countRun)))

/-- A frame pulse taken while COUNTING: ignored in FREE mode; in PULSED mode absorbed in slot 0 with pulse seen set, and in slot
1 or later restart pending is set or stays set, so that the next strobe begins a new frame: after a pulse in slot 1 the frame
has held the two slots 0 and 1. A pulse taken while STOPPED is ignored, and one taken in PULSED mode while ARMED sets restart
pending, so that frame 0 begins by PULSE with pulse seen. -/
def Obligations.FramePulseIsTreatedBySlot : Prop :=
  ∀ s : State, s.resetLow = false →
    (s.frt.timer = .stopped ∨ s.frt.sync = .free → exec .framePulse s = .next s)
    ∧ (s.frt.timer = .armed → s.frt.sync = .pulsed →
        exec .framePulse s = .next { s with frt := { s.frt with restartPending := true } }
          ∧ ∃ t, exec .slotStrobe { s with frt := { s.frt with restartPending := true } } = .next t
              ∧ t.frt.timer = .counting ∧ t.frt.slot = 0 ∧ t.frt.frame = 0 ∧ t.frt.beginKind = .pulse
              ∧ t.frt.pulseSeen = true ∧ t.frt.restartPending = false)
    ∧ (s.frt.timer = .counting →
    (s.frt.sync = .free → exec .framePulse s = .next s)
      ∧ (s.frt.sync = .pulsed → s.frt.slot = 0 → exec .framePulse s = .next { s with frt := { s.frt with pulseSeen := true } })
      ∧ (s.frt.sync = .pulsed → s.frt.slot ≠ 0 →
          exec .framePulse s = .next { s with frt := { s.frt with restartPending := true } }
            ∧ ∃ t, exec .slotStrobe { s with frt := { s.frt with restartPending := true } } = .next t
                ∧ t.frt.slot = 0 ∧ t.frt.frame = s.frt.frame + 1 ∧ t.frt.beginKind = .pulse ∧ t.frt.pulseSeen = true
                ∧ t.frt.restartPending = false))

/-- The beacon of a new frame: the new frame number, the lock state and the alone flag as they stand, an entry for each ORDERED
zone in ascending order, and the lists of the alert round, empty without one; it is held with the stamp of slot 0, and an
unfetched message of an earlier slot is dropped with TX_LATE. The frame started is frame 0 where the timer is ARMED, and the
next one where it is COUNTING and the events handed at the last strobe have all been taken. -/
def Obligations.FrameStartBuildsTheBeacon : Prop :=
  ∀ (s : State) (frame : Frame), s.resetLow = false →
    (s.frt.timer = .armed ∧ frame = 0)
      ∨ (s.frt.timer = .counting ∧ s.handed = Handed.none ∧ frame = s.frt.frame + 1
        ∧ (s.frt.restartPending = true ∨ s.frt.slot + 1 = s.frt.total)) →
    ∃ (t : State) (b : Beacon), exec .slotStrobe s = .next t
      ∧ t.flk.holding = some { message := .beacon b, stamp := { frame := frame, slot := 0 } }
      ∧ b.frame = frame ∧ b.lock = s.frt.lock ∧ b.alone = s.hlk.alone
      ∧ (∀ z r, (z, r) ∈ b.evacuation ↔ (s.zone z).evac = .ordered ∧ (s.zone z).refuge = r)
      ∧ (b.evacuation.map (fun e => e.1.val)).Pairwise (· < ·)
      ∧ (s.rev.roundOn = false → b.alerts = [] ∧ b.pages = [] ∧ t.rev = s.rev)
      ∧ (t.hpt.flags.txLate = true ↔ s.hpt.flags.txLate = true
          ∨ ∃ h, s.flk.holding = some h ∧ h.stamp ≠ { frame := frame, slot := 0 })

/-- An alert round fills the beacon's lists from its cursor upward in slot order, each slot whole, with at most 8 alert tags and
4 page tags; it stops at the first slot that would pass a limit, which becomes its cursor, and ends with the beacon whose scan
passes the last slot. The events handed at the last strobe have all been taken. -/
def Obligations.AlertRoundFillsTheBeaconLists : Prop :=
  ∀ s : State, s.resetLow = false → s.frt.timer = .counting → s.handed = Handed.none →
    (s.frt.restartPending = true ∨ s.frt.slot + 1 = s.frt.total) → s.rev.roundOn = true →
    let alertsOf (i : Fin 240) : List Tag := match s.person i with
      | some p => if p.alert = .sent then [p.tag] else []
      | none => []
    let pagesOf (i : Fin 240) : List Tag := match s.person i with
      | some p => if p.page then [p.tag] else []
      | none => []
    ∃ (t : State) (b : Beacon) (before rest : List (Fin 240)), exec .slotStrobe s = .next t
      ∧ t.flk.holding.map Held.message = some (.beacon b)
      ∧ allSlots.filter (fun i => decide (s.rev.roundCursor ≤ i.val)) = before ++ rest
      ∧ b.alerts = before.flatMap alertsOf ∧ b.pages = before.flatMap pagesOf
      ∧ b.alerts.length ≤ 8 ∧ b.pages.length ≤ 4
      ∧ (rest = [] → t.rev.roundOn = false ∧ t.rev.roundStart = none ∧ t.rev.roundCursor = 240)
      ∧ ∀ i later, rest = i :: later →
          t.rev.roundOn = true ∧ t.rev.roundStart = s.rev.roundStart ∧ t.rev.roundCursor = i.val
            ∧ (8 < b.alerts.length + (alertsOf i).length ∨ 4 < b.pages.length + (pagesOf i).length)

/-- The read requests reply DONE with what they read, field by field in the order of R16, R34, R74, R113, R136, R154 and R182,
and change nothing else; FIND_TAG replies with the handle of the live record that holds a tag number. Keys, numbers and tags out
of range are refused with BAD_ARGUMENT, and a number or a tag that no record holds is answered NO_RECORD. (An absent one-byte
value is sent as 255, an absent trip level as 0, an absent mark slot as 65535, an absent escort as slot 255 and generation 0,
and the line of a zone with no trip line as 0: log 10. A due mark is sent as an optional stamp: log 11.) A set is a byte with
bit n for the member whose place is n. -/
def Obligations.ReadRequestsChangeNothingElse : Prop :=
  ∀ (key slot gen : Byte) (number : Word16) (tag : Tag) (s : State), Ready s →
    let byte (o : Option Byte) : Byte := match o with | some b => b | none => 255
    let stamp (o : Option Frame) : List Byte := match o with | some f => 1 :: bytes16 f | none => [0, 0, 0]
    let mark (k : ItemKind) (x : Subject) : List Byte := stamp (s.dueMark k x)
    let windows (w : Windows) : List Byte :=
      twoBytes w.tagEnd ++ twoBytes w.haulStart ++ twoBytes w.haulEnd ++ twoBytes w.callStart ++ twoBytes w.callEnd
    exec .readFrame s = .next (answered .done
        ([s.frt.timer.code] ++ bytes16 s.frt.frame ++ twoBytes s.frt.slot ++ [s.slotClass.code] ++ twoBytes s.frt.total
          ++ [s.frt.sync.code, s.frt.lock.code, byteOf s.frt.countRun, s.frt.beginKind.code, yesNo s.frt.pulseSeen]
          ++ windows s.frt.active
          ++ (match s.frt.pendingWindows with | some w => [1] ++ windows w | none => List.replicate 11 0)
          ++ (match s.frt.markSlot with | some m => twoBytes m | none => [255, 255])
          ++ [byteOf s.frt.cadenceBit, s.frt.cadenceEdge.code]) s)
      ∧ exec .readNotice s = .next (answered .done [s.hpt.flags.toByte, s.hpt.mask.toByte] s)
      ∧ (∀ z : Fin 32, key.toNat = z.val →
          let r := s.zone z
          exec (.readZone key) s = .next (answered .done
            ([yesNo r.configured, r.kind.code, yesNo r.monitored, r.reported.code, r.real.code, byteOf r.persons]
              ++ [byteOf r.grants.length] ++ r.grants.flatMap twoBytes
              ++ [byteOf r.limit, byte (r.pendingLimit.map byteOf), r.autoLevel.code, optionalKey r.refuge,
                  optionalKey r.tripLine, (match r.tripLine with | some line => yesNo s.znt.lines[line] | none => 0),
                  r.evac.code, r.causes.toByte]
              ++ stamp r.orderedStamp ++ mark .zoneCaution (.zone z) ++ mark .zoneDanger (.zone z)
              ++ mark .zoneTrip (.zone z)) s))
      ∧ (∀ c : Fin 32, key.toNat = c.val →
          let r := s.channel c
          exec (.readChannel key) s = .next (answered .done
            ([r.gas.code, optionalKey r.zone, yesNo r.enabled, byteOf r.levels.caution, byteOf r.levels.danger]
              ++ (match r.pendingLevels with | some l => [1, byteOf l.caution, byteOf l.danger] | none => [0, 0, 0])
              ++ [(match r.tripLevel with | some v => byteOf v | none => 0), byteOf r.persistence, byteOf r.hysteresis,
                  byte (r.reading.map byteOf), r.real.code, (match r.test with | some x => x.forced.code | none => r.real.code),
                  yesNo r.faultFlag, byteOf r.goodCount, byteOf r.warmupCount]
              ++ (match r.run with | .noRun => [0, 0] | .rise target => [1, target.code] | .fall => [2, 0])
              ++ [byteOf r.runCount, yesNo r.confirmPending,
                  if c ∈ s.air.confirmList then byteOf (s.air.confirmList.idxOf c) else 255]
              ++ (match r.test with | some x => [1, x.forced.code, byteOf x.remaining] | none => [0, 0, 0])
              ++ [yesNo (match s.air.sweep with
                  | .noSweep => false
                  | .group g => decide (c.val % 8 = g.val)
                  | .confirm d => decide (c = d))]
              ++ mark .channelFault (.channel c)) s))
      ∧ (∀ r : Fin 8, key.toNat = r.val →
          let x := s.refuge r
          exec (.readRefuge key) s = .next (answered .done
            ([yesNo x.configured, optionalKey x.zone, byteOf x.capacity, byteOf x.occupancy, x.door.code, x.supply.code,
                x.panel.code]
              ++ bytes16 x.lastReport ++ [x.reasons.toByte] ++ mark .refugeFault (.refuge r)
              ++ [yesNo s.rev.roundOn] ++ stamp s.rev.roundStart ++ [byteOf s.rev.roundCursor]) s))
      ∧ (∀ i p, Names s slot gen i p →
          let x : Subject := .person i (s.slot i).gen
          exec (.readPerson slot gen) s = .next (answered .done
            ([byteOf i.val, byteOf (s.slot i).gen.toNat] ++ bytes24 p.tag ++ [p.role.code]
              ++ (match p.escort with | some h => [byteOf h.slot.val, byteOf h.gen.toNat] | none => [255, 0])
              ++ [p.state.code, optionalKey p.zone, optionalKey p.refuge] ++ stamp p.heard
              ++ [byteOf p.level, yesNo p.heardSinceVisit, byteOf p.misses] ++ twoBytes p.exposure
              ++ [yesNo p.exposureFull, p.alert.code, yesNo p.page, p.precedence.code, p.callState.code]
              ++ stamp p.callStamp
              ++ [byteOf p.repeats, yesNo p.overdue, optionalKey p.callChannel,
                  byte (p.lastKey.map (fun q => byteOf q.toNat))]
              ++ stamp p.separation ++ [yesNo p.escortLost]
              ++ mark .manDown x ++ mark .emergencyCall x ++ mark .missing x ++ mark .urgentCall x ++ mark .escortLost x
              ++ mark .exposure x ++ mark .routineCall x ++ mark .pageAnswered x) s))
      ∧ (∀ q t, NamesTruck s number q t →
          exec (.readTruck number) s = .next (answered .done
            (twoBytes t.number ++ [t.kind.code, t.state.code, optionalKey t.zone, optionalKey t.held]
              ++ (match t.entry with | some e => [1, byteOf e.zone.val, e.status.code] | none => [0, 0, 0])
              ++ [byteOf t.proximity.length] ++ t.proximity.flatMap (fun e => bytes24 e.tag ++ [byteOf e.level])
              ++ [yesNo t.intrusion, byte (t.forced.map Order.code), byte (t.lastOrder.map Order.code)]
              ++ (match t.lastPoll with
                  | some p => [1] ++ bytes16 p.frame ++ twoBytes p.slot
                  | none => [0, 0, 0, 0, 0])
              ++ [yesNo t.answered, byteOf t.missed, yesNo t.polled,
                  if t.number ∈ s.hlk.pollList then byteOf (s.hlk.pollList.idxOf t.number) else 255,
                  yesNo (decide (s.hlk.cursor = some t.number))]
              ++ mark .intrusion (.truck t.number) ++ mark .linkLost (.truck t.number)) s))
      ∧ (32 ≤ key.toNat → exec (.readZone key) s = .next (answered .badArgument [] s)
          ∧ exec (.readChannel key) s = .next (answered .badArgument [] s))
      ∧ (8 ≤ key.toNat → exec (.readRefuge key) s = .next (answered .badArgument [] s))
      ∧ (number.toNat < 1 ∨ 4095 < number.toNat → exec (.readTruck number) s = .next (answered .badArgument [] s))
      ∧ (1 ≤ number.toNat → number.toNat ≤ 4095 → (∀ q t, s.truckAt q = some t → t.number ≠ number.toNat) →
          exec (.readTruck number) s = .next (answered .noRecord [] s))
      ∧ (tag = 0 ∨ tag = 0xffffff → exec (.findTag tag) s = .next (answered .badArgument [] s))
      ∧ (tag ≠ 0 → tag ≠ 0xffffff → (∀ i p, s.person i = some p → p.tag ≠ tag) →
          exec (.findTag tag) s = .next (answered .noRecord [] s))
      ∧ (∀ i p, tag ≠ 0 → tag ≠ 0xffffff → s.person i = some p → p.tag = tag →
          (∀ j q, s.person j = some q → q.tag = tag → j = i) →
          exec (.findTag tag) s = .next (answered .done [byteOf i.val, byteOf (s.slot i).gen.toNat] s))
      ∧ (∀ n : NoticeSet, (List.range 8).map n.toByte.getLsbD =
          [n.attention, n.mark, n.lock, n.alone, n.tripLine, n.fieldOverrun, n.txLate, false])
      ∧ (∀ c : Causes, (List.range 8).map c.toByte.getLsbD = [c.air, c.line, c.host, false, false, false, false, false])
      ∧ ∀ r : FaultReasons, (List.range 8).map r.toByte.getLsbD =
          [r.doorBreach, r.doorFault, r.supply, r.silent, r.overCapacity, false, false, false]

/-- STATUS replies with the phase, ALONE, the lock state, the three muster counts, the queue length, the sequencer mode and the
eight trip lines, and changes nothing else. (The lines are sent as eight yes/no bytes: log 13.) -/
def Obligations.StatusRepliesThePartsState : Prop :=
  ∀ s : State, Ready s →
    let count (f : Person → Bool) : Nat := (allSlots.filter (fun i => (s.person i).any f)).length
    exec .status s = .next (answered .done
      ([s.hpt.phase.code, yesNo s.hlk.alone, s.frt.lock.code, byteOf (count (fun p => p.alert == .sent)),
        byteOf (count (fun p => p.alert == .acked)), byteOf (count (fun p => p.state == .mustered)),
        byteOf s.atq.items.length, s.air.mode.code] ++ (List.finRange 8).map (fun line => yesNo s.znt.lines[line])) s)

/-! ## The roster: walks, aging, exposure, escorts -/

/-- The frame start's walk makes the pending step and interval active, walks where the frame number is a multiple of the
interval, and moves the position by the step, wrapping at 240. A visit makes heard-since-visit no with the miss count 0, or
raises the miss count up to 15, and leaves ENROLLED and MUSTERED records alone; a visit that reaches a limit is followed by its
record's judgement, the effect of AGING_STATE_CHANGE, before the next visit. The last clause gives every slot of a walk whose
visits reach no limit. The walk is taken where the frame start handed it (log 3). -/
def Obligations.WalkVisitsStepManySlots : Prop :=
  ∀ s : State, s.resetLow = false →
    (s.handed.walk = false → exec .agingWalk s = .next s)
      ∧ (s.handed.walk = true →
          let step := (s.rst.pendingWalk.getD (s.rst.walkStep, s.rst.walkInterval)).1
          let interval := (s.rst.pendingWalk.getD (s.rst.walkStep, s.rst.walkInterval)).2
          let s0 : State := { s with
            rst := { s.rst with walkStep := step, walkInterval := interval, pendingWalk := none }
            handed := { s.handed with walk := false } }
          let isAged (p : Person) : Bool := p.state != .enrolled && p.state != .mustered
          let counted (p : Person) : Person :=
            if p.heardSinceVisit then { p with heardSinceVisit := false, misses := 0 } else { p with misses := min 15 (p.misses + 1) }
          let visit (u : State) (i : Fin 240) : State :=
            if (u.person i).any isAged then
              match exec (.agingStateChange i) (u.modifyPerson i counted) with
              | .next v => v
              | .fault _ => u
              | .refused _ => u
            else u
          let walked := ((List.range step).map (fun k => Fin.ofNat 240 (s.rst.walkPos.val + k))).foldl visit s0
          (s.frt.frame.toNat % interval ≠ 0 → exec .agingWalk s = .next s0)
            ∧ (s.frt.frame.toNat % interval = 0 →
              exec .agingWalk s = .next { walked with
                rst := { walked.rst with walkPos := Fin.ofNat 240 (s.rst.walkPos.val + step) } }))
      ∧ (s.handed.walk = true →
          let step := (s.rst.pendingWalk.getD (s.rst.walkStep, s.rst.walkInterval)).1
          let interval := (s.rst.pendingWalk.getD (s.rst.walkStep, s.rst.walkInterval)).2
          let misses (p : Person) := if p.heardSinceVisit then 0 else min 15 (p.misses + 1)
          let inWalk (i : Fin 240) := s.frt.frame.toNat % interval = 0 ∧ (i.val + 240 - s.rst.walkPos.val) % 240 < step
          step ≤ 240 →
          (∀ i p, s.person i = some p → inWalk i →
            (p.state = .present → misses p < s.rst.quietLimit) ∧ (p.state = .quiet → misses p < s.rst.missingLimit)
              ∧ (p.state = .out → misses p < s.rst.outHold)) →
          ∃ t, exec .agingWalk s = .next t
            ∧ t = { s with
                rst := { s.rst with slots := t.rst.slots, walkPos := t.rst.walkPos, walkStep := step,
                                    walkInterval := interval, pendingWalk := none }
                handed := { s.handed with walk := false } }
            ∧ t.rst.walkPos.val = (if s.frt.frame.toNat % interval = 0 then (s.rst.walkPos.val + step) % 240
                else s.rst.walkPos.val)
            ∧ ∀ i, (t.slot i).gen = (s.slot i).gen
                ∧ (inWalk i →
                    t.person i = (s.person i).map (fun p =>
                      if p.state = .enrolled ∨ p.state = .mustered then p
                      else { p with heardSinceVisit := false, misses := misses p }))
                ∧ (¬ inWalk i → t.person i = s.person i))

/-- A record's state judged against the limits: PRESENT at the quiet limit becomes QUIET, or OUT in a zone of kind PORTAL and
leaves its zone's count; QUIET at the missing limit becomes MISSING, leaves the count and raises MISSING; OUT at the out hold
is retired, its slot freed and the generation raised; any other record is left alone. A CONNECTED call of a changed record
ends, and the separation of the record, where it is a VISITOR, and of each visitor whose escort it is is judged anew (R68,
R69): begun, kept, or ended with its ESCORT_LOST. The row judges one record, which the walk has judged already (log 5). -/
def Obligations.AgingJudgesOneRecord : Prop :=
  ∀ (i : Fin 240) (s : State), s.resetLow = false →
    let inPortal (p : Person) := ∃ z, p.zone = some z ∧ (s.zone z).kind = .portal
    ((∀ p, s.person i = some p →
        ¬ (p.state = .present ∧ s.rst.quietLimit ≤ p.misses) ∧ ¬ (p.state = .quiet ∧ s.rst.missingLimit ≤ p.misses)
          ∧ ¬ (p.state = .out ∧ s.rst.outHold ≤ p.misses)) →
        exec (.agingStateChange i) s = .next s)
      ∧ (∀ p, s.person i = some p → p.state = .present → s.rst.quietLimit ≤ p.misses →
          ∃ t q, exec (.agingStateChange i) s = .next t ∧ t.person i = some q
            ∧ (inPortal p → q.state = .out) ∧ (¬ inPortal p → q.state = .quiet)
            ∧ q.zone = p.zone ∧ q.misses = p.misses ∧ q.alert = p.alert ∧ q.page = p.page ∧ q.callState ≠ .connected
            ∧ EscortsJudged i s t
            ∧ ∀ z, (t.zone z).persons =
                if inPortal p ∧ p.zone = some z then (s.zone z).persons - 1 else (s.zone z).persons)
      ∧ (∀ p, s.person i = some p → p.state = .quiet → s.rst.missingLimit ≤ p.misses →
          ∃ t q, exec (.agingStateChange i) s = .next t ∧ t.person i = some q ∧ q.state = .missing
            ∧ q.zone = p.zone ∧ q.misses = p.misses ∧ q.alert = p.alert ∧ q.page = p.page ∧ q.callState ≠ .connected
            ∧ Raised .missing (s.personSubject i) t ∧ EscortsJudged i s t
            ∧ ∀ z, (t.zone z).persons = if p.zone = some z then (s.zone z).persons - 1 else (s.zone z).persons)
      ∧ ∀ p, s.person i = some p → p.state = .out → s.rst.outHold ≤ p.misses →
          ∃ t, exec (.agingStateChange i) s = .next t ∧ t.slot i = { gen := (s.slot i).gen + 1, person := none }

/-- The frame start's limit judgement: every VISITOR separated for the escort limit with escort lost no has escort lost made yes
and ESCORT_LOST raised; no other record changes. It is taken where the frame start handed it (log 3). -/
def Obligations.EscortLimitRaisesEscortLost : Prop :=
  ∀ s : State, s.resetLow = false →
    (s.handed.escort = false → exec .escortLimitJudgement s = .next s)
      ∧ (s.handed.escort = true → QueueHolds s.atq →
          let due (p : Person) := p.role = .visitor ∧ p.escortLost = false
            ∧ ∃ f, p.separation = some f ∧ s.rst.escortLimit ≤ framesSince s.frt.frame f
          ∃ t, exec .escortLimitJudgement s = .next t
            ∧ t = { s with rst := { s.rst with slots := t.rst.slots }, atq := t.atq,
                           hpt := { s.hpt with flags := t.hpt.flags }, handed := { s.handed with escort := false } }
            ∧ (∀ i, s.person i = none → t.slot i = s.slot i)
            ∧ ∀ i p, s.person i = some p →
                (due p → t.slot i = { gen := (s.slot i).gen, person := some ({ p with escortLost := true }) }
                  ∧ Raised .escortLost (s.personSubject i) t)
                ∧ (¬ due p → t.slot i = s.slot i))

/-- The frame start's exposure count: in TIME mode every PRESENT or QUIET record whose zone's real air state is CAUTION or worse
gains one, up to 65535 with the full flag, and EXPOSURE is raised where the exposure limit is reached; in ENTRIES mode nothing is
counted. The count is taken where the frame start handed it (log 3). EXPOSURE_LIMIT_REACHED is the same judgement of one record,
which its raise has made already (log 5). -/
def Obligations.ExposureCountRaisesExposedRecords : Prop :=
  ∀ s : State, s.resetLow = false →
    (s.handed.exposure = false → exec .exposureCount s = .next s)
      ∧ (∀ i : Fin 240, (∀ p, s.person i = some p → p.exposure ≠ s.rst.exposureLimit) →
          exec (.exposureLimitReached i) s = .next s)
      ∧ (∀ (i : Fin 240) (p : Person), s.person i = some p → p.exposure = s.rst.exposureLimit →
          ∃ t, exec (.exposureLimitReached i) s = .next t
            ∧ t = { s with atq := t.atq, hpt := { s.hpt with flags := t.hpt.flags } }
            ∧ Raised .exposure (s.personSubject i) t)
      ∧ (s.handed.exposure = true → s.rst.exposureMode = .entries →
          exec .exposureCount s = .next { s with handed := { s.handed with exposure := false } })
      ∧ (s.handed.exposure = true → s.rst.exposureMode = .time → QueueHolds s.atq →
          let exposed (p : Person) := (p.state = .present ∨ p.state = .quiet) ∧ p.exposure < 65535
            ∧ ∃ z, p.zone = some z ∧ ((s.zone z).real = .caution ∨ (s.zone z).real = .danger ∨ (s.zone z).real = .trip)
          ∃ t, exec .exposureCount s = .next t
            ∧ t = { s with rst := { s.rst with slots := t.rst.slots }, atq := t.atq,
                           hpt := { s.hpt with flags := t.hpt.flags }, handed := { s.handed with exposure := false } }
            ∧ (∀ i, s.person i = none → t.slot i = s.slot i)
            ∧ ∀ i p, s.person i = some p →
                (exposed p →
                  t.slot i = { gen := (s.slot i).gen, person := some (
                      { p with exposure := p.exposure + 1, exposureFull := p.exposureFull || p.exposure + 1 == 65535 }) }
                    ∧ (p.exposure + 1 = s.rst.exposureLimit → Raised .exposure (s.personSubject i) t))
                ∧ (¬ exposed p → t.slot i = s.slot i))

/-- CLEAR_EXPOSURE makes the exposure 0 and the full flag no and ends EXPOSURE; PAGE sets the page flag and CANCEL_PAGE clears
it. The ACK key makes a SENT alert ACKED, and answers a page: the flag is cleared and PAGE_ANSWERED raised. The rest of the
state stays but for the attention queue, its notice, and the reply. -/
def Obligations.ExposureIsClearedAndPagesAreSet : Prop :=
  (∀ (s : State) (i : Fin 240) (p : Person), s.person i = some p →
    let t := actOnKey i .ack s
    t = { s.setSlot i { gen := (s.slot i).gen, person := some (
            { p with alert := if p.alert = .sent then .acked else p.alert, page := false }) } with
          atq := t.atq, hpt := { s.hpt with flags := t.hpt.flags } }
      ∧ (p.page = true → QueueHolds s.atq → Raised .pageAnswered (s.personSubject i) t)
      ∧ (p.page = false → t.atq = s.atq ∧ t.hpt = s.hpt))
  ∧ ∀ (slot gen : Byte) (s : State) (i : Fin 240) (p : Person), Ready s → Names s slot gen i p →
    (QueueHolds s.atq → ∃ t, exec (.clearExposure slot gen) s = .next t
        ∧ t = answered .done [] { (s.modifyPerson i (fun q => { q with exposure := 0, exposureFull := false })) with
            atq := t.atq, hpt := { s.hpt with flags := t.hpt.flags } }
        ∧ NotRaised .exposure (s.personSubject i) t)
      ∧ (s.hpt.phase = .running →
          exec (.page slot gen) s = .next (answered .done [] (s.modifyPerson i (fun q => { q with page := true }))))
      ∧ exec (.cancelPage slot gen) s = .next (answered .done [] (s.modifyPerson i (fun q => { q with page := false })))

/-! ## The roster: enrolment and retirement -/

/-- ENROL refuses a tag that is not valid or is held, a role that is no role, and an escort that the role does not allow or that
is no live OFFICIAL; with every slot held it answers NO_ROOM; otherwise it makes an ENROLLED record in the lowest free slot and
replies with its handle. Nothing else changes. (An absent escort is slot 255, whatever its generation byte: log 25.) -/
def Obligations.EnrolMakesARecord : Prop :=
  ∀ (tag : Tag) (role escortSlot escortGen : Byte) (s : State), Ready s →
    let held := ∃ i p, s.person i = some p ∧ p.tag = tag
    let official (h : Handle) := escortSlot.toNat = h.slot.val ∧ escortGen.toNat = h.gen.toNat
      ∧ ∃ e, s.person h.slot = some e ∧ (s.slot h.slot).gen = h.gen ∧ e.role = .official
    let good := tag ≠ 0 ∧ tag ≠ 0xffffff ∧ ¬ held
      ∧ ((role.toNat < 2 ∧ escortSlot = 255) ∨ (role = 2 ∧ ∃ h, official h))
    (¬ good → exec (.enrol tag role escortSlot escortGen) s = .next (answered .badArgument [] s))
      ∧ (good → (∀ i, (s.person i).isSome = true) →
          exec (.enrol tag role escortSlot escortGen) s = .next (answered .noRoom [] s))
      ∧ ∀ i : Fin 240, good → s.person i = none → (∀ j < i, (s.person j).isSome = true) →
          ∀ (r : Role) (escort : Option Handle), r.code = role → (role = 2 → ∃ h, escort = some h ∧ official h) →
            (role ≠ 2 → escort = none) →
          exec (.enrol tag role escortSlot escortGen) s =
            .next (answered .done [byteOf i.val, byteOf (s.slot i).gen.toNat]
              (s.setSlot i { gen := (s.slot i).gen, person := some (
                { tag := tag, role := r, escort := escort, state := .enrolled, zone := none, refuge := none, heard := none,
                  level := 0, heardSinceVisit := false, misses := 0, exposure := 0, exposureFull := false, alert := .noAlert,
                  page := false, precedence := .noCall, callState := .noCall, callStamp := none, repeats := 0,
                  overdue := false, callChannel := none, lastKey := none, separation := none, escortLost := false }) }))

/-- RETIRE frees the record's slot and raises its generation by one, takes the record out of its zone's count or its refuge's
occupancy, frees the channel of its CONNECTED call, and takes every item and due mark of its handle out of the queue; the
visitors of a retired OFFICIAL lose their escort, are separated and have ESCORT_LOST raised. -/
def Obligations.RetirementTakesTheRecordDown : Prop :=
  ∀ (slot gen : Byte) (s : State) (i : Fin 240) (p : Person), Ready s → Names s slot gen i p → QueueHolds s.atq →
    ∃ t, exec (.retire slot gen) s = .next t
      ∧ t.hpt.reply = [0] ∧ t.hpt.readPos = 0 ∧ t.hpt.request = .empty ∧ t.hlk.silenceCount = 0
      ∧ t.slot i = { gen := (s.slot i).gen + 1, person := none }
      ∧ (∀ z, (t.zone z).persons =
          if (p.state = .present ∨ p.state = .quiet) ∧ p.zone = some z then (s.zone z).persons - 1 else (s.zone z).persons)
      ∧ (∀ r, (t.refuge r).occupancy =
          if p.state = .mustered ∧ p.refuge = some r then (s.refuge r).occupancy - 1 else (s.refuge r).occupancy)
      ∧ (∀ c, t.cal.channels[c] =
          if p.callState = .connected ∧ p.callChannel = some c then none else s.cal.channels[c])
      ∧ (∀ it ∈ t.atq.items, it.subject ≠ s.personSubject i) ∧ (∀ d ∈ t.atq.due, d.subject ≠ s.personSubject i)
      ∧ (∀ j v, s.person j = some v → j ≠ i → v.role = .visitor → v.escort = some (s.handle i) → p.role = .official →
          ∃ w, t.person j = some w ∧ w.escort = none ∧ w.separation = some (v.separation.getD s.frt.frame)
            ∧ w.escortLost = true ∧ Raised .escortLost (s.personSubject j) t)
      ∧ ∀ j, j ≠ i → ¬ (p.role = .official ∧ ∃ v, s.person j = some v ∧ v.role = .visitor ∧ v.escort = some (s.handle i)) →
          t.slot j = s.slot j

/-- SET_ESCORT gives a VISITOR a live OFFICIAL and judges its separation anew: apart, an absent separation stamp becomes the
current frame; together, the stamp becomes absent and a raised ESCORT_LOST is ended. A record that is no VISITOR and an escort
that is no OFFICIAL are refused. -/
def Obligations.SetEscortJudgesSeparation : Prop :=
  ∀ (slot gen escortSlot escortGen : Byte) (s : State) (i j : Fin 240) (p e : Person), Ready s →
    Names s slot gen i p → Names s escortSlot escortGen j e →
    let apart := (p.state = .present ∨ p.state = .quiet) ∧ (e.state ≠ .present ∨ e.zone ≠ p.zone)
    (p.role ≠ .visitor ∨ e.role ≠ .official →
        exec (.setEscort slot gen escortSlot escortGen) s = .next (answered .badArgument [] s))
      ∧ (p.role = .visitor → e.role = .official → apart →
          exec (.setEscort slot gen escortSlot escortGen) s =
            .next (answered .done [] (s.modifyPerson i (fun q =>
              { q with escort := some { slot := j, gen := (s.slot j).gen },
                       separation := some (p.separation.getD s.frt.frame) }))))
      ∧ (p.role = .visitor → e.role = .official → ¬ apart → p.separation = none →
          exec (.setEscort slot gen escortSlot escortGen) s =
            .next (answered .done [] (s.modifyPerson i (fun q => { q with escort := some { slot := j, gen := (s.slot j).gen } }))))
      ∧ (p.role = .visitor → e.role = .official → ¬ apart → p.separation ≠ none → QueueHolds s.atq →
          ∃ t, exec (.setEscort slot gen escortSlot escortGen) s = .next t
            ∧ t = answered .done [] { (s.modifyPerson i (fun q =>
                { q with escort := some { slot := j, gen := (s.slot j).gen }, separation := none, escortLost := false })) with
                atq := t.atq, hpt := { s.hpt with flags := t.hpt.flags } }
            ∧ (p.escortLost = true → NotRaised .escortLost (s.personSubject i) t)
            ∧ (p.escortLost = false → t.atq = s.atq))

/-! ## The attention queue -/

/-- NEXT_ITEM makes the first NEW item in queue order SEEN and replies with it, laid out as R189 gives it; with no item NEW it
replies NO_RECORD. Nothing else changes. -/
def Obligations.NextItemReturnsFirstNewItem : Prop :=
  ∀ s : State, Ready s → QueueHolds s.atq →
    ((∀ it ∈ s.atq.items, it.state ≠ .new) → exec .nextItem s = .next (answered .noRecord [] s))
      ∧ ∀ before it rest, s.atq.items = before ++ it :: rest → (∀ e ∈ before, e.state ≠ .new) → it.state = .new →
          exec .nextItem s =
            .next (answered .done
              ([it.kind.code] ++ it.subject.bytes ++ bytes16 it.raised ++ bytes16 it.insertion
                ++ [1, it.condition.code, yesNo it.test] ++ it.detail.bytes)
              { s with atq := { s.atq with items := before ++ { it with state := .seen } :: rest } })

/-- ACK_ITEM refuses a kind or subject outside its numbering, answers NO_RECORD where no item is there, and makes the item ACKED
otherwise; an ENDED condition and a report leave the queue, and one due condition is reinserted: of the highest rank, then the
oldest stamp, then the lowest subject key, as a NEW and ACTIVE item in its place: before the first item that does not stand
before it (log 9, which fixes the place where stamps alias). (A byte of the subject that its type does not use must be 0: log
24.) -/
def Obligations.AcknowledgementActsBySort : Prop :=
  ∀ (kind : Byte) (subject : BitVec 24) (s : State), Ready s → QueueHolds s.atq →
    (16 ≤ kind.toNat → exec (.ackItem kind subject) s = .next (answered .badArgument [] s))
      ∧ ∀ k : ItemKind, k.code = kind →
        (subject? k subject = none → exec (.ackItem kind subject) s = .next (answered .badArgument [] s))
        ∧ ∀ x, subject? k subject = some x →
          ((∀ it ∈ s.atq.items, ¬ (it.kind = k ∧ it.subject = x)) →
            exec (.ackItem kind subject) s = .next (answered .noRecord [] s))
          ∧ ∀ before it rest, s.atq.items = before ++ it :: rest → it.kind = k → it.subject = x →
            let stays := k.sort = .call ∨ (k.sort = .condition ∧ it.condition = .active)
            (stays → exec (.ackItem kind subject) s =
              .next (answered .done []
                { s with atq := { s.atq with items := before ++ { it with state := .acked } :: rest } }))
            ∧ (¬ stays → s.atq.due = [] → exec (.ackItem kind subject) s =
              .next (answered .done [] { s with atq := { s.atq with items := before ++ rest } }))
            ∧ (¬ stays → s.atq.due ≠ [] →
              ∃ (t : State) (d : DueMark) (new : Item) (ahead behind : List Item), exec (.ackItem kind subject) s = .next t
                ∧ t = answered .done []
                    { s with atq := t.atq, hpt := { s.hpt with flags := { s.hpt.flags with attention := true } } }
                ∧ d ∈ s.atq.due
                ∧ (∀ e ∈ s.atq.due, d.kind.rank ≤ e.kind.rank
                    ∧ (e.kind = d.kind → framesSince s.frt.frame e.stamp ≤ framesSince s.frt.frame d.stamp
                        ∧ (e.stamp = d.stamp → d.subject.key ≤ e.subject.key)))
                ∧ t.atq.due = s.atq.due.filter (fun e => !(e.kind == d.kind && e.subject == d.subject))
                ∧ t.atq.counter = s.atq.counter + 1
                ∧ t.atq.items = ahead ++ new :: behind ∧ ahead ++ behind = before ++ rest
                ∧ (∀ e ∈ ahead, e.kind.rank < d.kind.rank
                    ∨ (e.kind = d.kind ∧ framesSince s.frt.frame d.stamp ≤ framesSince s.frt.frame e.raised))
                ∧ (∀ e l, behind = e :: l → ¬ (e.kind.rank < d.kind.rank
                    ∨ (e.kind = d.kind ∧ framesSince s.frt.frame d.stamp ≤ framesSince s.frt.frame e.raised)))
                ∧ new.kind = d.kind ∧ new.subject = d.subject ∧ new.raised = d.stamp ∧ new.insertion = s.atq.counter
                ∧ new.state = .new ∧ new.condition = .active
                ∧ (∀ z, d.subject = .zone z → new.test = decide ((s.zone z).reported ≠ (s.zone z).real))
                ∧ (∀ r, d.subject = .refuge r → d.kind = .refugeFault → new.detail = .faults (s.refuge r).reasons)
                ∧ ∀ i g p, d.subject = .person i g → d.kind.sort = .call → s.person i = some p →
                    new.detail = .call p.repeats p.overdue)

/-- An insert meets an ACTIVE item, an ENDED item, a set due mark, or none of them: the item is updated in place, or reactivated
in a new place; the insert is absorbed; or a new item takes its place after every item of its rank. A new item that meets a full
queue displaces the last ENDED item, or the last item, where it outranks it, and waits as a due mark otherwise; a displaced
ACTIVE item waits as a due mark; a STRANGER leaves none. -/
def Obligations.InsertTakesOneOfFourWays : Prop :=
  ∀ (k : ItemKind) (x : Subject) (test : Bool) (detail : Detail) (renew : Bool) (s : State), QueueHolds s.atq →
    let t := insertItem k x test detail renew s
    let fresh : Item := { kind := k, subject := x, raised := s.frt.frame, insertion := s.atq.counter, state := .new,
                          condition := .active, test := test, detail := detail }
    let entersAmong (l : List Item) : Prop := ∃ ahead behind,
      t.atq.items = ahead ++ fresh :: behind ∧ ahead ++ behind = l ∧ (∀ e ∈ ahead, e.kind.rank ≤ k.rank)
        ∧ (∀ e m, behind = e :: m → k.rank < e.kind.rank)
        ∧ t.atq.counter = s.atq.counter + 1 ∧ t.hpt.flags = { s.hpt.flags with attention := true }
    let absent := ∀ it ∈ s.atq.items, ¬ (it.kind = k ∧ it.subject = x)
    t = { s with atq := t.atq, hpt := { s.hpt with flags := t.hpt.flags } }
      ∧ (∀ before it rest, s.atq.items = before ++ it :: rest → it.kind = k → it.subject = x →
          (it.condition = .active →
            t.atq = { s.atq with items := before ++
              { it with test := test, detail := detail, state := if renew then .new else it.state } :: rest }
            ∧ t.hpt.flags = (if renew = true ∧ it.state ≠ .new then { s.hpt.flags with attention := true } else s.hpt.flags))
          ∧ (it.condition = .ended → entersAmong (before ++ rest) ∧ t.atq.due = s.atq.due))
      ∧ (absent → s.dueMark k x ≠ none → t = s)
      ∧ (absent → s.dueMark k x = none → s.atq.items.length < 32 → entersAmong s.atq.items ∧ t.atq.due = s.atq.due)
      ∧ (absent → s.dueMark k x = none → s.atq.items.length = 32 →
          ∀ before old rest, s.atq.items = before ++ old :: rest →
            ((old.condition = .ended ∧ ∀ e ∈ rest, e.condition = .active)
              ∨ ((∀ e ∈ s.atq.items, e.condition = .active) ∧ rest = [])) →
            (k.rank < old.kind.rank → entersAmong (before ++ rest)
              ∧ (old.condition = .ended ∨ old.kind = .stranger → t.atq.due = s.atq.due)
              ∧ (old.condition = .active → old.kind ≠ .stranger →
                  ∀ d, d ∈ t.atq.due ↔ d ∈ s.atq.due ∨ d = { kind := old.kind, subject := old.subject, stamp := old.raised }))
            ∧ (old.kind.rank ≤ k.rank → k = .stranger → t = s)
            ∧ (old.kind.rank ≤ k.rank → k ≠ .stranger →
                t.atq.items = s.atq.items ∧ t.atq.counter = s.atq.counter ∧ t.hpt = s.hpt
                  ∧ ∀ d, d ∈ t.atq.due ↔ d ∈ s.atq.due ∨ d = { kind := k, subject := x, stamp := s.frt.frame }))

/-- L7 is kept by every step: at most 32 items, never two with the same kind and subject, and a due mark only while no item of
its kind and subject is in the queue. -/
def Obligations.AttentionLawIsKept : Prop :=
  ∀ s t : State, QueueHolds s.atq → step s = .next t → QueueHolds t.atq

/-- The laws hold right after part reset, and every step keeps L1 (person counts), L2 (occupancies), L4 (grant sets), L8 (air
states), L9 (a channel in TRIP stays there until the step takes a RESET_TRIP of it or is part reset) and L10 (alerts), each
by itself. L7, L11 and L12 have their step in AttentionLawIsKept, CallLawIsKept and TripLineLawIsKept. -/
def Obligations.LawsHoldAtReset : Prop :=
  QueueHolds State.reset.atq ∧ LinesAgree State.reset ∧ SetupIsQuiet State.reset ∧ ChannelsAgree State.reset
    ∧ CountsAgree State.reset ∧ OccupanciesAgree State.reset ∧ GrantsHold State.reset ∧ AirAgrees State.reset
    ∧ EnablesHold State.reset ∧ AlertsHold State.reset
    ∧ ∀ s t : State, step s = .next t →
      (CountsAgree s → CountsAgree t)
        ∧ (OccupanciesAgree s → OccupanciesAgree t)
        ∧ (GrantsHold s → GrantsHold t)
        ∧ (AirAgrees s → AirAgrees t)
        ∧ (EnablesHold s → EnablesHold t ∧ TripsStay s t)
        ∧ (AlertsHold s → AlertsHold t)

/-! ## Setup -/

/-- SET_ZONE, SET_REFUGE and SET_DISTRICT refuse arguments out of range, and write the setup of one zone, of one refuge, and
every district setting; nothing else changes. (Portal enrolment ON is sent as 0 and OFF as 1: log 14.) -/
def Obligations.SetupRequestsWriteTheirRecords : Prop :=
  ∀ (zone kind limit level refuge line capacity : Byte) (quiet missing outHold portal mode : Byte) (exposure : Word16)
    (lapse close silence escort refugeSilence routineWait emergencyWait : Byte) (s : State), Ready s → s.hpt.phase = .setup →
    let goodZone := zone.toNat < 32 ∧ kind.toNat < 4 ∧ limit.toNat ≤ 4 ∧ (level = 2 ∨ level = 3)
      ∧ (refuge.toNat < 8 ∨ refuge = 255) ∧ (line.toNat < 8 ∨ line = 255)
    let goodRefuge := refuge.toNat < 8 ∧ zone.toNat < 32 ∧ 1 ≤ capacity.toNat ∧ capacity.toNat ≤ 64
    let goodDistrict := 1 ≤ quiet.toNat ∧ quiet.toNat ≤ 7 ∧ quiet.toNat < missing.toNat ∧ missing.toNat ≤ 15
      ∧ quiet.toNat < outHold.toNat ∧ outHold.toNat ≤ 15 ∧ portal.toNat ≤ 1 ∧ mode.toNat ≤ 1 ∧ 1 ≤ exposure.toNat
      ∧ 1 ≤ lapse.toNat ∧ lapse.toNat ≤ 15 ∧ close.toNat ≤ 15 ∧ 1 ≤ escort.toNat ∧ 1 ≤ refugeSilence.toNat
      ∧ 1 ≤ routineWait.toNat ∧ 1 ≤ emergencyWait.toNat
    let setDistrict := Instr.setDistrict quiet missing outHold portal mode exposure lapse close silence escort refugeSilence
      routineWait emergencyWait
    (¬ goodZone → exec (.setZone zone kind limit level refuge line) s = .next (answered .badArgument [] s))
      ∧ (goodZone → ∀ (z : Fin 32) (k : ZoneKind) (r l : Option (Fin 8)), z.val = zone.toNat → k.code = kind →
          optionalKey r = refuge → optionalKey l = line →
          exec (.setZone zone kind limit level refuge line) s =
            .next (answered .done [] (s.modifyZone z (fun x =>
              { x with configured := true, kind := k, limit := limit.toNat, pendingLimit := none,
                       autoLevel := if level = 2 then .danger else .trip, refuge := r, tripLine := l }))))
      ∧ (¬ goodRefuge → exec (.setRefuge refuge zone capacity) s = .next (answered .badArgument [] s))
      ∧ (goodRefuge → ∀ (r : Fin 8) (z : Fin 32), r.val = refuge.toNat → z.val = zone.toNat →
          exec (.setRefuge refuge zone capacity) s =
            .next (answered .done [] (s.modifyRefuge r (fun x =>
              { x with configured := true, zone := some z, capacity := capacity.toNat }))))
      ∧ (¬ goodDistrict → exec setDistrict s = .next (answered .badArgument [] s))
      ∧ (goodDistrict → exec setDistrict s =
          .next (answered .done [] { s with
            rst := { s.rst with
              quietLimit := quiet.toNat, missingLimit := missing.toNat, outHold := outHold.toNat,
              portalEnrolment := decide (portal = 0), exposureMode := if mode = 0 then .time else .entries,
              exposureLimit := exposure.toNat, escortLimit := escort.toNat }
            hlk := { s.hlk with lapseLimit := lapse.toNat, closeLevel := close.toNat, silenceLimit := silence.toNat }
            rev := { s.rev with silenceLimit := refugeSilence.toNat }
            cal := { s.cal with routineLimit := routineWait.toNat, emergencyLimit := emergencyWait.toNat } }))

/-- SET_VEHICLE_LIMIT refuses a zone or limit out of range, writes the active limit at once in SETUP, clearing any pending one,
and the pending limit in RUNNING. The frame start makes every pending limit active and clears it; it is taken where the last
slot strobe handed it (log 3). -/
def Obligations.VehicleLimitWaitsForTheFrameStart : Prop :=
  ∀ (zone limit : Byte) (s : State),
    (Ready s → 32 ≤ zone.toNat ∨ 4 < limit.toNat →
        exec (.setVehicleLimit zone limit) s = .next (answered .badArgument [] s))
      ∧ (Ready s → ∀ z : Fin 32, z.val = zone.toNat → limit.toNat ≤ 4 →
          (s.hpt.phase = .setup → exec (.setVehicleLimit zone limit) s =
            .next (answered .done [] (s.modifyZone z (fun r => { r with limit := limit.toNat, pendingLimit := none }))))
          ∧ (s.hpt.phase = .running → exec (.setVehicleLimit zone limit) s =
            .next (answered .done [] (s.modifyZone z (fun r => { r with pendingLimit := some limit.toNat })))))
      ∧ (s.resetLow = false → s.handed.limits = false → exec .vehicleLimitApply s = .next s)
      ∧ (s.resetLow = false → s.handed.limits = true → ∃ t, exec .vehicleLimitApply s = .next t
          ∧ t = { s with znt := { s.znt with zones := t.znt.zones }, handed := { s.handed with limits := false } }
          ∧ ∀ z, t.zone z = { s.zone z with limit := (s.zone z).pendingLimit.getD (s.zone z).limit, pendingLimit := none })

/-- SET_CHANNEL refuses arguments out of range, levels out of order, and an enabled channel without a zone; otherwise it writes
every field given, and where the channel's zone has changed, the zones concerned take their monitored flag and their air states
anew. -/
def Obligations.ChannelSetupBindsTheChannel : Prop :=
  ∀ (channel gas zone caution danger trip persistence hysteresis enabled : Byte) (s : State), Ready s →
    s.hpt.phase = .setup →
    let ordered := (gas = 0 ∧ caution.toNat < danger.toNat ∧ danger.toNat < trip.toNat ∧ trip.toNat ≤ 254)
      ∨ (gas = 1 ∧ trip = 0 ∧ caution.toNat < danger.toNat)
      ∨ ((gas = 2 ∨ gas = 3) ∧ trip = 0 ∧ danger.toNat < caution.toNat)
    let good := channel.toNat < 32 ∧ (zone.toNat < 32 ∨ zone = 255) ∧ enabled.toNat ≤ 1 ∧ (enabled = 1 → zone ≠ 255)
      ∧ 1 ≤ caution.toNat ∧ caution.toNat ≤ 254 ∧ 1 ≤ danger.toNat ∧ danger.toNat ≤ 254 ∧ ordered
      ∧ 1 ≤ persistence.toNat ∧ persistence.toNat ≤ 7 ∧ hysteresis.toNat ≤ 31
    let request := Instr.setChannel channel gas zone caution danger trip persistence hysteresis enabled
    (¬ good → exec request s = .next (answered .badArgument [] s))
      ∧ (good → ∀ (c : Fin 32) (g : Gas) (z : Option (Fin 32)), c.val = channel.toNat → g.code = gas → optionalKey z = zone →
          ∃ t, exec request s = .next t ∧ t.hpt.reply = [0] ∧ t.hpt.phase = .setup
            ∧ t.channel c = { s.channel c with
                gas := g, zone := z, levels := { caution := caution.toNat, danger := danger.toNat }, pendingLevels := none,
                tripLevel := if gas = 0 then some trip.toNat else none, persistence := persistence.toNat,
                hysteresis := hysteresis.toNat, enabled := decide (enabled = 1) }
            ∧ (∀ d, d ≠ c → t.channel d = s.channel d)
            ∧ ((s.channel c).zone = z → t = answered .done [] (s.modifyChannel c (fun _ => t.channel c)))
            ∧ ((s.channel c).zone ≠ z → ∀ w, (s.channel c).zone = some w ∨ z = some w →
                ((t.zone w).monitored = true ↔ ∃ d, (t.channel d).zone = some w)
                  ∧ (t.zone w).reported = t.reportedAir w ∧ (t.zone w).real = t.realAir w))

/-! ## The air sequencer -/

/-- A zone's air states are CLEAR where it is not monitored, UNKNOWN where no channel of it is in NORMAL to TRIP, and
otherwise the most severe contribution of its channels, the reported state by their tests' forced states and the real state
without them. A change of a channel record that changes its reported or real state is taken by its zone: the zone's air
states are derived anew, other zones' stay; a change of the real state judges the zone's trip line, a change of a line
raising TRIP_LINE; a change of the reported state ends the old condition and raises the new, an ACTIVE item of it carrying
the test mark exactly while the two states differ, after a change of the real state alone too, and DANGER, TRIP or UNKNOWN
withdraws every GRANTED entry to the zone. A change of neither state is handed nowhere. A real change that reaches the zone's
auto-evacuation level orders the zone with cause AIR, and one that brings TRIP orders every other zone of its trip line with
cause LINE; the people caught there are alerted. A real rise from CLEAR raises the exposure of the zone's people in ENTRIES
mode, and DOOR_BREACH of the zone's refuges follows the real state. -/
def Obligations.ChannelChangeReachesItsZone : Prop :=
  (∀ (s : State) (z : Fin 32),
    let isDerived (y : AirState) (f : Channel → ChannelState) :=
      let has (x : ChannelState) := ∃ c, (s.channel c).zone = some z ∧ f (s.channel c) = x
      ((s.zone z).monitored = false → y = .clear)
        ∧ ((s.zone z).monitored = true →
          (has .trip → y = .trip) ∧ (¬ has .trip → has .danger → y = .danger)
          ∧ (¬ has .trip → ¬ has .danger → has .caution → y = .caution)
          ∧ (¬ has .trip → ¬ has .danger → ¬ has .caution → has .normal → y = .clear)
          ∧ (¬ has .trip → ¬ has .danger → ¬ has .caution → ¬ has .normal → y = .unknown))
    isDerived (s.reportedAir z) (fun r => match r.test with | some x => x.forced | none => r.real)
      ∧ isDerived (s.realAir z) (fun r => r.real))
  ∧ ∀ (c : Fin 32) (f : Channel → Channel) (s : State),
    let t := changeChannel c f s
    let old := s.channel c
    let new := f old
    let same := new.reported = old.reported ∧ new.real = old.real
    t.channel c = new ∧ (∀ d, d ≠ c → t.channel d = s.channel d)
      ∧ (same ∨ new.zone = none → t = s.modifyChannel c f)
      ∧ ∀ z, ¬ same → new.zone = some z →
          (t.zone z).reported = t.reportedAir z ∧ (t.zone z).real = t.realAir z
          ∧ (∀ w, w ≠ z → (t.zone w).reported = (s.zone w).reported ∧ (t.zone w).real = (s.zone w).real)
          ∧ (∀ line : Fin 8, t.znt.lines[line] =
              if (s.zone z).tripLine = some line ∧ (t.zone z).real ≠ (s.zone z).real then
                decide (∃ w, (t.zone w).tripLine = some line ∧ (t.zone w).real = .trip)
              else s.znt.lines[line])
          ∧ ((∃ line : Fin 8, t.znt.lines[line] ≠ s.znt.lines[line]) → t.hpt.flags.tripLine = true)
          ∧ (QueueHolds s.atq → (t.zone z).reported ≠ (s.zone z).reported →
              (∀ k, (s.zone z).reported.item? = some k → NotRaised k (.zone z) t)
                ∧ (∀ k, (t.zone z).reported.item? = some k → Raised k (.zone z) t)
                ∧ ((t.zone z).reported = .danger ∨ (t.zone z).reported = .trip ∨ (t.zone z).reported = .unknown →
                    ∀ n ∈ s.hlk.pollList, ∀ u, t.truck n = some u → u.grantedZone ≠ some z))
          ∧ (QueueHolds s.atq → (t.zone z).reported ≠ (s.zone z).reported ∨ (t.zone z).real ≠ (s.zone z).real →
              ∀ k, (t.zone z).reported.item? = some k → ∀ it ∈ t.atq.items, it.kind = k → it.subject = .zone z →
                it.condition = .active → it.test = decide ((t.zone z).reported ≠ (t.zone z).real))
          ∧ (let x := (s.zone z).real
             let y := (t.zone z).real
             let isBad (a : AirState) := a = .caution ∨ a = .danger ∨ a = .trip
             let byAir (w : Fin 32) := w = z ∧ x ≠ y
              ∧ (((s.zone z).autoLevel = .danger ∧ (y = .danger ∨ y = .trip)) ∨ ((s.zone z).autoLevel = .trip ∧ y = .trip))
             let byLine (w : Fin 32) := w ≠ z ∧ x ≠ y ∧ y = .trip
              ∧ ∃ line, (s.zone z).tripLine = some line ∧ (s.zone w).tripLine = some line
             let caught (p : Person) := p.alert = .noAlert
              ∧ (p.state = .present ∨ p.state = .quiet ∨ p.state = .missing)
              ∧ ∃ w, p.zone = some w ∧ (s.zone w).evac = .notOrdered ∧ (byAir w ∨ byLine w)
             let rises (p : Person) := s.rst.exposureMode = .entries ∧ x = .clear ∧ isBad y
              ∧ (p.state = .present ∨ p.state = .quiet) ∧ p.zone = some z ∧ p.exposure < 65535
             (s.zone z).autoLevel = .danger ∨ (s.zone z).autoLevel = .trip →
              (∀ w, ((t.zone w).evac = .ordered ↔ (s.zone w).evac = .ordered ∨ byAir w ∨ byLine w)
                ∧ ((t.zone w).causes.air = true ↔ byAir w ∨ ((s.zone w).causes.air = true
                    ∧ ((s.zone w).evac = .ordered ∨ ¬ byLine w)))
                ∧ ((t.zone w).causes.line = true ↔ byLine w ∨ ((s.zone w).causes.line = true
                    ∧ ((s.zone w).evac = .ordered ∨ ¬ byAir w)))
                ∧ ((s.zone w).evac = .notOrdered → byAir w ∨ byLine w →
                    (t.zone w).causes.host = false ∧ (t.zone w).orderedStamp = some s.frt.frame)
                ∧ ((s.zone w).evac = .ordered ∨ ¬ (byAir w ∨ byLine w) →
                    (t.zone w).causes.host = (s.zone w).causes.host ∧ (t.zone w).orderedStamp = (s.zone w).orderedStamp))
              ∧ (∀ i, s.person i = none → t.slot i = s.slot i)
              ∧ (∀ i p, s.person i = some p → ∃ q, t.slot i = { gen := (s.slot i).gen, person := some q }
                ∧ q = { p with alert := q.alert, exposure := q.exposure, exposureFull := q.exposureFull }
                ∧ (caught p → q.alert = .sent) ∧ (¬ caught p → q.alert = p.alert)
                ∧ (rises p → q.exposure = p.exposure + 1 ∧ q.exposureFull = (p.exposureFull || p.exposure + 1 == 65535)
                    ∧ (p.exposure + 1 = s.rst.exposureLimit → QueueHolds s.atq → Raised .exposure (s.personSubject i) t))
                ∧ (¬ rises p → q.exposure = p.exposure ∧ q.exposureFull = p.exposureFull))
              ∧ ∀ r, (s.refuge r).configured = true → (s.refuge r).zone = some z → x ≠ y →
                  ((t.refuge r).reasons.doorBreach = true ↔ (s.refuge r).door = .opened ∧ (y = .danger ∨ y = .trip)))

/-- SET_LEVELS refuses levels out of range or out of order, writes the active levels in SETUP and the pending ones in RUNNING.
CHANNEL_ON refuses an unbound channel and takes an enabled one as it is; it enables the channel, and in RUNNING puts it in
WARMUP. CHANNEL_OFF refuses a channel in TRIP and takes a disabled one as it is; it takes the channel off the confirm list and
out of the sweep in flight, the result of its turn under way included (`turnLive`: log 15), turns it OFF, and ends its
CHANNEL_FAULT. -/
def Obligations.ChannelsAreLevelledAndSwitched : Prop :=
  ∀ (channel caution danger : Byte) (s : State), Ready s →
    (32 ≤ channel.toNat → exec (.setLevels channel caution danger) s = .next (answered .badArgument [] s)
        ∧ exec (.channelOn channel) s = .next (answered .badArgument [] s)
        ∧ exec (.channelOff channel) s = .next (answered .badArgument [] s))
      ∧ ∀ c : Fin 32, c.val = channel.toNat →
        let r := s.channel c
        let ordered := (r.gas = .methane → ∃ t, r.tripLevel = some t ∧ caution.toNat < danger.toNat ∧ danger.toNat < t)
          ∧ (r.gas = .carbonMonoxide → caution.toNat < danger.toNat)
          ∧ (r.gas = .oxygen ∨ r.gas = .airflow → danger.toNat < caution.toNat)
        let good := 1 ≤ caution.toNat ∧ caution.toNat ≤ 254 ∧ 1 ≤ danger.toNat ∧ danger.toNat ≤ 254 ∧ ordered
        let levels : Levels := { caution := caution.toNat, danger := danger.toNat }
        (¬ good → exec (.setLevels channel caution danger) s = .next (answered .badArgument [] s))
        ∧ (good → s.hpt.phase = .setup → exec (.setLevels channel caution danger) s =
            .next (answered .done [] (s.modifyChannel c (fun r => { r with levels := levels, pendingLevels := none }))))
        ∧ (good → s.hpt.phase = .running → exec (.setLevels channel caution danger) s =
            .next (answered .done [] (s.modifyChannel c (fun r => { r with pendingLevels := some levels }))))
        ∧ (r.zone = none → exec (.channelOn channel) s = .next (answered .badArgument [] s))
        ∧ (r.zone ≠ none → r.enabled = true → exec (.channelOn channel) s = .next (answered .done [] s))
        ∧ (r.zone ≠ none → r.enabled = false → s.hpt.phase = .setup →
            exec (.channelOn channel) s =
              .next (answered .done [] (s.modifyChannel c (fun r => { r with enabled := true }))))
        ∧ (r.zone ≠ none → r.enabled = false → s.hpt.phase = .running →
            exec (.channelOn channel) s =
              .next (changeChannel c (fun r => { r with
                enabled := true, real := .warmup, warmupCount := 0, goodCount := 0, run := .noRun, runCount := 0,
                faultFlag := false }) (taken s)).done)
        ∧ (r.real = .trip → exec (.channelOff channel) s = .next (answered .refused [] s))
        ∧ (r.real ≠ .trip → r.enabled = false → exec (.channelOff channel) s = .next (answered .done [] s))
        ∧ (r.real ≠ .trip → r.enabled = true →
            ∃ t, exec (.channelOff channel) s = .next t ∧ t.hpt.reply = [0]
              ∧ t.channel c = { r with
                  enabled := false, real := .off, warmupCount := 0, goodCount := 0, run := .noRun, runCount := 0,
                  confirmPending := false, faultFlag := false, test := none }
              ∧ (∀ d, d ≠ c → t.channel d = s.channel d)
              ∧ t.air.confirmList = s.air.confirmList.filter (fun d => d != c)
              ∧ t.air.sweep = (if s.air.sweep = .confirm c then .noSweep else s.air.sweep)
              ∧ (∀ k : Fin 4, t.air.buffer[k] =
                  if s.air.sweep = .confirm c ∨ (∃ g, s.air.sweep = .group g ∧ c.val = g.val + 8 * k.val) then none
                  else s.air.buffer[k])
              ∧ (s.air.sweep = .confirm c ∨ (∃ g, s.air.sweep = .group g ∧ c.val = g.val + 8 * s.air.turnsDone) →
                  t.air.turnLive = false)
              ∧ (¬ (s.air.sweep = .confirm c ∨ (∃ g, s.air.sweep = .group g ∧ c.val = g.val + 8 * s.air.turnsDone)) →
                  t.air.turnLive = s.air.turnLive)
              ∧ (∀ z, r.zone = some z → r.reported ≠ .off ∨ r.real ≠ .off →
                  (t.zone z).reported = t.reportedAir z ∧ (t.zone z).real = t.realAir z)
              ∧ (QueueHolds s.atq → r.faultFlag = true → NotRaised .channelFault (.channel c) t))

/-- TEST_CHANNEL refuses arguments out of range and a channel OFF or in TRIP, and gives the channel its test; CANCEL_TEST answers
NO_RECORD without a test and removes it; RESET_TRIP refuses a channel that is not in TRIP, is faulted, or whose reading is not
below its caution level (an absent reading among them: log 26), and makes it NORMAL. The change is taken by the zone table. -/
def Obligations.TestsAndTripsAreSetAndReleased : Prop :=
  ∀ (channel forced sweeps : Byte) (s : State), Ready s →
    (s.hpt.phase = .running →
        (32 ≤ channel.toNat ∨ forced.toNat < 3 ∨ 5 < forced.toNat ∨ sweeps = 0 →
          exec (.testChannel channel forced sweeps) s = .next (answered .badArgument [] s))
        ∧ ∀ (c : Fin 32) (x : ChannelState), c.val = channel.toNat → x = .caution ∨ x = .danger ∨ x = .trip →
            x.code = forced → sweeps ≠ 0 →
            ((s.channel c).real = .off ∨ (s.channel c).real = .trip →
              exec (.testChannel channel forced sweeps) s = .next (answered .refused [] s))
            ∧ ((s.channel c).real ≠ .off → (s.channel c).real ≠ .trip →
              exec (.testChannel channel forced sweeps) s =
                .next (changeChannel c (fun r => { r with test := some { forced := x, remaining := sweeps.toNat } })
                  (taken s)).done))
      ∧ (32 ≤ channel.toNat → exec (.cancelTest channel) s = .next (answered .badArgument [] s)
          ∧ exec (.resetTrip channel) s = .next (answered .badArgument [] s))
      ∧ ∀ c : Fin 32, c.val = channel.toNat →
          let r := s.channel c
          let free := r.real = .trip ∧ r.faultFlag = false ∧ ∃ v, r.reading = some v ∧ v < r.levels.caution
          (r.test = none → exec (.cancelTest channel) s = .next (answered .noRecord [] s))
          ∧ (r.test ≠ none → exec (.cancelTest channel) s =
              .next (changeChannel c (fun r => { r with test := none }) (taken s)).done)
          ∧ (¬ free → exec (.resetTrip channel) s = .next (answered .refused [] s))
          ∧ (free → exec (.resetTrip channel) s =
              .next (changeChannel c (fun r => { r with real := .normal, run := .noRun, runCount := 0, goodCount := 0 })
                (taken s)).done)

/-- A channel's counts judged: a warmup count of 4 makes it NORMAL; a run count at the persistence raises it to the run's target
or lowers it one level; a good count at the persistence clears the fault, a channel in FAULT becoming NORMAL, and ends
CHANNEL_FAULT; a test with no sweeps remaining is removed. A count short of its mark changes nothing. Each row judges one
channel, which its reading has judged already (log 5). -/
def Obligations.ChannelCountsAreJudged : Prop :=
  ∀ (c : Fin 32) (s : State), s.resetLow = false →
    let r := s.channel c
    let judged := r.real = .normal ∨ r.real = .caution ∨ r.real = .danger
    (¬ (r.real = .warmup ∧ 4 ≤ r.warmupCount) → exec (.warmupEnd c) s = .next s)
      ∧ (r.real = .warmup → 4 ≤ r.warmupCount →
          exec (.warmupEnd c) s =
            .next (changeChannel c (fun r => { r with real := .normal, run := .noRun, runCount := 0 }) s))
      ∧ (¬ (judged ∧ r.persistence ≤ r.runCount) → exec (.runStateChange c) s = .next s)
      ∧ (judged → r.persistence ≤ r.runCount → ∀ x, r.run = .rise x →
          exec (.runStateChange c) s =
            .next (changeChannel c (fun r => { r with real := x, run := .noRun, runCount := 0 }) s))
      ∧ (judged → r.persistence ≤ r.runCount → r.run = .fall →
          exec (.runStateChange c) s =
            .next (changeChannel c (fun r => { r with
              real := if r.real = .danger then .caution else .normal, run := .noRun, runCount := 0 }) s))
      ∧ (¬ (r.faultFlag = true ∧ r.persistence ≤ r.goodCount) → exec (.faultClear c) s = .next s)
      ∧ (r.faultFlag = true → r.persistence ≤ r.goodCount →
          ∃ t, exec (.faultClear c) s = .next t
            ∧ t.channel c = (if r.real = .fault then
                { r with real := .normal, run := .noRun, runCount := 0, faultFlag := false, goodCount := 0 }
              else { r with faultFlag := false, goodCount := 0 })
            ∧ (∀ d, d ≠ c → t.channel d = s.channel d)
            ∧ (QueueHolds s.atq → NotRaised .channelFault (.channel c) t))
      ∧ ((∀ x, r.test = some x → x.remaining ≠ 0) → exec (.testExpiry c) s = .next s)
      ∧ ∀ x, r.test = some x → x.remaining = 0 →
          exec (.testExpiry c) s = .next (changeChannel c (fun r => { r with test := none }) s)

/-- AIR_CONTROL is refused in SETUP and for a mode other than SCAN, ONCE or PAUSED; otherwise it aborts the sweep in flight, an
aborted group becoming the resume group, and writes the group enable set, the mode and the once set. The completion of an
abandoned turn is discarded. (The turn's own mark, `turnLive`, is the model's: log 15.) -/
def Obligations.AirControlAbortsAndWritesTheMode : Prop :=
  ∀ (mode groups : Byte) (s : State), Ready s →
    (s.hpt.phase = .setup → exec (.airControl mode groups) s = .next (answered .wrongPhase [] s))
      ∧ (s.hpt.phase = .running → mode.toNat = 0 ∨ 3 < mode.toNat →
          exec (.airControl mode groups) s = .next (answered .badArgument [] s))
      ∧ (s.hpt.phase = .running → ∀ m : SequencerMode, m ≠ .idle → m.code = mode →
          ∃ t, exec (.airControl mode groups) s = .next t
            ∧ t = answered .done [] { s with air := { s.air with
                mode := if m = .once ∧ groups = 0 then .paused else m
                enableSet := groups
                onceSet := if m = .once then groups else 0
                sweep := .noSweep
                buffer := t.air.buffer
                turnLive := t.air.turnLive
                resume := t.air.resume } }
            ∧ (s.air.sweep = .noSweep → t.air.buffer = s.air.buffer ∧ t.air.resume = s.air.resume)
            ∧ (s.air.sweep ≠ .noSweep → ∀ k : Fin 4, t.air.buffer[k] = none)
            ∧ (∀ g, s.air.sweep = .group g → t.air.resume = some g)
            ∧ (∀ c, s.air.sweep = .confirm c → t.air.resume = s.air.resume))
      ∧ ∀ count : Byte, exec (.conversionCompletion count true) s = .next s

/-- A slot start with a sweep in flight or in IDLE starts no sweep. Otherwise a confirm sweep of the head of the confirm list
is started, or, in SCAN over the enable set and in ONCE over the once set, a sweep of the resume group or of the first group
after the last one swept; a sweep begins with its buffer cleared, no turn done, its channels' pending levels made active and
their runs NONE, and the select lines at its first channel, whose turn is live where it is enabled (`turnLive`: log 15). A
group sweep started clears the resume group; in SCAN or ONCE over an empty set a slot start starts nothing and clears it, in
PAUSED it keeps it, and a confirm sweep leaves it as it was (log 22). The start is taken where the slot start was handed (log
3). -/
def Obligations.SlotStartChoosesASweep : Prop :=
  ∀ s : State, s.resetLow = false →
    let s0 : State := { s with handed := { s.handed with sweep := false } }
    let swept (groups : BitVec 8) := (s.air.mode = .scan ∧ groups = s.air.enableSet)
      ∨ (s.air.mode = .once ∧ groups = s.air.onceSet)
    let chosen (w : Sweep) := (∃ c l, s.air.confirmList = c :: l ∧ w = .confirm c)
      ∨ (s.air.confirmList = [] ∧ ∃ (groups : BitVec 8) (g : Fin 8), swept groups ∧ groups.getLsbD g.val = true ∧ w = .group g
          ∧ (s.air.resume = some g
            ∨ ((∀ h : Fin 8, s.air.resume = some h → groups.getLsbD h.val = false)
              ∧ ∃ k, 1 ≤ k ∧ k ≤ 8 ∧ (s.air.lastGroup.val + k) % 8 = g.val
                ∧ ∀ j, 1 ≤ j → j < k → groups.getLsbD ((s.air.lastGroup.val + j) % 8) = false)))
    (s.handed.sweep = false → exec .sweepStart s = .next s)
      ∧ (s.handed.sweep = true → s.air.sweep ≠ .noSweep ∨ s.air.mode = .idle → exec .sweepStart s = .next s0)
      ∧ (s.handed.sweep = true → s.air.sweep = .noSweep → s.air.confirmList = [] → s.air.mode = .paused →
          exec .sweepStart s = .next s0)
      ∧ (s.handed.sweep = true → s.air.sweep = .noSweep → s.air.confirmList = [] → swept 0 →
          exec .sweepStart s = .next { s0 with air := { s.air with resume := none } })
      ∧ (s.handed.sweep = true → s.air.sweep = .noSweep → s.air.mode ≠ .idle → ∀ w, chosen w →
          ∃ t, exec .sweepStart s = .next t
            ∧ t = { s0 with air := { s.air with
                sweep := w, buffer := Vector.replicate 4 none, turnsDone := 0, channels := t.air.channels,
                select := t.air.select, turnLive := t.air.turnLive, resume := t.air.resume } }
            ∧ (∀ c, w = .confirm c → t.air.resume = s.air.resume ∧ t.air.select.val = c.val / 8
                ∧ t.air.turnLive = (s.channel c).enabled)
            ∧ (∀ (g : Fin 8) (c : Fin 32), w = .group g → c.val = g.val →
                t.air.resume = none ∧ t.air.select = 0 ∧ t.air.turnLive = (s.channel c).enabled)
            ∧ ∀ c : Fin 32,
                (((∃ g : Fin 8, w = .group g ∧ c.val % 8 = g.val) ∨ w = .confirm c) →
                    t.channel c = (match (s.channel c).pendingLevels with
                      | some l => { s.channel c with levels := l, pendingLevels := none, run := .noRun, runCount := 0 }
                      | none => s.channel c))
                ∧ (¬ ((∃ g : Fin 8, w = .group g ∧ c.val % 8 = g.val) ∨ w = .confirm c) → t.channel c = s.channel c))

/-- A reading judged by its channel's real state: discarded in OFF; a rail value faults the channel, with CHANNEL_FAULT where it was
not faulted, TRIP staying TRIP; a good reading counts a warmup, or toward the end of a fault, or only enters the reading field in
TRIP; a METHANE reading of a group sweep at the trip level puts the channel on the confirm list; any other is judged for a rise
or a fall, the state changing where the run count reaches the persistence. Other channels stay. -/
def Obligations.ReadingIsJudgedByTheState : Prop :=
  ∀ (inGroup : Bool) (c : Fin 32) (v : Byte) (s : State),
    let t := takeReading inGroup c v s
    let r := s.channel c
    let rail := v = 0 ∨ v = 255
    let judged := r.real = .normal ∨ r.real = .caution ∨ r.real = .danger
    let toConfirm := inGroup = true ∧ r.gas = .methane ∧ ∃ x, r.tripLevel = some x ∧ x ≤ v.toNat
    let rising := r.gas = .methane ∨ r.gas = .carbonMonoxide
    let beyond (x : Nat) := (rising ∧ x ≤ v.toNat) ∨ (¬ rising ∧ v.toNat ≤ x)
    let backWithin (x : Nat) := (rising ∧ v.toNat + r.hysteresis < x) ∨ (¬ rising ∧ x + r.hysteresis < v.toNat)
    let isTarget (x : ChannelState) := (beyond r.levels.danger ∧ x = .danger)
      ∨ (¬ beyond r.levels.danger ∧ beyond r.levels.caution ∧ x = .caution)
      ∨ (¬ beyond r.levels.danger ∧ ¬ beyond r.levels.caution ∧ x = .normal)
    let worse (x : ChannelState) := (x = .danger ∧ r.real ≠ .danger) ∨ (x = .caution ∧ r.real = .normal)
    let back := (r.real = .caution ∧ backWithin r.levels.caution) ∨ (r.real = .danger ∧ backWithin r.levels.danger)
    (∀ d, d ≠ c → t.channel d = s.channel d)
      ∧ (r.real = .off → t = s)
      ∧ (r.real ≠ .off → rail → r.faultFlag = true → t = s.modifyChannel c (fun r => { r with goodCount := 0 }))
      ∧ (r.real ≠ .off → rail → r.faultFlag = false →
          t.channel c = { r with faultFlag := true, goodCount := 0, warmupCount := 0, run := .noRun, runCount := 0,
                                 real := if r.real = .trip then .trip else .fault }
            ∧ Raised .channelFault (.channel c) t)
      ∧ (¬ rail → r.real = .warmup → t.channel c =
          if 4 ≤ r.warmupCount + 1 then
            { r with reading := some v.toNat, warmupCount := r.warmupCount + 1, real := .normal, run := .noRun, runCount := 0 }
          else { r with reading := some v.toNat, warmupCount := r.warmupCount + 1 })
      ∧ (¬ rail → r.real = .trip → r.faultFlag = false →
          t = s.modifyChannel c (fun r => { r with reading := some v.toNat }))
      ∧ (¬ rail → r.real = .fault ∨ r.real = .trip → r.faultFlag = true →
          (r.goodCount + 1 < r.persistence →
            t = s.modifyChannel c (fun r => { r with reading := some v.toNat, goodCount := r.goodCount + 1 }))
          ∧ (r.persistence ≤ r.goodCount + 1 →
            t.channel c = (if r.real = .fault then
                { r with reading := some v.toNat, real := .normal, run := .noRun, runCount := 0, faultFlag := false, goodCount := 0 }
              else { r with reading := some v.toNat, faultFlag := false, goodCount := 0 })
              ∧ (QueueHolds s.atq → NotRaised .channelFault (.channel c) t)))
      ∧ (¬ rail → judged → toConfirm →
          t.channel c = { r with reading := some v.toNat, confirmPending := true }
            ∧ t = { s with air := { s.air with channels := t.air.channels, confirmList := t.air.confirmList } }
            ∧ t.air.confirmList = if c ∈ s.air.confirmList then s.air.confirmList else s.air.confirmList ++ [c])
      ∧ (¬ rail → judged → ¬ toConfirm → ∀ x, isTarget x →
          ∀ (run : Run) (n : Nat),
            (worse x → ∀ y, r.run = .rise y → run = .rise (if x.grade < y.grade then x else y) ∧ n = r.runCount + 1) →
            (worse x → (∀ y, r.run ≠ .rise y) → run = .rise x ∧ n = 1) →
            (¬ worse x → back → r.run = .fall → run = .fall ∧ n = r.runCount + 1) →
            (¬ worse x → back → r.run ≠ .fall → run = .fall ∧ n = 1) →
            (¬ worse x → ¬ back → run = .noRun ∧ n = 0) →
            (n < r.persistence → t.channel c = { r with reading := some v.toNat, run := run, runCount := n })
            ∧ (r.persistence ≤ n → ∀ y, run = .rise y →
                t.channel c = { r with reading := some v.toNat, run := .noRun, runCount := 0, real := y })
            ∧ (r.persistence ≤ n → run = .fall →
                t.channel c = { r with reading := some v.toNat, run := .noRun, runCount := 0,
                                       real := if r.real = .danger then .caution else .normal }))

/-- A turn begun is live where its channel is enabled then (`turnLive`, the model's own field: log 15; a sweep's first turn
is in SlotStartChoosesASweep, a channel turned off during its turn in ChannelsAreLevelledAndSwitched). A conversion
completion of a live turn stores its count, that of another stores none, and begins the next turn; the fourth ends the sweep.
A group sweep's readings are judged by their enabled channels, each test losing one sweep, and its group becomes the last one
swept and leaves the once set. A confirm sweep's channel leaves the confirm list: with three or four good readings at the
trip level it goes to TRIP without its test, and otherwise its readings are judged one after another and its test loses one
sweep. Other channels stay. A completion of an abandoned turn is discarded (log 15). -/
def Obligations.ConversionCompletionEndsTurnsAndSweeps : Prop :=
  ∀ (count : Byte) (s : State), s.resetLow = false →
    let stored (k : Fin 4) : Option Byte :=
      if k.val = s.air.turnsDone ∧ s.air.turnLive = true then some count else s.air.buffer[k]
    let readings : List Byte := (List.finRange 4).filterMap stored
    let good (v : Byte) : Bool := v != 0 && v != 255
    exec (.conversionCompletion count true) s = .next s
      ∧ (s.air.sweep = .noSweep → exec (.conversionCompletion count false) s = .next s)
      ∧ (s.air.sweep ≠ .noSweep → s.air.turnsDone + 1 < 4 →
          ∃ t, exec (.conversionCompletion count false) s = .next t
            ∧ t = { s with air := { s.air with buffer := t.air.buffer, turnsDone := s.air.turnsDone + 1,
                                               select := t.air.select, turnLive := t.air.turnLive } }
            ∧ (∀ k : Fin 4, t.air.buffer[k] = stored k)
            ∧ (∀ (g : Fin 8) (c : Fin 32), s.air.sweep = .group g → c.val = g.val + 8 * (s.air.turnsDone + 1) →
                t.air.select.val = s.air.turnsDone + 1 ∧ t.air.turnLive = (s.channel c).enabled)
            ∧ ∀ c, s.air.sweep = .confirm c → t.air.select.val = c.val / 8 ∧ t.air.turnLive = (s.channel c).enabled)
      ∧ (∀ g : Fin 8, s.air.sweep = .group g → s.air.turnsDone = 3 →
          ∃ t, exec (.conversionCompletion count false) s = .next t
            ∧ t.air.sweep = .noSweep ∧ t.air.lastGroup = g ∧ t.air.resume = s.air.resume
            ∧ t.air.enableSet = s.air.enableSet
            ∧ (s.air.mode = .once → (∀ h : Fin 8, t.air.onceSet.getLsbD h.val = (s.air.onceSet.getLsbD h.val && h != g))
                ∧ t.air.mode = if t.air.onceSet = 0 then .paused else .once)
            ∧ (s.air.mode ≠ .once → t.air.onceSet = s.air.onceSet ∧ t.air.mode = s.air.mode)
            ∧ (∀ c : Fin 32, c.val % 8 ≠ g.val → t.channel c = s.channel c)
            ∧ ∀ (k : Fin 4) (c : Fin 32), c.val = g.val + 8 * k.val →
                (stored k = none ∨ (s.channel c).enabled = false → t.channel c = s.channel c)
                ∧ ∀ v, stored k = some v → (s.channel c).enabled = true →
                  ((s.channel c).test = none → t.channel c = (takeReading true c v s).channel c)
                  ∧ ∀ x, (s.channel c).test = some x →
                    (t.channel c).real = ((takeReading true c v s).channel c).real
                    ∧ (t.channel c).test = if x.remaining ≤ 1 then none else some { x with remaining := x.remaining - 1 })
      ∧ ∀ c : Fin 32, s.air.sweep = .confirm c → s.air.turnsDone = 3 →
          let trips := readings.countP (fun v => good v && (s.channel c).isAtTrip v)
          ∃ t, exec (.conversionCompletion count false) s = .next t
            ∧ t.air.sweep = .noSweep ∧ t.air.lastGroup = s.air.lastGroup ∧ t.air.resume = s.air.resume
            ∧ t.air.onceSet = s.air.onceSet ∧ t.air.mode = s.air.mode
            ∧ t.air.confirmList = s.air.confirmList.filter (fun d => d != c)
            ∧ (∀ d, d ≠ c → t.channel d = s.channel d)
            ∧ (t.channel c).confirmPending = false
            ∧ (3 ≤ trips → (t.channel c).real = .trip ∧ (t.channel c).test = none ∧ (t.channel c).run = .noRun
                ∧ (t.channel c).runCount = 0
                ∧ (t.channel c).reading = ((readings.filter good).getLast?).map BitVec.toNat
                ∧ (t.channel c).faultFlag = ((s.channel c).faultFlag || readings.any (fun v => !good v)))
            ∧ (let judged := (readings.foldl (fun u v => takeReading false c v u)
                (s.modifyChannel c (fun r => { r with confirmPending := false }))).channel c
              (trips < 3 → (s.channel c).test = none → t.channel c = judged)
                ∧ ∀ x, trips < 3 → (s.channel c).test = some x →
                  t.channel c = { judged with
                    test := if x.remaining ≤ 1 then none else some { x with remaining := x.remaining - 1 } })

/-- L12 is kept by every step: a trip line is asserted exactly while some zone mapped to it has real air state TRIP; with it the
quiet of SETUP, in which no sweep runs, every channel is OFF and no zone is in real TRIP. -/
def Obligations.TripLineLawIsKept : Prop :=
  ∀ s t : State, LinesAgree s → SetupIsQuiet s → step s = .next t → LinesAgree t ∧ SetupIsQuiet t

/-! ## The haul link -/

/-- REGISTER_TRUCK refuses a number out of range or held and a kind that is no kind, answers NO_ROOM with every position held,
and makes the record in the lowest free position, at the tail of the poll list, the cursor set where the list was empty.
RETIRE_TRUCK frees the position, takes the truck out of its grant sets, off the poll list with the cursor moved on, and takes
its items and due marks out of the attention queue. -/
def Obligations.TrucksJoinAndLeave : Prop :=
  ∀ (number : Word16) (kind : Byte) (s : State), Ready s →
    let n := number.toNat
    let inRange := 1 ≤ n ∧ n ≤ 4095
    let held := ∃ q t, s.truckAt q = some t ∧ t.number = n
    (¬ (inRange ∧ ¬ held ∧ kind.toNat ≤ 1) → exec (.registerTruck number kind) s = .next (answered .badArgument [] s))
      ∧ (inRange → ¬ held → kind.toNat ≤ 1 → (∀ q, s.truckAt q ≠ none) →
          exec (.registerTruck number kind) s = .next (answered .noRoom [] s))
      ∧ (inRange → ¬ held → ∀ (q : Fin 24) (k : TruckKind), s.truckAt q = none → (∀ p < q, s.truckAt p ≠ none) →
          k.code = kind →
          exec (.registerTruck number kind) s =
            .next (answered .done [] { s with hlk := { s.hlk with
              trucks := s.hlk.trucks.set q (some
                { number := n, kind := k, state := .registered, zone := none, held := none, entry := none, proximity := [],
                  intrusion := false, forced := none, lastOrder := none, lastPoll := none, answered := false, missed := 0,
                  polled := false })
              pollList := s.hlk.pollList ++ [n]
              cursor := if s.hlk.pollList = [] then some n else s.hlk.cursor } }))
      ∧ (¬ inRange → exec (.retireTruck number) s = .next (answered .badArgument [] s))
      ∧ (inRange → ¬ held → exec (.retireTruck number) s = .next (answered .noRecord [] s))
      ∧ ∀ q u, NamesTruck s number q u →
          ∃ t, exec (.retireTruck number) s = .next t ∧ t.hpt.reply = [0]
            ∧ t.truckAt q = none ∧ (∀ p, p ≠ q → t.truckAt p = s.truckAt p)
            ∧ (∀ z, (t.zone z).grants =
                if u.held = some z ∨ u.grantedZone = some z then (s.zone z).grants.filter (fun m => m != n)
                else (s.zone z).grants)
            ∧ t.hlk.pollList = s.hlk.pollList.filter (fun m => m != n)
            ∧ (s.hlk.cursor ≠ some n → t.hlk.cursor = s.hlk.cursor)
            ∧ (∀ before m rest, s.hlk.cursor = some n → s.hlk.pollList = before ++ n :: m :: rest → n ∉ before → m ≠ n →
                t.hlk.cursor = some m)
            ∧ (∀ m rest, s.hlk.cursor = some n → s.hlk.pollList = m :: (rest ++ [n]) → n ∉ m :: rest →
                t.hlk.cursor = some m)
            ∧ (s.hlk.cursor = some n → s.hlk.pollList = [n] → t.hlk.cursor = none)
            ∧ (∀ it ∈ t.atq.items, it.subject ≠ .truck n) ∧ (∀ d ∈ t.atq.due, d.subject ≠ .truck n)

/-- FORCE_ORDER writes and RELEASE_ORDER removes a truck's forced order; each refuses a number out of range, FORCE_ORDER an
order that is none, and a number no record holds is answered NO_RECORD. RESUME makes alone no. -/
def Obligations.OrdersAreForcedAndReleased : Prop :=
  ∀ (number : Word16) (order : Byte) (s : State), Ready s →
    let inRange := 1 ≤ number.toNat ∧ number.toNat ≤ 4095
    let unheld := ∀ q t, s.truckAt q = some t → t.number ≠ number.toNat
    (¬ inRange → exec (.releaseOrder number) s = .next (answered .badArgument [] s))
      ∧ (inRange → unheld → exec (.releaseOrder number) s = .next (answered .noRecord [] s))
      ∧ (∀ q u, NamesTruck s number q u →
          exec (.releaseOrder number) s = .next (answered .done [] (s.setTruckAt q (some { u with forced := none }))))
      ∧ (s.hpt.phase = .running →
          (¬ inRange ∨ 2 < order.toNat → exec (.forceOrder number order) s = .next (answered .badArgument [] s))
          ∧ (inRange → order.toNat ≤ 2 → unheld → exec (.forceOrder number order) s = .next (answered .noRecord [] s))
          ∧ (∀ q u (o : Order), NamesTruck s number q u → o.code = order →
              exec (.forceOrder number order) s =
                .next (answered .done [] (s.setTruckAt q (some { u with forced := some o }))))
          ∧ exec .resume s = .next (answered .done [] { s with hlk := { s.hlk with alone := false } }))

/-- A HAUL slot start polls the truck at the cursor where it has not polled this frame: a previous poll without an answer
counts a miss, and at the lapse limit a LINKED truck becomes LAPSED with LINK_LOST raised; the order sent is the most severe
of the contributions of R131, the forced order only one more among them, so that it never eases the order (L5); the
TRUCK_POLL is held with the slot's stamp, and the cursor moves on. Any other slot start polls no truck. The slot start is
taken where it was handed (log 3), and LINK_LAPSE is the same judgement of one truck, which its poll has made already (log
5). -/
def Obligations.HaulSlotPollsTheTruckAtTheCursor : Prop :=
  ∀ s : State, s.resetLow = false →
    let s0 : State := { s with handed := { s.handed with poll := false } }
    (∀ u : Truck, OrderHolds u s)
      ∧ (s.handed.poll = false → exec .poll s = .next s)
      ∧ (s.handed.poll = true →
          s.slotClass ≠ .haul ∨ s.hlk.cursor = none ∨ (∃ n u, s.hlk.cursor = some n ∧ s.truck n = some u ∧ u.polled = true) →
          exec .poll s = .next s0)
      ∧ (∀ n u, s.handed.poll = true → s.slotClass = .haul → s.hlk.cursor = some n → s.truck n = some u → u.polled = false →
          let unanswered := u.lastPoll ≠ none ∧ u.answered = false
          let missed := if unanswered then min 15 (u.missed + 1) else u.missed
          let lapses := unanswered ∧ u.state = .linked ∧ s.hlk.lapseLimit ≤ missed
          let near (z : Fin 32) := u.held = some z ∨ u.entry = some { zone := z, status := .granted } ∨ u.zone = some z
          let hold := (∃ z, near z ∧ ((s.zone z).reported = .trip ∨ ((s.zone z).reported = .danger ∧ u.kind = .diesel)))
            ∨ (∃ z, u.entry = some { zone := z, status := .deferred }) ∨ u.intrusion = true
            ∨ (∃ e ∈ u.proximity, s.hlk.closeLevel ≤ e.level) ∨ u.forced = some .hold
          let slow := (∃ z, near z ∧ ((s.zone z).reported = .danger ∨ (s.zone z).reported = .caution
              ∨ (s.zone z).reported = .unknown ∨ (s.zone z).evac = .ordered))
            ∨ u.proximity ≠ [] ∨ s.hlk.alone = true ∨ u.forced = some .slow
          let late := ∃ h, s.flk.holding = some h ∧ h.stamp ≠ s.stamp
          ∃ (t : State) (order : Order), exec .poll s = .next t
            ∧ (hold → order = .hold) ∧ (¬ hold → slow → order = .slow) ∧ (¬ hold → ¬ slow → order = .go)
            ∧ t.truck n = some { u with
                missed := missed, state := if lapses then .lapsed else u.state, lastPoll := some s.stamp, answered := false,
                lastOrder := some order, polled := true }
            ∧ (∀ m, m ≠ n → t.truck m = s.truck m)
            ∧ t.flk = { s.flk with holding := some { message := .truckPoll n order u.grantedZone u.intrusion, stamp := s.stamp } }
            ∧ (t.hpt.flags.txLate = true ↔ s.hpt.flags.txLate = true ∨ late)
            ∧ (lapses → Raised .linkLost (.truck n) t) ∧ (¬ lapses → t.atq = s.atq)
            ∧ t.hlk.pollList = s.hlk.pollList ∧ t.znt = s.znt ∧ t.rst = s.rst ∧ t.frt = s.frt
            ∧ (∀ before m rest, s.hlk.pollList = before ++ n :: m :: rest → n ∉ before → t.hlk.cursor = some m)
            ∧ (∀ m rest, s.hlk.pollList = m :: (rest ++ [n]) → n ∉ m :: rest → t.hlk.cursor = some m)
            ∧ (s.hlk.pollList = [n] → t.hlk.cursor = some n))
      ∧ ∀ number : Word16,
          ((∀ u, s.truck number.toNat = some u → ¬ (u.state = .linked ∧ s.hlk.lapseLimit ≤ u.missed)) →
            exec (.linkLapse number) s = .next s)
          ∧ ∀ u, s.truck number.toNat = some u → u.state = .linked → s.hlk.lapseLimit ≤ u.missed →
            ∃ t, exec (.linkLapse number) s = .next t
              ∧ t = { s with hlk := { s.hlk with trucks := t.hlk.trucks }, atq := t.atq,
                             hpt := { s.hpt with flags := t.hpt.flags } }
              ∧ t.truck number.toNat = some { u with state := .lapsed }
              ∧ (∀ m, m ≠ number.toNat → t.truck m = s.truck m)
              ∧ Raised .linkLost (.truck number.toNat) t

/-- The frame start at the haul link: every polled flag becomes no; the silence count rises by one up to 255, and where it has
reached a silence limit other than 0 and the part is not ALONE, the part enters ALONE: alone becomes yes, ALONE is raised, and
every GRANTED entry of the listed trucks is withdrawn, DEFERRED for the same zone and out of its grant set. Each is taken where
it was handed (log 3); ENTER_ALONE is the judgement of the count, which the count has made already (log 5). -/
def Obligations.FrameStartCountsTheHostsSilence : Prop :=
  ∀ s : State, s.resetLow = false →
    let raised := min 255 (s.hlk.silenceCount + 1)
    let withdrawn (t : State) : Prop :=
      t = { s with znt := t.znt, hlk := { s.hlk with trucks := t.hlk.trucks, alone := true, silenceCount := t.hlk.silenceCount },
                   hpt := { s.hpt with flags := { s.hpt.flags with alone := true } }, handed := t.handed }
      ∧ (∀ n u, s.truck n = some u → ∀ z, u.entry = some { zone := z, status := .granted } → n ∈ s.hlk.pollList →
          t.truck n = some { u with entry := some { zone := z, status := .deferred } })
      ∧ (∀ n u, s.truck n = some u → n ∉ s.hlk.pollList ∨ u.grantedZone = none → t.truck n = some u)
      ∧ t.znt.lines = s.znt.lines
      ∧ ∀ z, t.zone z = { s.zone z with grants := (t.zone z).grants }
          ∧ ∀ n, n ∈ (t.zone z).grants ↔ n ∈ (s.zone z).grants
              ∧ ¬ (n ∈ s.hlk.pollList ∧ ∃ u, s.truck n = some u ∧ u.grantedZone = some z)
    (s.handed.pollFlags = false → exec .pollFlagRenewal s = .next s)
      ∧ (s.handed.pollFlags = true → ∃ t, exec .pollFlagRenewal s = .next t
          ∧ t = { s with hlk := { s.hlk with trucks := t.hlk.trucks }, handed := { s.handed with pollFlags := false } }
          ∧ ∀ q, t.truckAt q = (s.truckAt q).map (fun u => { u with polled := false }))
      ∧ (s.handed.silence = false → exec .silenceCount s = .next s)
      ∧ (s.handed.silence = true → s.hlk.silenceLimit = 0 ∨ raised < s.hlk.silenceLimit ∨ s.hlk.alone = true →
          exec .silenceCount s =
            .next { s with hlk := { s.hlk with silenceCount := raised }, handed := { s.handed with silence := false } })
      ∧ (s.handed.silence = true → s.hlk.silenceLimit ≠ 0 → s.hlk.silenceLimit ≤ raised → s.hlk.alone = false →
          ∃ t, exec .silenceCount s = .next t ∧ withdrawn t ∧ t.hlk.silenceCount = raised
            ∧ t.handed = { s.handed with silence := false })
      ∧ (s.hlk.silenceLimit = 0 ∨ s.hlk.silenceCount < s.hlk.silenceLimit ∨ s.hlk.alone = true →
          exec .enterAlone s = .next s)
      ∧ (s.hlk.silenceLimit ≠ 0 → s.hlk.silenceLimit ≤ s.hlk.silenceCount → s.hlk.alone = false →
          ∃ t, exec .enterAlone s = .next t ∧ withdrawn t ∧ t.hlk.silenceCount = s.hlk.silenceCount ∧ t.handed = s.handed)

/-! ## Evacuation and refuges -/

/-- EVACUATE refuses an empty set; each zone of it is ordered with cause HOST: one already ORDERED gains the cause, and one in
NONE becomes ORDERED with the current frame's stamp, every PRESENT, QUIET or MISSING record of the zone with alert NONE is SENT,
and the GRANTED entries to it are withdrawn. LIFT refuses an empty set and a set with a zone in real DANGER or TRIP; otherwise
its zones go to NONE and the alerts of records not in an ORDERED zone become NONE. -/
def Obligations.ZonesAreEvacuatedAndLifted : Prop :=
  ∀ (zones : BitVec 32) (s : State), Ready s → s.hpt.phase = .running →
    let named (z : Fin 32) := zones.getLsbD z.val = true
    let ordered (z : Fin 32) := named z ∧ (s.zone z).evac = .notOrdered
    (zones = 0 → exec (.evacuate zones) s = .next (answered .badArgument [] s)
        ∧ exec (.lift zones) s = .next (answered .badArgument [] s))
      ∧ (zones ≠ 0 → ∃ t, exec (.evacuate zones) s = .next t
          ∧ t = answered .done [] { s with znt := t.znt, rst := { s.rst with slots := t.rst.slots },
                                           hlk := { s.hlk with trucks := t.hlk.trucks } }
          ∧ t.znt.lines = s.znt.lines
          ∧ (∀ z, ¬ named z → t.zone z = s.zone z)
          ∧ (∀ z, named z → (s.zone z).evac = .ordered →
              t.zone z = { s.zone z with causes := { (s.zone z).causes with host := true } })
          ∧ (∀ z, ordered z → t.zone z = { s.zone z with
              evac := .ordered, causes := { air := false, line := false, host := true }, orderedStamp := some s.frt.frame,
              grants := (t.zone z).grants })
          ∧ (∀ i, (t.slot i).gen = (s.slot i).gen
              ∧ (s.person i = none → t.person i = none)
              ∧ ∀ p, s.person i = some p →
                ((∃ z, p.zone = some z ∧ ordered z) ∧ (p.state = .present ∨ p.state = .quiet ∨ p.state = .missing)
                    ∧ p.alert = .noAlert → t.person i = some { p with alert := .sent })
                ∧ (¬ ((∃ z, p.zone = some z ∧ ordered z) ∧ (p.state = .present ∨ p.state = .quiet ∨ p.state = .missing)
                    ∧ p.alert = .noAlert) → t.person i = some p))
          ∧ ∀ n u, s.truck n = some u →
              (∀ z, n ∈ s.hlk.pollList → ordered z → u.entry = some { zone := z, status := .granted } →
                t.truck n = some { u with entry := some { zone := z, status := .deferred } } ∧ n ∉ (t.zone z).grants)
              ∧ (n ∉ s.hlk.pollList ∨ (∀ z, ordered z → u.grantedZone ≠ some z) → t.truck n = some u))
      ∧ ((∃ z, named z ∧ ((s.zone z).real = .danger ∨ (s.zone z).real = .trip)) →
          exec (.lift zones) s = .next (answered .refused [] s))
      ∧ (zones ≠ 0 → (∀ z, named z → (s.zone z).real ≠ .danger ∧ (s.zone z).real ≠ .trip) →
          ∃ t, exec (.lift zones) s = .next t
            ∧ t = answered .done [] { s with znt := t.znt, rst := { s.rst with slots := t.rst.slots } }
            ∧ t.znt.lines = s.znt.lines
            ∧ (∀ z, named z → t.zone z = { s.zone z with
                evac := .notOrdered, causes := { air := false, line := false, host := false }, orderedStamp := none })
            ∧ (∀ z, ¬ named z → t.zone z = s.zone z)
            ∧ ∀ i, (t.slot i).gen = (s.slot i).gen
                ∧ (s.person i = none → t.person i = none)
                ∧ ∀ p, s.person i = some p →
                  ((∃ z, p.zone = some z ∧ (t.zone z).evac = .ordered) → t.person i = some p)
                  ∧ (¬ (∃ z, p.zone = some z ∧ (t.zone z).evac = .ordered) → t.person i = some { p with alert := .noAlert }))

/-- The frame start at the unit: a configured refuge's REPORTING panel that has not reported for the silence limit becomes SILENT,
its fault reasons derived anew and REFUGE_FAULT raised; other refuges stay. A cadence event starts a round where none is in
progress and some record has alert SENT or its page set, with the frame's number and cursor 0, and does nothing otherwise. Each
is taken where the frame start handed it (log 3). -/
def Obligations.FrameStartJudgesPanelsAndStartsRounds : Prop :=
  ∀ s : State, s.resetLow = false →
    let silent (r : Fin 8) := (s.refuge r).configured = true ∧ (s.refuge r).panel = .reporting
      ∧ s.rev.silenceLimit ≤ framesSince s.frt.frame (s.refuge r).lastReport
    let work := ∃ i p, s.person i = some p ∧ (p.alert = .sent ∨ p.page = true)
    (s.handed.panel = false → exec .panelSilence s = .next s)
      ∧ (s.handed.panel = true → QueueHolds s.atq → ∃ t, exec .panelSilence s = .next t
          ∧ t = { s with rev := { s.rev with refuges := t.rev.refuges }, atq := t.atq,
                         hpt := { s.hpt with flags := t.hpt.flags }, handed := { s.handed with panel := false } }
          ∧ ∀ r, (¬ silent r → t.refuge r = s.refuge r)
            ∧ (silent r →
                t.refuge r = { s.refuge r with
                  panel := .silent
                  reasons :=
                    { doorBreach := decide ((s.refuge r).door = .opened
                        ∧ ∃ z, (s.refuge r).zone = some z ∧ ((s.zone z).real = .danger ∨ (s.zone z).real = .trip))
                      doorFault := decide ((s.refuge r).door = .fault)
                      supply := decide ((s.refuge r).supply = .low ∨ (s.refuge r).supply = .fail)
                      silent := true
                      overCapacity := decide ((s.refuge r).capacity < (s.refuge r).occupancy) } }
                ∧ ((s.refuge r).reasons.silent = false → Raised .refugeFault (.refuge r) t)))
      ∧ (s.handed.round = false → exec .alertRoundStart s = .next s)
      ∧ (s.handed.round = true → s.rev.roundOn = true ∨ ¬ work →
          exec .alertRoundStart s = .next { s with handed := { s.handed with round := false } })
      ∧ (s.handed.round = true → s.rev.roundOn = false → work →
          exec .alertRoundStart s = .next { s with
            handed := { s.handed with round := false }
            rev := { s.rev with roundOn := true, roundStart := some s.frt.frame, roundCursor := 0 } })

/-! ## Calls -/

/-- ANSWER answers NO_RECORD without a WAITING call, REFUSED for a record that is neither PRESENT nor MUSTERED, and
NO_CHANNEL without a FREE usable channel; otherwise the lowest of them is HELD by the handle, the call is CONNECTED on it,
its item or due mark is gone, and the MAN_DOWN of an overdue EMERGENCY ended. END_CALL answers NO_RECORD without a CONNECTED
call, and frees its channel and the call fields otherwise. A CALL, URGENT or EMERGENCY key raises a call, upgrades a WAITING
one of lower precedence, repeats it otherwise (a repeat count stays at 15, of a CONNECTED call too: log 21), and only raises
the precedence and the repeat count of a CONNECTED one, whose call stamp and overdue flag stay (the model's choice: log 28);
a CANCEL key takes a WAITING call's item down and ends either call. -/
def Obligations.CallsAreAnsweredAndEnded : Prop :=
  (∀ (s : State) (i : Fin 240) (p : Person), s.person i = some p → QueueHolds s.atq →
    let x := s.personSubject i
    let idle (q : Person) : Person := { q with
      precedence := .noCall, callState := .noCall, callStamp := none, repeats := 0, overdue := false, callChannel := none }
    let changed (q : Person) (t : State) := t = { s.setSlot i { gen := (s.slot i).gen, person := some q } with
      atq := t.atq, hpt := { s.hpt with flags := t.hpt.flags } }
    (∀ (key : Key) (asked : Precedence) (kind : ItemKind),
      (key = .call ∧ asked = .routine ∧ kind = .routineCall) ∨ (key = .urgent ∧ asked = .urgent ∧ kind = .urgentCall)
        ∨ (key = .emergency ∧ asked = .emergency ∧ kind = .emergencyCall) →
      let t := actOnKey i key s
      let raised : Person := { p with
        precedence := asked, callState := .waiting, callStamp := some s.frt.frame, repeats := 0, overdue := false }
      let again : Person := { p with repeats := min 15 (p.repeats + 1) }
      (p.callState = .noCall → changed raised t ∧ Raised kind x t)
        ∧ (p.callState = .waiting → p.precedence.code.toNat < asked.code.toNat →
            changed raised t ∧ Raised kind x t ∧ ∀ old, p.precedence.kind? = some old → NotRaised old x t)
        ∧ (p.callState = .waiting → asked.code.toNat ≤ p.precedence.code.toNat → changed again t
            ∧ ∀ held, p.precedence.kind? = some held → Raised held x t
              ∧ ∀ it, s.item held x = some it → it.condition = .active →
                t.item held x = some { it with test := false, detail := .call again.repeats p.overdue } ∧ t.hpt = s.hpt)
        ∧ (p.callState = .connected →
            t = s.setSlot i { gen := (s.slot i).gen, person := some (
              { again with precedence := if p.precedence.code.toNat < asked.code.toNat then asked else p.precedence }) }))
    ∧ (p.callState = .noCall → actOnKey i .cancel s = s)
    ∧ (p.callState = .waiting →
        let t := actOnKey i .cancel s
        changed (idle p) t ∧ (∀ held, p.precedence.kind? = some held → NotRaised held x t)
          ∧ (p.precedence = .emergency → p.overdue = true → NotRaised .manDown x t))
    ∧ ∀ c : Fin 4, p.callState = .connected → p.callChannel = some c →
        actOnKey i .cancel s = { s.setSlot i { gen := (s.slot i).gen, person := some (idle p) } with
          cal := { s.cal with channels := s.cal.channels.set c none } })
  ∧ ∀ (slot gen : Byte) (s : State) (i : Fin 240) (p : Person), Ready s → Names s slot gen i p →
    let reachable := p.state = .present ∨ p.state = .mustered
    (s.hpt.phase = .running →
        (p.callState ≠ .waiting → exec (.answer slot gen) s = .next (answered .noRecord [] s))
        ∧ (p.callState = .waiting → ¬ reachable → exec (.answer slot gen) s = .next (answered .refused [] s))
        ∧ (p.callState = .waiting → reachable → (∀ c : Fin 4, c.val < s.cal.usable → s.cal.channels[c] ≠ none) →
            exec (.answer slot gen) s = .next (answered .noChannel [] s))
        ∧ ∀ c : Fin 4, p.callState = .waiting → reachable → c.val < s.cal.usable → s.cal.channels[c] = none →
            (∀ d < c, s.cal.channels[d] ≠ none) → QueueHolds s.atq →
            ∃ t, exec (.answer slot gen) s = .next t
              ∧ t = answered .done [byteOf c.val]
                  { (s.modifyPerson i (fun q => { q with callState := .connected, callChannel := some c })) with
                    cal := { s.cal with channels := s.cal.channels.set c (some (s.handle i)) }
                    atq := t.atq, hpt := { s.hpt with flags := t.hpt.flags } }
              ∧ (∀ k, p.precedence.kind? = some k →
                  (∀ it ∈ t.atq.items, ¬ (it.kind = k ∧ it.subject = s.personSubject i))
                    ∧ t.dueMark k (s.personSubject i) = none)
              ∧ (p.precedence = .emergency → p.overdue = true → NotRaised .manDown (s.personSubject i) t))
      ∧ (p.callState ≠ .connected → exec (.endCall slot gen) s = .next (answered .noRecord [] s))
      ∧ ∀ c : Fin 4, p.callState = .connected → p.callChannel = some c →
          exec (.endCall slot gen) s =
            .next (answered .done [byteOf c.val]
              { (s.modifyPerson i (fun q => { q with
                  precedence := .noCall, callState := .noCall, callStamp := none, repeats := 0, overdue := false,
                  callChannel := none })) with
                cal := { s.cal with channels := s.cal.channels.set c none } })

/-- The frame start's judgement of WAITING calls: a ROUTINE call at its limit becomes URGENT from this frame, its item
replaced; an URGENT call at its limit becomes overdue, and an item of it still in the queue is NEW with the new detail, with
ATTENTION where it was not NEW (the insert renews, R39); an EMERGENCY call at its limit becomes overdue, its item carrying
the new detail, with MAN_DOWN raised; no other record changes. It is taken where the frame start handed it (log 3). -/
def Obligations.CallWaitsAreJudged : Prop :=
  ∀ s : State, s.resetLow = false →
    let x (i : Fin 240) := s.personSubject i
    (s.handed.callWait = false → exec .callWaitJudgement s = .next s)
      ∧ (s.handed.callWait = true → QueueHolds s.atq → ∃ t, exec .callWaitJudgement s = .next t
          ∧ t = { s with rst := { s.rst with slots := t.rst.slots }, atq := t.atq,
                         hpt := { s.hpt with flags := t.hpt.flags }, handed := { s.handed with callWait := false } }
          ∧ ∀ i, (t.slot i).gen = (s.slot i).gen ∧ (s.person i = none → t.person i = none)
            ∧ ∀ p, s.person i = some p →
              let since (limit : Nat) := p.callState = .waiting ∧ ∃ f, p.callStamp = some f ∧ limit ≤ framesSince s.frt.frame f
              let climbs := p.precedence = .routine ∧ since s.cal.routineLimit
              let lags := p.precedence = .urgent ∧ p.overdue = false ∧ since s.cal.routineLimit
              let alarms := p.precedence = .emergency ∧ p.overdue = false ∧ since s.cal.emergencyLimit
              let detailed (k : ItemKind) (d : Detail) := ∀ it ∈ t.atq.items, it.kind = k → it.subject = x i → it.detail = d
              (climbs → t.person i = some { p with precedence := .urgent, callStamp := some s.frt.frame, repeats := 0,
                                                   overdue := false }
                ∧ NotRaised .routineCall (x i) t ∧ Raised .urgentCall (x i) t ∧ detailed .urgentCall (.call 0 false))
              ∧ (lags → t.person i = some { p with overdue := true } ∧ Raised .urgentCall (x i) t
                  ∧ detailed .urgentCall (.call p.repeats true)
                  ∧ (∀ it ∈ t.atq.items, it.kind = .urgentCall → it.subject = x i → it.state = .new)
                  ∧ ∀ it ∈ s.atq.items, it.kind = .urgentCall → it.subject = x i → it.state ≠ .new →
                      t.hpt.flags.attention = true)
              ∧ (alarms → t.person i = some { p with overdue := true } ∧ Raised .emergencyCall (x i) t
                  ∧ detailed .emergencyCall (.call p.repeats true) ∧ Raised .manDown (x i) t)
              ∧ (¬ climbs → ¬ lags → ¬ alarms → t.person i = some p))

/-- The usable count that new windows give ends the calls on the channels at or above it, freeing the channel and the call
fields, and leaves the others; a VOICE slot start holds a CHANNEL_HOLD where its channel is usable and HELD, and nothing
otherwise. Each is taken where it was handed (log 3). -/
def Obligations.CallChannelsAreNarrowedAndHeld : Prop :=
  ∀ s : State, s.resetLow = false → ChannelsAgree s →
    let n := min 4 (s.frt.active.callEnd - s.frt.active.callStart)
    let s0 : State := { s with handed := { s.handed with hold := false } }
    (s.handed.usable = false → exec .usableChannelCount s = .next s)
      ∧ (s.handed.usable = true → ∃ t, exec .usableChannelCount s = .next t
          ∧ t = { s with rst := { s.rst with slots := t.rst.slots }, cal := t.cal,
                         handed := { s.handed with usable := false } }
          ∧ t.cal = { s.cal with usable := n, channels := t.cal.channels }
          ∧ (∀ c : Fin 4, t.cal.channels[c] = if c.val < n then s.cal.channels[c] else none)
          ∧ ∀ i, (t.slot i).gen = (s.slot i).gen ∧ (s.person i = none → t.person i = none)
            ∧ ∀ p, s.person i = some p →
              ((∃ c : Fin 4, p.callState = .connected ∧ p.callChannel = some c ∧ n ≤ c.val) →
                t.person i = some { p with precedence := .noCall, callState := .noCall, callStamp := none, repeats := 0,
                                           overdue := false, callChannel := none })
              ∧ (¬ (∃ c : Fin 4, p.callState = .connected ∧ p.callChannel = some c ∧ n ≤ c.val) → t.person i = some p))
      ∧ (s.handed.hold = false → exec .channelHold s = .next s)
      ∧ (s.handed.hold = true →
          s.slotClass ≠ .voice ∨ (∀ c : Fin 4, s.frt.slot = s.frt.active.callStart + c.val → c.val < s.cal.usable →
            s.cal.channels[c] = none) →
          exec .channelHold s = .next s0)
      ∧ ∀ (c : Fin 4) (h : Handle) (p : Person), s.handed.hold = true → s.slotClass = .voice →
          s.frt.slot = s.frt.active.callStart + c.val → c.val < s.cal.usable → s.cal.channels[c] = some h →
          s.person h.slot = some p →
          ∃ t, exec .channelHold s = .next t
            ∧ t = { s0 with flk := { s.flk with holding := some { message := .channelHold c p.tag, stamp := s.stamp } },
                            hpt := { s.hpt with flags := t.hpt.flags } }
            ∧ (t.hpt.flags.txLate = true ↔ s.hpt.flags.txLate = true ∨ ∃ m, s.flk.holding = some m ∧ m.stamp ≠ s.stamp)

/-- L11 is kept by every step: a held call channel names a live record whose CONNECTED call holds it, and a CONNECTED call holds
its channel. -/
def Obligations.CallLawIsKept : Prop :=
  ∀ s t : State, ChannelsAgree s → step s = .next t → ChannelsAgree t

/-! ## The field link -/

/-- An arrival is discarded while the timer is not COUNTING, and where the delivery ended before its kind's length or names no
inbound kind; with 16 messages queued it is discarded with FIELD_OVERRUN; otherwise the message is queued at the tail with the
frame number, slot count and class of the current slot. (Bytes past the message's last are no part of it: log 20.) -/
def Obligations.ArrivalIsQueuedWithItsStamp : Prop :=
  ∀ (bytes : List Byte) (s : State), s.resetLow = false →
    let required (n : Nat) := (bytes[0]? = some 1 ∧ n = 8)
      ∨ (bytes[0]? = some 2 ∧ ∃ k, bytes[5]? = some k ∧ n = 6 + 4 * k.toNat)
      ∨ (bytes[0]? = some 3 ∧ ∃ i o, bytes[4]? = some i ∧ bytes[5]? = some o ∧ n = 6 + 3 * i.toNat + 3 * o.toNat)
    (s.frt.timer ≠ .counting → exec (.fieldArrival bytes) s = .next s)
      ∧ ((∀ n, required n → bytes.length < n) → exec (.fieldArrival bytes) s = .next s)
      ∧ ∀ n, s.frt.timer = .counting → required n → n ≤ bytes.length →
          (16 ≤ s.flk.queue.length →
            exec (.fieldArrival bytes) s =
              .next { s with hpt := { s.hpt with flags := { s.hpt.flags with fieldOverrun := true } } })
          ∧ (s.flk.queue.length < 16 →
            exec (.fieldArrival bytes) s = .next { s with flk := { s.flk with queue := s.flk.queue ++
              [{ message := bytes.take n, frame := s.frt.frame, slot := s.frt.slot, slotClass := s.slotClass }] } })

/-- A message is taken from the head of the receive queue where none is in hand. One of another window than its kind's, with
a field outside its table, or from a reader whose zone is not configured is discarded; so is a tag number that is not valid.
A tag report of a record makes it PRESENT and heard, in its zone or where the contest of its frame leaves it, moves the
person counts, ends its MISSING, raises its exposure where ENTRIES mode counts the move, alerts it in an ORDERED zone, and
records the key's sequence; where its state or zone changes, its separation as a VISITOR and that of each visitor whose
escort it is are judged anew (R63, R68, R69), and no other record changes; a MUSTERED record leaves its refuge so only where
the zone that wins is not its refuge's, and is heard and no more otherwise. An unknown tag is enrolled by a PORTAL while
portal enrolment is on and a slot is free, and raises STRANGER otherwise. A key whose sequence is the record's last is not
acted on again; any other is acted on after the sighting. -/
def Obligations.TagReportSightsItsRecord : Prop :=
  ∀ s : State, s.resetLow = false →
    (s.flk.queue = [] ∨ s.flk.inHand ≠ none → exec .messageTaking s = .next s)
      ∧ ∀ (e : Received) (later : List Received), s.flk.inHand = none → s.flk.queue = e :: later →
        let s0 : State := { s with flk := { s.flk with queue := later } }
        (inbound? e.message = none → exec .messageTaking s = .next s0)
        ∧ ∀ zone t2 t1 t0 level key sequence : Byte, e.message = [1, zone, t2, t1, t0, level, key, sequence] →
          let tag := word24 t2 t1 t0
          let unheld := ∀ i p, s.person i = some p → p.tag ≠ tag
          (e.slotClass ≠ .tag ∨ 32 ≤ zone.toNat ∨ 15 < level.toNat ∨ 5 < key.toNat ∨ 3 < sequence.toNat ∨ tag = 0
              ∨ tag = 0xffffff → exec .messageTaking s = .next s0)
          ∧ ∀ z : Fin 32, e.slotClass = .tag → z.val = zone.toNat → level.toNat ≤ 15 → key.toNat ≤ 5 → sequence.toNat ≤ 3 →
            tag ≠ 0 → tag ≠ 0xffffff →
            ((s.zone z).configured = false → exec .messageTaking s = .next s0)
            ∧ ((s.zone z).configured = true → unheld →
                (s.zone z).kind ≠ .portal ∨ s.rst.portalEnrolment = false ∨ (∀ i, s.person i ≠ none) →
                ∃ t, exec .messageTaking s = .next t
                  ∧ t = { s0 with atq := t.atq, hpt := { s.hpt with flags := t.hpt.flags } }
                  ∧ (s.atq.items.length < 32 → Raised .stranger (.tag tag) t))
            ∧ (∀ i : Fin 240, (s.zone z).configured = true → unheld → (s.zone z).kind = .portal →
                s.rst.portalEnrolment = true → s.person i = none → (∀ j < i, s.person j ≠ none) → key = 0 →
                ∃ t q, exec .messageTaking s = .next t ∧ t.flk = s0.flk ∧ t.person i = some q
                  ∧ (t.slot i).gen = (s.slot i).gen
                  ∧ q.tag = tag ∧ q.role = .crew ∧ q.escort = none ∧ q.state = .present ∧ q.zone = some z
                  ∧ q.heard = some e.frame ∧ q.level = level.toNat ∧ q.heardSinceVisit = true ∧ q.misses = 0
                  ∧ q.alert = (if (s.zone z).evac = .ordered then .sent else .noAlert)
                  ∧ q.lastKey = some (BitVec.ofNat 2 sequence.toNat)
                  ∧ ∀ w, (t.zone w).persons = if w = z then (s.zone w).persons + 1 else (s.zone w).persons)
            ∧ (∀ (i : Fin 240) (k : Key) (last : Option (BitVec 2)), (s.zone z).configured = true → k.code = key →
                ((∃ p, s.person i = some p ∧ p.tag = tag ∧ p.lastKey = last
                    ∧ ∀ j q, s.person j = some q → q.tag = tag → j = i)
                  ∨ (unheld ∧ (s.zone z).kind = .portal ∧ s.rst.portalEnrolment = true ∧ s.person i = none
                    ∧ (∀ j < i, s.person j ≠ none) ∧ last = none)) →
                ∃ t, exec .messageTaking { s with flk := { s.flk with
                      queue := { e with message := [1, zone, t2, t1, t0, level, 0, sequence] } :: later } } = .next t
                  ∧ (last = some (BitVec.ofNat 2 sequence.toNat) → exec .messageTaking s = .next t)
                  ∧ (last ≠ some (BitVec.ofNat 2 sequence.toNat) → exec .messageTaking s = .next (actOnKey i k t)))
            ∧ ∀ (i : Fin 240) (p : Person), (s.zone z).configured = true → s.person i = some p → p.tag = tag →
                (∀ j q, s.person j = some q → q.tag = tag → j = i) → key = 0 →
                let won : Option (Fin 32) × Nat :=
                  if p.heard = some e.frame ∧ level.toNat ≤ p.level then (p.zone, p.level) else (some z, level.toNat)
                let counted : Option (Fin 32) := if p.state = .present ∨ p.state = .quiet then p.zone else none
                let stays := p.state = .mustered ∧ won.1 = p.refuge.bind (fun r => (s.refuge r).zone)
                let moves := s.rst.exposureMode = .entries ∧ counted ≠ won.1 ∧ p.exposure < 65535
                  ∧ ∃ w, won.1 = some w ∧ ((s.zone w).real = .caution ∨ (s.zone w).real = .danger ∨ (s.zone w).real = .trip)
                (stays → exec .messageTaking s = .next (s0.setSlot i { gen := (s.slot i).gen, person := some (
                  { p with heard := some e.frame, level := won.2, lastKey := some (BitVec.ofNat 2 sequence.toNat) }) }))
                ∧ (¬ stays →
                ∃ t q, exec .messageTaking s = .next t ∧ t.flk = s0.flk ∧ t.person i = some q
                  ∧ q.tag = tag ∧ q.role = p.role ∧ q.state = .present ∧ q.zone = won.1 ∧ q.level = won.2
                  ∧ q.refuge = none ∧ q.heard = some e.frame ∧ q.misses = 0 ∧ q.heardSinceVisit = true
                  ∧ q.lastKey = some (BitVec.ofNat 2 sequence.toNat)
                  ∧ q.alert = (if p.alert = .noAlert ∧ ∃ w, won.1 = some w ∧ (s.zone w).evac = .ordered then .sent else p.alert)
                  ∧ (∀ w, (t.zone w).persons =
                      if counted = won.1 then (s.zone w).persons
                      else if won.1 = some w then (s.zone w).persons + 1
                      else if counted = some w then (s.zone w).persons - 1 else (s.zone w).persons)
                  ∧ (∀ r, (t.refuge r).occupancy =
                      if p.state = .mustered ∧ p.refuge = some r then (s.refuge r).occupancy - 1 else (s.refuge r).occupancy)
                  ∧ (moves → q.exposure = p.exposure + 1 ∧ q.exposureFull = (p.exposureFull || p.exposure + 1 == 65535)
                      ∧ (p.exposure + 1 = s.rst.exposureLimit → QueueHolds s.atq → Raised .exposure (s.personSubject i) t))
                  ∧ (¬ moves → q.exposure = p.exposure ∧ q.exposureFull = p.exposureFull)
                  ∧ (p.state = .missing → QueueHolds s.atq → NotRaised .missing (s.personSubject i) t)
                  ∧ (q.state ≠ p.state ∨ q.zone ≠ p.zone → EscortsJudged i s t)
                  ∧ (q.state = p.state → q.zone = p.zone →
                      q.separation = p.separation ∧ q.escortLost = p.escortLost ∧ OthersStay i s t))

/-- A refuge report of a configured refuge writes its door, supply, panel and last report, checks the tags of its two lists
in and out, those in both in and then out, moves the occupancies, derives its fault reasons anew, and hands a change of their
set to REFUGE_FAULT: raised where the set was empty, NEW again where a reason joins it, ended where it becomes empty; a
record checked in or out is judged for separation, with each visitor whose escort it is; that of another refuge is discarded.
A truck report that answers the truck's last poll, not answered yet, is taken: the truck is LINKED, its zone and proximity
list are the report's, an arrival makes a GRANTED entry its held grant, its request leaves an entry to the zone asked for: a
GRANTED one stays, and any other is GRANTED, its place taken in the grant set, where the zone is fit and has room, and
DEFERRED otherwise; a place that it neither holds nor is granted any longer is given up, and the other trucks' places stay;
its intrusion is judged. The tags of its proximity list are sighted in its zone at level 0, MUSTERED records apart; a report
without a zone moves nobody, and an unknown tag raises STRANGER. Any other truck report is discarded. The first clauses are
L3, an add claim that changes an ascending grant set found room in it, and L6, a request that changes one found the zone fit.
-/
def Obligations.RefugeAndTruckReportsAreTaken : Prop :=
  (∀ (n : Nat) (z : Fin 32) (s : State), (s.zone z).grants.Pairwise (· < ·) → AddsBelowLimit n z s)
  ∧ (∀ (n : Nat) (q : Fin 32) (s : State), RequestsFit n q s)
  ∧ ∀ (s : State) (e : Received) (later : List Received), s.resetLow = false → s.flk.inHand = none → s.flk.queue = e :: later →
    let s0 : State := { s with flk := { s.flk with queue := later } }
    (∀ rep : RefugeReport, inbound? e.message = some (.refuge rep) →
        (e.slotClass ≠ .tag ∨ (s.refuge rep.refuge).configured = false → exec .messageTaking s = .next s0)
        ∧ (e.slotClass = .tag → (s.refuge rep.refuge).configured = true →
          ∃ t, exec .messageTaking s = .next t ∧ t.flk = s0.flk
            ∧ (t.refuge rep.refuge).door = rep.door ∧ (t.refuge rep.refuge).supply = rep.supply
            ∧ (t.refuge rep.refuge).panel = .reporting ∧ (t.refuge rep.refuge).lastReport = e.frame
            ∧ (let old := (s.refuge rep.refuge).reasons
              let new : FaultReasons :=
                { doorBreach := decide (rep.door = .opened
                    ∧ ∃ z, (s.refuge rep.refuge).zone = some z ∧ ((s.zone z).real = .danger ∨ (s.zone z).real = .trip))
                  doorFault := decide (rep.door = .fault)
                  supply := decide (rep.supply = .low ∨ rep.supply = .fail)
                  silent := false
                  overCapacity := decide ((s.refuge rep.refuge).capacity < (t.refuge rep.refuge).occupancy) }
              let empty : FaultReasons :=
                { doorBreach := false, doorFault := false, supply := false, silent := false, overCapacity := false }
              let joined := (new.doorBreach = true ∧ old.doorBreach = false) ∨ (new.doorFault = true ∧ old.doorFault = false)
                ∨ (new.supply = true ∧ old.supply = false) ∨ (new.overCapacity = true ∧ old.overCapacity = false)
              let ofFault (it : Item) := it.kind = .refugeFault ∧ it.subject = .refuge rep.refuge
              (t.refuge rep.refuge).reasons = new
                ∧ (QueueHolds s.atq → new ≠ old → new = empty → NotRaised .refugeFault (.refuge rep.refuge) t)
                ∧ (QueueHolds s.atq → new ≠ old → new ≠ empty → Raised .refugeFault (.refuge rep.refuge) t
                    ∧ ∀ it ∈ t.atq.items, ofFault it → it.detail = .faults new)
                ∧ (QueueHolds s.atq → old ≠ empty → joined → (∀ it ∈ t.atq.items, ofFault it → it.state = .new)
                    ∧ ∀ it ∈ s.atq.items, ofFault it → it.state ≠ .new → t.hpt.flags.attention = true)
                ∧ (rep.checkIns = [] → rep.checkOuts = [] →
                    (new = old → t.atq = s.atq)
                    ∧ ∀ it, new ≠ old → new ≠ empty → QueueHolds s.atq →
                        s.item .refugeFault (.refuge rep.refuge) = some it → it.condition = .active →
                        ∀ state, (old ≠ empty → joined → state = .new) → (¬ (old ≠ empty ∧ joined) → state = it.state) →
                          t.item .refugeFault (.refuge rep.refuge) =
                            some { it with test := false, detail := .faults new, state := state }))
            ∧ (∀ (i : Fin 240) (p : Person), s.person i = some p → p.tag ≠ 0 → p.tag ≠ 0xffffff →
                (∀ j q, s.person j = some q → q.tag = p.tag → j = i) →
                (rep.checkIns = [p.tag] → rep.checkOuts = [] → EscortsJudged i s t)
                ∧ (rep.checkIns = [] → rep.checkOuts = [p.tag] → p.state = .mustered ∧ p.refuge = some rep.refuge →
                  EscortsJudged i s t)
                ∧ (rep.checkIns = [p.tag] → rep.checkOuts = [] → p.state ≠ .mustered →
                  ∃ q, t.person i = some q ∧ q.state = .mustered ∧ q.refuge = some rep.refuge
                    ∧ q.zone = (s.refuge rep.refuge).zone ∧ q.alert = .noAlert ∧ q.misses = 0 ∧ q.heard = some e.frame
                    ∧ q.level = 15 ∧ (t.refuge rep.refuge).occupancy = (s.refuge rep.refuge).occupancy + 1)
                ∧ (rep.checkIns = [] → rep.checkOuts = [p.tag] → p.state = .mustered → p.refuge = some rep.refuge →
                  ∃ q, t.person i = some q ∧ q.state = .present ∧ q.refuge = none
                    ∧ q.zone = (s.refuge rep.refuge).zone ∧ q.misses = 0 ∧ q.heard = some e.frame ∧ q.level = 15
                    ∧ q.heardSinceVisit = true
                    ∧ (t.refuge rep.refuge).occupancy = (s.refuge rep.refuge).occupancy - 1
                    ∧ q.alert = (if p.alert = .noAlert ∧ ∃ z, (s.refuge rep.refuge).zone = some z ∧ (s.zone z).evac = .ordered
                        then .sent else p.alert)
                    ∧ q.exposure = (if s.rst.exposureMode = .entries ∧ p.exposure < 65535
                          ∧ ∃ z, (s.refuge rep.refuge).zone = some z
                            ∧ ((s.zone z).real = .caution ∨ (s.zone z).real = .danger ∨ (s.zone z).real = .trip)
                        then p.exposure + 1 else p.exposure))
                ∧ (rep.checkIns = [p.tag] → rep.checkOuts = [] → p.state = .mustered → p.refuge = some rep.refuge →
                  (t.refuge rep.refuge).occupancy = (s.refuge rep.refuge).occupancy)
                ∧ (∀ k, rep.checkIns = [p.tag] → rep.checkOuts = [] → p.state = .mustered → p.refuge = some k →
                  k ≠ rep.refuge → (t.refuge k).occupancy = (s.refuge k).occupancy - 1
                    ∧ (t.refuge rep.refuge).occupancy = (s.refuge rep.refuge).occupancy + 1)
                ∧ (let was := p.state = .mustered ∧ p.refuge = some rep.refuge
                  ∃ q, t.slot i = { gen := (s.slot i).gen, person := some q } ∧ q.tag = p.tag
                    ∧ (p.tag ∈ rep.checkIns → p.tag ∉ rep.checkOuts →
                        q.state = .mustered ∧ q.refuge = some rep.refuge ∧ q.zone = (s.refuge rep.refuge).zone
                        ∧ q.alert = .noAlert ∧ q.misses = 0 ∧ q.heard = some e.frame ∧ q.level = 15
                        ∧ q.heardSinceVisit = p.heardSinceVisit)
                    ∧ (p.tag ∈ rep.checkOuts → p.tag ∈ rep.checkIns ∨ was →
                        q.state = .present ∧ q.refuge = none ∧ q.zone = (s.refuge rep.refuge).zone ∧ q.misses = 0
                        ∧ q.heard = some e.frame ∧ q.level = 15 ∧ q.heardSinceVisit = true)
                    ∧ (p.tag ∉ rep.checkIns → p.tag ∉ rep.checkOuts ∨ ¬ was →
                        q.state = p.state ∧ q.refuge = p.refuge ∧ q.zone = p.zone ∧ q.alert = p.alert ∧ q.misses = p.misses
                        ∧ q.heard = p.heard ∧ q.level = p.level ∧ q.heardSinceVisit = p.heardSinceVisit
                        ∧ q.exposure = p.exposure)
                    ∧ (p.tag ∈ rep.checkIns → p.state = .missing → QueueHolds s.atq →
                        NotRaised .missing (s.personSubject i) t))
            ) ∧ (OccupanciesAgree s → OccupanciesAgree t) ∧ (CountsAgree s → CountsAgree t)))
      ∧ ∀ rep : TruckReport, inbound? e.message = some (.truck rep) →
          let inRange (b : Byte) := b.toNat < 32 ∨ b = 255
          (e.slotClass ≠ .haul ∨ ¬ inRange rep.zone ∨ ¬ inRange rep.requested
              ∨ (∀ u, s.truck rep.number = some u →
                  u.lastPoll ≠ some { frame := e.frame, slot := e.slot } ∨ u.answered = true) →
            exec .messageTaking s = .next s0)
          ∧ ∀ (u : Truck) (zone requested : Option (Fin 32)), e.slotClass = .haul → s.truck rep.number = some u →
            u.lastPoll = some { frame := e.frame, slot := e.slot } → u.answered = false →
            optionalKey zone = rep.zone → optionalKey requested = rep.requested →
            ∃ t v, exec .messageTaking s = .next t ∧ t.flk = s0.flk ∧ t.truck rep.number = some v
              ∧ v.number = rep.number ∧ v.kind = u.kind ∧ v.forced = u.forced ∧ v.lastPoll = u.lastPoll
              ∧ v.answered = true ∧ v.missed = 0 ∧ v.state = .linked ∧ v.zone = zone ∧ v.proximity = rep.proximity
              ∧ (∀ z, zone = some z → u.entry = some { zone := z, status := .granted } → v.held = some z)
              ∧ (∀ z, zone = some z → u.grantedZone ≠ some z → u.held = none →
                  v.held = (if s.hlk.alone = false ∧ (rep.number ∈ (s.zone z).grants
                    ∨ (s.zone z).grants.length < (s.zone z).limit) then some z else none))
              ∧ (zone = none ∨ (u.held ≠ none ∧ zone ≠ u.grantedZone) → v.held = u.held)
              ∧ (∀ z, zone = some z → v.intrusion = decide (v.held ≠ some z))
              ∧ (zone = none → v.intrusion = u.intrusion)
              ∧ (requested = none ∨ requested = v.held → v.entry = none)
              ∧ (∀ q, requested = some q → v.held ≠ some q → ∃ status, v.entry = some { zone := q, status := status }
                  ∧ (status = .granted → u.entry = some { zone := q, status := .granted }
                      ∨ (((s.zone q).reported = .clear ∨ (s.zone q).reported = .caution) ∧ (s.zone q).evac = .notOrdered
                        ∧ s.hlk.alone = false ∧ (rep.number ∈ (s.zone q).grants
                          ∨ ((s.zone q).grants.filter (fun m => m != rep.number)).length < (s.zone q).limit))))
              ∧ (∀ q, requested = some q → v.held ≠ some q →
                  (rep.number ∈ (s.zone q).grants → u.held = some q ∨ u.grantedZone = some q) →
                  let kept := u.entry = some { zone := q, status := .granted }
                  let fit := ((s.zone q).reported = .clear ∨ (s.zone q).reported = .caution) ∧ (s.zone q).evac = .notOrdered
                    ∧ s.hlk.alone = false
                    ∧ ((s.zone q).grants.filter (fun m => m != rep.number)).length < (s.zone q).limit
                  (kept → v.entry = some { zone := q, status := .granted }
                      ∧ (rep.number ∈ (s.zone q).grants → rep.number ∈ (t.zone q).grants))
                    ∧ (¬ kept → fit → v.entry = some { zone := q, status := .granted } ∧ rep.number ∈ (t.zone q).grants)
                    ∧ (¬ kept → ¬ fit → v.entry = some { zone := q, status := .deferred } ∧ rep.number ∉ (t.zone q).grants))
              ∧ (∀ w, (u.held = some w ∨ u.grantedZone = some w) → v.held ≠ some w → v.grantedZone ≠ some w →
                  rep.number ∉ (t.zone w).grants)
              ∧ (∀ w, (t.zone w).grants.filter (fun m => m != rep.number) = (s.zone w).grants.filter (fun m => m != rep.number))
              ∧ (zone = none → t.rst = s.rst)
              ∧ (CountsAgree s → CountsAgree t)
              ∧ (∀ z, zone = some z → ∀ (i : Fin 240) (p : Person), s.person i = some p → p.tag ≠ 0 → p.tag ≠ 0xffffff →
                  (∀ j q, s.person j = some q → q.tag = p.tag → j = i) →
                  let sighted := p.state ≠ .mustered ∧ ∃ x ∈ rep.proximity, x.tag = p.tag
                  let first := p.heard ≠ some e.frame
                  ∃ q, t.slot i = { gen := (s.slot i).gen, person := some q } ∧ q.tag = p.tag ∧ q.lastKey = p.lastKey
                    ∧ (sighted → q.state = .present ∧ q.refuge = none ∧ q.heard = some e.frame ∧ q.misses = 0
                        ∧ q.heardSinceVisit = true ∧ q.zone = (if first then some z else p.zone)
                        ∧ q.level = (if first then 0 else p.level)
                        ∧ q.alert = (if p.alert = .noAlert ∧ ∃ w, q.zone = some w ∧ (s.zone w).evac = .ordered then .sent
                            else p.alert)
                        ∧ (p.state = .missing → QueueHolds s.atq → NotRaised .missing (s.personSubject i) t)
                        ∧ (∀ x, rep.proximity = [x] → q.state ≠ p.state ∨ q.zone ≠ p.zone → EscortsJudged i s t))
                    ∧ (¬ sighted → q.state = p.state ∧ q.refuge = p.refuge ∧ q.zone = p.zone ∧ q.alert = p.alert
                        ∧ q.misses = p.misses ∧ q.heard = p.heard ∧ q.level = p.level
                        ∧ q.heardSinceVisit = p.heardSinceVisit ∧ q.exposure = p.exposure))
              ∧ (∀ z x, zone = some z → rep.proximity = [x] → x.tag ≠ 0 → x.tag ≠ 0xffffff →
                  (∀ i p, s.person i = some p → p.tag ≠ x.tag) → s.atq.items.length < 31 → Raised .stranger (.tag x.tag) t)
              ∧ (QueueHolds s.atq → (u.state = .lapsed → NotRaised .linkLost (.truck rep.number) t)
                  ∧ (u.intrusion = false → v.intrusion = true → Raised .intrusion (.truck rep.number) t)
                  ∧ (u.intrusion = true → v.intrusion = false → NotRaised .intrusion (.truck rep.number) t))

/-- The field link's own slot start drops a message of an earlier slot with TX_LATE; it is taken where the slot start handed it
(log 3). A fetch gives the held message whole, with its kind, production stamp and fields, and empties the slot; of an empty slot
it gives the one byte 0. (The bytes given are kept in the model's own field: log 18.) -/
def Obligations.HeldMessageIsFetchedOrDropped : Prop :=
  ∀ s : State, s.resetLow = false →
    let s0 : State := { s with handed := { s.handed with check := false } }
    let fetched (bytes : List Byte) : State := { s with flk := { s.flk with holding := none }, fieldOut := bytes }
    (s.handed.check = false → exec .holdingSlotCheck s = .next s)
      ∧ (s.handed.check = true → (∀ h, s.flk.holding = some h → h.stamp = s.stamp) → exec .holdingSlotCheck s = .next s0)
      ∧ (s.handed.check = true → (∃ h, s.flk.holding = some h ∧ h.stamp ≠ s.stamp) →
          exec .holdingSlotCheck s =
            .next { s0 with flk := { s.flk with holding := none },
                            hpt := { s.hpt with flags := { s.hpt.flags with txLate := true } } })
      ∧ (s.flk.holding = none → exec .fetch s = .next { s with fieldOut := [0] })
      ∧ ∀ (m : Outbound) (stamp : SlotStamp), s.flk.holding = some { message := m, stamp := stamp } →
          (∀ n order z intrusion, m = .truckPoll n order z intrusion →
            exec .fetch s = .next (fetched ([9] ++ bytes16 stamp.frame ++ twoBytes stamp.slot ++ twoBytes n
              ++ [order.code, optionalKey z, yesNo intrusion])))
          ∧ (∀ c tag, m = .channelHold c tag →
            exec .fetch s = .next (fetched ([10] ++ bytes16 stamp.frame ++ twoBytes stamp.slot ++ [byteOf c.val] ++ bytes24 tag)))
          ∧ ∀ b, m = .beacon b →
            exec .fetch s = .next (fetched ([8] ++ bytes16 stamp.frame ++ twoBytes stamp.slot ++ bytes16 b.frame
              ++ [b.lock.code, yesNo b.alone] ++ [byteOf b.evacuation.length]
              ++ b.evacuation.flatMap (fun x => [byteOf x.1.val, optionalKey x.2]) ++ [byteOf b.alerts.length]
              ++ b.alerts.flatMap bytes24 ++ [byteOf b.pages.length] ++ b.pages.flatMap bytes24))

/-! ## START and lists -/

/-- START is refused with BAD_SETUP, the number of the first check that fails and the first key that fails it; otherwise the
phase becomes RUNNING, the timer ARMED, with lock SEEKING in PULSED mode and the LOCK notice at that change, and the
sequencer scans all groups, every enabled channel that is OFF going to WARMUP. -/
def Obligations.StartChecksTheSetupAndArms : Prop :=
  ∀ s : State, Ready s → s.hpt.phase = .setup →
    let w := s.frt.active
    let ordered := 1 ≤ w.tagEnd ∧ w.tagEnd ≤ w.haulStart ∧ w.haulStart ≤ w.haulEnd ∧ w.haulEnd ≤ w.callStart
      ∧ w.callStart ≤ w.callEnd ∧ w.callEnd ≤ s.frt.total ∧ w.haulEnd - w.haulStart ≤ 24
    let channelZone (c : Fin 32) := ∀ z, (s.channel c).zone = some z → (s.zone z).configured = true
    let refugeZone (r : Fin 8) := (s.refuge r).configured = true → ∃ z, (s.refuge r).zone = some z ∧ (s.zone z).kind = .refuge
    let zoneRefuge (z : Fin 32) := ∀ r, (s.zone z).refuge = some r → (s.refuge r).configured = true
    let tripLine (z : Fin 32) := (s.zone z).tripLine ≠ none → (s.zone z).monitored = true
    let bad (check key : Nat) := exec .start s = .next (answered .badSetup [byteOf check, byteOf key] s)
    (¬ ordered → bad 1 0)
      ∧ (ordered → ∀ c, ¬ channelZone c → (∀ d < c, channelZone d) → bad 2 c.val)
      ∧ (ordered → (∀ c, channelZone c) → ∀ r, ¬ refugeZone r → (∀ d < r, refugeZone d) → bad 3 r.val)
      ∧ (ordered → (∀ c, channelZone c) → (∀ r, refugeZone r) → ∀ z, ¬ zoneRefuge z → (∀ d < z, zoneRefuge d) → bad 4 z.val)
      ∧ (ordered → (∀ c, channelZone c) → (∀ r, refugeZone r) → (∀ z, zoneRefuge z) →
          ∀ z, ¬ tripLine z → (∀ d < z, tripLine d) → bad 5 z.val)
      ∧ (ordered → (∀ c, channelZone c) → (∀ r, refugeZone r) → (∀ z, zoneRefuge z) → (∀ z, tripLine z) →
          ∃ t, exec .start s = .next t ∧ t.hpt.reply = [0] ∧ t.hpt.phase = .running
            ∧ (t.hpt.flags.lock = true ↔ s.hpt.flags.lock = true ∨ (s.frt.sync = .pulsed ∧ s.frt.lock ≠ .seeking))
            ∧ t.frt = { s.frt with timer := .armed, slot := 0, frame := 0, restartPending := false, countRun := 0,
                                   lock := if s.frt.sync = .pulsed then .seeking else s.frt.lock }
            ∧ t.air = { s.air with mode := .scan, enableSet := 0xff, lastGroup := 7, resume := none, onceSet := 0,
                                   channels := t.air.channels }
            ∧ ∀ c, t.channel c = if (s.channel c).enabled = true ∧ (s.channel c).real = .off then
                { s.channel c with real := .warmup, warmupCount := 0 } else s.channel c)

/-- READ_NEXT replies with the entry at the cursor, its index and its contents, and moves the cursor past it: the zone, channel or
refuge at the index; the first record of the roster or the truck table from the index upward, wrapping; the item at the index,
or the first where the index is past the last. With nothing to return it answers NO_RECORD. (An entry of the queue is its index
and the 13 bytes of R189: log 12.) -/
def Obligations.ReadNextWalksItsTable : Prop :=
  ∀ s : State, Ready s →
    let n := s.hpt.cursorIndex
    let given (index : Nat) (bytes : List Byte) (next : Nat) := exec .readNext s =
      .next (answered .done (byteOf index :: bytes) { s with hpt := { s.hpt with cursorIndex := next } })
    (s.hpt.cursorTable = .zones → ∀ z : Fin 32, z.val = n → given n (zoneBytes z s) ((n + 1) % 32))
      ∧ (s.hpt.cursorTable = .channels → ∀ c : Fin 32, c.val = n → given n (channelBytes c s) ((n + 1) % 32))
      ∧ (s.hpt.cursorTable = .refuges → ∀ r : Fin 8, r.val = n → given n (refugeBytes r s) ((n + 1) % 8))
      ∧ (s.hpt.cursorTable = .roster → (∀ i, s.person i = none) → exec .readNext s = .next (answered .noRecord [] s))
      ∧ (s.hpt.cursorTable = .roster → ∀ (k : Nat) (i : Fin 240) (p : Person), k < 240 → i.val = (n + k) % 240 →
          s.person i = some p → (∀ (j : Nat) (l : Fin 240), j < k → l.val = (n + j) % 240 → s.person l = none) →
          given i.val (personBytes i p s) ((i.val + 1) % 240))
      ∧ (s.hpt.cursorTable = .trucks → (∀ q, s.truckAt q = none) → exec .readNext s = .next (answered .noRecord [] s))
      ∧ (s.hpt.cursorTable = .trucks → ∀ (k : Nat) (q : Fin 24) (u : Truck), k < 24 → q.val = (n + k) % 24 →
          s.truckAt q = some u → (∀ (j : Nat) (l : Fin 24), j < k → l.val = (n + j) % 24 → s.truckAt l = none) →
          given q.val (truckBytes u s) ((q.val + 1) % 24))
      ∧ (s.hpt.cursorTable = .queue → s.atq.items = [] → exec .readNext s = .next (answered .noRecord [] s))
      ∧ (s.hpt.cursorTable = .queue → ∀ before it rest, s.atq.items = before ++ it :: rest →
          before.length = (if n < s.atq.items.length then n else 0) →
          given before.length it.bytes ((before.length + 1) % s.atq.items.length))
end

