-- ==== Sys2Proof/Laws/State.lean ====
section
/-! SUPPORT. What each named update of the state leaves: one lemma for each field. -/

namespace Sys2Proof.Machine

/-! ### State.modifyZone -/

@[simp] theorem State.modifyZone_frt (z : Fin 32) (f : Zone → Zone) (s : State) : (s.modifyZone z f).frt = s.frt := rfl
@[simp] theorem State.modifyZone_atq (z : Fin 32) (f : Zone → Zone) (s : State) : (s.modifyZone z f).atq = s.atq := rfl
@[simp] theorem State.modifyZone_rst (z : Fin 32) (f : Zone → Zone) (s : State) : (s.modifyZone z f).rst = s.rst := rfl
@[simp] theorem State.modifyZone_air (z : Fin 32) (f : Zone → Zone) (s : State) : (s.modifyZone z f).air = s.air := rfl
@[simp] theorem State.modifyZone_hlk (z : Fin 32) (f : Zone → Zone) (s : State) : (s.modifyZone z f).hlk = s.hlk := rfl
@[simp] theorem State.modifyZone_rev (z : Fin 32) (f : Zone → Zone) (s : State) : (s.modifyZone z f).rev = s.rev := rfl
@[simp] theorem State.modifyZone_cal (z : Fin 32) (f : Zone → Zone) (s : State) : (s.modifyZone z f).cal = s.cal := rfl
@[simp] theorem State.modifyZone_flk (z : Fin 32) (f : Zone → Zone) (s : State) : (s.modifyZone z f).flk = s.flk := rfl
@[simp] theorem State.modifyZone_hpt (z : Fin 32) (f : Zone → Zone) (s : State) : (s.modifyZone z f).hpt = s.hpt := rfl
@[simp] theorem State.modifyZone_handed (z : Fin 32) (f : Zone → Zone) (s : State) : (s.modifyZone z f).handed = s.handed := rfl
@[simp] theorem State.modifyZone_resetLow (z : Fin 32) (f : Zone → Zone) (s : State) : (s.modifyZone z f).resetLow = s.resetLow := rfl
@[simp] theorem State.modifyZone_hostOut (z : Fin 32) (f : Zone → Zone) (s : State) : (s.modifyZone z f).hostOut = s.hostOut := rfl
@[simp] theorem State.modifyZone_fieldOut (z : Fin 32) (f : Zone → Zone) (s : State) : (s.modifyZone z f).fieldOut = s.fieldOut := rfl
@[simp] theorem State.modifyZone_pending (z : Fin 32) (f : Zone → Zone) (s : State) : (s.modifyZone z f).pending = s.pending := rfl

/-! ### State.setSlot -/

@[simp] theorem State.setSlot_frt (i : Fin 240) (v : Slot) (s : State) : (s.setSlot i v).frt = s.frt := rfl
@[simp] theorem State.setSlot_znt (i : Fin 240) (v : Slot) (s : State) : (s.setSlot i v).znt = s.znt := rfl
@[simp] theorem State.setSlot_atq (i : Fin 240) (v : Slot) (s : State) : (s.setSlot i v).atq = s.atq := rfl
@[simp] theorem State.setSlot_air (i : Fin 240) (v : Slot) (s : State) : (s.setSlot i v).air = s.air := rfl
@[simp] theorem State.setSlot_hlk (i : Fin 240) (v : Slot) (s : State) : (s.setSlot i v).hlk = s.hlk := rfl
@[simp] theorem State.setSlot_rev (i : Fin 240) (v : Slot) (s : State) : (s.setSlot i v).rev = s.rev := rfl
@[simp] theorem State.setSlot_cal (i : Fin 240) (v : Slot) (s : State) : (s.setSlot i v).cal = s.cal := rfl
@[simp] theorem State.setSlot_flk (i : Fin 240) (v : Slot) (s : State) : (s.setSlot i v).flk = s.flk := rfl
@[simp] theorem State.setSlot_hpt (i : Fin 240) (v : Slot) (s : State) : (s.setSlot i v).hpt = s.hpt := rfl
@[simp] theorem State.setSlot_handed (i : Fin 240) (v : Slot) (s : State) : (s.setSlot i v).handed = s.handed := rfl
@[simp] theorem State.setSlot_resetLow (i : Fin 240) (v : Slot) (s : State) : (s.setSlot i v).resetLow = s.resetLow := rfl
@[simp] theorem State.setSlot_hostOut (i : Fin 240) (v : Slot) (s : State) : (s.setSlot i v).hostOut = s.hostOut := rfl
@[simp] theorem State.setSlot_fieldOut (i : Fin 240) (v : Slot) (s : State) : (s.setSlot i v).fieldOut = s.fieldOut := rfl
@[simp] theorem State.setSlot_pending (i : Fin 240) (v : Slot) (s : State) : (s.setSlot i v).pending = s.pending := rfl

/-! ### State.modifyPerson -/

@[simp] theorem State.modifyPerson_frt (i : Fin 240) (f : Person → Person) (s : State) : (s.modifyPerson i f).frt = s.frt := rfl
@[simp] theorem State.modifyPerson_znt (i : Fin 240) (f : Person → Person) (s : State) : (s.modifyPerson i f).znt = s.znt := rfl
@[simp] theorem State.modifyPerson_atq (i : Fin 240) (f : Person → Person) (s : State) : (s.modifyPerson i f).atq = s.atq := rfl
@[simp] theorem State.modifyPerson_air (i : Fin 240) (f : Person → Person) (s : State) : (s.modifyPerson i f).air = s.air := rfl
@[simp] theorem State.modifyPerson_hlk (i : Fin 240) (f : Person → Person) (s : State) : (s.modifyPerson i f).hlk = s.hlk := rfl
@[simp] theorem State.modifyPerson_rev (i : Fin 240) (f : Person → Person) (s : State) : (s.modifyPerson i f).rev = s.rev := rfl
@[simp] theorem State.modifyPerson_cal (i : Fin 240) (f : Person → Person) (s : State) : (s.modifyPerson i f).cal = s.cal := rfl
@[simp] theorem State.modifyPerson_flk (i : Fin 240) (f : Person → Person) (s : State) : (s.modifyPerson i f).flk = s.flk := rfl
@[simp] theorem State.modifyPerson_hpt (i : Fin 240) (f : Person → Person) (s : State) : (s.modifyPerson i f).hpt = s.hpt := rfl
@[simp] theorem State.modifyPerson_handed (i : Fin 240) (f : Person → Person) (s : State) : (s.modifyPerson i f).handed = s.handed := rfl
@[simp] theorem State.modifyPerson_resetLow (i : Fin 240) (f : Person → Person) (s : State) : (s.modifyPerson i f).resetLow = s.resetLow := rfl
@[simp] theorem State.modifyPerson_hostOut (i : Fin 240) (f : Person → Person) (s : State) : (s.modifyPerson i f).hostOut = s.hostOut := rfl
@[simp] theorem State.modifyPerson_fieldOut (i : Fin 240) (f : Person → Person) (s : State) : (s.modifyPerson i f).fieldOut = s.fieldOut := rfl
@[simp] theorem State.modifyPerson_pending (i : Fin 240) (f : Person → Person) (s : State) : (s.modifyPerson i f).pending = s.pending := rfl

/-! ### State.mapPersons -/

@[simp] theorem State.mapPersons_frt (f : Person → Person) (s : State) : (s.mapPersons f).frt = s.frt := rfl
@[simp] theorem State.mapPersons_znt (f : Person → Person) (s : State) : (s.mapPersons f).znt = s.znt := rfl
@[simp] theorem State.mapPersons_atq (f : Person → Person) (s : State) : (s.mapPersons f).atq = s.atq := rfl
@[simp] theorem State.mapPersons_air (f : Person → Person) (s : State) : (s.mapPersons f).air = s.air := rfl
@[simp] theorem State.mapPersons_hlk (f : Person → Person) (s : State) : (s.mapPersons f).hlk = s.hlk := rfl
@[simp] theorem State.mapPersons_rev (f : Person → Person) (s : State) : (s.mapPersons f).rev = s.rev := rfl
@[simp] theorem State.mapPersons_cal (f : Person → Person) (s : State) : (s.mapPersons f).cal = s.cal := rfl
@[simp] theorem State.mapPersons_flk (f : Person → Person) (s : State) : (s.mapPersons f).flk = s.flk := rfl
@[simp] theorem State.mapPersons_hpt (f : Person → Person) (s : State) : (s.mapPersons f).hpt = s.hpt := rfl
@[simp] theorem State.mapPersons_handed (f : Person → Person) (s : State) : (s.mapPersons f).handed = s.handed := rfl
@[simp] theorem State.mapPersons_resetLow (f : Person → Person) (s : State) : (s.mapPersons f).resetLow = s.resetLow := rfl
@[simp] theorem State.mapPersons_hostOut (f : Person → Person) (s : State) : (s.mapPersons f).hostOut = s.hostOut := rfl
@[simp] theorem State.mapPersons_fieldOut (f : Person → Person) (s : State) : (s.mapPersons f).fieldOut = s.fieldOut := rfl
@[simp] theorem State.mapPersons_pending (f : Person → Person) (s : State) : (s.mapPersons f).pending = s.pending := rfl

/-! ### State.modifyChannel -/

@[simp] theorem State.modifyChannel_frt (c : Fin 32) (f : Channel → Channel) (s : State) : (s.modifyChannel c f).frt = s.frt := rfl
@[simp] theorem State.modifyChannel_znt (c : Fin 32) (f : Channel → Channel) (s : State) : (s.modifyChannel c f).znt = s.znt := rfl
@[simp] theorem State.modifyChannel_atq (c : Fin 32) (f : Channel → Channel) (s : State) : (s.modifyChannel c f).atq = s.atq := rfl
@[simp] theorem State.modifyChannel_rst (c : Fin 32) (f : Channel → Channel) (s : State) : (s.modifyChannel c f).rst = s.rst := rfl
@[simp] theorem State.modifyChannel_hlk (c : Fin 32) (f : Channel → Channel) (s : State) : (s.modifyChannel c f).hlk = s.hlk := rfl
@[simp] theorem State.modifyChannel_rev (c : Fin 32) (f : Channel → Channel) (s : State) : (s.modifyChannel c f).rev = s.rev := rfl
@[simp] theorem State.modifyChannel_cal (c : Fin 32) (f : Channel → Channel) (s : State) : (s.modifyChannel c f).cal = s.cal := rfl
@[simp] theorem State.modifyChannel_flk (c : Fin 32) (f : Channel → Channel) (s : State) : (s.modifyChannel c f).flk = s.flk := rfl
@[simp] theorem State.modifyChannel_hpt (c : Fin 32) (f : Channel → Channel) (s : State) : (s.modifyChannel c f).hpt = s.hpt := rfl
@[simp] theorem State.modifyChannel_handed (c : Fin 32) (f : Channel → Channel) (s : State) : (s.modifyChannel c f).handed = s.handed := rfl
@[simp] theorem State.modifyChannel_resetLow (c : Fin 32) (f : Channel → Channel) (s : State) : (s.modifyChannel c f).resetLow = s.resetLow := rfl
@[simp] theorem State.modifyChannel_hostOut (c : Fin 32) (f : Channel → Channel) (s : State) : (s.modifyChannel c f).hostOut = s.hostOut := rfl
@[simp] theorem State.modifyChannel_fieldOut (c : Fin 32) (f : Channel → Channel) (s : State) : (s.modifyChannel c f).fieldOut = s.fieldOut := rfl
@[simp] theorem State.modifyChannel_pending (c : Fin 32) (f : Channel → Channel) (s : State) : (s.modifyChannel c f).pending = s.pending := rfl

/-! ### State.modifyRefuge -/

@[simp] theorem State.modifyRefuge_frt (r : Fin 8) (f : Refuge → Refuge) (s : State) : (s.modifyRefuge r f).frt = s.frt := rfl
@[simp] theorem State.modifyRefuge_znt (r : Fin 8) (f : Refuge → Refuge) (s : State) : (s.modifyRefuge r f).znt = s.znt := rfl
@[simp] theorem State.modifyRefuge_atq (r : Fin 8) (f : Refuge → Refuge) (s : State) : (s.modifyRefuge r f).atq = s.atq := rfl
@[simp] theorem State.modifyRefuge_rst (r : Fin 8) (f : Refuge → Refuge) (s : State) : (s.modifyRefuge r f).rst = s.rst := rfl
@[simp] theorem State.modifyRefuge_air (r : Fin 8) (f : Refuge → Refuge) (s : State) : (s.modifyRefuge r f).air = s.air := rfl
@[simp] theorem State.modifyRefuge_hlk (r : Fin 8) (f : Refuge → Refuge) (s : State) : (s.modifyRefuge r f).hlk = s.hlk := rfl
@[simp] theorem State.modifyRefuge_cal (r : Fin 8) (f : Refuge → Refuge) (s : State) : (s.modifyRefuge r f).cal = s.cal := rfl
@[simp] theorem State.modifyRefuge_flk (r : Fin 8) (f : Refuge → Refuge) (s : State) : (s.modifyRefuge r f).flk = s.flk := rfl
@[simp] theorem State.modifyRefuge_hpt (r : Fin 8) (f : Refuge → Refuge) (s : State) : (s.modifyRefuge r f).hpt = s.hpt := rfl
@[simp] theorem State.modifyRefuge_handed (r : Fin 8) (f : Refuge → Refuge) (s : State) : (s.modifyRefuge r f).handed = s.handed := rfl
@[simp] theorem State.modifyRefuge_resetLow (r : Fin 8) (f : Refuge → Refuge) (s : State) : (s.modifyRefuge r f).resetLow = s.resetLow := rfl
@[simp] theorem State.modifyRefuge_hostOut (r : Fin 8) (f : Refuge → Refuge) (s : State) : (s.modifyRefuge r f).hostOut = s.hostOut := rfl
@[simp] theorem State.modifyRefuge_fieldOut (r : Fin 8) (f : Refuge → Refuge) (s : State) : (s.modifyRefuge r f).fieldOut = s.fieldOut := rfl
@[simp] theorem State.modifyRefuge_pending (r : Fin 8) (f : Refuge → Refuge) (s : State) : (s.modifyRefuge r f).pending = s.pending := rfl

/-! ### State.setTruckAt -/

@[simp] theorem State.setTruckAt_frt (p : Fin 24) (v : Option Truck) (s : State) : (s.setTruckAt p v).frt = s.frt := rfl
@[simp] theorem State.setTruckAt_znt (p : Fin 24) (v : Option Truck) (s : State) : (s.setTruckAt p v).znt = s.znt := rfl
@[simp] theorem State.setTruckAt_atq (p : Fin 24) (v : Option Truck) (s : State) : (s.setTruckAt p v).atq = s.atq := rfl
@[simp] theorem State.setTruckAt_rst (p : Fin 24) (v : Option Truck) (s : State) : (s.setTruckAt p v).rst = s.rst := rfl
@[simp] theorem State.setTruckAt_air (p : Fin 24) (v : Option Truck) (s : State) : (s.setTruckAt p v).air = s.air := rfl
@[simp] theorem State.setTruckAt_rev (p : Fin 24) (v : Option Truck) (s : State) : (s.setTruckAt p v).rev = s.rev := rfl
@[simp] theorem State.setTruckAt_cal (p : Fin 24) (v : Option Truck) (s : State) : (s.setTruckAt p v).cal = s.cal := rfl
@[simp] theorem State.setTruckAt_flk (p : Fin 24) (v : Option Truck) (s : State) : (s.setTruckAt p v).flk = s.flk := rfl
@[simp] theorem State.setTruckAt_hpt (p : Fin 24) (v : Option Truck) (s : State) : (s.setTruckAt p v).hpt = s.hpt := rfl
@[simp] theorem State.setTruckAt_handed (p : Fin 24) (v : Option Truck) (s : State) : (s.setTruckAt p v).handed = s.handed := rfl
@[simp] theorem State.setTruckAt_resetLow (p : Fin 24) (v : Option Truck) (s : State) : (s.setTruckAt p v).resetLow = s.resetLow := rfl
@[simp] theorem State.setTruckAt_hostOut (p : Fin 24) (v : Option Truck) (s : State) : (s.setTruckAt p v).hostOut = s.hostOut := rfl
@[simp] theorem State.setTruckAt_fieldOut (p : Fin 24) (v : Option Truck) (s : State) : (s.setTruckAt p v).fieldOut = s.fieldOut := rfl
@[simp] theorem State.setTruckAt_pending (p : Fin 24) (v : Option Truck) (s : State) : (s.setTruckAt p v).pending = s.pending := rfl

/-! ### State.notify -/

@[simp] theorem State.notify_frt (n : Notice) (s : State) : (s.notify n).frt = s.frt := rfl
@[simp] theorem State.notify_znt (n : Notice) (s : State) : (s.notify n).znt = s.znt := rfl
@[simp] theorem State.notify_atq (n : Notice) (s : State) : (s.notify n).atq = s.atq := rfl
@[simp] theorem State.notify_rst (n : Notice) (s : State) : (s.notify n).rst = s.rst := rfl
@[simp] theorem State.notify_air (n : Notice) (s : State) : (s.notify n).air = s.air := rfl
@[simp] theorem State.notify_hlk (n : Notice) (s : State) : (s.notify n).hlk = s.hlk := rfl
@[simp] theorem State.notify_rev (n : Notice) (s : State) : (s.notify n).rev = s.rev := rfl
@[simp] theorem State.notify_cal (n : Notice) (s : State) : (s.notify n).cal = s.cal := rfl
@[simp] theorem State.notify_flk (n : Notice) (s : State) : (s.notify n).flk = s.flk := rfl
@[simp] theorem State.notify_handed (n : Notice) (s : State) : (s.notify n).handed = s.handed := rfl
@[simp] theorem State.notify_resetLow (n : Notice) (s : State) : (s.notify n).resetLow = s.resetLow := rfl
@[simp] theorem State.notify_hostOut (n : Notice) (s : State) : (s.notify n).hostOut = s.hostOut := rfl
@[simp] theorem State.notify_fieldOut (n : Notice) (s : State) : (s.notify n).fieldOut = s.fieldOut := rfl
@[simp] theorem State.notify_pending (n : Notice) (s : State) : (s.notify n).pending = s.pending := rfl
@[simp] theorem State.notify_hpt_request (n : Notice) (s : State) : (s.notify n).hpt.request = s.hpt.request := rfl
@[simp] theorem State.notify_hpt_reply (n : Notice) (s : State) : (s.notify n).hpt.reply = s.hpt.reply := rfl
@[simp] theorem State.notify_hpt_readPos (n : Notice) (s : State) : (s.notify n).hpt.readPos = s.hpt.readPos := rfl
@[simp] theorem State.notify_hpt_overrun (n : Notice) (s : State) : (s.notify n).hpt.overrun = s.hpt.overrun := rfl
@[simp] theorem State.notify_hpt_phase (n : Notice) (s : State) : (s.notify n).hpt.phase = s.hpt.phase := rfl
@[simp] theorem State.notify_hpt_mask (n : Notice) (s : State) : (s.notify n).hpt.mask = s.hpt.mask := rfl
@[simp] theorem State.notify_hpt_cursorTable (n : Notice) (s : State) : (s.notify n).hpt.cursorTable = s.hpt.cursorTable := rfl
@[simp] theorem State.notify_hpt_cursorIndex (n : Notice) (s : State) : (s.notify n).hpt.cursorIndex = s.hpt.cursorIndex := rfl

/-! ### State.reply -/

@[simp] theorem State.reply_frt (c : ReplyStatus) (d : List Byte) (s : State) : (s.reply c d).frt = s.frt := rfl
@[simp] theorem State.reply_znt (c : ReplyStatus) (d : List Byte) (s : State) : (s.reply c d).znt = s.znt := rfl
@[simp] theorem State.reply_atq (c : ReplyStatus) (d : List Byte) (s : State) : (s.reply c d).atq = s.atq := rfl
@[simp] theorem State.reply_rst (c : ReplyStatus) (d : List Byte) (s : State) : (s.reply c d).rst = s.rst := rfl
@[simp] theorem State.reply_air (c : ReplyStatus) (d : List Byte) (s : State) : (s.reply c d).air = s.air := rfl
@[simp] theorem State.reply_hlk (c : ReplyStatus) (d : List Byte) (s : State) : (s.reply c d).hlk = s.hlk := rfl
@[simp] theorem State.reply_rev (c : ReplyStatus) (d : List Byte) (s : State) : (s.reply c d).rev = s.rev := rfl
@[simp] theorem State.reply_cal (c : ReplyStatus) (d : List Byte) (s : State) : (s.reply c d).cal = s.cal := rfl
@[simp] theorem State.reply_flk (c : ReplyStatus) (d : List Byte) (s : State) : (s.reply c d).flk = s.flk := rfl
@[simp] theorem State.reply_handed (c : ReplyStatus) (d : List Byte) (s : State) : (s.reply c d).handed = s.handed := rfl
@[simp] theorem State.reply_resetLow (c : ReplyStatus) (d : List Byte) (s : State) : (s.reply c d).resetLow = s.resetLow := rfl
@[simp] theorem State.reply_hostOut (c : ReplyStatus) (d : List Byte) (s : State) : (s.reply c d).hostOut = s.hostOut := rfl
@[simp] theorem State.reply_fieldOut (c : ReplyStatus) (d : List Byte) (s : State) : (s.reply c d).fieldOut = s.fieldOut := rfl
@[simp] theorem State.reply_pending (c : ReplyStatus) (d : List Byte) (s : State) : (s.reply c d).pending = s.pending := rfl
@[simp] theorem State.reply_hpt_request (c : ReplyStatus) (d : List Byte) (s : State) : (s.reply c d).hpt.request = s.hpt.request := rfl
@[simp] theorem State.reply_hpt_overrun (c : ReplyStatus) (d : List Byte) (s : State) : (s.reply c d).hpt.overrun = s.hpt.overrun := rfl
@[simp] theorem State.reply_hpt_phase (c : ReplyStatus) (d : List Byte) (s : State) : (s.reply c d).hpt.phase = s.hpt.phase := rfl
@[simp] theorem State.reply_hpt_flags (c : ReplyStatus) (d : List Byte) (s : State) : (s.reply c d).hpt.flags = s.hpt.flags := rfl
@[simp] theorem State.reply_hpt_mask (c : ReplyStatus) (d : List Byte) (s : State) : (s.reply c d).hpt.mask = s.hpt.mask := rfl
@[simp] theorem State.reply_hpt_cursorTable (c : ReplyStatus) (d : List Byte) (s : State) : (s.reply c d).hpt.cursorTable = s.hpt.cursorTable := rfl
@[simp] theorem State.reply_hpt_cursorIndex (c : ReplyStatus) (d : List Byte) (s : State) : (s.reply c d).hpt.cursorIndex = s.hpt.cursorIndex := rfl

/-! ### State.refuse -/

@[simp] theorem State.refuse_frt (c : ReplyStatus) (s : State) : (s.refuse c).frt = s.frt := rfl
@[simp] theorem State.refuse_znt (c : ReplyStatus) (s : State) : (s.refuse c).znt = s.znt := rfl
@[simp] theorem State.refuse_atq (c : ReplyStatus) (s : State) : (s.refuse c).atq = s.atq := rfl
@[simp] theorem State.refuse_rst (c : ReplyStatus) (s : State) : (s.refuse c).rst = s.rst := rfl
@[simp] theorem State.refuse_air (c : ReplyStatus) (s : State) : (s.refuse c).air = s.air := rfl
@[simp] theorem State.refuse_hlk (c : ReplyStatus) (s : State) : (s.refuse c).hlk = s.hlk := rfl
@[simp] theorem State.refuse_rev (c : ReplyStatus) (s : State) : (s.refuse c).rev = s.rev := rfl
@[simp] theorem State.refuse_cal (c : ReplyStatus) (s : State) : (s.refuse c).cal = s.cal := rfl
@[simp] theorem State.refuse_flk (c : ReplyStatus) (s : State) : (s.refuse c).flk = s.flk := rfl
@[simp] theorem State.refuse_handed (c : ReplyStatus) (s : State) : (s.refuse c).handed = s.handed := rfl
@[simp] theorem State.refuse_resetLow (c : ReplyStatus) (s : State) : (s.refuse c).resetLow = s.resetLow := rfl
@[simp] theorem State.refuse_hostOut (c : ReplyStatus) (s : State) : (s.refuse c).hostOut = s.hostOut := rfl
@[simp] theorem State.refuse_fieldOut (c : ReplyStatus) (s : State) : (s.refuse c).fieldOut = s.fieldOut := rfl
@[simp] theorem State.refuse_pending (c : ReplyStatus) (s : State) : (s.refuse c).pending = s.pending := rfl
@[simp] theorem State.refuse_hpt_request (c : ReplyStatus) (s : State) : (s.refuse c).hpt.request = s.hpt.request := rfl
@[simp] theorem State.refuse_hpt_overrun (c : ReplyStatus) (s : State) : (s.refuse c).hpt.overrun = s.hpt.overrun := rfl
@[simp] theorem State.refuse_hpt_phase (c : ReplyStatus) (s : State) : (s.refuse c).hpt.phase = s.hpt.phase := rfl
@[simp] theorem State.refuse_hpt_flags (c : ReplyStatus) (s : State) : (s.refuse c).hpt.flags = s.hpt.flags := rfl
@[simp] theorem State.refuse_hpt_mask (c : ReplyStatus) (s : State) : (s.refuse c).hpt.mask = s.hpt.mask := rfl
@[simp] theorem State.refuse_hpt_cursorTable (c : ReplyStatus) (s : State) : (s.refuse c).hpt.cursorTable = s.hpt.cursorTable := rfl
@[simp] theorem State.refuse_hpt_cursorIndex (c : ReplyStatus) (s : State) : (s.refuse c).hpt.cursorIndex = s.hpt.cursorIndex := rfl

/-! ### State.done -/

@[simp] theorem State.done_frt (s : State) : (s.done).frt = s.frt := rfl
@[simp] theorem State.done_znt (s : State) : (s.done).znt = s.znt := rfl
@[simp] theorem State.done_atq (s : State) : (s.done).atq = s.atq := rfl
@[simp] theorem State.done_rst (s : State) : (s.done).rst = s.rst := rfl
@[simp] theorem State.done_air (s : State) : (s.done).air = s.air := rfl
@[simp] theorem State.done_hlk (s : State) : (s.done).hlk = s.hlk := rfl
@[simp] theorem State.done_rev (s : State) : (s.done).rev = s.rev := rfl
@[simp] theorem State.done_cal (s : State) : (s.done).cal = s.cal := rfl
@[simp] theorem State.done_flk (s : State) : (s.done).flk = s.flk := rfl
@[simp] theorem State.done_handed (s : State) : (s.done).handed = s.handed := rfl
@[simp] theorem State.done_resetLow (s : State) : (s.done).resetLow = s.resetLow := rfl
@[simp] theorem State.done_hostOut (s : State) : (s.done).hostOut = s.hostOut := rfl
@[simp] theorem State.done_fieldOut (s : State) : (s.done).fieldOut = s.fieldOut := rfl
@[simp] theorem State.done_pending (s : State) : (s.done).pending = s.pending := rfl
@[simp] theorem State.done_hpt_request (s : State) : (s.done).hpt.request = s.hpt.request := rfl
@[simp] theorem State.done_hpt_overrun (s : State) : (s.done).hpt.overrun = s.hpt.overrun := rfl
@[simp] theorem State.done_hpt_phase (s : State) : (s.done).hpt.phase = s.hpt.phase := rfl
@[simp] theorem State.done_hpt_flags (s : State) : (s.done).hpt.flags = s.hpt.flags := rfl
@[simp] theorem State.done_hpt_mask (s : State) : (s.done).hpt.mask = s.hpt.mask := rfl
@[simp] theorem State.done_hpt_cursorTable (s : State) : (s.done).hpt.cursorTable = s.hpt.cursorTable := rfl
@[simp] theorem State.done_hpt_cursorIndex (s : State) : (s.done).hpt.cursorIndex = s.hpt.cursorIndex := rfl

/-! ### State.setDue -/

@[simp] theorem State.setDue_frt (k : ItemKind) (x : Subject) (f : Frame) (s : State) : (s.setDue k x f).frt = s.frt := rfl
@[simp] theorem State.setDue_znt (k : ItemKind) (x : Subject) (f : Frame) (s : State) : (s.setDue k x f).znt = s.znt := rfl
@[simp] theorem State.setDue_rst (k : ItemKind) (x : Subject) (f : Frame) (s : State) : (s.setDue k x f).rst = s.rst := rfl
@[simp] theorem State.setDue_air (k : ItemKind) (x : Subject) (f : Frame) (s : State) : (s.setDue k x f).air = s.air := rfl
@[simp] theorem State.setDue_hlk (k : ItemKind) (x : Subject) (f : Frame) (s : State) : (s.setDue k x f).hlk = s.hlk := rfl
@[simp] theorem State.setDue_rev (k : ItemKind) (x : Subject) (f : Frame) (s : State) : (s.setDue k x f).rev = s.rev := rfl
@[simp] theorem State.setDue_cal (k : ItemKind) (x : Subject) (f : Frame) (s : State) : (s.setDue k x f).cal = s.cal := rfl
@[simp] theorem State.setDue_flk (k : ItemKind) (x : Subject) (f : Frame) (s : State) : (s.setDue k x f).flk = s.flk := rfl
@[simp] theorem State.setDue_hpt (k : ItemKind) (x : Subject) (f : Frame) (s : State) : (s.setDue k x f).hpt = s.hpt := rfl
@[simp] theorem State.setDue_handed (k : ItemKind) (x : Subject) (f : Frame) (s : State) : (s.setDue k x f).handed = s.handed := rfl
@[simp] theorem State.setDue_resetLow (k : ItemKind) (x : Subject) (f : Frame) (s : State) : (s.setDue k x f).resetLow = s.resetLow := rfl
@[simp] theorem State.setDue_hostOut (k : ItemKind) (x : Subject) (f : Frame) (s : State) : (s.setDue k x f).hostOut = s.hostOut := rfl
@[simp] theorem State.setDue_fieldOut (k : ItemKind) (x : Subject) (f : Frame) (s : State) : (s.setDue k x f).fieldOut = s.fieldOut := rfl
@[simp] theorem State.setDue_pending (k : ItemKind) (x : Subject) (f : Frame) (s : State) : (s.setDue k x f).pending = s.pending := rfl

/-! ### State.clearDue -/

@[simp] theorem State.clearDue_frt (k : ItemKind) (x : Subject) (s : State) : (s.clearDue k x).frt = s.frt := rfl
@[simp] theorem State.clearDue_znt (k : ItemKind) (x : Subject) (s : State) : (s.clearDue k x).znt = s.znt := rfl
@[simp] theorem State.clearDue_rst (k : ItemKind) (x : Subject) (s : State) : (s.clearDue k x).rst = s.rst := rfl
@[simp] theorem State.clearDue_air (k : ItemKind) (x : Subject) (s : State) : (s.clearDue k x).air = s.air := rfl
@[simp] theorem State.clearDue_hlk (k : ItemKind) (x : Subject) (s : State) : (s.clearDue k x).hlk = s.hlk := rfl
@[simp] theorem State.clearDue_rev (k : ItemKind) (x : Subject) (s : State) : (s.clearDue k x).rev = s.rev := rfl
@[simp] theorem State.clearDue_cal (k : ItemKind) (x : Subject) (s : State) : (s.clearDue k x).cal = s.cal := rfl
@[simp] theorem State.clearDue_flk (k : ItemKind) (x : Subject) (s : State) : (s.clearDue k x).flk = s.flk := rfl
@[simp] theorem State.clearDue_hpt (k : ItemKind) (x : Subject) (s : State) : (s.clearDue k x).hpt = s.hpt := rfl
@[simp] theorem State.clearDue_handed (k : ItemKind) (x : Subject) (s : State) : (s.clearDue k x).handed = s.handed := rfl
@[simp] theorem State.clearDue_resetLow (k : ItemKind) (x : Subject) (s : State) : (s.clearDue k x).resetLow = s.resetLow := rfl
@[simp] theorem State.clearDue_hostOut (k : ItemKind) (x : Subject) (s : State) : (s.clearDue k x).hostOut = s.hostOut := rfl
@[simp] theorem State.clearDue_fieldOut (k : ItemKind) (x : Subject) (s : State) : (s.clearDue k x).fieldOut = s.fieldOut := rfl
@[simp] theorem State.clearDue_pending (k : ItemKind) (x : Subject) (s : State) : (s.clearDue k x).pending = s.pending := rfl

/-! ### State.eraseItem -/

@[simp] theorem State.eraseItem_frt (k : ItemKind) (x : Subject) (s : State) : (s.eraseItem k x).frt = s.frt := rfl
@[simp] theorem State.eraseItem_znt (k : ItemKind) (x : Subject) (s : State) : (s.eraseItem k x).znt = s.znt := rfl
@[simp] theorem State.eraseItem_rst (k : ItemKind) (x : Subject) (s : State) : (s.eraseItem k x).rst = s.rst := rfl
@[simp] theorem State.eraseItem_air (k : ItemKind) (x : Subject) (s : State) : (s.eraseItem k x).air = s.air := rfl
@[simp] theorem State.eraseItem_hlk (k : ItemKind) (x : Subject) (s : State) : (s.eraseItem k x).hlk = s.hlk := rfl
@[simp] theorem State.eraseItem_rev (k : ItemKind) (x : Subject) (s : State) : (s.eraseItem k x).rev = s.rev := rfl
@[simp] theorem State.eraseItem_cal (k : ItemKind) (x : Subject) (s : State) : (s.eraseItem k x).cal = s.cal := rfl
@[simp] theorem State.eraseItem_flk (k : ItemKind) (x : Subject) (s : State) : (s.eraseItem k x).flk = s.flk := rfl
@[simp] theorem State.eraseItem_hpt (k : ItemKind) (x : Subject) (s : State) : (s.eraseItem k x).hpt = s.hpt := rfl
@[simp] theorem State.eraseItem_handed (k : ItemKind) (x : Subject) (s : State) : (s.eraseItem k x).handed = s.handed := rfl
@[simp] theorem State.eraseItem_resetLow (k : ItemKind) (x : Subject) (s : State) : (s.eraseItem k x).resetLow = s.resetLow := rfl
@[simp] theorem State.eraseItem_hostOut (k : ItemKind) (x : Subject) (s : State) : (s.eraseItem k x).hostOut = s.hostOut := rfl
@[simp] theorem State.eraseItem_fieldOut (k : ItemKind) (x : Subject) (s : State) : (s.eraseItem k x).fieldOut = s.fieldOut := rfl
@[simp] theorem State.eraseItem_pending (k : ItemKind) (x : Subject) (s : State) : (s.eraseItem k x).pending = s.pending := rfl

/-! ### State.changeItem -/

@[simp] theorem State.changeItem_frt (k : ItemKind) (x : Subject) (f : Item → Item) (s : State) : (s.changeItem k x f).frt = s.frt := rfl
@[simp] theorem State.changeItem_znt (k : ItemKind) (x : Subject) (f : Item → Item) (s : State) : (s.changeItem k x f).znt = s.znt := rfl
@[simp] theorem State.changeItem_rst (k : ItemKind) (x : Subject) (f : Item → Item) (s : State) : (s.changeItem k x f).rst = s.rst := rfl
@[simp] theorem State.changeItem_air (k : ItemKind) (x : Subject) (f : Item → Item) (s : State) : (s.changeItem k x f).air = s.air := rfl
@[simp] theorem State.changeItem_hlk (k : ItemKind) (x : Subject) (f : Item → Item) (s : State) : (s.changeItem k x f).hlk = s.hlk := rfl
@[simp] theorem State.changeItem_rev (k : ItemKind) (x : Subject) (f : Item → Item) (s : State) : (s.changeItem k x f).rev = s.rev := rfl
@[simp] theorem State.changeItem_cal (k : ItemKind) (x : Subject) (f : Item → Item) (s : State) : (s.changeItem k x f).cal = s.cal := rfl
@[simp] theorem State.changeItem_flk (k : ItemKind) (x : Subject) (f : Item → Item) (s : State) : (s.changeItem k x f).flk = s.flk := rfl
@[simp] theorem State.changeItem_hpt (k : ItemKind) (x : Subject) (f : Item → Item) (s : State) : (s.changeItem k x f).hpt = s.hpt := rfl
@[simp] theorem State.changeItem_handed (k : ItemKind) (x : Subject) (f : Item → Item) (s : State) : (s.changeItem k x f).handed = s.handed := rfl
@[simp] theorem State.changeItem_resetLow (k : ItemKind) (x : Subject) (f : Item → Item) (s : State) : (s.changeItem k x f).resetLow = s.resetLow := rfl
@[simp] theorem State.changeItem_hostOut (k : ItemKind) (x : Subject) (f : Item → Item) (s : State) : (s.changeItem k x f).hostOut = s.hostOut := rfl
@[simp] theorem State.changeItem_fieldOut (k : ItemKind) (x : Subject) (f : Item → Item) (s : State) : (s.changeItem k x f).fieldOut = s.fieldOut := rfl
@[simp] theorem State.changeItem_pending (k : ItemKind) (x : Subject) (f : Item → Item) (s : State) : (s.changeItem k x f).pending = s.pending := rfl

/-! ### takePlace -/

@[simp] theorem takePlace_frt (it : Item) (s : State) : (takePlace it s).frt = s.frt := rfl
@[simp] theorem takePlace_znt (it : Item) (s : State) : (takePlace it s).znt = s.znt := rfl
@[simp] theorem takePlace_rst (it : Item) (s : State) : (takePlace it s).rst = s.rst := rfl
@[simp] theorem takePlace_air (it : Item) (s : State) : (takePlace it s).air = s.air := rfl
@[simp] theorem takePlace_hlk (it : Item) (s : State) : (takePlace it s).hlk = s.hlk := rfl
@[simp] theorem takePlace_rev (it : Item) (s : State) : (takePlace it s).rev = s.rev := rfl
@[simp] theorem takePlace_cal (it : Item) (s : State) : (takePlace it s).cal = s.cal := rfl
@[simp] theorem takePlace_flk (it : Item) (s : State) : (takePlace it s).flk = s.flk := rfl
@[simp] theorem takePlace_hpt (it : Item) (s : State) : (takePlace it s).hpt = s.hpt := rfl
@[simp] theorem takePlace_handed (it : Item) (s : State) : (takePlace it s).handed = s.handed := rfl
@[simp] theorem takePlace_resetLow (it : Item) (s : State) : (takePlace it s).resetLow = s.resetLow := rfl
@[simp] theorem takePlace_hostOut (it : Item) (s : State) : (takePlace it s).hostOut = s.hostOut := rfl
@[simp] theorem takePlace_fieldOut (it : Item) (s : State) : (takePlace it s).fieldOut = s.fieldOut := rfl
@[simp] theorem takePlace_pending (it : Item) (s : State) : (takePlace it s).pending = s.pending := rfl

/-! ### enterItem -/

@[simp] theorem enterItem_frt (k : ItemKind) (x : Subject) (f : Frame) (b : Bool) (d : Detail) (s : State) : (enterItem k x f b d s).frt = s.frt := rfl
@[simp] theorem enterItem_znt (k : ItemKind) (x : Subject) (f : Frame) (b : Bool) (d : Detail) (s : State) : (enterItem k x f b d s).znt = s.znt := rfl
@[simp] theorem enterItem_rst (k : ItemKind) (x : Subject) (f : Frame) (b : Bool) (d : Detail) (s : State) : (enterItem k x f b d s).rst = s.rst := rfl
@[simp] theorem enterItem_air (k : ItemKind) (x : Subject) (f : Frame) (b : Bool) (d : Detail) (s : State) : (enterItem k x f b d s).air = s.air := rfl
@[simp] theorem enterItem_hlk (k : ItemKind) (x : Subject) (f : Frame) (b : Bool) (d : Detail) (s : State) : (enterItem k x f b d s).hlk = s.hlk := rfl
@[simp] theorem enterItem_rev (k : ItemKind) (x : Subject) (f : Frame) (b : Bool) (d : Detail) (s : State) : (enterItem k x f b d s).rev = s.rev := rfl
@[simp] theorem enterItem_cal (k : ItemKind) (x : Subject) (f : Frame) (b : Bool) (d : Detail) (s : State) : (enterItem k x f b d s).cal = s.cal := rfl
@[simp] theorem enterItem_flk (k : ItemKind) (x : Subject) (f : Frame) (b : Bool) (d : Detail) (s : State) : (enterItem k x f b d s).flk = s.flk := rfl
@[simp] theorem enterItem_handed (k : ItemKind) (x : Subject) (f : Frame) (b : Bool) (d : Detail) (s : State) : (enterItem k x f b d s).handed = s.handed := rfl
@[simp] theorem enterItem_resetLow (k : ItemKind) (x : Subject) (f : Frame) (b : Bool) (d : Detail) (s : State) : (enterItem k x f b d s).resetLow = s.resetLow := rfl
@[simp] theorem enterItem_hostOut (k : ItemKind) (x : Subject) (f : Frame) (b : Bool) (d : Detail) (s : State) : (enterItem k x f b d s).hostOut = s.hostOut := rfl
@[simp] theorem enterItem_fieldOut (k : ItemKind) (x : Subject) (f : Frame) (b : Bool) (d : Detail) (s : State) : (enterItem k x f b d s).fieldOut = s.fieldOut := rfl
@[simp] theorem enterItem_pending (k : ItemKind) (x : Subject) (f : Frame) (b : Bool) (d : Detail) (s : State) : (enterItem k x f b d s).pending = s.pending := rfl
@[simp] theorem enterItem_hpt_request (k : ItemKind) (x : Subject) (f : Frame) (b : Bool) (d : Detail) (s : State) : (enterItem k x f b d s).hpt.request = s.hpt.request := rfl
@[simp] theorem enterItem_hpt_reply (k : ItemKind) (x : Subject) (f : Frame) (b : Bool) (d : Detail) (s : State) : (enterItem k x f b d s).hpt.reply = s.hpt.reply := rfl
@[simp] theorem enterItem_hpt_readPos (k : ItemKind) (x : Subject) (f : Frame) (b : Bool) (d : Detail) (s : State) : (enterItem k x f b d s).hpt.readPos = s.hpt.readPos := rfl
@[simp] theorem enterItem_hpt_overrun (k : ItemKind) (x : Subject) (f : Frame) (b : Bool) (d : Detail) (s : State) : (enterItem k x f b d s).hpt.overrun = s.hpt.overrun := rfl
@[simp] theorem enterItem_hpt_phase (k : ItemKind) (x : Subject) (f : Frame) (b : Bool) (d : Detail) (s : State) : (enterItem k x f b d s).hpt.phase = s.hpt.phase := rfl
@[simp] theorem enterItem_hpt_mask (k : ItemKind) (x : Subject) (f : Frame) (b : Bool) (d : Detail) (s : State) : (enterItem k x f b d s).hpt.mask = s.hpt.mask := rfl
@[simp] theorem enterItem_hpt_cursorTable (k : ItemKind) (x : Subject) (f : Frame) (b : Bool) (d : Detail) (s : State) : (enterItem k x f b d s).hpt.cursorTable = s.hpt.cursorTable := rfl
@[simp] theorem enterItem_hpt_cursorIndex (k : ItemKind) (x : Subject) (f : Frame) (b : Bool) (d : Detail) (s : State) : (enterItem k x f b d s).hpt.cursorIndex = s.hpt.cursorIndex := rfl

/-! ### freeCallChannel -/

@[simp] theorem freeCallChannel_frt (c : Option (Fin 4)) (s : State) : (freeCallChannel c s).frt = s.frt := by cases c <;> rfl
@[simp] theorem freeCallChannel_znt (c : Option (Fin 4)) (s : State) : (freeCallChannel c s).znt = s.znt := by cases c <;> rfl
@[simp] theorem freeCallChannel_atq (c : Option (Fin 4)) (s : State) : (freeCallChannel c s).atq = s.atq := by cases c <;> rfl
@[simp] theorem freeCallChannel_rst (c : Option (Fin 4)) (s : State) : (freeCallChannel c s).rst = s.rst := by cases c <;> rfl
@[simp] theorem freeCallChannel_air (c : Option (Fin 4)) (s : State) : (freeCallChannel c s).air = s.air := by cases c <;> rfl
@[simp] theorem freeCallChannel_hlk (c : Option (Fin 4)) (s : State) : (freeCallChannel c s).hlk = s.hlk := by cases c <;> rfl
@[simp] theorem freeCallChannel_rev (c : Option (Fin 4)) (s : State) : (freeCallChannel c s).rev = s.rev := by cases c <;> rfl
@[simp] theorem freeCallChannel_flk (c : Option (Fin 4)) (s : State) : (freeCallChannel c s).flk = s.flk := by cases c <;> rfl
@[simp] theorem freeCallChannel_hpt (c : Option (Fin 4)) (s : State) : (freeCallChannel c s).hpt = s.hpt := by cases c <;> rfl
@[simp] theorem freeCallChannel_handed (c : Option (Fin 4)) (s : State) : (freeCallChannel c s).handed = s.handed := by cases c <;> rfl
@[simp] theorem freeCallChannel_resetLow (c : Option (Fin 4)) (s : State) : (freeCallChannel c s).resetLow = s.resetLow := by cases c <;> rfl
@[simp] theorem freeCallChannel_hostOut (c : Option (Fin 4)) (s : State) : (freeCallChannel c s).hostOut = s.hostOut := by cases c <;> rfl
@[simp] theorem freeCallChannel_fieldOut (c : Option (Fin 4)) (s : State) : (freeCallChannel c s).fieldOut = s.fieldOut := by cases c <;> rfl
@[simp] theorem freeCallChannel_pending (c : Option (Fin 4)) (s : State) : (freeCallChannel c s).pending = s.pending := by cases c <;> rfl

/-! ### heardHost -/

@[simp] theorem heardHost_frt (s : State) : (heardHost s).frt = s.frt := rfl
@[simp] theorem heardHost_znt (s : State) : (heardHost s).znt = s.znt := rfl
@[simp] theorem heardHost_atq (s : State) : (heardHost s).atq = s.atq := rfl
@[simp] theorem heardHost_rst (s : State) : (heardHost s).rst = s.rst := rfl
@[simp] theorem heardHost_air (s : State) : (heardHost s).air = s.air := rfl
@[simp] theorem heardHost_rev (s : State) : (heardHost s).rev = s.rev := rfl
@[simp] theorem heardHost_cal (s : State) : (heardHost s).cal = s.cal := rfl
@[simp] theorem heardHost_flk (s : State) : (heardHost s).flk = s.flk := rfl
@[simp] theorem heardHost_hpt (s : State) : (heardHost s).hpt = s.hpt := rfl
@[simp] theorem heardHost_handed (s : State) : (heardHost s).handed = s.handed := rfl
@[simp] theorem heardHost_resetLow (s : State) : (heardHost s).resetLow = s.resetLow := rfl
@[simp] theorem heardHost_hostOut (s : State) : (heardHost s).hostOut = s.hostOut := rfl
@[simp] theorem heardHost_fieldOut (s : State) : (heardHost s).fieldOut = s.fieldOut := rfl
@[simp] theorem heardHost_pending (s : State) : (heardHost s).pending = s.pending := rfl

/-! ### setRequest -/

@[simp] theorem setRequest_frt (b : RequestBuffer) (s : State) : (setRequest b s).frt = s.frt := rfl
@[simp] theorem setRequest_znt (b : RequestBuffer) (s : State) : (setRequest b s).znt = s.znt := rfl
@[simp] theorem setRequest_atq (b : RequestBuffer) (s : State) : (setRequest b s).atq = s.atq := rfl
@[simp] theorem setRequest_rst (b : RequestBuffer) (s : State) : (setRequest b s).rst = s.rst := rfl
@[simp] theorem setRequest_air (b : RequestBuffer) (s : State) : (setRequest b s).air = s.air := rfl
@[simp] theorem setRequest_hlk (b : RequestBuffer) (s : State) : (setRequest b s).hlk = s.hlk := rfl
@[simp] theorem setRequest_rev (b : RequestBuffer) (s : State) : (setRequest b s).rev = s.rev := rfl
@[simp] theorem setRequest_cal (b : RequestBuffer) (s : State) : (setRequest b s).cal = s.cal := rfl
@[simp] theorem setRequest_flk (b : RequestBuffer) (s : State) : (setRequest b s).flk = s.flk := rfl
@[simp] theorem setRequest_handed (b : RequestBuffer) (s : State) : (setRequest b s).handed = s.handed := rfl
@[simp] theorem setRequest_resetLow (b : RequestBuffer) (s : State) : (setRequest b s).resetLow = s.resetLow := rfl
@[simp] theorem setRequest_hostOut (b : RequestBuffer) (s : State) : (setRequest b s).hostOut = s.hostOut := rfl
@[simp] theorem setRequest_fieldOut (b : RequestBuffer) (s : State) : (setRequest b s).fieldOut = s.fieldOut := rfl
@[simp] theorem setRequest_pending (b : RequestBuffer) (s : State) : (setRequest b s).pending = s.pending := rfl
@[simp] theorem setRequest_hpt_reply (b : RequestBuffer) (s : State) : (setRequest b s).hpt.reply = s.hpt.reply := rfl
@[simp] theorem setRequest_hpt_readPos (b : RequestBuffer) (s : State) : (setRequest b s).hpt.readPos = s.hpt.readPos := rfl
@[simp] theorem setRequest_hpt_overrun (b : RequestBuffer) (s : State) : (setRequest b s).hpt.overrun = s.hpt.overrun := rfl
@[simp] theorem setRequest_hpt_phase (b : RequestBuffer) (s : State) : (setRequest b s).hpt.phase = s.hpt.phase := rfl
@[simp] theorem setRequest_hpt_flags (b : RequestBuffer) (s : State) : (setRequest b s).hpt.flags = s.hpt.flags := rfl
@[simp] theorem setRequest_hpt_mask (b : RequestBuffer) (s : State) : (setRequest b s).hpt.mask = s.hpt.mask := rfl
@[simp] theorem setRequest_hpt_cursorTable (b : RequestBuffer) (s : State) : (setRequest b s).hpt.cursorTable = s.hpt.cursorTable := rfl
@[simp] theorem setRequest_hpt_cursorIndex (b : RequestBuffer) (s : State) : (setRequest b s).hpt.cursorIndex = s.hpt.cursorIndex := rfl

/-! ### setOverrun -/

@[simp] theorem setOverrun_frt (s : State) : (setOverrun s).frt = s.frt := rfl
@[simp] theorem setOverrun_znt (s : State) : (setOverrun s).znt = s.znt := rfl
@[simp] theorem setOverrun_atq (s : State) : (setOverrun s).atq = s.atq := rfl
@[simp] theorem setOverrun_rst (s : State) : (setOverrun s).rst = s.rst := rfl
@[simp] theorem setOverrun_air (s : State) : (setOverrun s).air = s.air := rfl
@[simp] theorem setOverrun_hlk (s : State) : (setOverrun s).hlk = s.hlk := rfl
@[simp] theorem setOverrun_rev (s : State) : (setOverrun s).rev = s.rev := rfl
@[simp] theorem setOverrun_cal (s : State) : (setOverrun s).cal = s.cal := rfl
@[simp] theorem setOverrun_flk (s : State) : (setOverrun s).flk = s.flk := rfl
@[simp] theorem setOverrun_handed (s : State) : (setOverrun s).handed = s.handed := rfl
@[simp] theorem setOverrun_resetLow (s : State) : (setOverrun s).resetLow = s.resetLow := rfl
@[simp] theorem setOverrun_hostOut (s : State) : (setOverrun s).hostOut = s.hostOut := rfl
@[simp] theorem setOverrun_fieldOut (s : State) : (setOverrun s).fieldOut = s.fieldOut := rfl
@[simp] theorem setOverrun_pending (s : State) : (setOverrun s).pending = s.pending := rfl
@[simp] theorem setOverrun_hpt_request (s : State) : (setOverrun s).hpt.request = s.hpt.request := rfl
@[simp] theorem setOverrun_hpt_reply (s : State) : (setOverrun s).hpt.reply = s.hpt.reply := rfl
@[simp] theorem setOverrun_hpt_readPos (s : State) : (setOverrun s).hpt.readPos = s.hpt.readPos := rfl
@[simp] theorem setOverrun_hpt_phase (s : State) : (setOverrun s).hpt.phase = s.hpt.phase := rfl
@[simp] theorem setOverrun_hpt_flags (s : State) : (setOverrun s).hpt.flags = s.hpt.flags := rfl
@[simp] theorem setOverrun_hpt_mask (s : State) : (setOverrun s).hpt.mask = s.hpt.mask := rfl
@[simp] theorem setOverrun_hpt_cursorTable (s : State) : (setOverrun s).hpt.cursorTable = s.hpt.cursorTable := rfl
@[simp] theorem setOverrun_hpt_cursorIndex (s : State) : (setOverrun s).hpt.cursorIndex = s.hpt.cursorIndex := rfl

/-! ### setInHand -/

@[simp] theorem setInHand_frt (m : Option Received) (s : State) : (setInHand m s).frt = s.frt := rfl
@[simp] theorem setInHand_znt (m : Option Received) (s : State) : (setInHand m s).znt = s.znt := rfl
@[simp] theorem setInHand_atq (m : Option Received) (s : State) : (setInHand m s).atq = s.atq := rfl
@[simp] theorem setInHand_rst (m : Option Received) (s : State) : (setInHand m s).rst = s.rst := rfl
@[simp] theorem setInHand_air (m : Option Received) (s : State) : (setInHand m s).air = s.air := rfl
@[simp] theorem setInHand_hlk (m : Option Received) (s : State) : (setInHand m s).hlk = s.hlk := rfl
@[simp] theorem setInHand_rev (m : Option Received) (s : State) : (setInHand m s).rev = s.rev := rfl
@[simp] theorem setInHand_cal (m : Option Received) (s : State) : (setInHand m s).cal = s.cal := rfl
@[simp] theorem setInHand_hpt (m : Option Received) (s : State) : (setInHand m s).hpt = s.hpt := rfl
@[simp] theorem setInHand_handed (m : Option Received) (s : State) : (setInHand m s).handed = s.handed := rfl
@[simp] theorem setInHand_resetLow (m : Option Received) (s : State) : (setInHand m s).resetLow = s.resetLow := rfl
@[simp] theorem setInHand_hostOut (m : Option Received) (s : State) : (setInHand m s).hostOut = s.hostOut := rfl
@[simp] theorem setInHand_fieldOut (m : Option Received) (s : State) : (setInHand m s).fieldOut = s.fieldOut := rfl
@[simp] theorem setInHand_pending (m : Option Received) (s : State) : (setInHand m s).pending = s.pending := rfl

/-! ### advanceCursor -/

@[simp] theorem advanceCursor_frt (n : Nat) (s : State) : (advanceCursor n s).frt = s.frt := rfl
@[simp] theorem advanceCursor_znt (n : Nat) (s : State) : (advanceCursor n s).znt = s.znt := rfl
@[simp] theorem advanceCursor_atq (n : Nat) (s : State) : (advanceCursor n s).atq = s.atq := rfl
@[simp] theorem advanceCursor_rst (n : Nat) (s : State) : (advanceCursor n s).rst = s.rst := rfl
@[simp] theorem advanceCursor_air (n : Nat) (s : State) : (advanceCursor n s).air = s.air := rfl
@[simp] theorem advanceCursor_rev (n : Nat) (s : State) : (advanceCursor n s).rev = s.rev := rfl
@[simp] theorem advanceCursor_cal (n : Nat) (s : State) : (advanceCursor n s).cal = s.cal := rfl
@[simp] theorem advanceCursor_flk (n : Nat) (s : State) : (advanceCursor n s).flk = s.flk := rfl
@[simp] theorem advanceCursor_hpt (n : Nat) (s : State) : (advanceCursor n s).hpt = s.hpt := rfl
@[simp] theorem advanceCursor_handed (n : Nat) (s : State) : (advanceCursor n s).handed = s.handed := rfl
@[simp] theorem advanceCursor_resetLow (n : Nat) (s : State) : (advanceCursor n s).resetLow = s.resetLow := rfl
@[simp] theorem advanceCursor_hostOut (n : Nat) (s : State) : (advanceCursor n s).hostOut = s.hostOut := rfl
@[simp] theorem advanceCursor_fieldOut (n : Nat) (s : State) : (advanceCursor n s).fieldOut = s.fieldOut := rfl
@[simp] theorem advanceCursor_pending (n : Nat) (s : State) : (advanceCursor n s).pending = s.pending := rfl

/-! ### leavePollList -/

@[simp] theorem leavePollList_frt (n : Nat) (s : State) : (leavePollList n s).frt = s.frt := rfl
@[simp] theorem leavePollList_znt (n : Nat) (s : State) : (leavePollList n s).znt = s.znt := rfl
@[simp] theorem leavePollList_atq (n : Nat) (s : State) : (leavePollList n s).atq = s.atq := rfl
@[simp] theorem leavePollList_rst (n : Nat) (s : State) : (leavePollList n s).rst = s.rst := rfl
@[simp] theorem leavePollList_air (n : Nat) (s : State) : (leavePollList n s).air = s.air := rfl
@[simp] theorem leavePollList_rev (n : Nat) (s : State) : (leavePollList n s).rev = s.rev := rfl
@[simp] theorem leavePollList_cal (n : Nat) (s : State) : (leavePollList n s).cal = s.cal := rfl
@[simp] theorem leavePollList_flk (n : Nat) (s : State) : (leavePollList n s).flk = s.flk := rfl
@[simp] theorem leavePollList_hpt (n : Nat) (s : State) : (leavePollList n s).hpt = s.hpt := rfl
@[simp] theorem leavePollList_handed (n : Nat) (s : State) : (leavePollList n s).handed = s.handed := rfl
@[simp] theorem leavePollList_resetLow (n : Nat) (s : State) : (leavePollList n s).resetLow = s.resetLow := rfl
@[simp] theorem leavePollList_hostOut (n : Nat) (s : State) : (leavePollList n s).hostOut = s.hostOut := rfl
@[simp] theorem leavePollList_fieldOut (n : Nat) (s : State) : (leavePollList n s).fieldOut = s.fieldOut := rfl
@[simp] theorem leavePollList_pending (n : Nat) (s : State) : (leavePollList n s).pending = s.pending := rfl

/-! ### addTruck -/

@[simp] theorem addTruck_frt (p : Fin 24) (t : Truck) (s : State) : (addTruck p t s).frt = s.frt := rfl
@[simp] theorem addTruck_znt (p : Fin 24) (t : Truck) (s : State) : (addTruck p t s).znt = s.znt := rfl
@[simp] theorem addTruck_atq (p : Fin 24) (t : Truck) (s : State) : (addTruck p t s).atq = s.atq := rfl
@[simp] theorem addTruck_rst (p : Fin 24) (t : Truck) (s : State) : (addTruck p t s).rst = s.rst := rfl
@[simp] theorem addTruck_air (p : Fin 24) (t : Truck) (s : State) : (addTruck p t s).air = s.air := rfl
@[simp] theorem addTruck_rev (p : Fin 24) (t : Truck) (s : State) : (addTruck p t s).rev = s.rev := rfl
@[simp] theorem addTruck_cal (p : Fin 24) (t : Truck) (s : State) : (addTruck p t s).cal = s.cal := rfl
@[simp] theorem addTruck_flk (p : Fin 24) (t : Truck) (s : State) : (addTruck p t s).flk = s.flk := rfl
@[simp] theorem addTruck_hpt (p : Fin 24) (t : Truck) (s : State) : (addTruck p t s).hpt = s.hpt := rfl
@[simp] theorem addTruck_handed (p : Fin 24) (t : Truck) (s : State) : (addTruck p t s).handed = s.handed := rfl
@[simp] theorem addTruck_resetLow (p : Fin 24) (t : Truck) (s : State) : (addTruck p t s).resetLow = s.resetLow := rfl
@[simp] theorem addTruck_hostOut (p : Fin 24) (t : Truck) (s : State) : (addTruck p t s).hostOut = s.hostOut := rfl
@[simp] theorem addTruck_fieldOut (p : Fin 24) (t : Truck) (s : State) : (addTruck p t s).fieldOut = s.fieldOut := rfl
@[simp] theorem addTruck_pending (p : Fin 24) (t : Truck) (s : State) : (addTruck p t s).pending = s.pending := rfl

/-! ### renewPollFlags -/

@[simp] theorem renewPollFlags_frt (s : State) : (renewPollFlags s).frt = s.frt := rfl
@[simp] theorem renewPollFlags_znt (s : State) : (renewPollFlags s).znt = s.znt := rfl
@[simp] theorem renewPollFlags_atq (s : State) : (renewPollFlags s).atq = s.atq := rfl
@[simp] theorem renewPollFlags_rst (s : State) : (renewPollFlags s).rst = s.rst := rfl
@[simp] theorem renewPollFlags_air (s : State) : (renewPollFlags s).air = s.air := rfl
@[simp] theorem renewPollFlags_rev (s : State) : (renewPollFlags s).rev = s.rev := rfl
@[simp] theorem renewPollFlags_cal (s : State) : (renewPollFlags s).cal = s.cal := rfl
@[simp] theorem renewPollFlags_flk (s : State) : (renewPollFlags s).flk = s.flk := rfl
@[simp] theorem renewPollFlags_hpt (s : State) : (renewPollFlags s).hpt = s.hpt := rfl
@[simp] theorem renewPollFlags_handed (s : State) : (renewPollFlags s).handed = s.handed := rfl
@[simp] theorem renewPollFlags_resetLow (s : State) : (renewPollFlags s).resetLow = s.resetLow := rfl
@[simp] theorem renewPollFlags_hostOut (s : State) : (renewPollFlags s).hostOut = s.hostOut := rfl
@[simp] theorem renewPollFlags_fieldOut (s : State) : (renewPollFlags s).fieldOut = s.fieldOut := rfl
@[simp] theorem renewPollFlags_pending (s : State) : (renewPollFlags s).pending = s.pending := rfl

/-! ### setOccupancy -/

@[simp] theorem setOccupancy_frt (r : Fin 8) (f : Nat → Nat) (s : State) : (setOccupancy r f s).frt = s.frt := rfl
@[simp] theorem setOccupancy_znt (r : Fin 8) (f : Nat → Nat) (s : State) : (setOccupancy r f s).znt = s.znt := rfl
@[simp] theorem setOccupancy_atq (r : Fin 8) (f : Nat → Nat) (s : State) : (setOccupancy r f s).atq = s.atq := rfl
@[simp] theorem setOccupancy_rst (r : Fin 8) (f : Nat → Nat) (s : State) : (setOccupancy r f s).rst = s.rst := rfl
@[simp] theorem setOccupancy_air (r : Fin 8) (f : Nat → Nat) (s : State) : (setOccupancy r f s).air = s.air := rfl
@[simp] theorem setOccupancy_hlk (r : Fin 8) (f : Nat → Nat) (s : State) : (setOccupancy r f s).hlk = s.hlk := rfl
@[simp] theorem setOccupancy_cal (r : Fin 8) (f : Nat → Nat) (s : State) : (setOccupancy r f s).cal = s.cal := rfl
@[simp] theorem setOccupancy_flk (r : Fin 8) (f : Nat → Nat) (s : State) : (setOccupancy r f s).flk = s.flk := rfl
@[simp] theorem setOccupancy_hpt (r : Fin 8) (f : Nat → Nat) (s : State) : (setOccupancy r f s).hpt = s.hpt := rfl
@[simp] theorem setOccupancy_handed (r : Fin 8) (f : Nat → Nat) (s : State) : (setOccupancy r f s).handed = s.handed := rfl
@[simp] theorem setOccupancy_resetLow (r : Fin 8) (f : Nat → Nat) (s : State) : (setOccupancy r f s).resetLow = s.resetLow := rfl
@[simp] theorem setOccupancy_hostOut (r : Fin 8) (f : Nat → Nat) (s : State) : (setOccupancy r f s).hostOut = s.hostOut := rfl
@[simp] theorem setOccupancy_fieldOut (r : Fin 8) (f : Nat → Nat) (s : State) : (setOccupancy r f s).fieldOut = s.fieldOut := rfl
@[simp] theorem setOccupancy_pending (r : Fin 8) (f : Nat → Nat) (s : State) : (setOccupancy r f s).pending = s.pending := rfl

/-! ### liftZone -/

@[simp] theorem liftZone_frt (z : Fin 32) (s : State) : (liftZone z s).frt = s.frt := rfl
@[simp] theorem liftZone_atq (z : Fin 32) (s : State) : (liftZone z s).atq = s.atq := rfl
@[simp] theorem liftZone_rst (z : Fin 32) (s : State) : (liftZone z s).rst = s.rst := rfl
@[simp] theorem liftZone_air (z : Fin 32) (s : State) : (liftZone z s).air = s.air := rfl
@[simp] theorem liftZone_hlk (z : Fin 32) (s : State) : (liftZone z s).hlk = s.hlk := rfl
@[simp] theorem liftZone_rev (z : Fin 32) (s : State) : (liftZone z s).rev = s.rev := rfl
@[simp] theorem liftZone_cal (z : Fin 32) (s : State) : (liftZone z s).cal = s.cal := rfl
@[simp] theorem liftZone_flk (z : Fin 32) (s : State) : (liftZone z s).flk = s.flk := rfl
@[simp] theorem liftZone_hpt (z : Fin 32) (s : State) : (liftZone z s).hpt = s.hpt := rfl
@[simp] theorem liftZone_handed (z : Fin 32) (s : State) : (liftZone z s).handed = s.handed := rfl
@[simp] theorem liftZone_resetLow (z : Fin 32) (s : State) : (liftZone z s).resetLow = s.resetLow := rfl
@[simp] theorem liftZone_hostOut (z : Fin 32) (s : State) : (liftZone z s).hostOut = s.hostOut := rfl
@[simp] theorem liftZone_fieldOut (z : Fin 32) (s : State) : (liftZone z s).fieldOut = s.fieldOut := rfl
@[simp] theorem liftZone_pending (z : Fin 32) (s : State) : (liftZone z s).pending = s.pending := rfl

/-! ### applyLimits -/

@[simp] theorem applyLimits_frt (s : State) : (applyLimits s).frt = s.frt := rfl
@[simp] theorem applyLimits_atq (s : State) : (applyLimits s).atq = s.atq := rfl
@[simp] theorem applyLimits_rst (s : State) : (applyLimits s).rst = s.rst := rfl
@[simp] theorem applyLimits_air (s : State) : (applyLimits s).air = s.air := rfl
@[simp] theorem applyLimits_hlk (s : State) : (applyLimits s).hlk = s.hlk := rfl
@[simp] theorem applyLimits_rev (s : State) : (applyLimits s).rev = s.rev := rfl
@[simp] theorem applyLimits_cal (s : State) : (applyLimits s).cal = s.cal := rfl
@[simp] theorem applyLimits_flk (s : State) : (applyLimits s).flk = s.flk := rfl
@[simp] theorem applyLimits_hpt (s : State) : (applyLimits s).hpt = s.hpt := rfl
@[simp] theorem applyLimits_handed (s : State) : (applyLimits s).handed = s.handed := rfl
@[simp] theorem applyLimits_resetLow (s : State) : (applyLimits s).resetLow = s.resetLow := rfl
@[simp] theorem applyLimits_hostOut (s : State) : (applyLimits s).hostOut = s.hostOut := rfl
@[simp] theorem applyLimits_fieldOut (s : State) : (applyLimits s).fieldOut = s.fieldOut := rfl
@[simp] theorem applyLimits_pending (s : State) : (applyLimits s).pending = s.pending := rfl

/-! ### makeRecord -/

@[simp] theorem makeRecord_frt (i : Fin 240) (p : Person) (s : State) : (makeRecord i p s).frt = s.frt := rfl
@[simp] theorem makeRecord_znt (i : Fin 240) (p : Person) (s : State) : (makeRecord i p s).znt = s.znt := rfl
@[simp] theorem makeRecord_atq (i : Fin 240) (p : Person) (s : State) : (makeRecord i p s).atq = s.atq := rfl
@[simp] theorem makeRecord_air (i : Fin 240) (p : Person) (s : State) : (makeRecord i p s).air = s.air := rfl
@[simp] theorem makeRecord_hlk (i : Fin 240) (p : Person) (s : State) : (makeRecord i p s).hlk = s.hlk := rfl
@[simp] theorem makeRecord_rev (i : Fin 240) (p : Person) (s : State) : (makeRecord i p s).rev = s.rev := rfl
@[simp] theorem makeRecord_cal (i : Fin 240) (p : Person) (s : State) : (makeRecord i p s).cal = s.cal := rfl
@[simp] theorem makeRecord_flk (i : Fin 240) (p : Person) (s : State) : (makeRecord i p s).flk = s.flk := rfl
@[simp] theorem makeRecord_hpt (i : Fin 240) (p : Person) (s : State) : (makeRecord i p s).hpt = s.hpt := rfl
@[simp] theorem makeRecord_handed (i : Fin 240) (p : Person) (s : State) : (makeRecord i p s).handed = s.handed := rfl
@[simp] theorem makeRecord_resetLow (i : Fin 240) (p : Person) (s : State) : (makeRecord i p s).resetLow = s.resetLow := rfl
@[simp] theorem makeRecord_hostOut (i : Fin 240) (p : Person) (s : State) : (makeRecord i p s).hostOut = s.hostOut := rfl
@[simp] theorem makeRecord_fieldOut (i : Fin 240) (p : Person) (s : State) : (makeRecord i p s).fieldOut = s.fieldOut := rfl
@[simp] theorem makeRecord_pending (i : Fin 240) (p : Person) (s : State) : (makeRecord i p s).pending = s.pending := rfl

/-! ### freeTheSlot -/

@[simp] theorem freeTheSlot_frt (i : Fin 240) (s : State) : (freeTheSlot i s).frt = s.frt := rfl
@[simp] theorem freeTheSlot_znt (i : Fin 240) (s : State) : (freeTheSlot i s).znt = s.znt := rfl
@[simp] theorem freeTheSlot_atq (i : Fin 240) (s : State) : (freeTheSlot i s).atq = s.atq := rfl
@[simp] theorem freeTheSlot_air (i : Fin 240) (s : State) : (freeTheSlot i s).air = s.air := rfl
@[simp] theorem freeTheSlot_hlk (i : Fin 240) (s : State) : (freeTheSlot i s).hlk = s.hlk := rfl
@[simp] theorem freeTheSlot_rev (i : Fin 240) (s : State) : (freeTheSlot i s).rev = s.rev := rfl
@[simp] theorem freeTheSlot_cal (i : Fin 240) (s : State) : (freeTheSlot i s).cal = s.cal := rfl
@[simp] theorem freeTheSlot_flk (i : Fin 240) (s : State) : (freeTheSlot i s).flk = s.flk := rfl
@[simp] theorem freeTheSlot_hpt (i : Fin 240) (s : State) : (freeTheSlot i s).hpt = s.hpt := rfl
@[simp] theorem freeTheSlot_handed (i : Fin 240) (s : State) : (freeTheSlot i s).handed = s.handed := rfl
@[simp] theorem freeTheSlot_resetLow (i : Fin 240) (s : State) : (freeTheSlot i s).resetLow = s.resetLow := rfl
@[simp] theorem freeTheSlot_hostOut (i : Fin 240) (s : State) : (freeTheSlot i s).hostOut = s.hostOut := rfl
@[simp] theorem freeTheSlot_fieldOut (i : Fin 240) (s : State) : (freeTheSlot i s).fieldOut = s.fieldOut := rfl
@[simp] theorem freeTheSlot_pending (i : Fin 240) (s : State) : (freeTheSlot i s).pending = s.pending := rfl

/-! ### leaveConfirmList -/

@[simp] theorem leaveConfirmList_frt (c : Fin 32) (s : State) : (leaveConfirmList c s).frt = s.frt := rfl
@[simp] theorem leaveConfirmList_znt (c : Fin 32) (s : State) : (leaveConfirmList c s).znt = s.znt := rfl
@[simp] theorem leaveConfirmList_atq (c : Fin 32) (s : State) : (leaveConfirmList c s).atq = s.atq := rfl
@[simp] theorem leaveConfirmList_rst (c : Fin 32) (s : State) : (leaveConfirmList c s).rst = s.rst := rfl
@[simp] theorem leaveConfirmList_hlk (c : Fin 32) (s : State) : (leaveConfirmList c s).hlk = s.hlk := rfl
@[simp] theorem leaveConfirmList_rev (c : Fin 32) (s : State) : (leaveConfirmList c s).rev = s.rev := rfl
@[simp] theorem leaveConfirmList_cal (c : Fin 32) (s : State) : (leaveConfirmList c s).cal = s.cal := rfl
@[simp] theorem leaveConfirmList_flk (c : Fin 32) (s : State) : (leaveConfirmList c s).flk = s.flk := rfl
@[simp] theorem leaveConfirmList_hpt (c : Fin 32) (s : State) : (leaveConfirmList c s).hpt = s.hpt := rfl
@[simp] theorem leaveConfirmList_handed (c : Fin 32) (s : State) : (leaveConfirmList c s).handed = s.handed := rfl
@[simp] theorem leaveConfirmList_resetLow (c : Fin 32) (s : State) : (leaveConfirmList c s).resetLow = s.resetLow := rfl
@[simp] theorem leaveConfirmList_hostOut (c : Fin 32) (s : State) : (leaveConfirmList c s).hostOut = s.hostOut := rfl
@[simp] theorem leaveConfirmList_fieldOut (c : Fin 32) (s : State) : (leaveConfirmList c s).fieldOut = s.fieldOut := rfl
@[simp] theorem leaveConfirmList_pending (c : Fin 32) (s : State) : (leaveConfirmList c s).pending = s.pending := rfl

/-! ### storeResult -/

@[simp] theorem storeResult_frt (b : Byte) (s : State) : (storeResult b s).frt = s.frt := rfl
@[simp] theorem storeResult_znt (b : Byte) (s : State) : (storeResult b s).znt = s.znt := rfl
@[simp] theorem storeResult_atq (b : Byte) (s : State) : (storeResult b s).atq = s.atq := rfl
@[simp] theorem storeResult_rst (b : Byte) (s : State) : (storeResult b s).rst = s.rst := rfl
@[simp] theorem storeResult_hlk (b : Byte) (s : State) : (storeResult b s).hlk = s.hlk := rfl
@[simp] theorem storeResult_rev (b : Byte) (s : State) : (storeResult b s).rev = s.rev := rfl
@[simp] theorem storeResult_cal (b : Byte) (s : State) : (storeResult b s).cal = s.cal := rfl
@[simp] theorem storeResult_flk (b : Byte) (s : State) : (storeResult b s).flk = s.flk := rfl
@[simp] theorem storeResult_hpt (b : Byte) (s : State) : (storeResult b s).hpt = s.hpt := rfl
@[simp] theorem storeResult_handed (b : Byte) (s : State) : (storeResult b s).handed = s.handed := rfl
@[simp] theorem storeResult_resetLow (b : Byte) (s : State) : (storeResult b s).resetLow = s.resetLow := rfl
@[simp] theorem storeResult_hostOut (b : Byte) (s : State) : (storeResult b s).hostOut = s.hostOut := rfl
@[simp] theorem storeResult_fieldOut (b : Byte) (s : State) : (storeResult b s).fieldOut = s.fieldOut := rfl
@[simp] theorem storeResult_pending (b : Byte) (s : State) : (storeResult b s).pending = s.pending := rfl

/-! ### handSlotStart -/

@[simp] theorem handSlotStart_frt (s : State) : (handSlotStart s).frt = s.frt := rfl
@[simp] theorem handSlotStart_znt (s : State) : (handSlotStart s).znt = s.znt := rfl
@[simp] theorem handSlotStart_atq (s : State) : (handSlotStart s).atq = s.atq := rfl
@[simp] theorem handSlotStart_rst (s : State) : (handSlotStart s).rst = s.rst := rfl
@[simp] theorem handSlotStart_air (s : State) : (handSlotStart s).air = s.air := rfl
@[simp] theorem handSlotStart_hlk (s : State) : (handSlotStart s).hlk = s.hlk := rfl
@[simp] theorem handSlotStart_rev (s : State) : (handSlotStart s).rev = s.rev := rfl
@[simp] theorem handSlotStart_cal (s : State) : (handSlotStart s).cal = s.cal := rfl
@[simp] theorem handSlotStart_flk (s : State) : (handSlotStart s).flk = s.flk := rfl
@[simp] theorem handSlotStart_hpt (s : State) : (handSlotStart s).hpt = s.hpt := rfl
@[simp] theorem handSlotStart_resetLow (s : State) : (handSlotStart s).resetLow = s.resetLow := rfl
@[simp] theorem handSlotStart_hostOut (s : State) : (handSlotStart s).hostOut = s.hostOut := rfl
@[simp] theorem handSlotStart_fieldOut (s : State) : (handSlotStart s).fieldOut = s.fieldOut := rfl
@[simp] theorem handSlotStart_pending (s : State) : (handSlotStart s).pending = s.pending := rfl

/-! ### handFrameStart -/

@[simp] theorem handFrameStart_frt (b : Bool) (s : State) : (handFrameStart b s).frt = s.frt := rfl
@[simp] theorem handFrameStart_znt (b : Bool) (s : State) : (handFrameStart b s).znt = s.znt := rfl
@[simp] theorem handFrameStart_atq (b : Bool) (s : State) : (handFrameStart b s).atq = s.atq := rfl
@[simp] theorem handFrameStart_rst (b : Bool) (s : State) : (handFrameStart b s).rst = s.rst := rfl
@[simp] theorem handFrameStart_air (b : Bool) (s : State) : (handFrameStart b s).air = s.air := rfl
@[simp] theorem handFrameStart_hlk (b : Bool) (s : State) : (handFrameStart b s).hlk = s.hlk := rfl
@[simp] theorem handFrameStart_rev (b : Bool) (s : State) : (handFrameStart b s).rev = s.rev := rfl
@[simp] theorem handFrameStart_cal (b : Bool) (s : State) : (handFrameStart b s).cal = s.cal := rfl
@[simp] theorem handFrameStart_flk (b : Bool) (s : State) : (handFrameStart b s).flk = s.flk := rfl
@[simp] theorem handFrameStart_hpt (b : Bool) (s : State) : (handFrameStart b s).hpt = s.hpt := rfl
@[simp] theorem handFrameStart_resetLow (b : Bool) (s : State) : (handFrameStart b s).resetLow = s.resetLow := rfl
@[simp] theorem handFrameStart_hostOut (b : Bool) (s : State) : (handFrameStart b s).hostOut = s.hostOut := rfl
@[simp] theorem handFrameStart_fieldOut (b : Bool) (s : State) : (handFrameStart b s).fieldOut = s.fieldOut := rfl
@[simp] theorem handFrameStart_pending (b : Bool) (s : State) : (handFrameStart b s).pending = s.pending := rfl

/-! ### beginFrame -/

@[simp] theorem beginFrame_znt (n : Frame) (k : BeginKind) (s : State) : (beginFrame n k s).znt = s.znt := rfl
@[simp] theorem beginFrame_atq (n : Frame) (k : BeginKind) (s : State) : (beginFrame n k s).atq = s.atq := rfl
@[simp] theorem beginFrame_rst (n : Frame) (k : BeginKind) (s : State) : (beginFrame n k s).rst = s.rst := rfl
@[simp] theorem beginFrame_air (n : Frame) (k : BeginKind) (s : State) : (beginFrame n k s).air = s.air := rfl
@[simp] theorem beginFrame_hlk (n : Frame) (k : BeginKind) (s : State) : (beginFrame n k s).hlk = s.hlk := rfl
@[simp] theorem beginFrame_rev (n : Frame) (k : BeginKind) (s : State) : (beginFrame n k s).rev = s.rev := rfl
@[simp] theorem beginFrame_cal (n : Frame) (k : BeginKind) (s : State) : (beginFrame n k s).cal = s.cal := rfl
@[simp] theorem beginFrame_flk (n : Frame) (k : BeginKind) (s : State) : (beginFrame n k s).flk = s.flk := rfl
@[simp] theorem beginFrame_hpt (n : Frame) (k : BeginKind) (s : State) : (beginFrame n k s).hpt = s.hpt := rfl
@[simp] theorem beginFrame_handed (n : Frame) (k : BeginKind) (s : State) : (beginFrame n k s).handed = s.handed := rfl
@[simp] theorem beginFrame_resetLow (n : Frame) (k : BeginKind) (s : State) : (beginFrame n k s).resetLow = s.resetLow := rfl
@[simp] theorem beginFrame_hostOut (n : Frame) (k : BeginKind) (s : State) : (beginFrame n k s).hostOut = s.hostOut := rfl
@[simp] theorem beginFrame_fieldOut (n : Frame) (k : BeginKind) (s : State) : (beginFrame n k s).fieldOut = s.fieldOut := rfl
@[simp] theorem beginFrame_pending (n : Frame) (k : BeginKind) (s : State) : (beginFrame n k s).pending = s.pending := rfl

/-! ### readStatus -/

@[simp] theorem readStatus_frt (s : State) : (readStatus s).frt = s.frt := rfl
@[simp] theorem readStatus_znt (s : State) : (readStatus s).znt = s.znt := rfl
@[simp] theorem readStatus_atq (s : State) : (readStatus s).atq = s.atq := rfl
@[simp] theorem readStatus_rst (s : State) : (readStatus s).rst = s.rst := rfl
@[simp] theorem readStatus_air (s : State) : (readStatus s).air = s.air := rfl
@[simp] theorem readStatus_hlk (s : State) : (readStatus s).hlk = s.hlk := rfl
@[simp] theorem readStatus_rev (s : State) : (readStatus s).rev = s.rev := rfl
@[simp] theorem readStatus_cal (s : State) : (readStatus s).cal = s.cal := rfl
@[simp] theorem readStatus_flk (s : State) : (readStatus s).flk = s.flk := rfl
@[simp] theorem readStatus_handed (s : State) : (readStatus s).handed = s.handed := rfl
@[simp] theorem readStatus_resetLow (s : State) : (readStatus s).resetLow = s.resetLow := rfl
@[simp] theorem readStatus_fieldOut (s : State) : (readStatus s).fieldOut = s.fieldOut := rfl
@[simp] theorem readStatus_pending (s : State) : (readStatus s).pending = s.pending := rfl
@[simp] theorem readStatus_hpt_request (s : State) : (readStatus s).hpt.request = s.hpt.request := rfl
@[simp] theorem readStatus_hpt_reply (s : State) : (readStatus s).hpt.reply = s.hpt.reply := rfl
@[simp] theorem readStatus_hpt_readPos (s : State) : (readStatus s).hpt.readPos = s.hpt.readPos := rfl
@[simp] theorem readStatus_hpt_phase (s : State) : (readStatus s).hpt.phase = s.hpt.phase := rfl
@[simp] theorem readStatus_hpt_flags (s : State) : (readStatus s).hpt.flags = s.hpt.flags := rfl
@[simp] theorem readStatus_hpt_mask (s : State) : (readStatus s).hpt.mask = s.hpt.mask := rfl
@[simp] theorem readStatus_hpt_cursorTable (s : State) : (readStatus s).hpt.cursorTable = s.hpt.cursorTable := rfl
@[simp] theorem readStatus_hpt_cursorIndex (s : State) : (readStatus s).hpt.cursorIndex = s.hpt.cursorIndex := rfl

end Sys2Proof.Machine
end

