-- ==== Sys2Proof/Laws/Ops.lean ====
section
/-! SUPPORT. The lemmas of the named operations over the records: walks over keys, reading what was written, claims, the
holding slot. -/

namespace Sys2Proof.Machine

/-! ## Walks over keys -/

@[simp] theorem forEach_nil (f : α → State → State) (s : State) : forEach [] f s = s := rfl

@[simp] theorem forEach_cons (a : α) (l : List α) (f : α → State → State) (s : State) :
    forEach (a :: l) f s = forEach l f (f a s) := rfl

/-- What every act of a walk keeps, the walk keeps. -/
theorem forEach_keeps (P : State → Prop) (f : α → State → State) (h : ∀ a s, P s → P (f a s)) (l : List α) (s : State)
    (hs : P s) : P (forEach l f s) := by
  induction l generalizing s with
  | nil => exact hs
  | cons a l ih => exact ih _ (h a s hs)

/-- What every act of a walk leaves as it was, the walk leaves as it was. -/
theorem forEach_same (g : State → β) (f : α → State → State) (h : ∀ a s, g (f a s) = g s) (l : List α) (s : State) :
    g (forEach l f s) = g s :=
  forEach_keeps (fun t => g t = g s) f (fun a t ht => (h a t).trans ht) l s rfl

/-! ## Reading what was written -/

theorem zone_modifyZone (z w : Fin 32) (f : Zone → Zone) (s : State) :
    (s.modifyZone z f).zone w = if w = z then f (s.zone z) else s.zone w := by
  unfold State.zone State.modifyZone
  by_cases h : w = z
  · subst h; simp [State.zone]
  · have : z.val ≠ w.val := fun e => h (Fin.ext e.symm)
    simp [h, this]

@[simp] theorem zone_modifyZone_self (z : Fin 32) (f : Zone → Zone) (s : State) :
    (s.modifyZone z f).zone z = f (s.zone z) := by simp [zone_modifyZone]

theorem slot_setSlot (i j : Fin 240) (v : Slot) (s : State) :
    (s.setSlot i v).slot j = if j = i then v else s.slot j := by
  unfold State.slot State.setSlot
  by_cases h : j = i
  · subst h; simp
  · have : i.val ≠ j.val := fun e => h (Fin.ext e.symm)
    simp [h, this]

theorem person_setSlot (i j : Fin 240) (v : Slot) (s : State) :
    (s.setSlot i v).person j = if j = i then v.person else s.person j := by
  unfold State.person; rw [slot_setSlot]; split <;> rfl

theorem person_modifyPerson (i j : Fin 240) (f : Person → Person) (s : State) :
    (s.modifyPerson i f).person j = if j = i then (s.person i).map f else s.person j := by
  unfold State.modifyPerson; rw [person_setSlot]

@[simp] theorem person_modifyPerson_self (i : Fin 240) (f : Person → Person) (s : State) :
    (s.modifyPerson i f).person i = (s.person i).map f := by simp [person_modifyPerson]

theorem gen_modifyPerson (i j : Fin 240) (f : Person → Person) (s : State) :
    ((s.modifyPerson i f).slot j).gen = (s.slot j).gen := by
  unfold State.modifyPerson; rw [slot_setSlot]; split
  · subst j; rfl
  · rfl

@[simp] theorem handle_modifyPerson (i j : Fin 240) (f : Person → Person) (s : State) :
    (s.modifyPerson i f).handle j = s.handle j := by simp [State.handle, gen_modifyPerson]

@[simp] theorem personSubject_modifyPerson (i j : Fin 240) (f : Person → Person) (s : State) :
    (s.modifyPerson i f).personSubject j = s.personSubject j := by simp [State.personSubject, gen_modifyPerson]

theorem slot_mapPersons (j : Fin 240) (f : Person → Person) (s : State) :
    (s.mapPersons f).slot j = { gen := (s.slot j).gen, person := (s.person j).map f } := by
  simp [State.slot, State.mapPersons, State.person]

@[simp] theorem person_mapPersons (j : Fin 240) (f : Person → Person) (s : State) :
    (s.mapPersons f).person j = (s.person j).map f := by
  have := slot_mapPersons j f s
  simp only [State.person] at *
  rw [this]

theorem channel_modifyChannel (c d : Fin 32) (f : Channel → Channel) (s : State) :
    (s.modifyChannel c f).channel d = if d = c then f (s.channel c) else s.channel d := by
  unfold State.channel State.modifyChannel
  by_cases h : d = c
  · subst h; simp [State.channel]
  · have : c.val ≠ d.val := fun e => h (Fin.ext e.symm)
    simp [h, this]

@[simp] theorem channel_modifyChannel_self (c : Fin 32) (f : Channel → Channel) (s : State) :
    (s.modifyChannel c f).channel c = f (s.channel c) := by simp [channel_modifyChannel]

theorem refuge_modifyRefuge (r q : Fin 8) (f : Refuge → Refuge) (s : State) :
    (s.modifyRefuge r f).refuge q = if q = r then f (s.refuge r) else s.refuge q := by
  unfold State.refuge State.modifyRefuge
  by_cases h : q = r
  · subst h; simp [State.refuge]
  · have : r.val ≠ q.val := fun e => h (Fin.ext e.symm)
    simp [h, this]

@[simp] theorem refuge_modifyRefuge_self (r : Fin 8) (f : Refuge → Refuge) (s : State) :
    (s.modifyRefuge r f).refuge r = f (s.refuge r) := by simp [refuge_modifyRefuge]

theorem truckAt_setTruckAt (p q : Fin 24) (v : Option Truck) (s : State) :
    (s.setTruckAt p v).truckAt q = if q = p then v else s.truckAt q := by
  unfold State.truckAt State.setTruckAt
  by_cases h : q = p
  · subst h; simp
  · have : p.val ≠ q.val := fun e => h (Fin.ext e.symm)
    simp [h, this]

/-! ## The roster as a list -/

/-- The roster's slots with their numbers are the slots read one by one. -/
theorem indexedSlots_eq (s : State) : s.indexedSlots = allSlots.map (fun i => (i, s.slot i)) := by
  have hlen : s.rst.slots.toList.length = 240 := by simp
  apply List.ext_getElem
  · simp [State.indexedSlots, allSlots]
  · intro n h1 h2
    simp [State.indexedSlots, allSlots, State.slot]

/-- A slot is among those that hold a record of a kind exactly when it holds one. -/
theorem mem_slotsWhere (s : State) (f : Person → Bool) (i : Fin 240) :
    i ∈ s.slotsWhere f ↔ ∃ p, s.person i = some p ∧ f p = true := by
  simp only [State.slotsWhere, indexedSlots_eq, List.mem_map, List.mem_filter, allSlots]
  constructor
  · rintro ⟨⟨j, v⟩, ⟨⟨k, _, hk⟩, hh⟩, rfl⟩
    simp only [Prod.mk.injEq] at hk
    obtain ⟨rfl, rfl⟩ := hk
    simp only [Slot.holds] at hh
    split at hh
    · next p hp => exact ⟨p, hp, hh⟩
    · cases hh
  · rintro ⟨p, hp, hf⟩
    refine ⟨(i, s.slot i), ⟨⟨i, List.mem_finRange i, rfl⟩, ?_⟩, rfl⟩
    simp only [State.person] at hp
    simp [Slot.holds, hp, hf]

/-- The slots that hold a record. -/
theorem mem_liveSlots (s : State) (i : Fin 240) : i ∈ s.liveSlots ↔ ∃ p, s.person i = some p := by
  simp [State.liveSlots, mem_slotsWhere]

/-! ## Changes of a truck record -/

/-- A change of a truck record changes the truck table and nothing else. -/
theorem modifyTruck_only (n : Nat) (f : Truck → Truck) (s : State) :
    s.modifyTruck n f = { s with hlk := { s.hlk with trucks := (s.modifyTruck n f).hlk.trucks } } := by
  unfold State.modifyTruck; split <;> rfl

/-! ## Claims (R27, R29, R30) -/

/-- A count claim changes zone records and nothing else. -/
theorem countClaim_only (a b : Option (Fin 32)) (s : State) :
    countClaim a b s = { s with znt := { s.znt with zones := (countClaim a b s).znt.zones } } := by
  unfold countClaim
  split
  · rfl
  · rfl
  · rfl
  · split <;> rfl

/-- A count claim with no counted zone before or after changes nothing. -/
@[simp] theorem countClaim_none (s : State) : countClaim none none s = s := rfl

/-- A count claim with the same counted zone before and after changes nothing. -/
@[simp] theorem countClaim_self (a : Option (Fin 32)) (s : State) : countClaim a a s = s := by
  cases a <;> simp [countClaim]

/-- An add claim changes zone records and nothing else. -/
theorem addClaim_only (n : Nat) (z : Fin 32) (s : State) :
    addClaim n z s = { s with znt := { s.znt with zones := (addClaim n z s).znt.zones } } := by
  unfold addClaim; split <;> rfl

/-- A remove claim changes zone records and nothing else. -/
theorem removeClaim_only (n : Nat) (z : Fin 32) (s : State) :
    removeClaim n z s = { s with znt := { s.znt with zones := (removeClaim n z s).znt.zones } } := rfl

/-- A truck number is a member of a list it was put into, and so are the old members. -/
theorem mem_insertNumber (n m : Nat) (l : List Nat) : m ∈ insertNumber n l ↔ m = n ∨ m ∈ l := by
  induction l with
  | nil => simp [insertNumber]
  | cons a l ih =>
    simp only [insertNumber]
    split
    · simp
    · split
      · next h => subst h; simp
      · simp [ih, or_left_comm]

/-! ## The holding slot (R173) -/

/-- A message written into the holding slot changes the slot and may raise TX_LATE. -/
theorem writeHolding_only (m : Outbound) (s : State) :
    writeHolding m s =
      { s with flk := { s.flk with holding := some { message := m, stamp := s.stamp } },
               hpt := { s.hpt with flags := (writeHolding m s).hpt.flags } } := by
  unfold writeHolding; split <;> rfl

/-! ## Requests that name a record -/

/-- A handle that passes the checks of R53 reaches the owner. -/
theorem withNamed_live (slot gen : Byte) (f : Fin 240 → Person → State → State) (s : State) (h : Handle) (p : Person)
    (hh : handle? slot gen = some h) (hp : s.person h.slot = some p) (hg : (s.slot h.slot).gen = h.gen) :
    withNamed slot gen f s = f h.slot p s := by
  simp [withNamed, hh, hp, hg]

end Sys2Proof.Machine
end

