-- ==== Sys2Proof/Laws/Attention.lean ====
section
/-! SUPPORT. The attention queue's operations: what they may change, and that each keeps the queue's law L7. -/

namespace Sys2Proof.Machine

open Sys2Proof.Safety

/-! ## What an operation of the queue may change -/

/-- Two states differ at most in the attention queue and in the notice flags. -/
def QueueOnly (s t : State) : Prop := t = { s with atq := t.atq, hpt := { s.hpt with flags := t.hpt.flags } }

theorem QueueOnly.refl (s : State) : QueueOnly s s := rfl

theorem QueueOnly.trans {s t u : State} (h : QueueOnly s t) (k : QueueOnly t u) : QueueOnly s u := by
  unfold QueueOnly at *
  rw [k, h]

/-- Reading the pieces of a state that differs in the queue alone. -/
theorem QueueOnly.same {s t : State} (h : QueueOnly s t) :
    t.frt = s.frt ∧ t.znt = s.znt ∧ t.rst = s.rst ∧ t.air = s.air ∧ t.hlk = s.hlk ∧ t.rev = s.rev ∧ t.cal = s.cal
      ∧ t.flk = s.flk ∧ t.handed = s.handed ∧ t.resetLow = s.resetLow ∧ t.hostOut = s.hostOut ∧ t.fieldOut = s.fieldOut
      ∧ t.pending = s.pending := by
  unfold QueueOnly at h
  rw [h]
  simp

theorem changeItem_only (k : ItemKind) (x : Subject) (f : Item → Item) (s : State) : QueueOnly s (s.changeItem k x f) := rfl

theorem eraseItem_only (k : ItemKind) (x : Subject) (s : State) : QueueOnly s (s.eraseItem k x) := rfl

theorem setDue_only (k : ItemKind) (x : Subject) (f : Frame) (s : State) : QueueOnly s (s.setDue k x f) := rfl

theorem clearDue_only (k : ItemKind) (x : Subject) (s : State) : QueueOnly s (s.clearDue k x) := rfl

theorem notify_only (n : Notice) (s : State) : QueueOnly s (s.notify n) := rfl

theorem enterItem_only (k : ItemKind) (x : Subject) (f : Frame) (b : Bool) (d : Detail) (s : State) :
    QueueOnly s (enterItem k x f b d s) := rfl

theorem reinsert_only (s : State) : QueueOnly s (reinsert s) := by
  unfold reinsert
  split
  · split
    · exact (clearDue_only _ _ s).trans (enterItem_only ..)
    · rfl
  · rfl

theorem removeItem_only (k : ItemKind) (x : Subject) (s : State) : QueueOnly s (removeItem k x s) :=
  (eraseItem_only k x s).trans (reinsert_only _)

theorem meetFullQueue_only (k : ItemKind) (x : Subject) (b : Bool) (d : Detail) (s : State) :
    QueueOnly s (meetFullQueue k x b d s) := by
  unfold meetFullQueue
  split
  · rfl
  · split
    · refine QueueOnly.trans ?_ (enterItem_only ..)
      split
      · exact (eraseItem_only ..).trans (setDue_only ..)
      · exact eraseItem_only ..
    · split
      · rfl
      · exact setDue_only ..

/-- An insert changes the attention queue and may raise ATTENTION, and changes nothing else (R38 to R40, R50). -/
theorem insertItem_only (k : ItemKind) (x : Subject) (b : Bool) (d : Detail) (r : Bool) (s : State) :
    QueueOnly s (insertItem k x b d r s) := by
  unfold insertItem
  split
  · split
    · simp only
      split
      · exact (changeItem_only ..).trans (notify_only ..)
      · exact changeItem_only ..
    · exact (eraseItem_only ..).trans (enterItem_only ..)
  · split
    · rfl
    · split
      · exact enterItem_only ..
      · exact meetFullQueue_only ..

theorem raiseItem_only (k : ItemKind) (x : Subject) (s : State) : QueueOnly s (raiseItem k x s) := insertItem_only ..

/-- An end changes the attention queue and may raise ATTENTION by a reinsertion, and changes nothing else (R42). -/
theorem endItem_only (k : ItemKind) (x : Subject) (s : State) : QueueOnly s (endItem k x s) := by
  unfold endItem
  split
  · split
    · split
      · exact removeItem_only ..
      · exact changeItem_only ..
    · rfl
  · exact clearDue_only ..

theorem endCallItem_only (k : ItemKind) (x : Subject) (s : State) : QueueOnly s (endCallItem k x s) := by
  unfold endCallItem
  split
  · exact removeItem_only ..
  · exact clearDue_only ..

theorem forEach_only (f : α → State → State) (h : ∀ a s, QueueOnly s (f a s)) (l : List α) (s : State) :
    QueueOnly s (forEach l f s) := by
  induction l generalizing s with
  | nil => rfl
  | cons a l ih => exact (h a s).trans (ih _)

/-- A subject's retirement changes the attention queue and may raise ATTENTION, and changes nothing else (R45). -/
theorem retireSubject_only (x : Subject) (s : State) : QueueOnly s (retireSubject x s) := by
  unfold retireSubject
  exact QueueOnly.trans (t := { s with atq := { s.atq with due := s.atq.due.filter (fun d => d.subject != x) } }) rfl
    (forEach_only _ (fun k t => removeItem_only k x t) _ _)

theorem acknowledge_only (it : Item) (s : State) : QueueOnly s (acknowledge it s) := by
  unfold acknowledge
  simp only
  split
  · split
    · exact (changeItem_only ..).trans (removeItem_only ..)
    · exact changeItem_only ..
  · exact changeItem_only ..
  · exact (changeItem_only ..).trans (removeItem_only ..)

/-! ## Looking an item up -/

theorem isFor_iff (k : ItemKind) (x : Subject) (it : Item) : it.isFor k x = true ↔ it.kind = k ∧ it.subject = x := by
  simp [Item.isFor]

theorem item_none (k : ItemKind) (x : Subject) (s : State) :
    s.item k x = none ↔ ∀ it ∈ s.atq.items, ¬ (it.kind = k ∧ it.subject = x) := by
  simp only [State.item, List.find?_eq_none, isFor_iff]

theorem item_some {k : ItemKind} {x : Subject} {s : State} {it : Item} (h : s.item k x = some it) :
    it ∈ s.atq.items ∧ it.kind = k ∧ it.subject = x :=
  ⟨List.mem_of_find?_eq_some h, (isFor_iff k x it).1 (List.find?_some h)⟩

theorem dueMark_none (k : ItemKind) (x : Subject) (s : State) :
    s.dueMark k x = none ↔ ∀ d ∈ s.atq.due, ¬ (d.kind = k ∧ d.subject = x) := by
  simp [State.dueMark, List.find?_eq_none]

/-! ## The law L7 -/

/-- A kind and subject stand in no item of a queue. -/
def Absent (k : ItemKind) (x : Subject) (q : AttentionQueue) : Prop := ∀ it ∈ q.items, ¬ (it.kind = k ∧ it.subject = x)

theorem mem_placeItem (now : Frame) (it a : Item) (l : List Item) : a ∈ placeItem now it l ↔ a = it ∨ a ∈ l := by
  induction l with
  | nil => simp [placeItem]
  | cons b l ih =>
    simp only [placeItem]
    split
    · simp [ih, or_left_comm]
    · simp

theorem length_placeItem (now : Frame) (it : Item) (l : List Item) : (placeItem now it l).length = l.length + 1 := by
  induction l with
  | nil => rfl
  | cons b l ih =>
    simp only [placeItem]
    split <;> simp [ih]

theorem pairwise_placeItem (now : Frame) (it : Item) (l : List Item)
    (h : l.Pairwise (fun a b => ¬ (a.kind = b.kind ∧ a.subject = b.subject)))
    (ha : ∀ a ∈ l, ¬ (a.kind = it.kind ∧ a.subject = it.subject)) :
    (placeItem now it l).Pairwise (fun a b => ¬ (a.kind = b.kind ∧ a.subject = b.subject)) := by
  induction l with
  | nil => simp [placeItem]
  | cons b l ih =>
    rw [List.pairwise_cons] at h
    simp only [placeItem]
    split
    · rw [List.pairwise_cons]
      refine ⟨fun a hm => ?_, ih h.2 (fun a hm => ha a (List.mem_cons_of_mem _ hm))⟩
      rcases (mem_placeItem ..).1 hm with rfl | hm
      · exact ha b List.mem_cons_self
      · exact h.1 a hm
    · rw [List.pairwise_cons]
      exact ⟨fun a hm e => ha a hm ⟨e.1.symm, e.2.symm⟩, List.pairwise_cons.2 h⟩

theorem mem_insertDue (d e : DueMark) (l : List DueMark) : e ∈ insertDue d l ↔ e = d ∨ e ∈ l := by
  induction l with
  | nil => simp [insertDue]
  | cons b l ih =>
    simp only [insertDue]
    split
    · simp
    · simp [ih, or_left_comm]

theorem mem_clearDueIn (k : ItemKind) (x : Subject) (d : DueMark) (l : List DueMark) :
    d ∈ clearDueIn k x l ↔ d ∈ l ∧ ¬ (d.kind = k ∧ d.subject = x) := by
  simp only [clearDueIn, List.mem_filter, Bool.not_eq_true', Bool.and_eq_false_iff, beq_eq_false_iff_ne, ne_eq, not_and_or]

theorem mem_eraseItem (k : ItemKind) (x : Subject) (s : State) (a : Item) :
    a ∈ (s.eraseItem k x).atq.items ↔ a ∈ s.atq.items ∧ ¬ (a.kind = k ∧ a.subject = x) := by
  simp only [State.eraseItem, Item.isFor, List.mem_filter, Bool.not_eq_true', Bool.and_eq_false_iff, beq_eq_false_iff_ne,
    ne_eq, not_and_or]

/-- Erasing keeps the law. -/
theorem eraseItem_holds (k : ItemKind) (x : Subject) (s : State) (h : QueueHolds s.atq) :
    QueueHolds (s.eraseItem k x).atq ∧ Absent k x (s.eraseItem k x).atq := by
  refine ⟨⟨(List.length_filter_le ..).trans h.1, h.2.1.filter _, ?_⟩, fun a ha => ((mem_eraseItem ..).1 ha).2⟩
  intro d hd a ha
  exact h.2.2 d hd a ((mem_eraseItem ..).1 ha).1

/-- Erasing an item that is there makes room. -/
theorem eraseItem_room {k : ItemKind} {x : Subject} {s : State} {it : Item} (hm : it ∈ s.atq.items) (hk : it.kind = k)
    (hx : it.subject = x) : (s.eraseItem k x).atq.items.length < s.atq.items.length := by
  apply List.length_filter_lt_length_iff_exists.2
  exact ⟨it, hm, by simp [Item.isFor, hk, hx]⟩

/-- A change in place that keeps kind and subject keeps the law. -/
theorem changeItem_holds (k : ItemKind) (x : Subject) (f : Item → Item) (s : State) (h : QueueHolds s.atq)
    (hf : ∀ a, (f a).kind = a.kind ∧ (f a).subject = a.subject) : QueueHolds (s.changeItem k x f).atq := by
  have hg : ∀ a : Item, (if a.isFor k x then f a else a).kind = a.kind
      ∧ (if a.isFor k x then f a else a).subject = a.subject := by
    intro a; split
    · exact hf a
    · exact ⟨rfl, rfl⟩
  refine ⟨by simpa [State.changeItem] using h.1, ?_, ?_⟩
  · simp only [State.changeItem]
    rw [List.pairwise_map]
    refine h.2.1.imp ?_
    intro a b hab
    rw [(hg a).1, (hg a).2, (hg b).1, (hg b).2]
    exact hab
  · intro d hd a ha
    simp only [State.changeItem, List.mem_map] at ha
    obtain ⟨b, hb, rfl⟩ := ha
    rw [(hg b).1, (hg b).2]
    exact h.2.2 d hd b hb

/-- Setting a mark for a matter that has no item keeps the law. -/
theorem setDue_holds (k : ItemKind) (x : Subject) (f : Frame) (s : State) (h : QueueHolds s.atq) (ha : Absent k x s.atq) :
    QueueHolds (s.setDue k x f).atq := by
  refine ⟨h.1, h.2.1, ?_⟩
  intro d hd a ham
  simp only [State.setDue] at hd ham
  rcases (mem_insertDue ..).1 hd with rfl | hd
  · exact ha a ham
  · exact h.2.2 d ((mem_clearDueIn ..).1 hd).1 a ham

/-- Clearing a mark keeps the law. -/
theorem clearDue_holds (k : ItemKind) (x : Subject) (s : State) (h : QueueHolds s.atq) : QueueHolds (s.clearDue k x).atq :=
  ⟨h.1, h.2.1, fun d hd a ha => h.2.2 d ((mem_clearDueIn ..).1 hd).1 a ha⟩

/-- A matter with no item and no mark may enter where there is room. -/
theorem enterItem_holds (k : ItemKind) (x : Subject) (f : Frame) (b : Bool) (e : Detail) (s : State) (h : QueueHolds s.atq)
    (hr : s.atq.items.length < Config.queueCapacity) (ha : Absent k x s.atq)
    (hd : ∀ d ∈ s.atq.due, ¬ (d.kind = k ∧ d.subject = x)) : QueueHolds (enterItem k x f b e s).atq := by
  refine ⟨?_, ?_, ?_⟩
  · simp only [enterItem, State.notify, takePlace, length_placeItem]
    exact hr
  · simp only [enterItem, State.notify, takePlace]
    exact pairwise_placeItem _ _ _ h.2.1 ha
  · intro d hdm a ham
    simp only [enterItem, State.notify, takePlace] at hdm ham
    rcases (mem_placeItem ..).1 ham with rfl | ham
    · exact fun e => hd d hdm ⟨e.1.symm, e.2.symm⟩
    · exact h.2.2 d hdm a ham

theorem mem_chosenDue (now : Frame) (l : List DueMark) (d : DueMark) (h : chosenDue now l = some d) : d ∈ l := by
  induction l generalizing d with
  | nil => simp [chosenDue] at h
  | cons b l ih =>
    simp only [chosenDue] at h
    split at h
    · next e he =>
      split at h
      · injection h with h; subst h; exact List.mem_cons_of_mem _ (ih e he)
      · injection h with h; subst h; exact List.mem_cons_self
    · injection h with h; subst h; exact List.mem_cons_self

theorem reinsert_holds (s : State) (h : QueueHolds s.atq) : QueueHolds (reinsert s).atq := by
  unfold reinsert
  split
  · next hr =>
    split
    · next d hd =>
      have hm := mem_chosenDue _ _ _ hd
      refine enterItem_holds _ _ _ _ _ _ (clearDue_holds _ _ _ h) hr ?_ ?_
      · intro a ha
        exact h.2.2 d hm a ha
      · intro e he
        exact ((mem_clearDueIn ..).1 he).2
    · exact h
  · exact h

theorem removeItem_holds (k : ItemKind) (x : Subject) (s : State) (h : QueueHolds s.atq) :
    QueueHolds (removeItem k x s).atq := reinsert_holds _ (eraseItem_holds k x s h).1

theorem mem_candidate (l : List Item) (a : Item) (h : candidate l = some a) : a ∈ l := by
  unfold candidate at h
  split at h
  · next b hb =>
    injection h with h; subst h
    exact List.mem_reverse.1 (List.mem_of_find?_eq_some hb)
  · exact List.mem_of_getLast? h

theorem meetFullQueue_holds (k : ItemKind) (x : Subject) (b : Bool) (e : Detail) (s : State) (h : QueueHolds s.atq)
    (ha : Absent k x s.atq) (hd : ∀ d ∈ s.atq.due, ¬ (d.kind = k ∧ d.subject = x)) :
    QueueHolds (meetFullQueue k x b e s).atq := by
  unfold meetFullQueue
  split
  · exact h
  · next old hold =>
    have hm := mem_candidate _ _ hold
    split
    · have hx := eraseItem_holds old.kind old.subject s h
      have hr : (s.eraseItem old.kind old.subject).atq.items.length < Config.queueCapacity :=
        lt_of_lt_of_le (eraseItem_room hm rfl rfl) h.1
      have hne : ¬ (old.kind = k ∧ old.subject = x) := ha old hm
      have hab : Absent k x (s.eraseItem old.kind old.subject).atq := fun a hma => ha a ((mem_eraseItem ..).1 hma).1
      simp only
      split
      · refine enterItem_holds _ _ _ _ _ _ (setDue_holds _ _ _ _ hx.1 hx.2) hr hab ?_
        intro d hdm
        simp only [State.setDue] at hdm
        rcases (mem_insertDue ..).1 hdm with rfl | hdm
        · exact hne
        · exact hd d ((mem_clearDueIn ..).1 hdm).1
      · exact enterItem_holds _ _ _ _ _ _ hx.1 hr hab hd
    · split
      · exact h
      · exact setDue_holds _ _ _ _ h ha

/-- An insert keeps the law L7. -/
theorem insertItem_holds (k : ItemKind) (x : Subject) (b : Bool) (e : Detail) (r : Bool) (s : State) (h : QueueHolds s.atq) :
    QueueHolds (insertItem k x b e r s).atq := by
  unfold insertItem
  split
  · next it hit =>
    have hi := item_some hit
    have hmark : ∀ d ∈ s.atq.due, ¬ (d.kind = k ∧ d.subject = x) := by
      intro d hd hkx
      exact h.2.2 d hd it hi.1 ⟨hi.2.1.trans hkx.1.symm, hi.2.2.trans hkx.2.symm⟩
    split
    · simp only
      split
      · exact changeItem_holds _ _ _ _ h (fun _ => ⟨rfl, rfl⟩)
      · exact changeItem_holds _ _ _ _ h (fun _ => ⟨rfl, rfl⟩)
    · have hx := eraseItem_holds k x s h
      exact enterItem_holds _ _ _ _ _ _ hx.1 (lt_of_lt_of_le (eraseItem_room hi.1 hi.2.1 hi.2.2) h.1) hx.2 hmark
  · next hn =>
    have ha : Absent k x s.atq := (item_none ..).1 hn
    split
    · exact h
    · next hm =>
      have hd := (dueMark_none ..).1 hm
      split
      · next hr => exact enterItem_holds _ _ _ _ _ _ h hr ha hd
      · exact meetFullQueue_holds _ _ _ _ _ h ha hd

theorem raiseItem_holds (k : ItemKind) (x : Subject) (s : State) (h : QueueHolds s.atq) : QueueHolds (raiseItem k x s).atq :=
  insertItem_holds _ _ _ _ _ _ h

/-- An end keeps the law L7. -/
theorem endItem_holds (k : ItemKind) (x : Subject) (s : State) (h : QueueHolds s.atq) : QueueHolds (endItem k x s).atq := by
  unfold endItem
  split
  · split
    · split
      · exact removeItem_holds _ _ _ h
      · exact changeItem_holds _ _ _ _ h (fun _ => ⟨rfl, rfl⟩)
    · exact h
  · exact clearDue_holds _ _ _ h

theorem endCallItem_holds (k : ItemKind) (x : Subject) (s : State) (h : QueueHolds s.atq) :
    QueueHolds (endCallItem k x s).atq := by
  unfold endCallItem
  split
  · exact removeItem_holds _ _ _ h
  · exact clearDue_holds _ _ _ h

/-- A subject's retirement keeps the law L7. -/
theorem retireSubject_holds (x : Subject) (s : State) (h : QueueHolds s.atq) : QueueHolds (retireSubject x s).atq := by
  unfold retireSubject
  refine forEach_keeps (fun t => QueueHolds t.atq) _ (fun k t ht => removeItem_holds k x t ht) _ _ ?_
  exact ⟨h.1, h.2.1, fun d hd a ha => h.2.2 d (List.mem_filter.1 hd).1 a ha⟩

theorem acknowledge_holds (it : Item) (s : State) (h : QueueHolds s.atq) : QueueHolds (acknowledge it s).atq := by
  have hc := changeItem_holds it.kind it.subject (fun i => { i with state := .acked }) s h (fun _ => ⟨rfl, rfl⟩)
  unfold acknowledge
  simp only
  split
  · split
    · exact removeItem_holds _ _ _ hc
    · exact hc
  · exact hc
  · exact removeItem_holds _ _ _ hc

end Sys2Proof.Machine
end

