-- ==== Sys2Proof/Laws/Frames.lean ====
section
/-! SUPPORT. The operations over people, trucks and refuges: what each leaves as it was, one lemma for each field. -/

namespace Sys2Proof.Machine

set_option linter.unusedTactic false
set_option linter.unnecessarySeqFocus false
set_option linter.unreachableTactic false

/-! ### reinsert -/

@[simp] theorem reinsert_frt (s : State) : (reinsert s).frt = s.frt := by
  rw [show QueueOnly s _ from reinsert_only s]
@[simp] theorem reinsert_znt (s : State) : (reinsert s).znt = s.znt := by
  rw [show QueueOnly s _ from reinsert_only s]
@[simp] theorem reinsert_rst (s : State) : (reinsert s).rst = s.rst := by
  rw [show QueueOnly s _ from reinsert_only s]
@[simp] theorem reinsert_air (s : State) : (reinsert s).air = s.air := by
  rw [show QueueOnly s _ from reinsert_only s]
@[simp] theorem reinsert_hlk (s : State) : (reinsert s).hlk = s.hlk := by
  rw [show QueueOnly s _ from reinsert_only s]
@[simp] theorem reinsert_rev (s : State) : (reinsert s).rev = s.rev := by
  rw [show QueueOnly s _ from reinsert_only s]
@[simp] theorem reinsert_cal (s : State) : (reinsert s).cal = s.cal := by
  rw [show QueueOnly s _ from reinsert_only s]
@[simp] theorem reinsert_flk (s : State) : (reinsert s).flk = s.flk := by
  rw [show QueueOnly s _ from reinsert_only s]
@[simp] theorem reinsert_handed (s : State) : (reinsert s).handed = s.handed := by
  rw [show QueueOnly s _ from reinsert_only s]
@[simp] theorem reinsert_resetLow (s : State) : (reinsert s).resetLow = s.resetLow := by
  rw [show QueueOnly s _ from reinsert_only s]
@[simp] theorem reinsert_hostOut (s : State) : (reinsert s).hostOut = s.hostOut := by
  rw [show QueueOnly s _ from reinsert_only s]
@[simp] theorem reinsert_fieldOut (s : State) : (reinsert s).fieldOut = s.fieldOut := by
  rw [show QueueOnly s _ from reinsert_only s]
@[simp] theorem reinsert_pending (s : State) : (reinsert s).pending = s.pending := by
  rw [show QueueOnly s _ from reinsert_only s]
@[simp] theorem reinsert_hpt_request (s : State) : (reinsert s).hpt.request = s.hpt.request := by
  rw [show QueueOnly s _ from reinsert_only s]
@[simp] theorem reinsert_hpt_reply (s : State) : (reinsert s).hpt.reply = s.hpt.reply := by
  rw [show QueueOnly s _ from reinsert_only s]
@[simp] theorem reinsert_hpt_readPos (s : State) : (reinsert s).hpt.readPos = s.hpt.readPos := by
  rw [show QueueOnly s _ from reinsert_only s]
@[simp] theorem reinsert_hpt_overrun (s : State) : (reinsert s).hpt.overrun = s.hpt.overrun := by
  rw [show QueueOnly s _ from reinsert_only s]
@[simp] theorem reinsert_hpt_phase (s : State) : (reinsert s).hpt.phase = s.hpt.phase := by
  rw [show QueueOnly s _ from reinsert_only s]
@[simp] theorem reinsert_hpt_mask (s : State) : (reinsert s).hpt.mask = s.hpt.mask := by
  rw [show QueueOnly s _ from reinsert_only s]
@[simp] theorem reinsert_hpt_cursorTable (s : State) : (reinsert s).hpt.cursorTable = s.hpt.cursorTable := by
  rw [show QueueOnly s _ from reinsert_only s]
@[simp] theorem reinsert_hpt_cursorIndex (s : State) : (reinsert s).hpt.cursorIndex = s.hpt.cursorIndex := by
  rw [show QueueOnly s _ from reinsert_only s]

/-! ### removeItem -/

@[simp] theorem removeItem_frt (k : ItemKind) (x : Subject) (s : State) : (removeItem k x s).frt = s.frt := by
  rw [show QueueOnly s _ from removeItem_only k x s]
@[simp] theorem removeItem_znt (k : ItemKind) (x : Subject) (s : State) : (removeItem k x s).znt = s.znt := by
  rw [show QueueOnly s _ from removeItem_only k x s]
@[simp] theorem removeItem_rst (k : ItemKind) (x : Subject) (s : State) : (removeItem k x s).rst = s.rst := by
  rw [show QueueOnly s _ from removeItem_only k x s]
@[simp] theorem removeItem_air (k : ItemKind) (x : Subject) (s : State) : (removeItem k x s).air = s.air := by
  rw [show QueueOnly s _ from removeItem_only k x s]
@[simp] theorem removeItem_hlk (k : ItemKind) (x : Subject) (s : State) : (removeItem k x s).hlk = s.hlk := by
  rw [show QueueOnly s _ from removeItem_only k x s]
@[simp] theorem removeItem_rev (k : ItemKind) (x : Subject) (s : State) : (removeItem k x s).rev = s.rev := by
  rw [show QueueOnly s _ from removeItem_only k x s]
@[simp] theorem removeItem_cal (k : ItemKind) (x : Subject) (s : State) : (removeItem k x s).cal = s.cal := by
  rw [show QueueOnly s _ from removeItem_only k x s]
@[simp] theorem removeItem_flk (k : ItemKind) (x : Subject) (s : State) : (removeItem k x s).flk = s.flk := by
  rw [show QueueOnly s _ from removeItem_only k x s]
@[simp] theorem removeItem_handed (k : ItemKind) (x : Subject) (s : State) : (removeItem k x s).handed = s.handed := by
  rw [show QueueOnly s _ from removeItem_only k x s]
@[simp] theorem removeItem_resetLow (k : ItemKind) (x : Subject) (s : State) : (removeItem k x s).resetLow = s.resetLow := by
  rw [show QueueOnly s _ from removeItem_only k x s]
@[simp] theorem removeItem_hostOut (k : ItemKind) (x : Subject) (s : State) : (removeItem k x s).hostOut = s.hostOut := by
  rw [show QueueOnly s _ from removeItem_only k x s]
@[simp] theorem removeItem_fieldOut (k : ItemKind) (x : Subject) (s : State) : (removeItem k x s).fieldOut = s.fieldOut := by
  rw [show QueueOnly s _ from removeItem_only k x s]
@[simp] theorem removeItem_pending (k : ItemKind) (x : Subject) (s : State) : (removeItem k x s).pending = s.pending := by
  rw [show QueueOnly s _ from removeItem_only k x s]
@[simp] theorem removeItem_hpt_request (k : ItemKind) (x : Subject) (s : State) : (removeItem k x s).hpt.request = s.hpt.request := by
  rw [show QueueOnly s _ from removeItem_only k x s]
@[simp] theorem removeItem_hpt_reply (k : ItemKind) (x : Subject) (s : State) : (removeItem k x s).hpt.reply = s.hpt.reply := by
  rw [show QueueOnly s _ from removeItem_only k x s]
@[simp] theorem removeItem_hpt_readPos (k : ItemKind) (x : Subject) (s : State) : (removeItem k x s).hpt.readPos = s.hpt.readPos := by
  rw [show QueueOnly s _ from removeItem_only k x s]
@[simp] theorem removeItem_hpt_overrun (k : ItemKind) (x : Subject) (s : State) : (removeItem k x s).hpt.overrun = s.hpt.overrun := by
  rw [show QueueOnly s _ from removeItem_only k x s]
@[simp] theorem removeItem_hpt_phase (k : ItemKind) (x : Subject) (s : State) : (removeItem k x s).hpt.phase = s.hpt.phase := by
  rw [show QueueOnly s _ from removeItem_only k x s]
@[simp] theorem removeItem_hpt_mask (k : ItemKind) (x : Subject) (s : State) : (removeItem k x s).hpt.mask = s.hpt.mask := by
  rw [show QueueOnly s _ from removeItem_only k x s]
@[simp] theorem removeItem_hpt_cursorTable (k : ItemKind) (x : Subject) (s : State) : (removeItem k x s).hpt.cursorTable = s.hpt.cursorTable := by
  rw [show QueueOnly s _ from removeItem_only k x s]
@[simp] theorem removeItem_hpt_cursorIndex (k : ItemKind) (x : Subject) (s : State) : (removeItem k x s).hpt.cursorIndex = s.hpt.cursorIndex := by
  rw [show QueueOnly s _ from removeItem_only k x s]

/-! ### insertItem -/

@[simp] theorem insertItem_frt (k : ItemKind) (x : Subject) (b : Bool) (d : Detail) (r : Bool) (s : State) : (insertItem k x b d r s).frt = s.frt := by
  rw [show QueueOnly s _ from insertItem_only k x b d r s]
@[simp] theorem insertItem_znt (k : ItemKind) (x : Subject) (b : Bool) (d : Detail) (r : Bool) (s : State) : (insertItem k x b d r s).znt = s.znt := by
  rw [show QueueOnly s _ from insertItem_only k x b d r s]
@[simp] theorem insertItem_rst (k : ItemKind) (x : Subject) (b : Bool) (d : Detail) (r : Bool) (s : State) : (insertItem k x b d r s).rst = s.rst := by
  rw [show QueueOnly s _ from insertItem_only k x b d r s]
@[simp] theorem insertItem_air (k : ItemKind) (x : Subject) (b : Bool) (d : Detail) (r : Bool) (s : State) : (insertItem k x b d r s).air = s.air := by
  rw [show QueueOnly s _ from insertItem_only k x b d r s]
@[simp] theorem insertItem_hlk (k : ItemKind) (x : Subject) (b : Bool) (d : Detail) (r : Bool) (s : State) : (insertItem k x b d r s).hlk = s.hlk := by
  rw [show QueueOnly s _ from insertItem_only k x b d r s]
@[simp] theorem insertItem_rev (k : ItemKind) (x : Subject) (b : Bool) (d : Detail) (r : Bool) (s : State) : (insertItem k x b d r s).rev = s.rev := by
  rw [show QueueOnly s _ from insertItem_only k x b d r s]
@[simp] theorem insertItem_cal (k : ItemKind) (x : Subject) (b : Bool) (d : Detail) (r : Bool) (s : State) : (insertItem k x b d r s).cal = s.cal := by
  rw [show QueueOnly s _ from insertItem_only k x b d r s]
@[simp] theorem insertItem_flk (k : ItemKind) (x : Subject) (b : Bool) (d : Detail) (r : Bool) (s : State) : (insertItem k x b d r s).flk = s.flk := by
  rw [show QueueOnly s _ from insertItem_only k x b d r s]
@[simp] theorem insertItem_handed (k : ItemKind) (x : Subject) (b : Bool) (d : Detail) (r : Bool) (s : State) : (insertItem k x b d r s).handed = s.handed := by
  rw [show QueueOnly s _ from insertItem_only k x b d r s]
@[simp] theorem insertItem_resetLow (k : ItemKind) (x : Subject) (b : Bool) (d : Detail) (r : Bool) (s : State) : (insertItem k x b d r s).resetLow = s.resetLow := by
  rw [show QueueOnly s _ from insertItem_only k x b d r s]
@[simp] theorem insertItem_hostOut (k : ItemKind) (x : Subject) (b : Bool) (d : Detail) (r : Bool) (s : State) : (insertItem k x b d r s).hostOut = s.hostOut := by
  rw [show QueueOnly s _ from insertItem_only k x b d r s]
@[simp] theorem insertItem_fieldOut (k : ItemKind) (x : Subject) (b : Bool) (d : Detail) (r : Bool) (s : State) : (insertItem k x b d r s).fieldOut = s.fieldOut := by
  rw [show QueueOnly s _ from insertItem_only k x b d r s]
@[simp] theorem insertItem_pending (k : ItemKind) (x : Subject) (b : Bool) (d : Detail) (r : Bool) (s : State) : (insertItem k x b d r s).pending = s.pending := by
  rw [show QueueOnly s _ from insertItem_only k x b d r s]
@[simp] theorem insertItem_hpt_request (k : ItemKind) (x : Subject) (b : Bool) (d : Detail) (r : Bool) (s : State) : (insertItem k x b d r s).hpt.request = s.hpt.request := by
  rw [show QueueOnly s _ from insertItem_only k x b d r s]
@[simp] theorem insertItem_hpt_reply (k : ItemKind) (x : Subject) (b : Bool) (d : Detail) (r : Bool) (s : State) : (insertItem k x b d r s).hpt.reply = s.hpt.reply := by
  rw [show QueueOnly s _ from insertItem_only k x b d r s]
@[simp] theorem insertItem_hpt_readPos (k : ItemKind) (x : Subject) (b : Bool) (d : Detail) (r : Bool) (s : State) : (insertItem k x b d r s).hpt.readPos = s.hpt.readPos := by
  rw [show QueueOnly s _ from insertItem_only k x b d r s]
@[simp] theorem insertItem_hpt_overrun (k : ItemKind) (x : Subject) (b : Bool) (d : Detail) (r : Bool) (s : State) : (insertItem k x b d r s).hpt.overrun = s.hpt.overrun := by
  rw [show QueueOnly s _ from insertItem_only k x b d r s]
@[simp] theorem insertItem_hpt_phase (k : ItemKind) (x : Subject) (b : Bool) (d : Detail) (r : Bool) (s : State) : (insertItem k x b d r s).hpt.phase = s.hpt.phase := by
  rw [show QueueOnly s _ from insertItem_only k x b d r s]
@[simp] theorem insertItem_hpt_mask (k : ItemKind) (x : Subject) (b : Bool) (d : Detail) (r : Bool) (s : State) : (insertItem k x b d r s).hpt.mask = s.hpt.mask := by
  rw [show QueueOnly s _ from insertItem_only k x b d r s]
@[simp] theorem insertItem_hpt_cursorTable (k : ItemKind) (x : Subject) (b : Bool) (d : Detail) (r : Bool) (s : State) : (insertItem k x b d r s).hpt.cursorTable = s.hpt.cursorTable := by
  rw [show QueueOnly s _ from insertItem_only k x b d r s]
@[simp] theorem insertItem_hpt_cursorIndex (k : ItemKind) (x : Subject) (b : Bool) (d : Detail) (r : Bool) (s : State) : (insertItem k x b d r s).hpt.cursorIndex = s.hpt.cursorIndex := by
  rw [show QueueOnly s _ from insertItem_only k x b d r s]

/-! ### raiseItem -/

@[simp] theorem raiseItem_frt (k : ItemKind) (x : Subject) (s : State) : (raiseItem k x s).frt = s.frt := by
  rw [show QueueOnly s _ from raiseItem_only k x s]
@[simp] theorem raiseItem_znt (k : ItemKind) (x : Subject) (s : State) : (raiseItem k x s).znt = s.znt := by
  rw [show QueueOnly s _ from raiseItem_only k x s]
@[simp] theorem raiseItem_rst (k : ItemKind) (x : Subject) (s : State) : (raiseItem k x s).rst = s.rst := by
  rw [show QueueOnly s _ from raiseItem_only k x s]
@[simp] theorem raiseItem_air (k : ItemKind) (x : Subject) (s : State) : (raiseItem k x s).air = s.air := by
  rw [show QueueOnly s _ from raiseItem_only k x s]
@[simp] theorem raiseItem_hlk (k : ItemKind) (x : Subject) (s : State) : (raiseItem k x s).hlk = s.hlk := by
  rw [show QueueOnly s _ from raiseItem_only k x s]
@[simp] theorem raiseItem_rev (k : ItemKind) (x : Subject) (s : State) : (raiseItem k x s).rev = s.rev := by
  rw [show QueueOnly s _ from raiseItem_only k x s]
@[simp] theorem raiseItem_cal (k : ItemKind) (x : Subject) (s : State) : (raiseItem k x s).cal = s.cal := by
  rw [show QueueOnly s _ from raiseItem_only k x s]
@[simp] theorem raiseItem_flk (k : ItemKind) (x : Subject) (s : State) : (raiseItem k x s).flk = s.flk := by
  rw [show QueueOnly s _ from raiseItem_only k x s]
@[simp] theorem raiseItem_handed (k : ItemKind) (x : Subject) (s : State) : (raiseItem k x s).handed = s.handed := by
  rw [show QueueOnly s _ from raiseItem_only k x s]
@[simp] theorem raiseItem_resetLow (k : ItemKind) (x : Subject) (s : State) : (raiseItem k x s).resetLow = s.resetLow := by
  rw [show QueueOnly s _ from raiseItem_only k x s]
@[simp] theorem raiseItem_hostOut (k : ItemKind) (x : Subject) (s : State) : (raiseItem k x s).hostOut = s.hostOut := by
  rw [show QueueOnly s _ from raiseItem_only k x s]
@[simp] theorem raiseItem_fieldOut (k : ItemKind) (x : Subject) (s : State) : (raiseItem k x s).fieldOut = s.fieldOut := by
  rw [show QueueOnly s _ from raiseItem_only k x s]
@[simp] theorem raiseItem_pending (k : ItemKind) (x : Subject) (s : State) : (raiseItem k x s).pending = s.pending := by
  rw [show QueueOnly s _ from raiseItem_only k x s]
@[simp] theorem raiseItem_hpt_request (k : ItemKind) (x : Subject) (s : State) : (raiseItem k x s).hpt.request = s.hpt.request := by
  rw [show QueueOnly s _ from raiseItem_only k x s]
@[simp] theorem raiseItem_hpt_reply (k : ItemKind) (x : Subject) (s : State) : (raiseItem k x s).hpt.reply = s.hpt.reply := by
  rw [show QueueOnly s _ from raiseItem_only k x s]
@[simp] theorem raiseItem_hpt_readPos (k : ItemKind) (x : Subject) (s : State) : (raiseItem k x s).hpt.readPos = s.hpt.readPos := by
  rw [show QueueOnly s _ from raiseItem_only k x s]
@[simp] theorem raiseItem_hpt_overrun (k : ItemKind) (x : Subject) (s : State) : (raiseItem k x s).hpt.overrun = s.hpt.overrun := by
  rw [show QueueOnly s _ from raiseItem_only k x s]
@[simp] theorem raiseItem_hpt_phase (k : ItemKind) (x : Subject) (s : State) : (raiseItem k x s).hpt.phase = s.hpt.phase := by
  rw [show QueueOnly s _ from raiseItem_only k x s]
@[simp] theorem raiseItem_hpt_mask (k : ItemKind) (x : Subject) (s : State) : (raiseItem k x s).hpt.mask = s.hpt.mask := by
  rw [show QueueOnly s _ from raiseItem_only k x s]
@[simp] theorem raiseItem_hpt_cursorTable (k : ItemKind) (x : Subject) (s : State) : (raiseItem k x s).hpt.cursorTable = s.hpt.cursorTable := by
  rw [show QueueOnly s _ from raiseItem_only k x s]
@[simp] theorem raiseItem_hpt_cursorIndex (k : ItemKind) (x : Subject) (s : State) : (raiseItem k x s).hpt.cursorIndex = s.hpt.cursorIndex := by
  rw [show QueueOnly s _ from raiseItem_only k x s]

/-! ### endItem -/

@[simp] theorem endItem_frt (k : ItemKind) (x : Subject) (s : State) : (endItem k x s).frt = s.frt := by
  rw [show QueueOnly s _ from endItem_only k x s]
@[simp] theorem endItem_znt (k : ItemKind) (x : Subject) (s : State) : (endItem k x s).znt = s.znt := by
  rw [show QueueOnly s _ from endItem_only k x s]
@[simp] theorem endItem_rst (k : ItemKind) (x : Subject) (s : State) : (endItem k x s).rst = s.rst := by
  rw [show QueueOnly s _ from endItem_only k x s]
@[simp] theorem endItem_air (k : ItemKind) (x : Subject) (s : State) : (endItem k x s).air = s.air := by
  rw [show QueueOnly s _ from endItem_only k x s]
@[simp] theorem endItem_hlk (k : ItemKind) (x : Subject) (s : State) : (endItem k x s).hlk = s.hlk := by
  rw [show QueueOnly s _ from endItem_only k x s]
@[simp] theorem endItem_rev (k : ItemKind) (x : Subject) (s : State) : (endItem k x s).rev = s.rev := by
  rw [show QueueOnly s _ from endItem_only k x s]
@[simp] theorem endItem_cal (k : ItemKind) (x : Subject) (s : State) : (endItem k x s).cal = s.cal := by
  rw [show QueueOnly s _ from endItem_only k x s]
@[simp] theorem endItem_flk (k : ItemKind) (x : Subject) (s : State) : (endItem k x s).flk = s.flk := by
  rw [show QueueOnly s _ from endItem_only k x s]
@[simp] theorem endItem_handed (k : ItemKind) (x : Subject) (s : State) : (endItem k x s).handed = s.handed := by
  rw [show QueueOnly s _ from endItem_only k x s]
@[simp] theorem endItem_resetLow (k : ItemKind) (x : Subject) (s : State) : (endItem k x s).resetLow = s.resetLow := by
  rw [show QueueOnly s _ from endItem_only k x s]
@[simp] theorem endItem_hostOut (k : ItemKind) (x : Subject) (s : State) : (endItem k x s).hostOut = s.hostOut := by
  rw [show QueueOnly s _ from endItem_only k x s]
@[simp] theorem endItem_fieldOut (k : ItemKind) (x : Subject) (s : State) : (endItem k x s).fieldOut = s.fieldOut := by
  rw [show QueueOnly s _ from endItem_only k x s]
@[simp] theorem endItem_pending (k : ItemKind) (x : Subject) (s : State) : (endItem k x s).pending = s.pending := by
  rw [show QueueOnly s _ from endItem_only k x s]
@[simp] theorem endItem_hpt_request (k : ItemKind) (x : Subject) (s : State) : (endItem k x s).hpt.request = s.hpt.request := by
  rw [show QueueOnly s _ from endItem_only k x s]
@[simp] theorem endItem_hpt_reply (k : ItemKind) (x : Subject) (s : State) : (endItem k x s).hpt.reply = s.hpt.reply := by
  rw [show QueueOnly s _ from endItem_only k x s]
@[simp] theorem endItem_hpt_readPos (k : ItemKind) (x : Subject) (s : State) : (endItem k x s).hpt.readPos = s.hpt.readPos := by
  rw [show QueueOnly s _ from endItem_only k x s]
@[simp] theorem endItem_hpt_overrun (k : ItemKind) (x : Subject) (s : State) : (endItem k x s).hpt.overrun = s.hpt.overrun := by
  rw [show QueueOnly s _ from endItem_only k x s]
@[simp] theorem endItem_hpt_phase (k : ItemKind) (x : Subject) (s : State) : (endItem k x s).hpt.phase = s.hpt.phase := by
  rw [show QueueOnly s _ from endItem_only k x s]
@[simp] theorem endItem_hpt_mask (k : ItemKind) (x : Subject) (s : State) : (endItem k x s).hpt.mask = s.hpt.mask := by
  rw [show QueueOnly s _ from endItem_only k x s]
@[simp] theorem endItem_hpt_cursorTable (k : ItemKind) (x : Subject) (s : State) : (endItem k x s).hpt.cursorTable = s.hpt.cursorTable := by
  rw [show QueueOnly s _ from endItem_only k x s]
@[simp] theorem endItem_hpt_cursorIndex (k : ItemKind) (x : Subject) (s : State) : (endItem k x s).hpt.cursorIndex = s.hpt.cursorIndex := by
  rw [show QueueOnly s _ from endItem_only k x s]

/-! ### endCallItem -/

@[simp] theorem endCallItem_frt (k : ItemKind) (x : Subject) (s : State) : (endCallItem k x s).frt = s.frt := by
  rw [show QueueOnly s _ from endCallItem_only k x s]
@[simp] theorem endCallItem_znt (k : ItemKind) (x : Subject) (s : State) : (endCallItem k x s).znt = s.znt := by
  rw [show QueueOnly s _ from endCallItem_only k x s]
@[simp] theorem endCallItem_rst (k : ItemKind) (x : Subject) (s : State) : (endCallItem k x s).rst = s.rst := by
  rw [show QueueOnly s _ from endCallItem_only k x s]
@[simp] theorem endCallItem_air (k : ItemKind) (x : Subject) (s : State) : (endCallItem k x s).air = s.air := by
  rw [show QueueOnly s _ from endCallItem_only k x s]
@[simp] theorem endCallItem_hlk (k : ItemKind) (x : Subject) (s : State) : (endCallItem k x s).hlk = s.hlk := by
  rw [show QueueOnly s _ from endCallItem_only k x s]
@[simp] theorem endCallItem_rev (k : ItemKind) (x : Subject) (s : State) : (endCallItem k x s).rev = s.rev := by
  rw [show QueueOnly s _ from endCallItem_only k x s]
@[simp] theorem endCallItem_cal (k : ItemKind) (x : Subject) (s : State) : (endCallItem k x s).cal = s.cal := by
  rw [show QueueOnly s _ from endCallItem_only k x s]
@[simp] theorem endCallItem_flk (k : ItemKind) (x : Subject) (s : State) : (endCallItem k x s).flk = s.flk := by
  rw [show QueueOnly s _ from endCallItem_only k x s]
@[simp] theorem endCallItem_handed (k : ItemKind) (x : Subject) (s : State) : (endCallItem k x s).handed = s.handed := by
  rw [show QueueOnly s _ from endCallItem_only k x s]
@[simp] theorem endCallItem_resetLow (k : ItemKind) (x : Subject) (s : State) : (endCallItem k x s).resetLow = s.resetLow := by
  rw [show QueueOnly s _ from endCallItem_only k x s]
@[simp] theorem endCallItem_hostOut (k : ItemKind) (x : Subject) (s : State) : (endCallItem k x s).hostOut = s.hostOut := by
  rw [show QueueOnly s _ from endCallItem_only k x s]
@[simp] theorem endCallItem_fieldOut (k : ItemKind) (x : Subject) (s : State) : (endCallItem k x s).fieldOut = s.fieldOut := by
  rw [show QueueOnly s _ from endCallItem_only k x s]
@[simp] theorem endCallItem_pending (k : ItemKind) (x : Subject) (s : State) : (endCallItem k x s).pending = s.pending := by
  rw [show QueueOnly s _ from endCallItem_only k x s]
@[simp] theorem endCallItem_hpt_request (k : ItemKind) (x : Subject) (s : State) : (endCallItem k x s).hpt.request = s.hpt.request := by
  rw [show QueueOnly s _ from endCallItem_only k x s]
@[simp] theorem endCallItem_hpt_reply (k : ItemKind) (x : Subject) (s : State) : (endCallItem k x s).hpt.reply = s.hpt.reply := by
  rw [show QueueOnly s _ from endCallItem_only k x s]
@[simp] theorem endCallItem_hpt_readPos (k : ItemKind) (x : Subject) (s : State) : (endCallItem k x s).hpt.readPos = s.hpt.readPos := by
  rw [show QueueOnly s _ from endCallItem_only k x s]
@[simp] theorem endCallItem_hpt_overrun (k : ItemKind) (x : Subject) (s : State) : (endCallItem k x s).hpt.overrun = s.hpt.overrun := by
  rw [show QueueOnly s _ from endCallItem_only k x s]
@[simp] theorem endCallItem_hpt_phase (k : ItemKind) (x : Subject) (s : State) : (endCallItem k x s).hpt.phase = s.hpt.phase := by
  rw [show QueueOnly s _ from endCallItem_only k x s]
@[simp] theorem endCallItem_hpt_mask (k : ItemKind) (x : Subject) (s : State) : (endCallItem k x s).hpt.mask = s.hpt.mask := by
  rw [show QueueOnly s _ from endCallItem_only k x s]
@[simp] theorem endCallItem_hpt_cursorTable (k : ItemKind) (x : Subject) (s : State) : (endCallItem k x s).hpt.cursorTable = s.hpt.cursorTable := by
  rw [show QueueOnly s _ from endCallItem_only k x s]
@[simp] theorem endCallItem_hpt_cursorIndex (k : ItemKind) (x : Subject) (s : State) : (endCallItem k x s).hpt.cursorIndex = s.hpt.cursorIndex := by
  rw [show QueueOnly s _ from endCallItem_only k x s]

/-! ### retireSubject -/

@[simp] theorem retireSubject_frt (x : Subject) (s : State) : (retireSubject x s).frt = s.frt := by
  rw [show QueueOnly s _ from retireSubject_only x s]
@[simp] theorem retireSubject_znt (x : Subject) (s : State) : (retireSubject x s).znt = s.znt := by
  rw [show QueueOnly s _ from retireSubject_only x s]
@[simp] theorem retireSubject_rst (x : Subject) (s : State) : (retireSubject x s).rst = s.rst := by
  rw [show QueueOnly s _ from retireSubject_only x s]
@[simp] theorem retireSubject_air (x : Subject) (s : State) : (retireSubject x s).air = s.air := by
  rw [show QueueOnly s _ from retireSubject_only x s]
@[simp] theorem retireSubject_hlk (x : Subject) (s : State) : (retireSubject x s).hlk = s.hlk := by
  rw [show QueueOnly s _ from retireSubject_only x s]
@[simp] theorem retireSubject_rev (x : Subject) (s : State) : (retireSubject x s).rev = s.rev := by
  rw [show QueueOnly s _ from retireSubject_only x s]
@[simp] theorem retireSubject_cal (x : Subject) (s : State) : (retireSubject x s).cal = s.cal := by
  rw [show QueueOnly s _ from retireSubject_only x s]
@[simp] theorem retireSubject_flk (x : Subject) (s : State) : (retireSubject x s).flk = s.flk := by
  rw [show QueueOnly s _ from retireSubject_only x s]
@[simp] theorem retireSubject_handed (x : Subject) (s : State) : (retireSubject x s).handed = s.handed := by
  rw [show QueueOnly s _ from retireSubject_only x s]
@[simp] theorem retireSubject_resetLow (x : Subject) (s : State) : (retireSubject x s).resetLow = s.resetLow := by
  rw [show QueueOnly s _ from retireSubject_only x s]
@[simp] theorem retireSubject_hostOut (x : Subject) (s : State) : (retireSubject x s).hostOut = s.hostOut := by
  rw [show QueueOnly s _ from retireSubject_only x s]
@[simp] theorem retireSubject_fieldOut (x : Subject) (s : State) : (retireSubject x s).fieldOut = s.fieldOut := by
  rw [show QueueOnly s _ from retireSubject_only x s]
@[simp] theorem retireSubject_pending (x : Subject) (s : State) : (retireSubject x s).pending = s.pending := by
  rw [show QueueOnly s _ from retireSubject_only x s]
@[simp] theorem retireSubject_hpt_request (x : Subject) (s : State) : (retireSubject x s).hpt.request = s.hpt.request := by
  rw [show QueueOnly s _ from retireSubject_only x s]
@[simp] theorem retireSubject_hpt_reply (x : Subject) (s : State) : (retireSubject x s).hpt.reply = s.hpt.reply := by
  rw [show QueueOnly s _ from retireSubject_only x s]
@[simp] theorem retireSubject_hpt_readPos (x : Subject) (s : State) : (retireSubject x s).hpt.readPos = s.hpt.readPos := by
  rw [show QueueOnly s _ from retireSubject_only x s]
@[simp] theorem retireSubject_hpt_overrun (x : Subject) (s : State) : (retireSubject x s).hpt.overrun = s.hpt.overrun := by
  rw [show QueueOnly s _ from retireSubject_only x s]
@[simp] theorem retireSubject_hpt_phase (x : Subject) (s : State) : (retireSubject x s).hpt.phase = s.hpt.phase := by
  rw [show QueueOnly s _ from retireSubject_only x s]
@[simp] theorem retireSubject_hpt_mask (x : Subject) (s : State) : (retireSubject x s).hpt.mask = s.hpt.mask := by
  rw [show QueueOnly s _ from retireSubject_only x s]
@[simp] theorem retireSubject_hpt_cursorTable (x : Subject) (s : State) : (retireSubject x s).hpt.cursorTable = s.hpt.cursorTable := by
  rw [show QueueOnly s _ from retireSubject_only x s]
@[simp] theorem retireSubject_hpt_cursorIndex (x : Subject) (s : State) : (retireSubject x s).hpt.cursorIndex = s.hpt.cursorIndex := by
  rw [show QueueOnly s _ from retireSubject_only x s]

/-! ### acknowledge -/

@[simp] theorem acknowledge_frt (it : Item) (s : State) : (acknowledge it s).frt = s.frt := by
  rw [show QueueOnly s _ from acknowledge_only it s]
@[simp] theorem acknowledge_znt (it : Item) (s : State) : (acknowledge it s).znt = s.znt := by
  rw [show QueueOnly s _ from acknowledge_only it s]
@[simp] theorem acknowledge_rst (it : Item) (s : State) : (acknowledge it s).rst = s.rst := by
  rw [show QueueOnly s _ from acknowledge_only it s]
@[simp] theorem acknowledge_air (it : Item) (s : State) : (acknowledge it s).air = s.air := by
  rw [show QueueOnly s _ from acknowledge_only it s]
@[simp] theorem acknowledge_hlk (it : Item) (s : State) : (acknowledge it s).hlk = s.hlk := by
  rw [show QueueOnly s _ from acknowledge_only it s]
@[simp] theorem acknowledge_rev (it : Item) (s : State) : (acknowledge it s).rev = s.rev := by
  rw [show QueueOnly s _ from acknowledge_only it s]
@[simp] theorem acknowledge_cal (it : Item) (s : State) : (acknowledge it s).cal = s.cal := by
  rw [show QueueOnly s _ from acknowledge_only it s]
@[simp] theorem acknowledge_flk (it : Item) (s : State) : (acknowledge it s).flk = s.flk := by
  rw [show QueueOnly s _ from acknowledge_only it s]
@[simp] theorem acknowledge_handed (it : Item) (s : State) : (acknowledge it s).handed = s.handed := by
  rw [show QueueOnly s _ from acknowledge_only it s]
@[simp] theorem acknowledge_resetLow (it : Item) (s : State) : (acknowledge it s).resetLow = s.resetLow := by
  rw [show QueueOnly s _ from acknowledge_only it s]
@[simp] theorem acknowledge_hostOut (it : Item) (s : State) : (acknowledge it s).hostOut = s.hostOut := by
  rw [show QueueOnly s _ from acknowledge_only it s]
@[simp] theorem acknowledge_fieldOut (it : Item) (s : State) : (acknowledge it s).fieldOut = s.fieldOut := by
  rw [show QueueOnly s _ from acknowledge_only it s]
@[simp] theorem acknowledge_pending (it : Item) (s : State) : (acknowledge it s).pending = s.pending := by
  rw [show QueueOnly s _ from acknowledge_only it s]
@[simp] theorem acknowledge_hpt_request (it : Item) (s : State) : (acknowledge it s).hpt.request = s.hpt.request := by
  rw [show QueueOnly s _ from acknowledge_only it s]
@[simp] theorem acknowledge_hpt_reply (it : Item) (s : State) : (acknowledge it s).hpt.reply = s.hpt.reply := by
  rw [show QueueOnly s _ from acknowledge_only it s]
@[simp] theorem acknowledge_hpt_readPos (it : Item) (s : State) : (acknowledge it s).hpt.readPos = s.hpt.readPos := by
  rw [show QueueOnly s _ from acknowledge_only it s]
@[simp] theorem acknowledge_hpt_overrun (it : Item) (s : State) : (acknowledge it s).hpt.overrun = s.hpt.overrun := by
  rw [show QueueOnly s _ from acknowledge_only it s]
@[simp] theorem acknowledge_hpt_phase (it : Item) (s : State) : (acknowledge it s).hpt.phase = s.hpt.phase := by
  rw [show QueueOnly s _ from acknowledge_only it s]
@[simp] theorem acknowledge_hpt_mask (it : Item) (s : State) : (acknowledge it s).hpt.mask = s.hpt.mask := by
  rw [show QueueOnly s _ from acknowledge_only it s]
@[simp] theorem acknowledge_hpt_cursorTable (it : Item) (s : State) : (acknowledge it s).hpt.cursorTable = s.hpt.cursorTable := by
  rw [show QueueOnly s _ from acknowledge_only it s]
@[simp] theorem acknowledge_hpt_cursorIndex (it : Item) (s : State) : (acknowledge it s).hpt.cursorIndex = s.hpt.cursorIndex := by
  rw [show QueueOnly s _ from acknowledge_only it s]

/-! ### countClaim -/

@[simp] theorem countClaim_frt (a b : Option (Fin 32)) (s : State) : (countClaim a b s).frt = s.frt := by
  unfold countClaim; (try dsimp only); (repeat' split) <;> simp
@[simp] theorem countClaim_atq (a b : Option (Fin 32)) (s : State) : (countClaim a b s).atq = s.atq := by
  unfold countClaim; (try dsimp only); (repeat' split) <;> simp
@[simp] theorem countClaim_rst (a b : Option (Fin 32)) (s : State) : (countClaim a b s).rst = s.rst := by
  unfold countClaim; (try dsimp only); (repeat' split) <;> simp
@[simp] theorem countClaim_air (a b : Option (Fin 32)) (s : State) : (countClaim a b s).air = s.air := by
  unfold countClaim; (try dsimp only); (repeat' split) <;> simp
@[simp] theorem countClaim_hlk (a b : Option (Fin 32)) (s : State) : (countClaim a b s).hlk = s.hlk := by
  unfold countClaim; (try dsimp only); (repeat' split) <;> simp
@[simp] theorem countClaim_rev (a b : Option (Fin 32)) (s : State) : (countClaim a b s).rev = s.rev := by
  unfold countClaim; (try dsimp only); (repeat' split) <;> simp
@[simp] theorem countClaim_cal (a b : Option (Fin 32)) (s : State) : (countClaim a b s).cal = s.cal := by
  unfold countClaim; (try dsimp only); (repeat' split) <;> simp
@[simp] theorem countClaim_flk (a b : Option (Fin 32)) (s : State) : (countClaim a b s).flk = s.flk := by
  unfold countClaim; (try dsimp only); (repeat' split) <;> simp
@[simp] theorem countClaim_hpt (a b : Option (Fin 32)) (s : State) : (countClaim a b s).hpt = s.hpt := by
  unfold countClaim; (try dsimp only); (repeat' split) <;> simp
@[simp] theorem countClaim_handed (a b : Option (Fin 32)) (s : State) : (countClaim a b s).handed = s.handed := by
  unfold countClaim; (try dsimp only); (repeat' split) <;> simp
@[simp] theorem countClaim_resetLow (a b : Option (Fin 32)) (s : State) : (countClaim a b s).resetLow = s.resetLow := by
  unfold countClaim; (try dsimp only); (repeat' split) <;> simp
@[simp] theorem countClaim_hostOut (a b : Option (Fin 32)) (s : State) : (countClaim a b s).hostOut = s.hostOut := by
  unfold countClaim; (try dsimp only); (repeat' split) <;> simp
@[simp] theorem countClaim_fieldOut (a b : Option (Fin 32)) (s : State) : (countClaim a b s).fieldOut = s.fieldOut := by
  unfold countClaim; (try dsimp only); (repeat' split) <;> simp
@[simp] theorem countClaim_pending (a b : Option (Fin 32)) (s : State) : (countClaim a b s).pending = s.pending := by
  unfold countClaim; (try dsimp only); (repeat' split) <;> simp

/-! ### addClaim -/

@[simp] theorem addClaim_frt (n : Nat) (z : Fin 32) (s : State) : (addClaim n z s).frt = s.frt := by
  unfold addClaim; (try dsimp only); (repeat' split) <;> simp
@[simp] theorem addClaim_atq (n : Nat) (z : Fin 32) (s : State) : (addClaim n z s).atq = s.atq := by
  unfold addClaim; (try dsimp only); (repeat' split) <;> simp
@[simp] theorem addClaim_rst (n : Nat) (z : Fin 32) (s : State) : (addClaim n z s).rst = s.rst := by
  unfold addClaim; (try dsimp only); (repeat' split) <;> simp
@[simp] theorem addClaim_air (n : Nat) (z : Fin 32) (s : State) : (addClaim n z s).air = s.air := by
  unfold addClaim; (try dsimp only); (repeat' split) <;> simp
@[simp] theorem addClaim_hlk (n : Nat) (z : Fin 32) (s : State) : (addClaim n z s).hlk = s.hlk := by
  unfold addClaim; (try dsimp only); (repeat' split) <;> simp
@[simp] theorem addClaim_rev (n : Nat) (z : Fin 32) (s : State) : (addClaim n z s).rev = s.rev := by
  unfold addClaim; (try dsimp only); (repeat' split) <;> simp
@[simp] theorem addClaim_cal (n : Nat) (z : Fin 32) (s : State) : (addClaim n z s).cal = s.cal := by
  unfold addClaim; (try dsimp only); (repeat' split) <;> simp
@[simp] theorem addClaim_flk (n : Nat) (z : Fin 32) (s : State) : (addClaim n z s).flk = s.flk := by
  unfold addClaim; (try dsimp only); (repeat' split) <;> simp
@[simp] theorem addClaim_hpt (n : Nat) (z : Fin 32) (s : State) : (addClaim n z s).hpt = s.hpt := by
  unfold addClaim; (try dsimp only); (repeat' split) <;> simp
@[simp] theorem addClaim_handed (n : Nat) (z : Fin 32) (s : State) : (addClaim n z s).handed = s.handed := by
  unfold addClaim; (try dsimp only); (repeat' split) <;> simp
@[simp] theorem addClaim_resetLow (n : Nat) (z : Fin 32) (s : State) : (addClaim n z s).resetLow = s.resetLow := by
  unfold addClaim; (try dsimp only); (repeat' split) <;> simp
@[simp] theorem addClaim_hostOut (n : Nat) (z : Fin 32) (s : State) : (addClaim n z s).hostOut = s.hostOut := by
  unfold addClaim; (try dsimp only); (repeat' split) <;> simp
@[simp] theorem addClaim_fieldOut (n : Nat) (z : Fin 32) (s : State) : (addClaim n z s).fieldOut = s.fieldOut := by
  unfold addClaim; (try dsimp only); (repeat' split) <;> simp
@[simp] theorem addClaim_pending (n : Nat) (z : Fin 32) (s : State) : (addClaim n z s).pending = s.pending := by
  unfold addClaim; (try dsimp only); (repeat' split) <;> simp

/-! ### removeClaim -/

@[simp] theorem removeClaim_frt (n : Nat) (z : Fin 32) (s : State) : (removeClaim n z s).frt = s.frt := rfl
@[simp] theorem removeClaim_atq (n : Nat) (z : Fin 32) (s : State) : (removeClaim n z s).atq = s.atq := rfl
@[simp] theorem removeClaim_rst (n : Nat) (z : Fin 32) (s : State) : (removeClaim n z s).rst = s.rst := rfl
@[simp] theorem removeClaim_air (n : Nat) (z : Fin 32) (s : State) : (removeClaim n z s).air = s.air := rfl
@[simp] theorem removeClaim_hlk (n : Nat) (z : Fin 32) (s : State) : (removeClaim n z s).hlk = s.hlk := rfl
@[simp] theorem removeClaim_rev (n : Nat) (z : Fin 32) (s : State) : (removeClaim n z s).rev = s.rev := rfl
@[simp] theorem removeClaim_cal (n : Nat) (z : Fin 32) (s : State) : (removeClaim n z s).cal = s.cal := rfl
@[simp] theorem removeClaim_flk (n : Nat) (z : Fin 32) (s : State) : (removeClaim n z s).flk = s.flk := rfl
@[simp] theorem removeClaim_hpt (n : Nat) (z : Fin 32) (s : State) : (removeClaim n z s).hpt = s.hpt := rfl
@[simp] theorem removeClaim_handed (n : Nat) (z : Fin 32) (s : State) : (removeClaim n z s).handed = s.handed := rfl
@[simp] theorem removeClaim_resetLow (n : Nat) (z : Fin 32) (s : State) : (removeClaim n z s).resetLow = s.resetLow := rfl
@[simp] theorem removeClaim_hostOut (n : Nat) (z : Fin 32) (s : State) : (removeClaim n z s).hostOut = s.hostOut := rfl
@[simp] theorem removeClaim_fieldOut (n : Nat) (z : Fin 32) (s : State) : (removeClaim n z s).fieldOut = s.fieldOut := rfl
@[simp] theorem removeClaim_pending (n : Nat) (z : Fin 32) (s : State) : (removeClaim n z s).pending = s.pending := rfl

/-! ### removeClaim? -/

@[simp] theorem removeClaimOpt_frt (n : Nat) (z : Option (Fin 32)) (s : State) : (removeClaim? n z s).frt = s.frt := by
  unfold removeClaim?; (try dsimp only); (repeat' split) <;> simp
@[simp] theorem removeClaimOpt_atq (n : Nat) (z : Option (Fin 32)) (s : State) : (removeClaim? n z s).atq = s.atq := by
  unfold removeClaim?; (try dsimp only); (repeat' split) <;> simp
@[simp] theorem removeClaimOpt_rst (n : Nat) (z : Option (Fin 32)) (s : State) : (removeClaim? n z s).rst = s.rst := by
  unfold removeClaim?; (try dsimp only); (repeat' split) <;> simp
@[simp] theorem removeClaimOpt_air (n : Nat) (z : Option (Fin 32)) (s : State) : (removeClaim? n z s).air = s.air := by
  unfold removeClaim?; (try dsimp only); (repeat' split) <;> simp
@[simp] theorem removeClaimOpt_hlk (n : Nat) (z : Option (Fin 32)) (s : State) : (removeClaim? n z s).hlk = s.hlk := by
  unfold removeClaim?; (try dsimp only); (repeat' split) <;> simp
@[simp] theorem removeClaimOpt_rev (n : Nat) (z : Option (Fin 32)) (s : State) : (removeClaim? n z s).rev = s.rev := by
  unfold removeClaim?; (try dsimp only); (repeat' split) <;> simp
@[simp] theorem removeClaimOpt_cal (n : Nat) (z : Option (Fin 32)) (s : State) : (removeClaim? n z s).cal = s.cal := by
  unfold removeClaim?; (try dsimp only); (repeat' split) <;> simp
@[simp] theorem removeClaimOpt_flk (n : Nat) (z : Option (Fin 32)) (s : State) : (removeClaim? n z s).flk = s.flk := by
  unfold removeClaim?; (try dsimp only); (repeat' split) <;> simp
@[simp] theorem removeClaimOpt_hpt (n : Nat) (z : Option (Fin 32)) (s : State) : (removeClaim? n z s).hpt = s.hpt := by
  unfold removeClaim?; (try dsimp only); (repeat' split) <;> simp
@[simp] theorem removeClaimOpt_handed (n : Nat) (z : Option (Fin 32)) (s : State) : (removeClaim? n z s).handed = s.handed := by
  unfold removeClaim?; (try dsimp only); (repeat' split) <;> simp
@[simp] theorem removeClaimOpt_resetLow (n : Nat) (z : Option (Fin 32)) (s : State) : (removeClaim? n z s).resetLow = s.resetLow := by
  unfold removeClaim?; (try dsimp only); (repeat' split) <;> simp
@[simp] theorem removeClaimOpt_hostOut (n : Nat) (z : Option (Fin 32)) (s : State) : (removeClaim? n z s).hostOut = s.hostOut := by
  unfold removeClaim?; (try dsimp only); (repeat' split) <;> simp
@[simp] theorem removeClaimOpt_fieldOut (n : Nat) (z : Option (Fin 32)) (s : State) : (removeClaim? n z s).fieldOut = s.fieldOut := by
  unfold removeClaim?; (try dsimp only); (repeat' split) <;> simp
@[simp] theorem removeClaimOpt_pending (n : Nat) (z : Option (Fin 32)) (s : State) : (removeClaim? n z s).pending = s.pending := by
  unfold removeClaim?; (try dsimp only); (repeat' split) <;> simp

/-! ### State.modifyTruck -/

@[simp] theorem State.modifyTruck_frt (n : Nat) (f : Truck → Truck) (s : State) : (s.modifyTruck n f).frt = s.frt := by
  unfold State.modifyTruck; (try dsimp only); (repeat' split) <;> simp
@[simp] theorem State.modifyTruck_znt (n : Nat) (f : Truck → Truck) (s : State) : (s.modifyTruck n f).znt = s.znt := by
  unfold State.modifyTruck; (try dsimp only); (repeat' split) <;> simp
@[simp] theorem State.modifyTruck_atq (n : Nat) (f : Truck → Truck) (s : State) : (s.modifyTruck n f).atq = s.atq := by
  unfold State.modifyTruck; (try dsimp only); (repeat' split) <;> simp
@[simp] theorem State.modifyTruck_rst (n : Nat) (f : Truck → Truck) (s : State) : (s.modifyTruck n f).rst = s.rst := by
  unfold State.modifyTruck; (try dsimp only); (repeat' split) <;> simp
@[simp] theorem State.modifyTruck_air (n : Nat) (f : Truck → Truck) (s : State) : (s.modifyTruck n f).air = s.air := by
  unfold State.modifyTruck; (try dsimp only); (repeat' split) <;> simp
@[simp] theorem State.modifyTruck_rev (n : Nat) (f : Truck → Truck) (s : State) : (s.modifyTruck n f).rev = s.rev := by
  unfold State.modifyTruck; (try dsimp only); (repeat' split) <;> simp
@[simp] theorem State.modifyTruck_cal (n : Nat) (f : Truck → Truck) (s : State) : (s.modifyTruck n f).cal = s.cal := by
  unfold State.modifyTruck; (try dsimp only); (repeat' split) <;> simp
@[simp] theorem State.modifyTruck_flk (n : Nat) (f : Truck → Truck) (s : State) : (s.modifyTruck n f).flk = s.flk := by
  unfold State.modifyTruck; (try dsimp only); (repeat' split) <;> simp
@[simp] theorem State.modifyTruck_hpt (n : Nat) (f : Truck → Truck) (s : State) : (s.modifyTruck n f).hpt = s.hpt := by
  unfold State.modifyTruck; (try dsimp only); (repeat' split) <;> simp
@[simp] theorem State.modifyTruck_handed (n : Nat) (f : Truck → Truck) (s : State) : (s.modifyTruck n f).handed = s.handed := by
  unfold State.modifyTruck; (try dsimp only); (repeat' split) <;> simp
@[simp] theorem State.modifyTruck_resetLow (n : Nat) (f : Truck → Truck) (s : State) : (s.modifyTruck n f).resetLow = s.resetLow := by
  unfold State.modifyTruck; (try dsimp only); (repeat' split) <;> simp
@[simp] theorem State.modifyTruck_hostOut (n : Nat) (f : Truck → Truck) (s : State) : (s.modifyTruck n f).hostOut = s.hostOut := by
  unfold State.modifyTruck; (try dsimp only); (repeat' split) <;> simp
@[simp] theorem State.modifyTruck_fieldOut (n : Nat) (f : Truck → Truck) (s : State) : (s.modifyTruck n f).fieldOut = s.fieldOut := by
  unfold State.modifyTruck; (try dsimp only); (repeat' split) <;> simp
@[simp] theorem State.modifyTruck_pending (n : Nat) (f : Truck → Truck) (s : State) : (s.modifyTruck n f).pending = s.pending := by
  unfold State.modifyTruck; (try dsimp only); (repeat' split) <;> simp

/-! ### writeHolding -/

@[simp] theorem writeHolding_frt (m : Outbound) (s : State) : (writeHolding m s).frt = s.frt := by
  unfold writeHolding; (try dsimp only); (repeat' split) <;> simp
@[simp] theorem writeHolding_znt (m : Outbound) (s : State) : (writeHolding m s).znt = s.znt := by
  unfold writeHolding; (try dsimp only); (repeat' split) <;> simp
@[simp] theorem writeHolding_atq (m : Outbound) (s : State) : (writeHolding m s).atq = s.atq := by
  unfold writeHolding; (try dsimp only); (repeat' split) <;> simp
@[simp] theorem writeHolding_rst (m : Outbound) (s : State) : (writeHolding m s).rst = s.rst := by
  unfold writeHolding; (try dsimp only); (repeat' split) <;> simp
@[simp] theorem writeHolding_air (m : Outbound) (s : State) : (writeHolding m s).air = s.air := by
  unfold writeHolding; (try dsimp only); (repeat' split) <;> simp
@[simp] theorem writeHolding_hlk (m : Outbound) (s : State) : (writeHolding m s).hlk = s.hlk := by
  unfold writeHolding; (try dsimp only); (repeat' split) <;> simp
@[simp] theorem writeHolding_rev (m : Outbound) (s : State) : (writeHolding m s).rev = s.rev := by
  unfold writeHolding; (try dsimp only); (repeat' split) <;> simp
@[simp] theorem writeHolding_cal (m : Outbound) (s : State) : (writeHolding m s).cal = s.cal := by
  unfold writeHolding; (try dsimp only); (repeat' split) <;> simp
@[simp] theorem writeHolding_handed (m : Outbound) (s : State) : (writeHolding m s).handed = s.handed := by
  unfold writeHolding; (try dsimp only); (repeat' split) <;> simp
@[simp] theorem writeHolding_resetLow (m : Outbound) (s : State) : (writeHolding m s).resetLow = s.resetLow := by
  unfold writeHolding; (try dsimp only); (repeat' split) <;> simp
@[simp] theorem writeHolding_hostOut (m : Outbound) (s : State) : (writeHolding m s).hostOut = s.hostOut := by
  unfold writeHolding; (try dsimp only); (repeat' split) <;> simp
@[simp] theorem writeHolding_fieldOut (m : Outbound) (s : State) : (writeHolding m s).fieldOut = s.fieldOut := by
  unfold writeHolding; (try dsimp only); (repeat' split) <;> simp
@[simp] theorem writeHolding_pending (m : Outbound) (s : State) : (writeHolding m s).pending = s.pending := by
  unfold writeHolding; (try dsimp only); (repeat' split) <;> simp
@[simp] theorem writeHolding_hpt_request (m : Outbound) (s : State) : (writeHolding m s).hpt.request = s.hpt.request := by
  unfold writeHolding; (try dsimp only); (repeat' split) <;> simp
@[simp] theorem writeHolding_hpt_reply (m : Outbound) (s : State) : (writeHolding m s).hpt.reply = s.hpt.reply := by
  unfold writeHolding; (try dsimp only); (repeat' split) <;> simp
@[simp] theorem writeHolding_hpt_readPos (m : Outbound) (s : State) : (writeHolding m s).hpt.readPos = s.hpt.readPos := by
  unfold writeHolding; (try dsimp only); (repeat' split) <;> simp
@[simp] theorem writeHolding_hpt_overrun (m : Outbound) (s : State) : (writeHolding m s).hpt.overrun = s.hpt.overrun := by
  unfold writeHolding; (try dsimp only); (repeat' split) <;> simp
@[simp] theorem writeHolding_hpt_phase (m : Outbound) (s : State) : (writeHolding m s).hpt.phase = s.hpt.phase := by
  unfold writeHolding; (try dsimp only); (repeat' split) <;> simp
@[simp] theorem writeHolding_hpt_mask (m : Outbound) (s : State) : (writeHolding m s).hpt.mask = s.hpt.mask := by
  unfold writeHolding; (try dsimp only); (repeat' split) <;> simp
@[simp] theorem writeHolding_hpt_cursorTable (m : Outbound) (s : State) : (writeHolding m s).hpt.cursorTable = s.hpt.cursorTable := by
  unfold writeHolding; (try dsimp only); (repeat' split) <;> simp
@[simp] theorem writeHolding_hpt_cursorIndex (m : Outbound) (s : State) : (writeHolding m s).hpt.cursorIndex = s.hpt.cursorIndex := by
  unfold writeHolding; (try dsimp only); (repeat' split) <;> simp

/-! ### insertCall -/

@[simp] theorem insertCall_frt (i : Fin 240) (r : Bool) (s : State) : (insertCall i r s).frt = s.frt := by
  unfold insertCall; (try dsimp only); (repeat' split) <;> simp
@[simp] theorem insertCall_znt (i : Fin 240) (r : Bool) (s : State) : (insertCall i r s).znt = s.znt := by
  unfold insertCall; (try dsimp only); (repeat' split) <;> simp
@[simp] theorem insertCall_rst (i : Fin 240) (r : Bool) (s : State) : (insertCall i r s).rst = s.rst := by
  unfold insertCall; (try dsimp only); (repeat' split) <;> simp
@[simp] theorem insertCall_air (i : Fin 240) (r : Bool) (s : State) : (insertCall i r s).air = s.air := by
  unfold insertCall; (try dsimp only); (repeat' split) <;> simp
@[simp] theorem insertCall_hlk (i : Fin 240) (r : Bool) (s : State) : (insertCall i r s).hlk = s.hlk := by
  unfold insertCall; (try dsimp only); (repeat' split) <;> simp
@[simp] theorem insertCall_rev (i : Fin 240) (r : Bool) (s : State) : (insertCall i r s).rev = s.rev := by
  unfold insertCall; (try dsimp only); (repeat' split) <;> simp
@[simp] theorem insertCall_cal (i : Fin 240) (r : Bool) (s : State) : (insertCall i r s).cal = s.cal := by
  unfold insertCall; (try dsimp only); (repeat' split) <;> simp
@[simp] theorem insertCall_flk (i : Fin 240) (r : Bool) (s : State) : (insertCall i r s).flk = s.flk := by
  unfold insertCall; (try dsimp only); (repeat' split) <;> simp
@[simp] theorem insertCall_handed (i : Fin 240) (r : Bool) (s : State) : (insertCall i r s).handed = s.handed := by
  unfold insertCall; (try dsimp only); (repeat' split) <;> simp
@[simp] theorem insertCall_resetLow (i : Fin 240) (r : Bool) (s : State) : (insertCall i r s).resetLow = s.resetLow := by
  unfold insertCall; (try dsimp only); (repeat' split) <;> simp
@[simp] theorem insertCall_hostOut (i : Fin 240) (r : Bool) (s : State) : (insertCall i r s).hostOut = s.hostOut := by
  unfold insertCall; (try dsimp only); (repeat' split) <;> simp
@[simp] theorem insertCall_fieldOut (i : Fin 240) (r : Bool) (s : State) : (insertCall i r s).fieldOut = s.fieldOut := by
  unfold insertCall; (try dsimp only); (repeat' split) <;> simp
@[simp] theorem insertCall_pending (i : Fin 240) (r : Bool) (s : State) : (insertCall i r s).pending = s.pending := by
  unfold insertCall; (try dsimp only); (repeat' split) <;> simp
@[simp] theorem insertCall_hpt_request (i : Fin 240) (r : Bool) (s : State) : (insertCall i r s).hpt.request = s.hpt.request := by
  unfold insertCall; (try dsimp only); (repeat' split) <;> simp
@[simp] theorem insertCall_hpt_reply (i : Fin 240) (r : Bool) (s : State) : (insertCall i r s).hpt.reply = s.hpt.reply := by
  unfold insertCall; (try dsimp only); (repeat' split) <;> simp
@[simp] theorem insertCall_hpt_readPos (i : Fin 240) (r : Bool) (s : State) : (insertCall i r s).hpt.readPos = s.hpt.readPos := by
  unfold insertCall; (try dsimp only); (repeat' split) <;> simp
@[simp] theorem insertCall_hpt_overrun (i : Fin 240) (r : Bool) (s : State) : (insertCall i r s).hpt.overrun = s.hpt.overrun := by
  unfold insertCall; (try dsimp only); (repeat' split) <;> simp
@[simp] theorem insertCall_hpt_phase (i : Fin 240) (r : Bool) (s : State) : (insertCall i r s).hpt.phase = s.hpt.phase := by
  unfold insertCall; (try dsimp only); (repeat' split) <;> simp
@[simp] theorem insertCall_hpt_mask (i : Fin 240) (r : Bool) (s : State) : (insertCall i r s).hpt.mask = s.hpt.mask := by
  unfold insertCall; (try dsimp only); (repeat' split) <;> simp
@[simp] theorem insertCall_hpt_cursorTable (i : Fin 240) (r : Bool) (s : State) : (insertCall i r s).hpt.cursorTable = s.hpt.cursorTable := by
  unfold insertCall; (try dsimp only); (repeat' split) <;> simp
@[simp] theorem insertCall_hpt_cursorIndex (i : Fin 240) (r : Bool) (s : State) : (insertCall i r s).hpt.cursorIndex = s.hpt.cursorIndex := by
  unfold insertCall; (try dsimp only); (repeat' split) <;> simp

/-! ### endCallKind -/

@[simp] theorem endCallKind_frt (i : Fin 240) (s : State) : (endCallKind i s).frt = s.frt := by
  unfold endCallKind; (try dsimp only); (repeat' split) <;> simp
@[simp] theorem endCallKind_znt (i : Fin 240) (s : State) : (endCallKind i s).znt = s.znt := by
  unfold endCallKind; (try dsimp only); (repeat' split) <;> simp
@[simp] theorem endCallKind_rst (i : Fin 240) (s : State) : (endCallKind i s).rst = s.rst := by
  unfold endCallKind; (try dsimp only); (repeat' split) <;> simp
@[simp] theorem endCallKind_air (i : Fin 240) (s : State) : (endCallKind i s).air = s.air := by
  unfold endCallKind; (try dsimp only); (repeat' split) <;> simp
@[simp] theorem endCallKind_hlk (i : Fin 240) (s : State) : (endCallKind i s).hlk = s.hlk := by
  unfold endCallKind; (try dsimp only); (repeat' split) <;> simp
@[simp] theorem endCallKind_rev (i : Fin 240) (s : State) : (endCallKind i s).rev = s.rev := by
  unfold endCallKind; (try dsimp only); (repeat' split) <;> simp
@[simp] theorem endCallKind_cal (i : Fin 240) (s : State) : (endCallKind i s).cal = s.cal := by
  unfold endCallKind; (try dsimp only); (repeat' split) <;> simp
@[simp] theorem endCallKind_flk (i : Fin 240) (s : State) : (endCallKind i s).flk = s.flk := by
  unfold endCallKind; (try dsimp only); (repeat' split) <;> simp
@[simp] theorem endCallKind_handed (i : Fin 240) (s : State) : (endCallKind i s).handed = s.handed := by
  unfold endCallKind; (try dsimp only); (repeat' split) <;> simp
@[simp] theorem endCallKind_resetLow (i : Fin 240) (s : State) : (endCallKind i s).resetLow = s.resetLow := by
  unfold endCallKind; (try dsimp only); (repeat' split) <;> simp
@[simp] theorem endCallKind_hostOut (i : Fin 240) (s : State) : (endCallKind i s).hostOut = s.hostOut := by
  unfold endCallKind; (try dsimp only); (repeat' split) <;> simp
@[simp] theorem endCallKind_fieldOut (i : Fin 240) (s : State) : (endCallKind i s).fieldOut = s.fieldOut := by
  unfold endCallKind; (try dsimp only); (repeat' split) <;> simp
@[simp] theorem endCallKind_pending (i : Fin 240) (s : State) : (endCallKind i s).pending = s.pending := by
  unfold endCallKind; (try dsimp only); (repeat' split) <;> simp
@[simp] theorem endCallKind_hpt_request (i : Fin 240) (s : State) : (endCallKind i s).hpt.request = s.hpt.request := by
  unfold endCallKind; (try dsimp only); (repeat' split) <;> simp
@[simp] theorem endCallKind_hpt_reply (i : Fin 240) (s : State) : (endCallKind i s).hpt.reply = s.hpt.reply := by
  unfold endCallKind; (try dsimp only); (repeat' split) <;> simp
@[simp] theorem endCallKind_hpt_readPos (i : Fin 240) (s : State) : (endCallKind i s).hpt.readPos = s.hpt.readPos := by
  unfold endCallKind; (try dsimp only); (repeat' split) <;> simp
@[simp] theorem endCallKind_hpt_overrun (i : Fin 240) (s : State) : (endCallKind i s).hpt.overrun = s.hpt.overrun := by
  unfold endCallKind; (try dsimp only); (repeat' split) <;> simp
@[simp] theorem endCallKind_hpt_phase (i : Fin 240) (s : State) : (endCallKind i s).hpt.phase = s.hpt.phase := by
  unfold endCallKind; (try dsimp only); (repeat' split) <;> simp
@[simp] theorem endCallKind_hpt_mask (i : Fin 240) (s : State) : (endCallKind i s).hpt.mask = s.hpt.mask := by
  unfold endCallKind; (try dsimp only); (repeat' split) <;> simp
@[simp] theorem endCallKind_hpt_cursorTable (i : Fin 240) (s : State) : (endCallKind i s).hpt.cursorTable = s.hpt.cursorTable := by
  unfold endCallKind; (try dsimp only); (repeat' split) <;> simp
@[simp] theorem endCallKind_hpt_cursorIndex (i : Fin 240) (s : State) : (endCallKind i s).hpt.cursorIndex = s.hpt.cursorIndex := by
  unfold endCallKind; (try dsimp only); (repeat' split) <;> simp

/-! ### raiseCall -/

@[simp] theorem raiseCall_frt (i : Fin 240) (p : Precedence) (s : State) : (raiseCall i p s).frt = s.frt := by
  unfold raiseCall; (try dsimp only); (repeat' split) <;> simp
@[simp] theorem raiseCall_znt (i : Fin 240) (p : Precedence) (s : State) : (raiseCall i p s).znt = s.znt := by
  unfold raiseCall; (try dsimp only); (repeat' split) <;> simp
@[simp] theorem raiseCall_air (i : Fin 240) (p : Precedence) (s : State) : (raiseCall i p s).air = s.air := by
  unfold raiseCall; (try dsimp only); (repeat' split) <;> simp
@[simp] theorem raiseCall_hlk (i : Fin 240) (p : Precedence) (s : State) : (raiseCall i p s).hlk = s.hlk := by
  unfold raiseCall; (try dsimp only); (repeat' split) <;> simp
@[simp] theorem raiseCall_rev (i : Fin 240) (p : Precedence) (s : State) : (raiseCall i p s).rev = s.rev := by
  unfold raiseCall; (try dsimp only); (repeat' split) <;> simp
@[simp] theorem raiseCall_cal (i : Fin 240) (p : Precedence) (s : State) : (raiseCall i p s).cal = s.cal := by
  unfold raiseCall; (try dsimp only); (repeat' split) <;> simp
@[simp] theorem raiseCall_flk (i : Fin 240) (p : Precedence) (s : State) : (raiseCall i p s).flk = s.flk := by
  unfold raiseCall; (try dsimp only); (repeat' split) <;> simp
@[simp] theorem raiseCall_handed (i : Fin 240) (p : Precedence) (s : State) : (raiseCall i p s).handed = s.handed := by
  unfold raiseCall; (try dsimp only); (repeat' split) <;> simp
@[simp] theorem raiseCall_resetLow (i : Fin 240) (p : Precedence) (s : State) : (raiseCall i p s).resetLow = s.resetLow := by
  unfold raiseCall; (try dsimp only); (repeat' split) <;> simp
@[simp] theorem raiseCall_hostOut (i : Fin 240) (p : Precedence) (s : State) : (raiseCall i p s).hostOut = s.hostOut := by
  unfold raiseCall; (try dsimp only); (repeat' split) <;> simp
@[simp] theorem raiseCall_fieldOut (i : Fin 240) (p : Precedence) (s : State) : (raiseCall i p s).fieldOut = s.fieldOut := by
  unfold raiseCall; (try dsimp only); (repeat' split) <;> simp
@[simp] theorem raiseCall_pending (i : Fin 240) (p : Precedence) (s : State) : (raiseCall i p s).pending = s.pending := by
  unfold raiseCall; (try dsimp only); (repeat' split) <;> simp
@[simp] theorem raiseCall_hpt_request (i : Fin 240) (p : Precedence) (s : State) : (raiseCall i p s).hpt.request = s.hpt.request := by
  unfold raiseCall; (try dsimp only); (repeat' split) <;> simp
@[simp] theorem raiseCall_hpt_reply (i : Fin 240) (p : Precedence) (s : State) : (raiseCall i p s).hpt.reply = s.hpt.reply := by
  unfold raiseCall; (try dsimp only); (repeat' split) <;> simp
@[simp] theorem raiseCall_hpt_readPos (i : Fin 240) (p : Precedence) (s : State) : (raiseCall i p s).hpt.readPos = s.hpt.readPos := by
  unfold raiseCall; (try dsimp only); (repeat' split) <;> simp
@[simp] theorem raiseCall_hpt_overrun (i : Fin 240) (p : Precedence) (s : State) : (raiseCall i p s).hpt.overrun = s.hpt.overrun := by
  unfold raiseCall; (try dsimp only); (repeat' split) <;> simp
@[simp] theorem raiseCall_hpt_phase (i : Fin 240) (p : Precedence) (s : State) : (raiseCall i p s).hpt.phase = s.hpt.phase := by
  unfold raiseCall; (try dsimp only); (repeat' split) <;> simp
@[simp] theorem raiseCall_hpt_mask (i : Fin 240) (p : Precedence) (s : State) : (raiseCall i p s).hpt.mask = s.hpt.mask := by
  unfold raiseCall; (try dsimp only); (repeat' split) <;> simp
@[simp] theorem raiseCall_hpt_cursorTable (i : Fin 240) (p : Precedence) (s : State) : (raiseCall i p s).hpt.cursorTable = s.hpt.cursorTable := by
  unfold raiseCall; (try dsimp only); (repeat' split) <;> simp
@[simp] theorem raiseCall_hpt_cursorIndex (i : Fin 240) (p : Precedence) (s : State) : (raiseCall i p s).hpt.cursorIndex = s.hpt.cursorIndex := by
  unfold raiseCall; (try dsimp only); (repeat' split) <;> simp

/-! ### upgradeCall -/

@[simp] theorem upgradeCall_frt (i : Fin 240) (p : Precedence) (s : State) : (upgradeCall i p s).frt = s.frt := by
  unfold upgradeCall; (try dsimp only); (repeat' split) <;> simp
@[simp] theorem upgradeCall_znt (i : Fin 240) (p : Precedence) (s : State) : (upgradeCall i p s).znt = s.znt := by
  unfold upgradeCall; (try dsimp only); (repeat' split) <;> simp
@[simp] theorem upgradeCall_air (i : Fin 240) (p : Precedence) (s : State) : (upgradeCall i p s).air = s.air := by
  unfold upgradeCall; (try dsimp only); (repeat' split) <;> simp
@[simp] theorem upgradeCall_hlk (i : Fin 240) (p : Precedence) (s : State) : (upgradeCall i p s).hlk = s.hlk := by
  unfold upgradeCall; (try dsimp only); (repeat' split) <;> simp
@[simp] theorem upgradeCall_rev (i : Fin 240) (p : Precedence) (s : State) : (upgradeCall i p s).rev = s.rev := by
  unfold upgradeCall; (try dsimp only); (repeat' split) <;> simp
@[simp] theorem upgradeCall_cal (i : Fin 240) (p : Precedence) (s : State) : (upgradeCall i p s).cal = s.cal := by
  unfold upgradeCall; (try dsimp only); (repeat' split) <;> simp
@[simp] theorem upgradeCall_flk (i : Fin 240) (p : Precedence) (s : State) : (upgradeCall i p s).flk = s.flk := by
  unfold upgradeCall; (try dsimp only); (repeat' split) <;> simp
@[simp] theorem upgradeCall_handed (i : Fin 240) (p : Precedence) (s : State) : (upgradeCall i p s).handed = s.handed := by
  unfold upgradeCall; (try dsimp only); (repeat' split) <;> simp
@[simp] theorem upgradeCall_resetLow (i : Fin 240) (p : Precedence) (s : State) : (upgradeCall i p s).resetLow = s.resetLow := by
  unfold upgradeCall; (try dsimp only); (repeat' split) <;> simp
@[simp] theorem upgradeCall_hostOut (i : Fin 240) (p : Precedence) (s : State) : (upgradeCall i p s).hostOut = s.hostOut := by
  unfold upgradeCall; (try dsimp only); (repeat' split) <;> simp
@[simp] theorem upgradeCall_fieldOut (i : Fin 240) (p : Precedence) (s : State) : (upgradeCall i p s).fieldOut = s.fieldOut := by
  unfold upgradeCall; (try dsimp only); (repeat' split) <;> simp
@[simp] theorem upgradeCall_pending (i : Fin 240) (p : Precedence) (s : State) : (upgradeCall i p s).pending = s.pending := by
  unfold upgradeCall; (try dsimp only); (repeat' split) <;> simp
@[simp] theorem upgradeCall_hpt_request (i : Fin 240) (p : Precedence) (s : State) : (upgradeCall i p s).hpt.request = s.hpt.request := by
  unfold upgradeCall; (try dsimp only); (repeat' split) <;> simp
@[simp] theorem upgradeCall_hpt_reply (i : Fin 240) (p : Precedence) (s : State) : (upgradeCall i p s).hpt.reply = s.hpt.reply := by
  unfold upgradeCall; (try dsimp only); (repeat' split) <;> simp
@[simp] theorem upgradeCall_hpt_readPos (i : Fin 240) (p : Precedence) (s : State) : (upgradeCall i p s).hpt.readPos = s.hpt.readPos := by
  unfold upgradeCall; (try dsimp only); (repeat' split) <;> simp
@[simp] theorem upgradeCall_hpt_overrun (i : Fin 240) (p : Precedence) (s : State) : (upgradeCall i p s).hpt.overrun = s.hpt.overrun := by
  unfold upgradeCall; (try dsimp only); (repeat' split) <;> simp
@[simp] theorem upgradeCall_hpt_phase (i : Fin 240) (p : Precedence) (s : State) : (upgradeCall i p s).hpt.phase = s.hpt.phase := by
  unfold upgradeCall; (try dsimp only); (repeat' split) <;> simp
@[simp] theorem upgradeCall_hpt_mask (i : Fin 240) (p : Precedence) (s : State) : (upgradeCall i p s).hpt.mask = s.hpt.mask := by
  unfold upgradeCall; (try dsimp only); (repeat' split) <;> simp
@[simp] theorem upgradeCall_hpt_cursorTable (i : Fin 240) (p : Precedence) (s : State) : (upgradeCall i p s).hpt.cursorTable = s.hpt.cursorTable := by
  unfold upgradeCall; (try dsimp only); (repeat' split) <;> simp
@[simp] theorem upgradeCall_hpt_cursorIndex (i : Fin 240) (p : Precedence) (s : State) : (upgradeCall i p s).hpt.cursorIndex = s.hpt.cursorIndex := by
  unfold upgradeCall; (try dsimp only); (repeat' split) <;> simp

/-! ### callKey -/

@[simp] theorem callKey_frt (i : Fin 240) (p : Precedence) (s : State) : (callKey i p s).frt = s.frt := by
  unfold callKey; (try dsimp only); (repeat' split) <;> simp
@[simp] theorem callKey_znt (i : Fin 240) (p : Precedence) (s : State) : (callKey i p s).znt = s.znt := by
  unfold callKey; (try dsimp only); (repeat' split) <;> simp
@[simp] theorem callKey_air (i : Fin 240) (p : Precedence) (s : State) : (callKey i p s).air = s.air := by
  unfold callKey; (try dsimp only); (repeat' split) <;> simp
@[simp] theorem callKey_hlk (i : Fin 240) (p : Precedence) (s : State) : (callKey i p s).hlk = s.hlk := by
  unfold callKey; (try dsimp only); (repeat' split) <;> simp
@[simp] theorem callKey_rev (i : Fin 240) (p : Precedence) (s : State) : (callKey i p s).rev = s.rev := by
  unfold callKey; (try dsimp only); (repeat' split) <;> simp
@[simp] theorem callKey_cal (i : Fin 240) (p : Precedence) (s : State) : (callKey i p s).cal = s.cal := by
  unfold callKey; (try dsimp only); (repeat' split) <;> simp
@[simp] theorem callKey_flk (i : Fin 240) (p : Precedence) (s : State) : (callKey i p s).flk = s.flk := by
  unfold callKey; (try dsimp only); (repeat' split) <;> simp
@[simp] theorem callKey_handed (i : Fin 240) (p : Precedence) (s : State) : (callKey i p s).handed = s.handed := by
  unfold callKey; (try dsimp only); (repeat' split) <;> simp
@[simp] theorem callKey_resetLow (i : Fin 240) (p : Precedence) (s : State) : (callKey i p s).resetLow = s.resetLow := by
  unfold callKey; (try dsimp only); (repeat' split) <;> simp
@[simp] theorem callKey_hostOut (i : Fin 240) (p : Precedence) (s : State) : (callKey i p s).hostOut = s.hostOut := by
  unfold callKey; (try dsimp only); (repeat' split) <;> simp
@[simp] theorem callKey_fieldOut (i : Fin 240) (p : Precedence) (s : State) : (callKey i p s).fieldOut = s.fieldOut := by
  unfold callKey; (try dsimp only); (repeat' split) <;> simp
@[simp] theorem callKey_pending (i : Fin 240) (p : Precedence) (s : State) : (callKey i p s).pending = s.pending := by
  unfold callKey; (try dsimp only); (repeat' split) <;> simp
@[simp] theorem callKey_hpt_request (i : Fin 240) (p : Precedence) (s : State) : (callKey i p s).hpt.request = s.hpt.request := by
  unfold callKey; (try dsimp only); (repeat' split) <;> simp
@[simp] theorem callKey_hpt_reply (i : Fin 240) (p : Precedence) (s : State) : (callKey i p s).hpt.reply = s.hpt.reply := by
  unfold callKey; (try dsimp only); (repeat' split) <;> simp
@[simp] theorem callKey_hpt_readPos (i : Fin 240) (p : Precedence) (s : State) : (callKey i p s).hpt.readPos = s.hpt.readPos := by
  unfold callKey; (try dsimp only); (repeat' split) <;> simp
@[simp] theorem callKey_hpt_overrun (i : Fin 240) (p : Precedence) (s : State) : (callKey i p s).hpt.overrun = s.hpt.overrun := by
  unfold callKey; (try dsimp only); (repeat' split) <;> simp
@[simp] theorem callKey_hpt_phase (i : Fin 240) (p : Precedence) (s : State) : (callKey i p s).hpt.phase = s.hpt.phase := by
  unfold callKey; (try dsimp only); (repeat' split) <;> simp
@[simp] theorem callKey_hpt_mask (i : Fin 240) (p : Precedence) (s : State) : (callKey i p s).hpt.mask = s.hpt.mask := by
  unfold callKey; (try dsimp only); (repeat' split) <;> simp
@[simp] theorem callKey_hpt_cursorTable (i : Fin 240) (p : Precedence) (s : State) : (callKey i p s).hpt.cursorTable = s.hpt.cursorTable := by
  unfold callKey; (try dsimp only); (repeat' split) <;> simp
@[simp] theorem callKey_hpt_cursorIndex (i : Fin 240) (p : Precedence) (s : State) : (callKey i p s).hpt.cursorIndex = s.hpt.cursorIndex := by
  unfold callKey; (try dsimp only); (repeat' split) <;> simp

/-! ### endConnected -/

@[simp] theorem endConnected_frt (i : Fin 240) (s : State) : (endConnected i s).frt = s.frt := by
  unfold endConnected; (try dsimp only); (repeat' split) <;> simp
@[simp] theorem endConnected_znt (i : Fin 240) (s : State) : (endConnected i s).znt = s.znt := by
  unfold endConnected; (try dsimp only); (repeat' split) <;> simp
@[simp] theorem endConnected_atq (i : Fin 240) (s : State) : (endConnected i s).atq = s.atq := by
  unfold endConnected; (try dsimp only); (repeat' split) <;> simp
@[simp] theorem endConnected_air (i : Fin 240) (s : State) : (endConnected i s).air = s.air := by
  unfold endConnected; (try dsimp only); (repeat' split) <;> simp
@[simp] theorem endConnected_hlk (i : Fin 240) (s : State) : (endConnected i s).hlk = s.hlk := by
  unfold endConnected; (try dsimp only); (repeat' split) <;> simp
@[simp] theorem endConnected_rev (i : Fin 240) (s : State) : (endConnected i s).rev = s.rev := by
  unfold endConnected; (try dsimp only); (repeat' split) <;> simp
@[simp] theorem endConnected_flk (i : Fin 240) (s : State) : (endConnected i s).flk = s.flk := by
  unfold endConnected; (try dsimp only); (repeat' split) <;> simp
@[simp] theorem endConnected_hpt (i : Fin 240) (s : State) : (endConnected i s).hpt = s.hpt := by
  unfold endConnected; (try dsimp only); (repeat' split) <;> simp
@[simp] theorem endConnected_handed (i : Fin 240) (s : State) : (endConnected i s).handed = s.handed := by
  unfold endConnected; (try dsimp only); (repeat' split) <;> simp
@[simp] theorem endConnected_resetLow (i : Fin 240) (s : State) : (endConnected i s).resetLow = s.resetLow := by
  unfold endConnected; (try dsimp only); (repeat' split) <;> simp
@[simp] theorem endConnected_hostOut (i : Fin 240) (s : State) : (endConnected i s).hostOut = s.hostOut := by
  unfold endConnected; (try dsimp only); (repeat' split) <;> simp
@[simp] theorem endConnected_fieldOut (i : Fin 240) (s : State) : (endConnected i s).fieldOut = s.fieldOut := by
  unfold endConnected; (try dsimp only); (repeat' split) <;> simp
@[simp] theorem endConnected_pending (i : Fin 240) (s : State) : (endConnected i s).pending = s.pending := by
  unfold endConnected; (try dsimp only); (repeat' split) <;> simp

/-! ### endManDown -/

@[simp] theorem endManDown_frt (i : Fin 240) (p : Person) (s : State) : (endManDown i p s).frt = s.frt := by
  unfold endManDown; (try dsimp only); (repeat' split) <;> simp
@[simp] theorem endManDown_znt (i : Fin 240) (p : Person) (s : State) : (endManDown i p s).znt = s.znt := by
  unfold endManDown; (try dsimp only); (repeat' split) <;> simp
@[simp] theorem endManDown_rst (i : Fin 240) (p : Person) (s : State) : (endManDown i p s).rst = s.rst := by
  unfold endManDown; (try dsimp only); (repeat' split) <;> simp
@[simp] theorem endManDown_air (i : Fin 240) (p : Person) (s : State) : (endManDown i p s).air = s.air := by
  unfold endManDown; (try dsimp only); (repeat' split) <;> simp
@[simp] theorem endManDown_hlk (i : Fin 240) (p : Person) (s : State) : (endManDown i p s).hlk = s.hlk := by
  unfold endManDown; (try dsimp only); (repeat' split) <;> simp
@[simp] theorem endManDown_rev (i : Fin 240) (p : Person) (s : State) : (endManDown i p s).rev = s.rev := by
  unfold endManDown; (try dsimp only); (repeat' split) <;> simp
@[simp] theorem endManDown_cal (i : Fin 240) (p : Person) (s : State) : (endManDown i p s).cal = s.cal := by
  unfold endManDown; (try dsimp only); (repeat' split) <;> simp
@[simp] theorem endManDown_flk (i : Fin 240) (p : Person) (s : State) : (endManDown i p s).flk = s.flk := by
  unfold endManDown; (try dsimp only); (repeat' split) <;> simp
@[simp] theorem endManDown_handed (i : Fin 240) (p : Person) (s : State) : (endManDown i p s).handed = s.handed := by
  unfold endManDown; (try dsimp only); (repeat' split) <;> simp
@[simp] theorem endManDown_resetLow (i : Fin 240) (p : Person) (s : State) : (endManDown i p s).resetLow = s.resetLow := by
  unfold endManDown; (try dsimp only); (repeat' split) <;> simp
@[simp] theorem endManDown_hostOut (i : Fin 240) (p : Person) (s : State) : (endManDown i p s).hostOut = s.hostOut := by
  unfold endManDown; (try dsimp only); (repeat' split) <;> simp
@[simp] theorem endManDown_fieldOut (i : Fin 240) (p : Person) (s : State) : (endManDown i p s).fieldOut = s.fieldOut := by
  unfold endManDown; (try dsimp only); (repeat' split) <;> simp
@[simp] theorem endManDown_pending (i : Fin 240) (p : Person) (s : State) : (endManDown i p s).pending = s.pending := by
  unfold endManDown; (try dsimp only); (repeat' split) <;> simp
@[simp] theorem endManDown_hpt_request (i : Fin 240) (p : Person) (s : State) : (endManDown i p s).hpt.request = s.hpt.request := by
  unfold endManDown; (try dsimp only); (repeat' split) <;> simp
@[simp] theorem endManDown_hpt_reply (i : Fin 240) (p : Person) (s : State) : (endManDown i p s).hpt.reply = s.hpt.reply := by
  unfold endManDown; (try dsimp only); (repeat' split) <;> simp
@[simp] theorem endManDown_hpt_readPos (i : Fin 240) (p : Person) (s : State) : (endManDown i p s).hpt.readPos = s.hpt.readPos := by
  unfold endManDown; (try dsimp only); (repeat' split) <;> simp
@[simp] theorem endManDown_hpt_overrun (i : Fin 240) (p : Person) (s : State) : (endManDown i p s).hpt.overrun = s.hpt.overrun := by
  unfold endManDown; (try dsimp only); (repeat' split) <;> simp
@[simp] theorem endManDown_hpt_phase (i : Fin 240) (p : Person) (s : State) : (endManDown i p s).hpt.phase = s.hpt.phase := by
  unfold endManDown; (try dsimp only); (repeat' split) <;> simp
@[simp] theorem endManDown_hpt_mask (i : Fin 240) (p : Person) (s : State) : (endManDown i p s).hpt.mask = s.hpt.mask := by
  unfold endManDown; (try dsimp only); (repeat' split) <;> simp
@[simp] theorem endManDown_hpt_cursorTable (i : Fin 240) (p : Person) (s : State) : (endManDown i p s).hpt.cursorTable = s.hpt.cursorTable := by
  unfold endManDown; (try dsimp only); (repeat' split) <;> simp
@[simp] theorem endManDown_hpt_cursorIndex (i : Fin 240) (p : Person) (s : State) : (endManDown i p s).hpt.cursorIndex = s.hpt.cursorIndex := by
  unfold endManDown; (try dsimp only); (repeat' split) <;> simp

/-! ### cancelKey -/

@[simp] theorem cancelKey_frt (i : Fin 240) (s : State) : (cancelKey i s).frt = s.frt := by
  unfold cancelKey; (try dsimp only); (repeat' split) <;> simp
@[simp] theorem cancelKey_znt (i : Fin 240) (s : State) : (cancelKey i s).znt = s.znt := by
  unfold cancelKey; (try dsimp only); (repeat' split) <;> simp
@[simp] theorem cancelKey_air (i : Fin 240) (s : State) : (cancelKey i s).air = s.air := by
  unfold cancelKey; (try dsimp only); (repeat' split) <;> simp
@[simp] theorem cancelKey_hlk (i : Fin 240) (s : State) : (cancelKey i s).hlk = s.hlk := by
  unfold cancelKey; (try dsimp only); (repeat' split) <;> simp
@[simp] theorem cancelKey_rev (i : Fin 240) (s : State) : (cancelKey i s).rev = s.rev := by
  unfold cancelKey; (try dsimp only); (repeat' split) <;> simp
@[simp] theorem cancelKey_flk (i : Fin 240) (s : State) : (cancelKey i s).flk = s.flk := by
  unfold cancelKey; (try dsimp only); (repeat' split) <;> simp
@[simp] theorem cancelKey_handed (i : Fin 240) (s : State) : (cancelKey i s).handed = s.handed := by
  unfold cancelKey; (try dsimp only); (repeat' split) <;> simp
@[simp] theorem cancelKey_resetLow (i : Fin 240) (s : State) : (cancelKey i s).resetLow = s.resetLow := by
  unfold cancelKey; (try dsimp only); (repeat' split) <;> simp
@[simp] theorem cancelKey_hostOut (i : Fin 240) (s : State) : (cancelKey i s).hostOut = s.hostOut := by
  unfold cancelKey; (try dsimp only); (repeat' split) <;> simp
@[simp] theorem cancelKey_fieldOut (i : Fin 240) (s : State) : (cancelKey i s).fieldOut = s.fieldOut := by
  unfold cancelKey; (try dsimp only); (repeat' split) <;> simp
@[simp] theorem cancelKey_pending (i : Fin 240) (s : State) : (cancelKey i s).pending = s.pending := by
  unfold cancelKey; (try dsimp only); (repeat' split) <;> simp
@[simp] theorem cancelKey_hpt_request (i : Fin 240) (s : State) : (cancelKey i s).hpt.request = s.hpt.request := by
  unfold cancelKey; (try dsimp only); (repeat' split) <;> simp
@[simp] theorem cancelKey_hpt_reply (i : Fin 240) (s : State) : (cancelKey i s).hpt.reply = s.hpt.reply := by
  unfold cancelKey; (try dsimp only); (repeat' split) <;> simp
@[simp] theorem cancelKey_hpt_readPos (i : Fin 240) (s : State) : (cancelKey i s).hpt.readPos = s.hpt.readPos := by
  unfold cancelKey; (try dsimp only); (repeat' split) <;> simp
@[simp] theorem cancelKey_hpt_overrun (i : Fin 240) (s : State) : (cancelKey i s).hpt.overrun = s.hpt.overrun := by
  unfold cancelKey; (try dsimp only); (repeat' split) <;> simp
@[simp] theorem cancelKey_hpt_phase (i : Fin 240) (s : State) : (cancelKey i s).hpt.phase = s.hpt.phase := by
  unfold cancelKey; (try dsimp only); (repeat' split) <;> simp
@[simp] theorem cancelKey_hpt_mask (i : Fin 240) (s : State) : (cancelKey i s).hpt.mask = s.hpt.mask := by
  unfold cancelKey; (try dsimp only); (repeat' split) <;> simp
@[simp] theorem cancelKey_hpt_cursorTable (i : Fin 240) (s : State) : (cancelKey i s).hpt.cursorTable = s.hpt.cursorTable := by
  unfold cancelKey; (try dsimp only); (repeat' split) <;> simp
@[simp] theorem cancelKey_hpt_cursorIndex (i : Fin 240) (s : State) : (cancelKey i s).hpt.cursorIndex = s.hpt.cursorIndex := by
  unfold cancelKey; (try dsimp only); (repeat' split) <;> simp

/-! ### judgeCallWait -/

@[simp] theorem judgeCallWait_frt (i : Fin 240) (s : State) : (judgeCallWait i s).frt = s.frt := by
  unfold judgeCallWait; (try dsimp only); (repeat' split) <;> simp
@[simp] theorem judgeCallWait_znt (i : Fin 240) (s : State) : (judgeCallWait i s).znt = s.znt := by
  unfold judgeCallWait; (try dsimp only); (repeat' split) <;> simp
@[simp] theorem judgeCallWait_air (i : Fin 240) (s : State) : (judgeCallWait i s).air = s.air := by
  unfold judgeCallWait; (try dsimp only); (repeat' split) <;> simp
@[simp] theorem judgeCallWait_hlk (i : Fin 240) (s : State) : (judgeCallWait i s).hlk = s.hlk := by
  unfold judgeCallWait; (try dsimp only); (repeat' split) <;> simp
@[simp] theorem judgeCallWait_rev (i : Fin 240) (s : State) : (judgeCallWait i s).rev = s.rev := by
  unfold judgeCallWait; (try dsimp only); (repeat' split) <;> simp
@[simp] theorem judgeCallWait_cal (i : Fin 240) (s : State) : (judgeCallWait i s).cal = s.cal := by
  unfold judgeCallWait; (try dsimp only); (repeat' split) <;> simp
@[simp] theorem judgeCallWait_flk (i : Fin 240) (s : State) : (judgeCallWait i s).flk = s.flk := by
  unfold judgeCallWait; (try dsimp only); (repeat' split) <;> simp
@[simp] theorem judgeCallWait_handed (i : Fin 240) (s : State) : (judgeCallWait i s).handed = s.handed := by
  unfold judgeCallWait; (try dsimp only); (repeat' split) <;> simp
@[simp] theorem judgeCallWait_resetLow (i : Fin 240) (s : State) : (judgeCallWait i s).resetLow = s.resetLow := by
  unfold judgeCallWait; (try dsimp only); (repeat' split) <;> simp
@[simp] theorem judgeCallWait_hostOut (i : Fin 240) (s : State) : (judgeCallWait i s).hostOut = s.hostOut := by
  unfold judgeCallWait; (try dsimp only); (repeat' split) <;> simp
@[simp] theorem judgeCallWait_fieldOut (i : Fin 240) (s : State) : (judgeCallWait i s).fieldOut = s.fieldOut := by
  unfold judgeCallWait; (try dsimp only); (repeat' split) <;> simp
@[simp] theorem judgeCallWait_pending (i : Fin 240) (s : State) : (judgeCallWait i s).pending = s.pending := by
  unfold judgeCallWait; (try dsimp only); (repeat' split) <;> simp
@[simp] theorem judgeCallWait_hpt_request (i : Fin 240) (s : State) : (judgeCallWait i s).hpt.request = s.hpt.request := by
  unfold judgeCallWait; (try dsimp only); (repeat' split) <;> simp
@[simp] theorem judgeCallWait_hpt_reply (i : Fin 240) (s : State) : (judgeCallWait i s).hpt.reply = s.hpt.reply := by
  unfold judgeCallWait; (try dsimp only); (repeat' split) <;> simp
@[simp] theorem judgeCallWait_hpt_readPos (i : Fin 240) (s : State) : (judgeCallWait i s).hpt.readPos = s.hpt.readPos := by
  unfold judgeCallWait; (try dsimp only); (repeat' split) <;> simp
@[simp] theorem judgeCallWait_hpt_overrun (i : Fin 240) (s : State) : (judgeCallWait i s).hpt.overrun = s.hpt.overrun := by
  unfold judgeCallWait; (try dsimp only); (repeat' split) <;> simp
@[simp] theorem judgeCallWait_hpt_phase (i : Fin 240) (s : State) : (judgeCallWait i s).hpt.phase = s.hpt.phase := by
  unfold judgeCallWait; (try dsimp only); (repeat' split) <;> simp
@[simp] theorem judgeCallWait_hpt_mask (i : Fin 240) (s : State) : (judgeCallWait i s).hpt.mask = s.hpt.mask := by
  unfold judgeCallWait; (try dsimp only); (repeat' split) <;> simp
@[simp] theorem judgeCallWait_hpt_cursorTable (i : Fin 240) (s : State) : (judgeCallWait i s).hpt.cursorTable = s.hpt.cursorTable := by
  unfold judgeCallWait; (try dsimp only); (repeat' split) <;> simp
@[simp] theorem judgeCallWait_hpt_cursorIndex (i : Fin 240) (s : State) : (judgeCallWait i s).hpt.cursorIndex = s.hpt.cursorIndex := by
  unfold judgeCallWait; (try dsimp only); (repeat' split) <;> simp

/-! ### judgeCallWaits -/

@[simp] theorem judgeCallWaits_frt (s : State) : (judgeCallWaits s).frt = s.frt := by
  unfold judgeCallWaits; exact (forEach_same (fun t => t.frt) _ (fun _ _ => by simp) _ _).trans (by simp)
@[simp] theorem judgeCallWaits_znt (s : State) : (judgeCallWaits s).znt = s.znt := by
  unfold judgeCallWaits; exact (forEach_same (fun t => t.znt) _ (fun _ _ => by simp) _ _).trans (by simp)
@[simp] theorem judgeCallWaits_air (s : State) : (judgeCallWaits s).air = s.air := by
  unfold judgeCallWaits; exact (forEach_same (fun t => t.air) _ (fun _ _ => by simp) _ _).trans (by simp)
@[simp] theorem judgeCallWaits_hlk (s : State) : (judgeCallWaits s).hlk = s.hlk := by
  unfold judgeCallWaits; exact (forEach_same (fun t => t.hlk) _ (fun _ _ => by simp) _ _).trans (by simp)
@[simp] theorem judgeCallWaits_rev (s : State) : (judgeCallWaits s).rev = s.rev := by
  unfold judgeCallWaits; exact (forEach_same (fun t => t.rev) _ (fun _ _ => by simp) _ _).trans (by simp)
@[simp] theorem judgeCallWaits_cal (s : State) : (judgeCallWaits s).cal = s.cal := by
  unfold judgeCallWaits; exact (forEach_same (fun t => t.cal) _ (fun _ _ => by simp) _ _).trans (by simp)
@[simp] theorem judgeCallWaits_flk (s : State) : (judgeCallWaits s).flk = s.flk := by
  unfold judgeCallWaits; exact (forEach_same (fun t => t.flk) _ (fun _ _ => by simp) _ _).trans (by simp)
@[simp] theorem judgeCallWaits_handed (s : State) : (judgeCallWaits s).handed = s.handed := by
  unfold judgeCallWaits; exact (forEach_same (fun t => t.handed) _ (fun _ _ => by simp) _ _).trans (by simp)
@[simp] theorem judgeCallWaits_resetLow (s : State) : (judgeCallWaits s).resetLow = s.resetLow := by
  unfold judgeCallWaits; exact (forEach_same (fun t => t.resetLow) _ (fun _ _ => by simp) _ _).trans (by simp)
@[simp] theorem judgeCallWaits_hostOut (s : State) : (judgeCallWaits s).hostOut = s.hostOut := by
  unfold judgeCallWaits; exact (forEach_same (fun t => t.hostOut) _ (fun _ _ => by simp) _ _).trans (by simp)
@[simp] theorem judgeCallWaits_fieldOut (s : State) : (judgeCallWaits s).fieldOut = s.fieldOut := by
  unfold judgeCallWaits; exact (forEach_same (fun t => t.fieldOut) _ (fun _ _ => by simp) _ _).trans (by simp)
@[simp] theorem judgeCallWaits_pending (s : State) : (judgeCallWaits s).pending = s.pending := by
  unfold judgeCallWaits; exact (forEach_same (fun t => t.pending) _ (fun _ _ => by simp) _ _).trans (by simp)
@[simp] theorem judgeCallWaits_hpt_request (s : State) : (judgeCallWaits s).hpt.request = s.hpt.request := by
  unfold judgeCallWaits; exact (forEach_same (fun t => t.hpt.request) _ (fun _ _ => by simp) _ _).trans (by simp)
@[simp] theorem judgeCallWaits_hpt_reply (s : State) : (judgeCallWaits s).hpt.reply = s.hpt.reply := by
  unfold judgeCallWaits; exact (forEach_same (fun t => t.hpt.reply) _ (fun _ _ => by simp) _ _).trans (by simp)
@[simp] theorem judgeCallWaits_hpt_readPos (s : State) : (judgeCallWaits s).hpt.readPos = s.hpt.readPos := by
  unfold judgeCallWaits; exact (forEach_same (fun t => t.hpt.readPos) _ (fun _ _ => by simp) _ _).trans (by simp)
@[simp] theorem judgeCallWaits_hpt_overrun (s : State) : (judgeCallWaits s).hpt.overrun = s.hpt.overrun := by
  unfold judgeCallWaits; exact (forEach_same (fun t => t.hpt.overrun) _ (fun _ _ => by simp) _ _).trans (by simp)
@[simp] theorem judgeCallWaits_hpt_phase (s : State) : (judgeCallWaits s).hpt.phase = s.hpt.phase := by
  unfold judgeCallWaits; exact (forEach_same (fun t => t.hpt.phase) _ (fun _ _ => by simp) _ _).trans (by simp)
@[simp] theorem judgeCallWaits_hpt_mask (s : State) : (judgeCallWaits s).hpt.mask = s.hpt.mask := by
  unfold judgeCallWaits; exact (forEach_same (fun t => t.hpt.mask) _ (fun _ _ => by simp) _ _).trans (by simp)
@[simp] theorem judgeCallWaits_hpt_cursorTable (s : State) : (judgeCallWaits s).hpt.cursorTable = s.hpt.cursorTable := by
  unfold judgeCallWaits; exact (forEach_same (fun t => t.hpt.cursorTable) _ (fun _ _ => by simp) _ _).trans (by simp)
@[simp] theorem judgeCallWaits_hpt_cursorIndex (s : State) : (judgeCallWaits s).hpt.cursorIndex = s.hpt.cursorIndex := by
  unfold judgeCallWaits; exact (forEach_same (fun t => t.hpt.cursorIndex) _ (fun _ _ => by simp) _ _).trans (by simp)

/-! ### connectCall -/

@[simp] theorem connectCall_frt (i : Fin 240) (p : Person) (c : Fin 4) (s : State) : (connectCall i p c s).frt = s.frt := by
  unfold connectCall; (try dsimp only); (repeat' split) <;> simp
@[simp] theorem connectCall_znt (i : Fin 240) (p : Person) (c : Fin 4) (s : State) : (connectCall i p c s).znt = s.znt := by
  unfold connectCall; (try dsimp only); (repeat' split) <;> simp
@[simp] theorem connectCall_air (i : Fin 240) (p : Person) (c : Fin 4) (s : State) : (connectCall i p c s).air = s.air := by
  unfold connectCall; (try dsimp only); (repeat' split) <;> simp
@[simp] theorem connectCall_hlk (i : Fin 240) (p : Person) (c : Fin 4) (s : State) : (connectCall i p c s).hlk = s.hlk := by
  unfold connectCall; (try dsimp only); (repeat' split) <;> simp
@[simp] theorem connectCall_rev (i : Fin 240) (p : Person) (c : Fin 4) (s : State) : (connectCall i p c s).rev = s.rev := by
  unfold connectCall; (try dsimp only); (repeat' split) <;> simp
@[simp] theorem connectCall_flk (i : Fin 240) (p : Person) (c : Fin 4) (s : State) : (connectCall i p c s).flk = s.flk := by
  unfold connectCall; (try dsimp only); (repeat' split) <;> simp
@[simp] theorem connectCall_handed (i : Fin 240) (p : Person) (c : Fin 4) (s : State) : (connectCall i p c s).handed = s.handed := by
  unfold connectCall; (try dsimp only); (repeat' split) <;> simp
@[simp] theorem connectCall_resetLow (i : Fin 240) (p : Person) (c : Fin 4) (s : State) : (connectCall i p c s).resetLow = s.resetLow := by
  unfold connectCall; (try dsimp only); (repeat' split) <;> simp
@[simp] theorem connectCall_hostOut (i : Fin 240) (p : Person) (c : Fin 4) (s : State) : (connectCall i p c s).hostOut = s.hostOut := by
  unfold connectCall; (try dsimp only); (repeat' split) <;> simp
@[simp] theorem connectCall_fieldOut (i : Fin 240) (p : Person) (c : Fin 4) (s : State) : (connectCall i p c s).fieldOut = s.fieldOut := by
  unfold connectCall; (try dsimp only); (repeat' split) <;> simp
@[simp] theorem connectCall_pending (i : Fin 240) (p : Person) (c : Fin 4) (s : State) : (connectCall i p c s).pending = s.pending := by
  unfold connectCall; (try dsimp only); (repeat' split) <;> simp
@[simp] theorem connectCall_hpt_request (i : Fin 240) (p : Person) (c : Fin 4) (s : State) : (connectCall i p c s).hpt.request = s.hpt.request := by
  unfold connectCall; (try dsimp only); (repeat' split) <;> simp
@[simp] theorem connectCall_hpt_reply (i : Fin 240) (p : Person) (c : Fin 4) (s : State) : (connectCall i p c s).hpt.reply = s.hpt.reply := by
  unfold connectCall; (try dsimp only); (repeat' split) <;> simp
@[simp] theorem connectCall_hpt_readPos (i : Fin 240) (p : Person) (c : Fin 4) (s : State) : (connectCall i p c s).hpt.readPos = s.hpt.readPos := by
  unfold connectCall; (try dsimp only); (repeat' split) <;> simp
@[simp] theorem connectCall_hpt_overrun (i : Fin 240) (p : Person) (c : Fin 4) (s : State) : (connectCall i p c s).hpt.overrun = s.hpt.overrun := by
  unfold connectCall; (try dsimp only); (repeat' split) <;> simp
@[simp] theorem connectCall_hpt_phase (i : Fin 240) (p : Person) (c : Fin 4) (s : State) : (connectCall i p c s).hpt.phase = s.hpt.phase := by
  unfold connectCall; (try dsimp only); (repeat' split) <;> simp
@[simp] theorem connectCall_hpt_mask (i : Fin 240) (p : Person) (c : Fin 4) (s : State) : (connectCall i p c s).hpt.mask = s.hpt.mask := by
  unfold connectCall; (try dsimp only); (repeat' split) <;> simp
@[simp] theorem connectCall_hpt_cursorTable (i : Fin 240) (p : Person) (c : Fin 4) (s : State) : (connectCall i p c s).hpt.cursorTable = s.hpt.cursorTable := by
  unfold connectCall; (try dsimp only); (repeat' split) <;> simp
@[simp] theorem connectCall_hpt_cursorIndex (i : Fin 240) (p : Person) (c : Fin 4) (s : State) : (connectCall i p c s).hpt.cursorIndex = s.hpt.cursorIndex := by
  unfold connectCall; (try dsimp only); (repeat' split) <;> simp

/-! ### holdChannel -/

@[simp] theorem holdChannel_frt (s : State) : (holdChannel s).frt = s.frt := by
  unfold holdChannel; (try dsimp only); (repeat' split) <;> simp
@[simp] theorem holdChannel_znt (s : State) : (holdChannel s).znt = s.znt := by
  unfold holdChannel; (try dsimp only); (repeat' split) <;> simp
@[simp] theorem holdChannel_atq (s : State) : (holdChannel s).atq = s.atq := by
  unfold holdChannel; (try dsimp only); (repeat' split) <;> simp
@[simp] theorem holdChannel_rst (s : State) : (holdChannel s).rst = s.rst := by
  unfold holdChannel; (try dsimp only); (repeat' split) <;> simp
@[simp] theorem holdChannel_air (s : State) : (holdChannel s).air = s.air := by
  unfold holdChannel; (try dsimp only); (repeat' split) <;> simp
@[simp] theorem holdChannel_hlk (s : State) : (holdChannel s).hlk = s.hlk := by
  unfold holdChannel; (try dsimp only); (repeat' split) <;> simp
@[simp] theorem holdChannel_rev (s : State) : (holdChannel s).rev = s.rev := by
  unfold holdChannel; (try dsimp only); (repeat' split) <;> simp
@[simp] theorem holdChannel_cal (s : State) : (holdChannel s).cal = s.cal := by
  unfold holdChannel; (try dsimp only); (repeat' split) <;> simp
@[simp] theorem holdChannel_handed (s : State) : (holdChannel s).handed = s.handed := by
  unfold holdChannel; (try dsimp only); (repeat' split) <;> simp
@[simp] theorem holdChannel_resetLow (s : State) : (holdChannel s).resetLow = s.resetLow := by
  unfold holdChannel; (try dsimp only); (repeat' split) <;> simp
@[simp] theorem holdChannel_hostOut (s : State) : (holdChannel s).hostOut = s.hostOut := by
  unfold holdChannel; (try dsimp only); (repeat' split) <;> simp
@[simp] theorem holdChannel_fieldOut (s : State) : (holdChannel s).fieldOut = s.fieldOut := by
  unfold holdChannel; (try dsimp only); (repeat' split) <;> simp
@[simp] theorem holdChannel_pending (s : State) : (holdChannel s).pending = s.pending := by
  unfold holdChannel; (try dsimp only); (repeat' split) <;> simp
@[simp] theorem holdChannel_hpt_request (s : State) : (holdChannel s).hpt.request = s.hpt.request := by
  unfold holdChannel; (try dsimp only); (repeat' split) <;> simp
@[simp] theorem holdChannel_hpt_reply (s : State) : (holdChannel s).hpt.reply = s.hpt.reply := by
  unfold holdChannel; (try dsimp only); (repeat' split) <;> simp
@[simp] theorem holdChannel_hpt_readPos (s : State) : (holdChannel s).hpt.readPos = s.hpt.readPos := by
  unfold holdChannel; (try dsimp only); (repeat' split) <;> simp
@[simp] theorem holdChannel_hpt_overrun (s : State) : (holdChannel s).hpt.overrun = s.hpt.overrun := by
  unfold holdChannel; (try dsimp only); (repeat' split) <;> simp
@[simp] theorem holdChannel_hpt_phase (s : State) : (holdChannel s).hpt.phase = s.hpt.phase := by
  unfold holdChannel; (try dsimp only); (repeat' split) <;> simp
@[simp] theorem holdChannel_hpt_mask (s : State) : (holdChannel s).hpt.mask = s.hpt.mask := by
  unfold holdChannel; (try dsimp only); (repeat' split) <;> simp
@[simp] theorem holdChannel_hpt_cursorTable (s : State) : (holdChannel s).hpt.cursorTable = s.hpt.cursorTable := by
  unfold holdChannel; (try dsimp only); (repeat' split) <;> simp
@[simp] theorem holdChannel_hpt_cursorIndex (s : State) : (holdChannel s).hpt.cursorIndex = s.hpt.cursorIndex := by
  unfold holdChannel; (try dsimp only); (repeat' split) <;> simp

/-! ### withdrawEntry -/

@[simp] theorem withdrawEntry_frt (o : Option (Fin 32)) (n : Nat) (s : State) : (withdrawEntry o n s).frt = s.frt := by
  unfold withdrawEntry; (try dsimp only); (repeat' split) <;> simp
@[simp] theorem withdrawEntry_atq (o : Option (Fin 32)) (n : Nat) (s : State) : (withdrawEntry o n s).atq = s.atq := by
  unfold withdrawEntry; (try dsimp only); (repeat' split) <;> simp
@[simp] theorem withdrawEntry_rst (o : Option (Fin 32)) (n : Nat) (s : State) : (withdrawEntry o n s).rst = s.rst := by
  unfold withdrawEntry; (try dsimp only); (repeat' split) <;> simp
@[simp] theorem withdrawEntry_air (o : Option (Fin 32)) (n : Nat) (s : State) : (withdrawEntry o n s).air = s.air := by
  unfold withdrawEntry; (try dsimp only); (repeat' split) <;> simp
@[simp] theorem withdrawEntry_rev (o : Option (Fin 32)) (n : Nat) (s : State) : (withdrawEntry o n s).rev = s.rev := by
  unfold withdrawEntry; (try dsimp only); (repeat' split) <;> simp
@[simp] theorem withdrawEntry_cal (o : Option (Fin 32)) (n : Nat) (s : State) : (withdrawEntry o n s).cal = s.cal := by
  unfold withdrawEntry; (try dsimp only); (repeat' split) <;> simp
@[simp] theorem withdrawEntry_flk (o : Option (Fin 32)) (n : Nat) (s : State) : (withdrawEntry o n s).flk = s.flk := by
  unfold withdrawEntry; (try dsimp only); (repeat' split) <;> simp
@[simp] theorem withdrawEntry_hpt (o : Option (Fin 32)) (n : Nat) (s : State) : (withdrawEntry o n s).hpt = s.hpt := by
  unfold withdrawEntry; (try dsimp only); (repeat' split) <;> simp
@[simp] theorem withdrawEntry_handed (o : Option (Fin 32)) (n : Nat) (s : State) : (withdrawEntry o n s).handed = s.handed := by
  unfold withdrawEntry; (try dsimp only); (repeat' split) <;> simp
@[simp] theorem withdrawEntry_resetLow (o : Option (Fin 32)) (n : Nat) (s : State) : (withdrawEntry o n s).resetLow = s.resetLow := by
  unfold withdrawEntry; (try dsimp only); (repeat' split) <;> simp
@[simp] theorem withdrawEntry_hostOut (o : Option (Fin 32)) (n : Nat) (s : State) : (withdrawEntry o n s).hostOut = s.hostOut := by
  unfold withdrawEntry; (try dsimp only); (repeat' split) <;> simp
@[simp] theorem withdrawEntry_fieldOut (o : Option (Fin 32)) (n : Nat) (s : State) : (withdrawEntry o n s).fieldOut = s.fieldOut := by
  unfold withdrawEntry; (try dsimp only); (repeat' split) <;> simp
@[simp] theorem withdrawEntry_pending (o : Option (Fin 32)) (n : Nat) (s : State) : (withdrawEntry o n s).pending = s.pending := by
  unfold withdrawEntry; (try dsimp only); (repeat' split) <;> simp

/-! ### withdrawEntriesTo -/

@[simp] theorem withdrawEntriesTo_frt (z : Fin 32) (s : State) : (withdrawEntriesTo z s).frt = s.frt := by
  unfold withdrawEntriesTo; exact (forEach_same (fun t => t.frt) _ (fun _ _ => by simp) _ _).trans (by simp)
@[simp] theorem withdrawEntriesTo_atq (z : Fin 32) (s : State) : (withdrawEntriesTo z s).atq = s.atq := by
  unfold withdrawEntriesTo; exact (forEach_same (fun t => t.atq) _ (fun _ _ => by simp) _ _).trans (by simp)
@[simp] theorem withdrawEntriesTo_rst (z : Fin 32) (s : State) : (withdrawEntriesTo z s).rst = s.rst := by
  unfold withdrawEntriesTo; exact (forEach_same (fun t => t.rst) _ (fun _ _ => by simp) _ _).trans (by simp)
@[simp] theorem withdrawEntriesTo_air (z : Fin 32) (s : State) : (withdrawEntriesTo z s).air = s.air := by
  unfold withdrawEntriesTo; exact (forEach_same (fun t => t.air) _ (fun _ _ => by simp) _ _).trans (by simp)
@[simp] theorem withdrawEntriesTo_rev (z : Fin 32) (s : State) : (withdrawEntriesTo z s).rev = s.rev := by
  unfold withdrawEntriesTo; exact (forEach_same (fun t => t.rev) _ (fun _ _ => by simp) _ _).trans (by simp)
@[simp] theorem withdrawEntriesTo_cal (z : Fin 32) (s : State) : (withdrawEntriesTo z s).cal = s.cal := by
  unfold withdrawEntriesTo; exact (forEach_same (fun t => t.cal) _ (fun _ _ => by simp) _ _).trans (by simp)
@[simp] theorem withdrawEntriesTo_flk (z : Fin 32) (s : State) : (withdrawEntriesTo z s).flk = s.flk := by
  unfold withdrawEntriesTo; exact (forEach_same (fun t => t.flk) _ (fun _ _ => by simp) _ _).trans (by simp)
@[simp] theorem withdrawEntriesTo_hpt (z : Fin 32) (s : State) : (withdrawEntriesTo z s).hpt = s.hpt := by
  unfold withdrawEntriesTo; exact (forEach_same (fun t => t.hpt) _ (fun _ _ => by simp) _ _).trans (by simp)
@[simp] theorem withdrawEntriesTo_handed (z : Fin 32) (s : State) : (withdrawEntriesTo z s).handed = s.handed := by
  unfold withdrawEntriesTo; exact (forEach_same (fun t => t.handed) _ (fun _ _ => by simp) _ _).trans (by simp)
@[simp] theorem withdrawEntriesTo_resetLow (z : Fin 32) (s : State) : (withdrawEntriesTo z s).resetLow = s.resetLow := by
  unfold withdrawEntriesTo; exact (forEach_same (fun t => t.resetLow) _ (fun _ _ => by simp) _ _).trans (by simp)
@[simp] theorem withdrawEntriesTo_hostOut (z : Fin 32) (s : State) : (withdrawEntriesTo z s).hostOut = s.hostOut := by
  unfold withdrawEntriesTo; exact (forEach_same (fun t => t.hostOut) _ (fun _ _ => by simp) _ _).trans (by simp)
@[simp] theorem withdrawEntriesTo_fieldOut (z : Fin 32) (s : State) : (withdrawEntriesTo z s).fieldOut = s.fieldOut := by
  unfold withdrawEntriesTo; exact (forEach_same (fun t => t.fieldOut) _ (fun _ _ => by simp) _ _).trans (by simp)
@[simp] theorem withdrawEntriesTo_pending (z : Fin 32) (s : State) : (withdrawEntriesTo z s).pending = s.pending := by
  unfold withdrawEntriesTo; exact (forEach_same (fun t => t.pending) _ (fun _ _ => by simp) _ _).trans (by simp)

/-! ### withdrawEveryEntry -/

@[simp] theorem withdrawEveryEntry_frt (s : State) : (withdrawEveryEntry s).frt = s.frt := by
  unfold withdrawEveryEntry; exact (forEach_same (fun t => t.frt) _ (fun _ _ => by simp) _ _).trans (by simp)
@[simp] theorem withdrawEveryEntry_atq (s : State) : (withdrawEveryEntry s).atq = s.atq := by
  unfold withdrawEveryEntry; exact (forEach_same (fun t => t.atq) _ (fun _ _ => by simp) _ _).trans (by simp)
@[simp] theorem withdrawEveryEntry_rst (s : State) : (withdrawEveryEntry s).rst = s.rst := by
  unfold withdrawEveryEntry; exact (forEach_same (fun t => t.rst) _ (fun _ _ => by simp) _ _).trans (by simp)
@[simp] theorem withdrawEveryEntry_air (s : State) : (withdrawEveryEntry s).air = s.air := by
  unfold withdrawEveryEntry; exact (forEach_same (fun t => t.air) _ (fun _ _ => by simp) _ _).trans (by simp)
@[simp] theorem withdrawEveryEntry_rev (s : State) : (withdrawEveryEntry s).rev = s.rev := by
  unfold withdrawEveryEntry; exact (forEach_same (fun t => t.rev) _ (fun _ _ => by simp) _ _).trans (by simp)
@[simp] theorem withdrawEveryEntry_cal (s : State) : (withdrawEveryEntry s).cal = s.cal := by
  unfold withdrawEveryEntry; exact (forEach_same (fun t => t.cal) _ (fun _ _ => by simp) _ _).trans (by simp)
@[simp] theorem withdrawEveryEntry_flk (s : State) : (withdrawEveryEntry s).flk = s.flk := by
  unfold withdrawEveryEntry; exact (forEach_same (fun t => t.flk) _ (fun _ _ => by simp) _ _).trans (by simp)
@[simp] theorem withdrawEveryEntry_hpt (s : State) : (withdrawEveryEntry s).hpt = s.hpt := by
  unfold withdrawEveryEntry; exact (forEach_same (fun t => t.hpt) _ (fun _ _ => by simp) _ _).trans (by simp)
@[simp] theorem withdrawEveryEntry_handed (s : State) : (withdrawEveryEntry s).handed = s.handed := by
  unfold withdrawEveryEntry; exact (forEach_same (fun t => t.handed) _ (fun _ _ => by simp) _ _).trans (by simp)
@[simp] theorem withdrawEveryEntry_resetLow (s : State) : (withdrawEveryEntry s).resetLow = s.resetLow := by
  unfold withdrawEveryEntry; exact (forEach_same (fun t => t.resetLow) _ (fun _ _ => by simp) _ _).trans (by simp)
@[simp] theorem withdrawEveryEntry_hostOut (s : State) : (withdrawEveryEntry s).hostOut = s.hostOut := by
  unfold withdrawEveryEntry; exact (forEach_same (fun t => t.hostOut) _ (fun _ _ => by simp) _ _).trans (by simp)
@[simp] theorem withdrawEveryEntry_fieldOut (s : State) : (withdrawEveryEntry s).fieldOut = s.fieldOut := by
  unfold withdrawEveryEntry; exact (forEach_same (fun t => t.fieldOut) _ (fun _ _ => by simp) _ _).trans (by simp)
@[simp] theorem withdrawEveryEntry_pending (s : State) : (withdrawEveryEntry s).pending = s.pending := by
  unfold withdrawEveryEntry; exact (forEach_same (fun t => t.pending) _ (fun _ _ => by simp) _ _).trans (by simp)

/-! ### enterAlone -/

@[simp] theorem enterAlone_frt (s : State) : (enterAlone s).frt = s.frt := by
  unfold enterAlone; (try dsimp only); (repeat' split) <;> simp
@[simp] theorem enterAlone_atq (s : State) : (enterAlone s).atq = s.atq := by
  unfold enterAlone; (try dsimp only); (repeat' split) <;> simp
@[simp] theorem enterAlone_rst (s : State) : (enterAlone s).rst = s.rst := by
  unfold enterAlone; (try dsimp only); (repeat' split) <;> simp
@[simp] theorem enterAlone_air (s : State) : (enterAlone s).air = s.air := by
  unfold enterAlone; (try dsimp only); (repeat' split) <;> simp
@[simp] theorem enterAlone_rev (s : State) : (enterAlone s).rev = s.rev := by
  unfold enterAlone; (try dsimp only); (repeat' split) <;> simp
@[simp] theorem enterAlone_cal (s : State) : (enterAlone s).cal = s.cal := by
  unfold enterAlone; (try dsimp only); (repeat' split) <;> simp
@[simp] theorem enterAlone_flk (s : State) : (enterAlone s).flk = s.flk := by
  unfold enterAlone; (try dsimp only); (repeat' split) <;> simp
@[simp] theorem enterAlone_handed (s : State) : (enterAlone s).handed = s.handed := by
  unfold enterAlone; (try dsimp only); (repeat' split) <;> simp
@[simp] theorem enterAlone_resetLow (s : State) : (enterAlone s).resetLow = s.resetLow := by
  unfold enterAlone; (try dsimp only); (repeat' split) <;> simp
@[simp] theorem enterAlone_hostOut (s : State) : (enterAlone s).hostOut = s.hostOut := by
  unfold enterAlone; (try dsimp only); (repeat' split) <;> simp
@[simp] theorem enterAlone_fieldOut (s : State) : (enterAlone s).fieldOut = s.fieldOut := by
  unfold enterAlone; (try dsimp only); (repeat' split) <;> simp
@[simp] theorem enterAlone_pending (s : State) : (enterAlone s).pending = s.pending := by
  unfold enterAlone; (try dsimp only); (repeat' split) <;> simp
@[simp] theorem enterAlone_hpt_request (s : State) : (enterAlone s).hpt.request = s.hpt.request := by
  unfold enterAlone; (try dsimp only); (repeat' split) <;> simp
@[simp] theorem enterAlone_hpt_reply (s : State) : (enterAlone s).hpt.reply = s.hpt.reply := by
  unfold enterAlone; (try dsimp only); (repeat' split) <;> simp
@[simp] theorem enterAlone_hpt_readPos (s : State) : (enterAlone s).hpt.readPos = s.hpt.readPos := by
  unfold enterAlone; (try dsimp only); (repeat' split) <;> simp
@[simp] theorem enterAlone_hpt_overrun (s : State) : (enterAlone s).hpt.overrun = s.hpt.overrun := by
  unfold enterAlone; (try dsimp only); (repeat' split) <;> simp
@[simp] theorem enterAlone_hpt_phase (s : State) : (enterAlone s).hpt.phase = s.hpt.phase := by
  unfold enterAlone; (try dsimp only); (repeat' split) <;> simp
@[simp] theorem enterAlone_hpt_mask (s : State) : (enterAlone s).hpt.mask = s.hpt.mask := by
  unfold enterAlone; (try dsimp only); (repeat' split) <;> simp
@[simp] theorem enterAlone_hpt_cursorTable (s : State) : (enterAlone s).hpt.cursorTable = s.hpt.cursorTable := by
  unfold enterAlone; (try dsimp only); (repeat' split) <;> simp
@[simp] theorem enterAlone_hpt_cursorIndex (s : State) : (enterAlone s).hpt.cursorIndex = s.hpt.cursorIndex := by
  unfold enterAlone; (try dsimp only); (repeat' split) <;> simp

/-! ### judgeAlone -/

@[simp] theorem judgeAlone_frt (s : State) : (judgeAlone s).frt = s.frt := by
  unfold judgeAlone; (try dsimp only); (repeat' split) <;> simp
@[simp] theorem judgeAlone_atq (s : State) : (judgeAlone s).atq = s.atq := by
  unfold judgeAlone; (try dsimp only); (repeat' split) <;> simp
@[simp] theorem judgeAlone_rst (s : State) : (judgeAlone s).rst = s.rst := by
  unfold judgeAlone; (try dsimp only); (repeat' split) <;> simp
@[simp] theorem judgeAlone_air (s : State) : (judgeAlone s).air = s.air := by
  unfold judgeAlone; (try dsimp only); (repeat' split) <;> simp
@[simp] theorem judgeAlone_rev (s : State) : (judgeAlone s).rev = s.rev := by
  unfold judgeAlone; (try dsimp only); (repeat' split) <;> simp
@[simp] theorem judgeAlone_cal (s : State) : (judgeAlone s).cal = s.cal := by
  unfold judgeAlone; (try dsimp only); (repeat' split) <;> simp
@[simp] theorem judgeAlone_flk (s : State) : (judgeAlone s).flk = s.flk := by
  unfold judgeAlone; (try dsimp only); (repeat' split) <;> simp
@[simp] theorem judgeAlone_handed (s : State) : (judgeAlone s).handed = s.handed := by
  unfold judgeAlone; (try dsimp only); (repeat' split) <;> simp
@[simp] theorem judgeAlone_resetLow (s : State) : (judgeAlone s).resetLow = s.resetLow := by
  unfold judgeAlone; (try dsimp only); (repeat' split) <;> simp
@[simp] theorem judgeAlone_hostOut (s : State) : (judgeAlone s).hostOut = s.hostOut := by
  unfold judgeAlone; (try dsimp only); (repeat' split) <;> simp
@[simp] theorem judgeAlone_fieldOut (s : State) : (judgeAlone s).fieldOut = s.fieldOut := by
  unfold judgeAlone; (try dsimp only); (repeat' split) <;> simp
@[simp] theorem judgeAlone_pending (s : State) : (judgeAlone s).pending = s.pending := by
  unfold judgeAlone; (try dsimp only); (repeat' split) <;> simp
@[simp] theorem judgeAlone_hpt_request (s : State) : (judgeAlone s).hpt.request = s.hpt.request := by
  unfold judgeAlone; (try dsimp only); (repeat' split) <;> simp
@[simp] theorem judgeAlone_hpt_reply (s : State) : (judgeAlone s).hpt.reply = s.hpt.reply := by
  unfold judgeAlone; (try dsimp only); (repeat' split) <;> simp
@[simp] theorem judgeAlone_hpt_readPos (s : State) : (judgeAlone s).hpt.readPos = s.hpt.readPos := by
  unfold judgeAlone; (try dsimp only); (repeat' split) <;> simp
@[simp] theorem judgeAlone_hpt_overrun (s : State) : (judgeAlone s).hpt.overrun = s.hpt.overrun := by
  unfold judgeAlone; (try dsimp only); (repeat' split) <;> simp
@[simp] theorem judgeAlone_hpt_phase (s : State) : (judgeAlone s).hpt.phase = s.hpt.phase := by
  unfold judgeAlone; (try dsimp only); (repeat' split) <;> simp
@[simp] theorem judgeAlone_hpt_mask (s : State) : (judgeAlone s).hpt.mask = s.hpt.mask := by
  unfold judgeAlone; (try dsimp only); (repeat' split) <;> simp
@[simp] theorem judgeAlone_hpt_cursorTable (s : State) : (judgeAlone s).hpt.cursorTable = s.hpt.cursorTable := by
  unfold judgeAlone; (try dsimp only); (repeat' split) <;> simp
@[simp] theorem judgeAlone_hpt_cursorIndex (s : State) : (judgeAlone s).hpt.cursorIndex = s.hpt.cursorIndex := by
  unfold judgeAlone; (try dsimp only); (repeat' split) <;> simp

/-! ### countSilence -/

@[simp] theorem countSilence_frt (s : State) : (countSilence s).frt = s.frt := by
  unfold countSilence; (try dsimp only); (repeat' split) <;> simp
@[simp] theorem countSilence_atq (s : State) : (countSilence s).atq = s.atq := by
  unfold countSilence; (try dsimp only); (repeat' split) <;> simp
@[simp] theorem countSilence_rst (s : State) : (countSilence s).rst = s.rst := by
  unfold countSilence; (try dsimp only); (repeat' split) <;> simp
@[simp] theorem countSilence_air (s : State) : (countSilence s).air = s.air := by
  unfold countSilence; (try dsimp only); (repeat' split) <;> simp
@[simp] theorem countSilence_rev (s : State) : (countSilence s).rev = s.rev := by
  unfold countSilence; (try dsimp only); (repeat' split) <;> simp
@[simp] theorem countSilence_cal (s : State) : (countSilence s).cal = s.cal := by
  unfold countSilence; (try dsimp only); (repeat' split) <;> simp
@[simp] theorem countSilence_flk (s : State) : (countSilence s).flk = s.flk := by
  unfold countSilence; (try dsimp only); (repeat' split) <;> simp
@[simp] theorem countSilence_handed (s : State) : (countSilence s).handed = s.handed := by
  unfold countSilence; (try dsimp only); (repeat' split) <;> simp
@[simp] theorem countSilence_resetLow (s : State) : (countSilence s).resetLow = s.resetLow := by
  unfold countSilence; (try dsimp only); (repeat' split) <;> simp
@[simp] theorem countSilence_hostOut (s : State) : (countSilence s).hostOut = s.hostOut := by
  unfold countSilence; (try dsimp only); (repeat' split) <;> simp
@[simp] theorem countSilence_fieldOut (s : State) : (countSilence s).fieldOut = s.fieldOut := by
  unfold countSilence; (try dsimp only); (repeat' split) <;> simp
@[simp] theorem countSilence_pending (s : State) : (countSilence s).pending = s.pending := by
  unfold countSilence; (try dsimp only); (repeat' split) <;> simp
@[simp] theorem countSilence_hpt_request (s : State) : (countSilence s).hpt.request = s.hpt.request := by
  unfold countSilence; (try dsimp only); (repeat' split) <;> simp
@[simp] theorem countSilence_hpt_reply (s : State) : (countSilence s).hpt.reply = s.hpt.reply := by
  unfold countSilence; (try dsimp only); (repeat' split) <;> simp
@[simp] theorem countSilence_hpt_readPos (s : State) : (countSilence s).hpt.readPos = s.hpt.readPos := by
  unfold countSilence; (try dsimp only); (repeat' split) <;> simp
@[simp] theorem countSilence_hpt_overrun (s : State) : (countSilence s).hpt.overrun = s.hpt.overrun := by
  unfold countSilence; (try dsimp only); (repeat' split) <;> simp
@[simp] theorem countSilence_hpt_phase (s : State) : (countSilence s).hpt.phase = s.hpt.phase := by
  unfold countSilence; (try dsimp only); (repeat' split) <;> simp
@[simp] theorem countSilence_hpt_mask (s : State) : (countSilence s).hpt.mask = s.hpt.mask := by
  unfold countSilence; (try dsimp only); (repeat' split) <;> simp
@[simp] theorem countSilence_hpt_cursorTable (s : State) : (countSilence s).hpt.cursorTable = s.hpt.cursorTable := by
  unfold countSilence; (try dsimp only); (repeat' split) <;> simp
@[simp] theorem countSilence_hpt_cursorIndex (s : State) : (countSilence s).hpt.cursorIndex = s.hpt.cursorIndex := by
  unfold countSilence; (try dsimp only); (repeat' split) <;> simp

/-! ### judgeLapse -/

@[simp] theorem judgeLapse_frt (n : Nat) (s : State) : (judgeLapse n s).frt = s.frt := by
  unfold judgeLapse; (try dsimp only); (repeat' split) <;> simp
@[simp] theorem judgeLapse_znt (n : Nat) (s : State) : (judgeLapse n s).znt = s.znt := by
  unfold judgeLapse; (try dsimp only); (repeat' split) <;> simp
@[simp] theorem judgeLapse_rst (n : Nat) (s : State) : (judgeLapse n s).rst = s.rst := by
  unfold judgeLapse; (try dsimp only); (repeat' split) <;> simp
@[simp] theorem judgeLapse_air (n : Nat) (s : State) : (judgeLapse n s).air = s.air := by
  unfold judgeLapse; (try dsimp only); (repeat' split) <;> simp
@[simp] theorem judgeLapse_rev (n : Nat) (s : State) : (judgeLapse n s).rev = s.rev := by
  unfold judgeLapse; (try dsimp only); (repeat' split) <;> simp
@[simp] theorem judgeLapse_cal (n : Nat) (s : State) : (judgeLapse n s).cal = s.cal := by
  unfold judgeLapse; (try dsimp only); (repeat' split) <;> simp
@[simp] theorem judgeLapse_flk (n : Nat) (s : State) : (judgeLapse n s).flk = s.flk := by
  unfold judgeLapse; (try dsimp only); (repeat' split) <;> simp
@[simp] theorem judgeLapse_handed (n : Nat) (s : State) : (judgeLapse n s).handed = s.handed := by
  unfold judgeLapse; (try dsimp only); (repeat' split) <;> simp
@[simp] theorem judgeLapse_resetLow (n : Nat) (s : State) : (judgeLapse n s).resetLow = s.resetLow := by
  unfold judgeLapse; (try dsimp only); (repeat' split) <;> simp
@[simp] theorem judgeLapse_hostOut (n : Nat) (s : State) : (judgeLapse n s).hostOut = s.hostOut := by
  unfold judgeLapse; (try dsimp only); (repeat' split) <;> simp
@[simp] theorem judgeLapse_fieldOut (n : Nat) (s : State) : (judgeLapse n s).fieldOut = s.fieldOut := by
  unfold judgeLapse; (try dsimp only); (repeat' split) <;> simp
@[simp] theorem judgeLapse_pending (n : Nat) (s : State) : (judgeLapse n s).pending = s.pending := by
  unfold judgeLapse; (try dsimp only); (repeat' split) <;> simp
@[simp] theorem judgeLapse_hpt_request (n : Nat) (s : State) : (judgeLapse n s).hpt.request = s.hpt.request := by
  unfold judgeLapse; (try dsimp only); (repeat' split) <;> simp
@[simp] theorem judgeLapse_hpt_reply (n : Nat) (s : State) : (judgeLapse n s).hpt.reply = s.hpt.reply := by
  unfold judgeLapse; (try dsimp only); (repeat' split) <;> simp
@[simp] theorem judgeLapse_hpt_readPos (n : Nat) (s : State) : (judgeLapse n s).hpt.readPos = s.hpt.readPos := by
  unfold judgeLapse; (try dsimp only); (repeat' split) <;> simp
@[simp] theorem judgeLapse_hpt_overrun (n : Nat) (s : State) : (judgeLapse n s).hpt.overrun = s.hpt.overrun := by
  unfold judgeLapse; (try dsimp only); (repeat' split) <;> simp
@[simp] theorem judgeLapse_hpt_phase (n : Nat) (s : State) : (judgeLapse n s).hpt.phase = s.hpt.phase := by
  unfold judgeLapse; (try dsimp only); (repeat' split) <;> simp
@[simp] theorem judgeLapse_hpt_mask (n : Nat) (s : State) : (judgeLapse n s).hpt.mask = s.hpt.mask := by
  unfold judgeLapse; (try dsimp only); (repeat' split) <;> simp
@[simp] theorem judgeLapse_hpt_cursorTable (n : Nat) (s : State) : (judgeLapse n s).hpt.cursorTable = s.hpt.cursorTable := by
  unfold judgeLapse; (try dsimp only); (repeat' split) <;> simp
@[simp] theorem judgeLapse_hpt_cursorIndex (n : Nat) (s : State) : (judgeLapse n s).hpt.cursorIndex = s.hpt.cursorIndex := by
  unfold judgeLapse; (try dsimp only); (repeat' split) <;> simp

/-! ### judgePreviousPoll -/

@[simp] theorem judgePreviousPoll_frt (n : Nat) (s : State) : (judgePreviousPoll n s).frt = s.frt := by
  unfold judgePreviousPoll; (try dsimp only); (repeat' split) <;> simp
@[simp] theorem judgePreviousPoll_znt (n : Nat) (s : State) : (judgePreviousPoll n s).znt = s.znt := by
  unfold judgePreviousPoll; (try dsimp only); (repeat' split) <;> simp
@[simp] theorem judgePreviousPoll_rst (n : Nat) (s : State) : (judgePreviousPoll n s).rst = s.rst := by
  unfold judgePreviousPoll; (try dsimp only); (repeat' split) <;> simp
@[simp] theorem judgePreviousPoll_air (n : Nat) (s : State) : (judgePreviousPoll n s).air = s.air := by
  unfold judgePreviousPoll; (try dsimp only); (repeat' split) <;> simp
@[simp] theorem judgePreviousPoll_rev (n : Nat) (s : State) : (judgePreviousPoll n s).rev = s.rev := by
  unfold judgePreviousPoll; (try dsimp only); (repeat' split) <;> simp
@[simp] theorem judgePreviousPoll_cal (n : Nat) (s : State) : (judgePreviousPoll n s).cal = s.cal := by
  unfold judgePreviousPoll; (try dsimp only); (repeat' split) <;> simp
@[simp] theorem judgePreviousPoll_flk (n : Nat) (s : State) : (judgePreviousPoll n s).flk = s.flk := by
  unfold judgePreviousPoll; (try dsimp only); (repeat' split) <;> simp
@[simp] theorem judgePreviousPoll_handed (n : Nat) (s : State) : (judgePreviousPoll n s).handed = s.handed := by
  unfold judgePreviousPoll; (try dsimp only); (repeat' split) <;> simp
@[simp] theorem judgePreviousPoll_resetLow (n : Nat) (s : State) : (judgePreviousPoll n s).resetLow = s.resetLow := by
  unfold judgePreviousPoll; (try dsimp only); (repeat' split) <;> simp
@[simp] theorem judgePreviousPoll_hostOut (n : Nat) (s : State) : (judgePreviousPoll n s).hostOut = s.hostOut := by
  unfold judgePreviousPoll; (try dsimp only); (repeat' split) <;> simp
@[simp] theorem judgePreviousPoll_fieldOut (n : Nat) (s : State) : (judgePreviousPoll n s).fieldOut = s.fieldOut := by
  unfold judgePreviousPoll; (try dsimp only); (repeat' split) <;> simp
@[simp] theorem judgePreviousPoll_pending (n : Nat) (s : State) : (judgePreviousPoll n s).pending = s.pending := by
  unfold judgePreviousPoll; (try dsimp only); (repeat' split) <;> simp
@[simp] theorem judgePreviousPoll_hpt_request (n : Nat) (s : State) : (judgePreviousPoll n s).hpt.request = s.hpt.request := by
  unfold judgePreviousPoll; (try dsimp only); (repeat' split) <;> simp
@[simp] theorem judgePreviousPoll_hpt_reply (n : Nat) (s : State) : (judgePreviousPoll n s).hpt.reply = s.hpt.reply := by
  unfold judgePreviousPoll; (try dsimp only); (repeat' split) <;> simp
@[simp] theorem judgePreviousPoll_hpt_readPos (n : Nat) (s : State) : (judgePreviousPoll n s).hpt.readPos = s.hpt.readPos := by
  unfold judgePreviousPoll; (try dsimp only); (repeat' split) <;> simp
@[simp] theorem judgePreviousPoll_hpt_overrun (n : Nat) (s : State) : (judgePreviousPoll n s).hpt.overrun = s.hpt.overrun := by
  unfold judgePreviousPoll; (try dsimp only); (repeat' split) <;> simp
@[simp] theorem judgePreviousPoll_hpt_phase (n : Nat) (s : State) : (judgePreviousPoll n s).hpt.phase = s.hpt.phase := by
  unfold judgePreviousPoll; (try dsimp only); (repeat' split) <;> simp
@[simp] theorem judgePreviousPoll_hpt_mask (n : Nat) (s : State) : (judgePreviousPoll n s).hpt.mask = s.hpt.mask := by
  unfold judgePreviousPoll; (try dsimp only); (repeat' split) <;> simp
@[simp] theorem judgePreviousPoll_hpt_cursorTable (n : Nat) (s : State) : (judgePreviousPoll n s).hpt.cursorTable = s.hpt.cursorTable := by
  unfold judgePreviousPoll; (try dsimp only); (repeat' split) <;> simp
@[simp] theorem judgePreviousPoll_hpt_cursorIndex (n : Nat) (s : State) : (judgePreviousPoll n s).hpt.cursorIndex = s.hpt.cursorIndex := by
  unfold judgePreviousPoll; (try dsimp only); (repeat' split) <;> simp

/-! ### sendPoll -/

@[simp] theorem sendPoll_frt (n : Nat) (s : State) : (sendPoll n s).frt = s.frt := by
  unfold sendPoll; (try dsimp only); (repeat' split) <;> simp
@[simp] theorem sendPoll_znt (n : Nat) (s : State) : (sendPoll n s).znt = s.znt := by
  unfold sendPoll; (try dsimp only); (repeat' split) <;> simp
@[simp] theorem sendPoll_atq (n : Nat) (s : State) : (sendPoll n s).atq = s.atq := by
  unfold sendPoll; (try dsimp only); (repeat' split) <;> simp
@[simp] theorem sendPoll_rst (n : Nat) (s : State) : (sendPoll n s).rst = s.rst := by
  unfold sendPoll; (try dsimp only); (repeat' split) <;> simp
@[simp] theorem sendPoll_air (n : Nat) (s : State) : (sendPoll n s).air = s.air := by
  unfold sendPoll; (try dsimp only); (repeat' split) <;> simp
@[simp] theorem sendPoll_rev (n : Nat) (s : State) : (sendPoll n s).rev = s.rev := by
  unfold sendPoll; (try dsimp only); (repeat' split) <;> simp
@[simp] theorem sendPoll_cal (n : Nat) (s : State) : (sendPoll n s).cal = s.cal := by
  unfold sendPoll; (try dsimp only); (repeat' split) <;> simp
@[simp] theorem sendPoll_handed (n : Nat) (s : State) : (sendPoll n s).handed = s.handed := by
  unfold sendPoll; (try dsimp only); (repeat' split) <;> simp
@[simp] theorem sendPoll_resetLow (n : Nat) (s : State) : (sendPoll n s).resetLow = s.resetLow := by
  unfold sendPoll; (try dsimp only); (repeat' split) <;> simp
@[simp] theorem sendPoll_hostOut (n : Nat) (s : State) : (sendPoll n s).hostOut = s.hostOut := by
  unfold sendPoll; (try dsimp only); (repeat' split) <;> simp
@[simp] theorem sendPoll_fieldOut (n : Nat) (s : State) : (sendPoll n s).fieldOut = s.fieldOut := by
  unfold sendPoll; (try dsimp only); (repeat' split) <;> simp
@[simp] theorem sendPoll_pending (n : Nat) (s : State) : (sendPoll n s).pending = s.pending := by
  unfold sendPoll; (try dsimp only); (repeat' split) <;> simp
@[simp] theorem sendPoll_hpt_request (n : Nat) (s : State) : (sendPoll n s).hpt.request = s.hpt.request := by
  unfold sendPoll; (try dsimp only); (repeat' split) <;> simp
@[simp] theorem sendPoll_hpt_reply (n : Nat) (s : State) : (sendPoll n s).hpt.reply = s.hpt.reply := by
  unfold sendPoll; (try dsimp only); (repeat' split) <;> simp
@[simp] theorem sendPoll_hpt_readPos (n : Nat) (s : State) : (sendPoll n s).hpt.readPos = s.hpt.readPos := by
  unfold sendPoll; (try dsimp only); (repeat' split) <;> simp
@[simp] theorem sendPoll_hpt_overrun (n : Nat) (s : State) : (sendPoll n s).hpt.overrun = s.hpt.overrun := by
  unfold sendPoll; (try dsimp only); (repeat' split) <;> simp
@[simp] theorem sendPoll_hpt_phase (n : Nat) (s : State) : (sendPoll n s).hpt.phase = s.hpt.phase := by
  unfold sendPoll; (try dsimp only); (repeat' split) <;> simp
@[simp] theorem sendPoll_hpt_mask (n : Nat) (s : State) : (sendPoll n s).hpt.mask = s.hpt.mask := by
  unfold sendPoll; (try dsimp only); (repeat' split) <;> simp
@[simp] theorem sendPoll_hpt_cursorTable (n : Nat) (s : State) : (sendPoll n s).hpt.cursorTable = s.hpt.cursorTable := by
  unfold sendPoll; (try dsimp only); (repeat' split) <;> simp
@[simp] theorem sendPoll_hpt_cursorIndex (n : Nat) (s : State) : (sendPoll n s).hpt.cursorIndex = s.hpt.cursorIndex := by
  unfold sendPoll; (try dsimp only); (repeat' split) <;> simp

/-! ### pollSlot -/

@[simp] theorem pollSlot_frt (s : State) : (pollSlot s).frt = s.frt := by
  unfold pollSlot; (try dsimp only); (repeat' split) <;> simp
@[simp] theorem pollSlot_znt (s : State) : (pollSlot s).znt = s.znt := by
  unfold pollSlot; (try dsimp only); (repeat' split) <;> simp
@[simp] theorem pollSlot_rst (s : State) : (pollSlot s).rst = s.rst := by
  unfold pollSlot; (try dsimp only); (repeat' split) <;> simp
@[simp] theorem pollSlot_air (s : State) : (pollSlot s).air = s.air := by
  unfold pollSlot; (try dsimp only); (repeat' split) <;> simp
@[simp] theorem pollSlot_rev (s : State) : (pollSlot s).rev = s.rev := by
  unfold pollSlot; (try dsimp only); (repeat' split) <;> simp
@[simp] theorem pollSlot_cal (s : State) : (pollSlot s).cal = s.cal := by
  unfold pollSlot; (try dsimp only); (repeat' split) <;> simp
@[simp] theorem pollSlot_handed (s : State) : (pollSlot s).handed = s.handed := by
  unfold pollSlot; (try dsimp only); (repeat' split) <;> simp
@[simp] theorem pollSlot_resetLow (s : State) : (pollSlot s).resetLow = s.resetLow := by
  unfold pollSlot; (try dsimp only); (repeat' split) <;> simp
@[simp] theorem pollSlot_hostOut (s : State) : (pollSlot s).hostOut = s.hostOut := by
  unfold pollSlot; (try dsimp only); (repeat' split) <;> simp
@[simp] theorem pollSlot_fieldOut (s : State) : (pollSlot s).fieldOut = s.fieldOut := by
  unfold pollSlot; (try dsimp only); (repeat' split) <;> simp
@[simp] theorem pollSlot_pending (s : State) : (pollSlot s).pending = s.pending := by
  unfold pollSlot; (try dsimp only); (repeat' split) <;> simp
@[simp] theorem pollSlot_hpt_request (s : State) : (pollSlot s).hpt.request = s.hpt.request := by
  unfold pollSlot; (try dsimp only); (repeat' split) <;> simp
@[simp] theorem pollSlot_hpt_reply (s : State) : (pollSlot s).hpt.reply = s.hpt.reply := by
  unfold pollSlot; (try dsimp only); (repeat' split) <;> simp
@[simp] theorem pollSlot_hpt_readPos (s : State) : (pollSlot s).hpt.readPos = s.hpt.readPos := by
  unfold pollSlot; (try dsimp only); (repeat' split) <;> simp
@[simp] theorem pollSlot_hpt_overrun (s : State) : (pollSlot s).hpt.overrun = s.hpt.overrun := by
  unfold pollSlot; (try dsimp only); (repeat' split) <;> simp
@[simp] theorem pollSlot_hpt_phase (s : State) : (pollSlot s).hpt.phase = s.hpt.phase := by
  unfold pollSlot; (try dsimp only); (repeat' split) <;> simp
@[simp] theorem pollSlot_hpt_mask (s : State) : (pollSlot s).hpt.mask = s.hpt.mask := by
  unfold pollSlot; (try dsimp only); (repeat' split) <;> simp
@[simp] theorem pollSlot_hpt_cursorTable (s : State) : (pollSlot s).hpt.cursorTable = s.hpt.cursorTable := by
  unfold pollSlot; (try dsimp only); (repeat' split) <;> simp
@[simp] theorem pollSlot_hpt_cursorIndex (s : State) : (pollSlot s).hpt.cursorIndex = s.hpt.cursorIndex := by
  unfold pollSlot; (try dsimp only); (repeat' split) <;> simp

/-! ### retireTruck -/

@[simp] theorem retireTruck_frt (p : Fin 24) (t : Truck) (s : State) : (retireTruck p t s).frt = s.frt := by
  unfold retireTruck; (try dsimp only); (repeat' split) <;> simp
@[simp] theorem retireTruck_rst (p : Fin 24) (t : Truck) (s : State) : (retireTruck p t s).rst = s.rst := by
  unfold retireTruck; (try dsimp only); (repeat' split) <;> simp
@[simp] theorem retireTruck_air (p : Fin 24) (t : Truck) (s : State) : (retireTruck p t s).air = s.air := by
  unfold retireTruck; (try dsimp only); (repeat' split) <;> simp
@[simp] theorem retireTruck_rev (p : Fin 24) (t : Truck) (s : State) : (retireTruck p t s).rev = s.rev := by
  unfold retireTruck; (try dsimp only); (repeat' split) <;> simp
@[simp] theorem retireTruck_cal (p : Fin 24) (t : Truck) (s : State) : (retireTruck p t s).cal = s.cal := by
  unfold retireTruck; (try dsimp only); (repeat' split) <;> simp
@[simp] theorem retireTruck_flk (p : Fin 24) (t : Truck) (s : State) : (retireTruck p t s).flk = s.flk := by
  unfold retireTruck; (try dsimp only); (repeat' split) <;> simp
@[simp] theorem retireTruck_handed (p : Fin 24) (t : Truck) (s : State) : (retireTruck p t s).handed = s.handed := by
  unfold retireTruck; (try dsimp only); (repeat' split) <;> simp
@[simp] theorem retireTruck_resetLow (p : Fin 24) (t : Truck) (s : State) : (retireTruck p t s).resetLow = s.resetLow := by
  unfold retireTruck; (try dsimp only); (repeat' split) <;> simp
@[simp] theorem retireTruck_hostOut (p : Fin 24) (t : Truck) (s : State) : (retireTruck p t s).hostOut = s.hostOut := by
  unfold retireTruck; (try dsimp only); (repeat' split) <;> simp
@[simp] theorem retireTruck_fieldOut (p : Fin 24) (t : Truck) (s : State) : (retireTruck p t s).fieldOut = s.fieldOut := by
  unfold retireTruck; (try dsimp only); (repeat' split) <;> simp
@[simp] theorem retireTruck_pending (p : Fin 24) (t : Truck) (s : State) : (retireTruck p t s).pending = s.pending := by
  unfold retireTruck; (try dsimp only); (repeat' split) <;> simp
@[simp] theorem retireTruck_hpt_request (p : Fin 24) (t : Truck) (s : State) : (retireTruck p t s).hpt.request = s.hpt.request := by
  unfold retireTruck; (try dsimp only); (repeat' split) <;> simp
@[simp] theorem retireTruck_hpt_reply (p : Fin 24) (t : Truck) (s : State) : (retireTruck p t s).hpt.reply = s.hpt.reply := by
  unfold retireTruck; (try dsimp only); (repeat' split) <;> simp
@[simp] theorem retireTruck_hpt_readPos (p : Fin 24) (t : Truck) (s : State) : (retireTruck p t s).hpt.readPos = s.hpt.readPos := by
  unfold retireTruck; (try dsimp only); (repeat' split) <;> simp
@[simp] theorem retireTruck_hpt_overrun (p : Fin 24) (t : Truck) (s : State) : (retireTruck p t s).hpt.overrun = s.hpt.overrun := by
  unfold retireTruck; (try dsimp only); (repeat' split) <;> simp
@[simp] theorem retireTruck_hpt_phase (p : Fin 24) (t : Truck) (s : State) : (retireTruck p t s).hpt.phase = s.hpt.phase := by
  unfold retireTruck; (try dsimp only); (repeat' split) <;> simp
@[simp] theorem retireTruck_hpt_mask (p : Fin 24) (t : Truck) (s : State) : (retireTruck p t s).hpt.mask = s.hpt.mask := by
  unfold retireTruck; (try dsimp only); (repeat' split) <;> simp
@[simp] theorem retireTruck_hpt_cursorTable (p : Fin 24) (t : Truck) (s : State) : (retireTruck p t s).hpt.cursorTable = s.hpt.cursorTable := by
  unfold retireTruck; (try dsimp only); (repeat' split) <;> simp
@[simp] theorem retireTruck_hpt_cursorIndex (p : Fin 24) (t : Truck) (s : State) : (retireTruck p t s).hpt.cursorIndex = s.hpt.cursorIndex := by
  unfold retireTruck; (try dsimp only); (repeat' split) <;> simp

/-! ### alertCaught -/

@[simp] theorem alertCaught_frt (z : Fin 32) (s : State) : (alertCaught z s).frt = s.frt := by
  unfold alertCaught; (try dsimp only); (repeat' split) <;> simp
@[simp] theorem alertCaught_znt (z : Fin 32) (s : State) : (alertCaught z s).znt = s.znt := by
  unfold alertCaught; (try dsimp only); (repeat' split) <;> simp
@[simp] theorem alertCaught_atq (z : Fin 32) (s : State) : (alertCaught z s).atq = s.atq := by
  unfold alertCaught; (try dsimp only); (repeat' split) <;> simp
@[simp] theorem alertCaught_air (z : Fin 32) (s : State) : (alertCaught z s).air = s.air := by
  unfold alertCaught; (try dsimp only); (repeat' split) <;> simp
@[simp] theorem alertCaught_hlk (z : Fin 32) (s : State) : (alertCaught z s).hlk = s.hlk := by
  unfold alertCaught; (try dsimp only); (repeat' split) <;> simp
@[simp] theorem alertCaught_rev (z : Fin 32) (s : State) : (alertCaught z s).rev = s.rev := by
  unfold alertCaught; (try dsimp only); (repeat' split) <;> simp
@[simp] theorem alertCaught_cal (z : Fin 32) (s : State) : (alertCaught z s).cal = s.cal := by
  unfold alertCaught; (try dsimp only); (repeat' split) <;> simp
@[simp] theorem alertCaught_flk (z : Fin 32) (s : State) : (alertCaught z s).flk = s.flk := by
  unfold alertCaught; (try dsimp only); (repeat' split) <;> simp
@[simp] theorem alertCaught_hpt (z : Fin 32) (s : State) : (alertCaught z s).hpt = s.hpt := by
  unfold alertCaught; (try dsimp only); (repeat' split) <;> simp
@[simp] theorem alertCaught_handed (z : Fin 32) (s : State) : (alertCaught z s).handed = s.handed := by
  unfold alertCaught; (try dsimp only); (repeat' split) <;> simp
@[simp] theorem alertCaught_resetLow (z : Fin 32) (s : State) : (alertCaught z s).resetLow = s.resetLow := by
  unfold alertCaught; (try dsimp only); (repeat' split) <;> simp
@[simp] theorem alertCaught_hostOut (z : Fin 32) (s : State) : (alertCaught z s).hostOut = s.hostOut := by
  unfold alertCaught; (try dsimp only); (repeat' split) <;> simp
@[simp] theorem alertCaught_fieldOut (z : Fin 32) (s : State) : (alertCaught z s).fieldOut = s.fieldOut := by
  unfold alertCaught; (try dsimp only); (repeat' split) <;> simp
@[simp] theorem alertCaught_pending (z : Fin 32) (s : State) : (alertCaught z s).pending = s.pending := by
  unfold alertCaught; (try dsimp only); (repeat' split) <;> simp

/-! ### orderZone -/

@[simp] theorem orderZone_frt (c : Causes) (z : Fin 32) (s : State) : (orderZone c z s).frt = s.frt := by
  unfold orderZone; (try dsimp only); (repeat' split) <;> simp
@[simp] theorem orderZone_atq (c : Causes) (z : Fin 32) (s : State) : (orderZone c z s).atq = s.atq := by
  unfold orderZone; (try dsimp only); (repeat' split) <;> simp
@[simp] theorem orderZone_air (c : Causes) (z : Fin 32) (s : State) : (orderZone c z s).air = s.air := by
  unfold orderZone; (try dsimp only); (repeat' split) <;> simp
@[simp] theorem orderZone_rev (c : Causes) (z : Fin 32) (s : State) : (orderZone c z s).rev = s.rev := by
  unfold orderZone; (try dsimp only); (repeat' split) <;> simp
@[simp] theorem orderZone_cal (c : Causes) (z : Fin 32) (s : State) : (orderZone c z s).cal = s.cal := by
  unfold orderZone; (try dsimp only); (repeat' split) <;> simp
@[simp] theorem orderZone_flk (c : Causes) (z : Fin 32) (s : State) : (orderZone c z s).flk = s.flk := by
  unfold orderZone; (try dsimp only); (repeat' split) <;> simp
@[simp] theorem orderZone_hpt (c : Causes) (z : Fin 32) (s : State) : (orderZone c z s).hpt = s.hpt := by
  unfold orderZone; (try dsimp only); (repeat' split) <;> simp
@[simp] theorem orderZone_handed (c : Causes) (z : Fin 32) (s : State) : (orderZone c z s).handed = s.handed := by
  unfold orderZone; (try dsimp only); (repeat' split) <;> simp
@[simp] theorem orderZone_resetLow (c : Causes) (z : Fin 32) (s : State) : (orderZone c z s).resetLow = s.resetLow := by
  unfold orderZone; (try dsimp only); (repeat' split) <;> simp
@[simp] theorem orderZone_hostOut (c : Causes) (z : Fin 32) (s : State) : (orderZone c z s).hostOut = s.hostOut := by
  unfold orderZone; (try dsimp only); (repeat' split) <;> simp
@[simp] theorem orderZone_fieldOut (c : Causes) (z : Fin 32) (s : State) : (orderZone c z s).fieldOut = s.fieldOut := by
  unfold orderZone; (try dsimp only); (repeat' split) <;> simp
@[simp] theorem orderZone_pending (c : Causes) (z : Fin 32) (s : State) : (orderZone c z s).pending = s.pending := by
  unfold orderZone; (try dsimp only); (repeat' split) <;> simp

/-! ### alertArrived -/

@[simp] theorem alertArrived_frt (i : Fin 240) (s : State) : (alertArrived i s).frt = s.frt := by
  unfold alertArrived; (try dsimp only); (repeat' split) <;> simp
@[simp] theorem alertArrived_znt (i : Fin 240) (s : State) : (alertArrived i s).znt = s.znt := by
  unfold alertArrived; (try dsimp only); (repeat' split) <;> simp
@[simp] theorem alertArrived_atq (i : Fin 240) (s : State) : (alertArrived i s).atq = s.atq := by
  unfold alertArrived; (try dsimp only); (repeat' split) <;> simp
@[simp] theorem alertArrived_air (i : Fin 240) (s : State) : (alertArrived i s).air = s.air := by
  unfold alertArrived; (try dsimp only); (repeat' split) <;> simp
@[simp] theorem alertArrived_hlk (i : Fin 240) (s : State) : (alertArrived i s).hlk = s.hlk := by
  unfold alertArrived; (try dsimp only); (repeat' split) <;> simp
@[simp] theorem alertArrived_rev (i : Fin 240) (s : State) : (alertArrived i s).rev = s.rev := by
  unfold alertArrived; (try dsimp only); (repeat' split) <;> simp
@[simp] theorem alertArrived_cal (i : Fin 240) (s : State) : (alertArrived i s).cal = s.cal := by
  unfold alertArrived; (try dsimp only); (repeat' split) <;> simp
@[simp] theorem alertArrived_flk (i : Fin 240) (s : State) : (alertArrived i s).flk = s.flk := by
  unfold alertArrived; (try dsimp only); (repeat' split) <;> simp
@[simp] theorem alertArrived_hpt (i : Fin 240) (s : State) : (alertArrived i s).hpt = s.hpt := by
  unfold alertArrived; (try dsimp only); (repeat' split) <;> simp
@[simp] theorem alertArrived_handed (i : Fin 240) (s : State) : (alertArrived i s).handed = s.handed := by
  unfold alertArrived; (try dsimp only); (repeat' split) <;> simp
@[simp] theorem alertArrived_resetLow (i : Fin 240) (s : State) : (alertArrived i s).resetLow = s.resetLow := by
  unfold alertArrived; (try dsimp only); (repeat' split) <;> simp
@[simp] theorem alertArrived_hostOut (i : Fin 240) (s : State) : (alertArrived i s).hostOut = s.hostOut := by
  unfold alertArrived; (try dsimp only); (repeat' split) <;> simp
@[simp] theorem alertArrived_fieldOut (i : Fin 240) (s : State) : (alertArrived i s).fieldOut = s.fieldOut := by
  unfold alertArrived; (try dsimp only); (repeat' split) <;> simp
@[simp] theorem alertArrived_pending (i : Fin 240) (s : State) : (alertArrived i s).pending = s.pending := by
  unfold alertArrived; (try dsimp only); (repeat' split) <;> simp

/-! ### ackKey -/

@[simp] theorem ackKey_frt (i : Fin 240) (s : State) : (ackKey i s).frt = s.frt := by
  unfold ackKey; (try dsimp only); (repeat' split) <;> simp
@[simp] theorem ackKey_znt (i : Fin 240) (s : State) : (ackKey i s).znt = s.znt := by
  unfold ackKey; (try dsimp only); (repeat' split) <;> simp
@[simp] theorem ackKey_air (i : Fin 240) (s : State) : (ackKey i s).air = s.air := by
  unfold ackKey; (try dsimp only); (repeat' split) <;> simp
@[simp] theorem ackKey_hlk (i : Fin 240) (s : State) : (ackKey i s).hlk = s.hlk := by
  unfold ackKey; (try dsimp only); (repeat' split) <;> simp
@[simp] theorem ackKey_rev (i : Fin 240) (s : State) : (ackKey i s).rev = s.rev := by
  unfold ackKey; (try dsimp only); (repeat' split) <;> simp
@[simp] theorem ackKey_cal (i : Fin 240) (s : State) : (ackKey i s).cal = s.cal := by
  unfold ackKey; (try dsimp only); (repeat' split) <;> simp
@[simp] theorem ackKey_flk (i : Fin 240) (s : State) : (ackKey i s).flk = s.flk := by
  unfold ackKey; (try dsimp only); (repeat' split) <;> simp
@[simp] theorem ackKey_handed (i : Fin 240) (s : State) : (ackKey i s).handed = s.handed := by
  unfold ackKey; (try dsimp only); (repeat' split) <;> simp
@[simp] theorem ackKey_resetLow (i : Fin 240) (s : State) : (ackKey i s).resetLow = s.resetLow := by
  unfold ackKey; (try dsimp only); (repeat' split) <;> simp
@[simp] theorem ackKey_hostOut (i : Fin 240) (s : State) : (ackKey i s).hostOut = s.hostOut := by
  unfold ackKey; (try dsimp only); (repeat' split) <;> simp
@[simp] theorem ackKey_fieldOut (i : Fin 240) (s : State) : (ackKey i s).fieldOut = s.fieldOut := by
  unfold ackKey; (try dsimp only); (repeat' split) <;> simp
@[simp] theorem ackKey_pending (i : Fin 240) (s : State) : (ackKey i s).pending = s.pending := by
  unfold ackKey; (try dsimp only); (repeat' split) <;> simp
@[simp] theorem ackKey_hpt_request (i : Fin 240) (s : State) : (ackKey i s).hpt.request = s.hpt.request := by
  unfold ackKey; (try dsimp only); (repeat' split) <;> simp
@[simp] theorem ackKey_hpt_reply (i : Fin 240) (s : State) : (ackKey i s).hpt.reply = s.hpt.reply := by
  unfold ackKey; (try dsimp only); (repeat' split) <;> simp
@[simp] theorem ackKey_hpt_readPos (i : Fin 240) (s : State) : (ackKey i s).hpt.readPos = s.hpt.readPos := by
  unfold ackKey; (try dsimp only); (repeat' split) <;> simp
@[simp] theorem ackKey_hpt_overrun (i : Fin 240) (s : State) : (ackKey i s).hpt.overrun = s.hpt.overrun := by
  unfold ackKey; (try dsimp only); (repeat' split) <;> simp
@[simp] theorem ackKey_hpt_phase (i : Fin 240) (s : State) : (ackKey i s).hpt.phase = s.hpt.phase := by
  unfold ackKey; (try dsimp only); (repeat' split) <;> simp
@[simp] theorem ackKey_hpt_mask (i : Fin 240) (s : State) : (ackKey i s).hpt.mask = s.hpt.mask := by
  unfold ackKey; (try dsimp only); (repeat' split) <;> simp
@[simp] theorem ackKey_hpt_cursorTable (i : Fin 240) (s : State) : (ackKey i s).hpt.cursorTable = s.hpt.cursorTable := by
  unfold ackKey; (try dsimp only); (repeat' split) <;> simp
@[simp] theorem ackKey_hpt_cursorIndex (i : Fin 240) (s : State) : (ackKey i s).hpt.cursorIndex = s.hpt.cursorIndex := by
  unfold ackKey; (try dsimp only); (repeat' split) <;> simp

/-! ### startRound -/

@[simp] theorem startRound_frt (s : State) : (startRound s).frt = s.frt := by
  unfold startRound; (try dsimp only); (repeat' split) <;> simp
@[simp] theorem startRound_znt (s : State) : (startRound s).znt = s.znt := by
  unfold startRound; (try dsimp only); (repeat' split) <;> simp
@[simp] theorem startRound_atq (s : State) : (startRound s).atq = s.atq := by
  unfold startRound; (try dsimp only); (repeat' split) <;> simp
@[simp] theorem startRound_rst (s : State) : (startRound s).rst = s.rst := by
  unfold startRound; (try dsimp only); (repeat' split) <;> simp
@[simp] theorem startRound_air (s : State) : (startRound s).air = s.air := by
  unfold startRound; (try dsimp only); (repeat' split) <;> simp
@[simp] theorem startRound_hlk (s : State) : (startRound s).hlk = s.hlk := by
  unfold startRound; (try dsimp only); (repeat' split) <;> simp
@[simp] theorem startRound_cal (s : State) : (startRound s).cal = s.cal := by
  unfold startRound; (try dsimp only); (repeat' split) <;> simp
@[simp] theorem startRound_flk (s : State) : (startRound s).flk = s.flk := by
  unfold startRound; (try dsimp only); (repeat' split) <;> simp
@[simp] theorem startRound_hpt (s : State) : (startRound s).hpt = s.hpt := by
  unfold startRound; (try dsimp only); (repeat' split) <;> simp
@[simp] theorem startRound_handed (s : State) : (startRound s).handed = s.handed := by
  unfold startRound; (try dsimp only); (repeat' split) <;> simp
@[simp] theorem startRound_resetLow (s : State) : (startRound s).resetLow = s.resetLow := by
  unfold startRound; (try dsimp only); (repeat' split) <;> simp
@[simp] theorem startRound_hostOut (s : State) : (startRound s).hostOut = s.hostOut := by
  unfold startRound; (try dsimp only); (repeat' split) <;> simp
@[simp] theorem startRound_fieldOut (s : State) : (startRound s).fieldOut = s.fieldOut := by
  unfold startRound; (try dsimp only); (repeat' split) <;> simp
@[simp] theorem startRound_pending (s : State) : (startRound s).pending = s.pending := by
  unfold startRound; (try dsimp only); (repeat' split) <;> simp

/-! ### advanceRound -/

@[simp] theorem advanceRound_frt (s : State) : (advanceRound s).frt = s.frt := by
  unfold advanceRound; (try dsimp only); (repeat' split) <;> simp
@[simp] theorem advanceRound_znt (s : State) : (advanceRound s).znt = s.znt := by
  unfold advanceRound; (try dsimp only); (repeat' split) <;> simp
@[simp] theorem advanceRound_atq (s : State) : (advanceRound s).atq = s.atq := by
  unfold advanceRound; (try dsimp only); (repeat' split) <;> simp
@[simp] theorem advanceRound_rst (s : State) : (advanceRound s).rst = s.rst := by
  unfold advanceRound; (try dsimp only); (repeat' split) <;> simp
@[simp] theorem advanceRound_air (s : State) : (advanceRound s).air = s.air := by
  unfold advanceRound; (try dsimp only); (repeat' split) <;> simp
@[simp] theorem advanceRound_hlk (s : State) : (advanceRound s).hlk = s.hlk := by
  unfold advanceRound; (try dsimp only); (repeat' split) <;> simp
@[simp] theorem advanceRound_cal (s : State) : (advanceRound s).cal = s.cal := by
  unfold advanceRound; (try dsimp only); (repeat' split) <;> simp
@[simp] theorem advanceRound_flk (s : State) : (advanceRound s).flk = s.flk := by
  unfold advanceRound; (try dsimp only); (repeat' split) <;> simp
@[simp] theorem advanceRound_hpt (s : State) : (advanceRound s).hpt = s.hpt := by
  unfold advanceRound; (try dsimp only); (repeat' split) <;> simp
@[simp] theorem advanceRound_handed (s : State) : (advanceRound s).handed = s.handed := by
  unfold advanceRound; (try dsimp only); (repeat' split) <;> simp
@[simp] theorem advanceRound_resetLow (s : State) : (advanceRound s).resetLow = s.resetLow := by
  unfold advanceRound; (try dsimp only); (repeat' split) <;> simp
@[simp] theorem advanceRound_hostOut (s : State) : (advanceRound s).hostOut = s.hostOut := by
  unfold advanceRound; (try dsimp only); (repeat' split) <;> simp
@[simp] theorem advanceRound_fieldOut (s : State) : (advanceRound s).fieldOut = s.fieldOut := by
  unfold advanceRound; (try dsimp only); (repeat' split) <;> simp
@[simp] theorem advanceRound_pending (s : State) : (advanceRound s).pending = s.pending := by
  unfold advanceRound; (try dsimp only); (repeat' split) <;> simp

/-! ### handReasons -/

@[simp] theorem handReasons_frt (r : Fin 8) (o n : FaultReasons) (s : State) : (handReasons r o n s).frt = s.frt := by
  unfold handReasons; (try dsimp only); (repeat' split) <;> simp
@[simp] theorem handReasons_znt (r : Fin 8) (o n : FaultReasons) (s : State) : (handReasons r o n s).znt = s.znt := by
  unfold handReasons; (try dsimp only); (repeat' split) <;> simp
@[simp] theorem handReasons_rst (r : Fin 8) (o n : FaultReasons) (s : State) : (handReasons r o n s).rst = s.rst := by
  unfold handReasons; (try dsimp only); (repeat' split) <;> simp
@[simp] theorem handReasons_air (r : Fin 8) (o n : FaultReasons) (s : State) : (handReasons r o n s).air = s.air := by
  unfold handReasons; (try dsimp only); (repeat' split) <;> simp
@[simp] theorem handReasons_hlk (r : Fin 8) (o n : FaultReasons) (s : State) : (handReasons r o n s).hlk = s.hlk := by
  unfold handReasons; (try dsimp only); (repeat' split) <;> simp
@[simp] theorem handReasons_rev (r : Fin 8) (o n : FaultReasons) (s : State) : (handReasons r o n s).rev = s.rev := by
  unfold handReasons; (try dsimp only); (repeat' split) <;> simp
@[simp] theorem handReasons_cal (r : Fin 8) (o n : FaultReasons) (s : State) : (handReasons r o n s).cal = s.cal := by
  unfold handReasons; (try dsimp only); (repeat' split) <;> simp
@[simp] theorem handReasons_flk (r : Fin 8) (o n : FaultReasons) (s : State) : (handReasons r o n s).flk = s.flk := by
  unfold handReasons; (try dsimp only); (repeat' split) <;> simp
@[simp] theorem handReasons_handed (r : Fin 8) (o n : FaultReasons) (s : State) : (handReasons r o n s).handed = s.handed := by
  unfold handReasons; (try dsimp only); (repeat' split) <;> simp
@[simp] theorem handReasons_resetLow (r : Fin 8) (o n : FaultReasons) (s : State) : (handReasons r o n s).resetLow = s.resetLow := by
  unfold handReasons; (try dsimp only); (repeat' split) <;> simp
@[simp] theorem handReasons_hostOut (r : Fin 8) (o n : FaultReasons) (s : State) : (handReasons r o n s).hostOut = s.hostOut := by
  unfold handReasons; (try dsimp only); (repeat' split) <;> simp
@[simp] theorem handReasons_fieldOut (r : Fin 8) (o n : FaultReasons) (s : State) : (handReasons r o n s).fieldOut = s.fieldOut := by
  unfold handReasons; (try dsimp only); (repeat' split) <;> simp
@[simp] theorem handReasons_pending (r : Fin 8) (o n : FaultReasons) (s : State) : (handReasons r o n s).pending = s.pending := by
  unfold handReasons; (try dsimp only); (repeat' split) <;> simp
@[simp] theorem handReasons_hpt_request (r : Fin 8) (o n : FaultReasons) (s : State) : (handReasons r o n s).hpt.request = s.hpt.request := by
  unfold handReasons; (try dsimp only); (repeat' split) <;> simp
@[simp] theorem handReasons_hpt_reply (r : Fin 8) (o n : FaultReasons) (s : State) : (handReasons r o n s).hpt.reply = s.hpt.reply := by
  unfold handReasons; (try dsimp only); (repeat' split) <;> simp
@[simp] theorem handReasons_hpt_readPos (r : Fin 8) (o n : FaultReasons) (s : State) : (handReasons r o n s).hpt.readPos = s.hpt.readPos := by
  unfold handReasons; (try dsimp only); (repeat' split) <;> simp
@[simp] theorem handReasons_hpt_overrun (r : Fin 8) (o n : FaultReasons) (s : State) : (handReasons r o n s).hpt.overrun = s.hpt.overrun := by
  unfold handReasons; (try dsimp only); (repeat' split) <;> simp
@[simp] theorem handReasons_hpt_phase (r : Fin 8) (o n : FaultReasons) (s : State) : (handReasons r o n s).hpt.phase = s.hpt.phase := by
  unfold handReasons; (try dsimp only); (repeat' split) <;> simp
@[simp] theorem handReasons_hpt_mask (r : Fin 8) (o n : FaultReasons) (s : State) : (handReasons r o n s).hpt.mask = s.hpt.mask := by
  unfold handReasons; (try dsimp only); (repeat' split) <;> simp
@[simp] theorem handReasons_hpt_cursorTable (r : Fin 8) (o n : FaultReasons) (s : State) : (handReasons r o n s).hpt.cursorTable = s.hpt.cursorTable := by
  unfold handReasons; (try dsimp only); (repeat' split) <;> simp
@[simp] theorem handReasons_hpt_cursorIndex (r : Fin 8) (o n : FaultReasons) (s : State) : (handReasons r o n s).hpt.cursorIndex = s.hpt.cursorIndex := by
  unfold handReasons; (try dsimp only); (repeat' split) <;> simp

/-! ### deriveReasons -/

@[simp] theorem deriveReasons_frt (r : Fin 8) (s : State) : (deriveReasons r s).frt = s.frt := by
  unfold deriveReasons; (try dsimp only); (repeat' split) <;> simp
@[simp] theorem deriveReasons_znt (r : Fin 8) (s : State) : (deriveReasons r s).znt = s.znt := by
  unfold deriveReasons; (try dsimp only); (repeat' split) <;> simp
@[simp] theorem deriveReasons_rst (r : Fin 8) (s : State) : (deriveReasons r s).rst = s.rst := by
  unfold deriveReasons; (try dsimp only); (repeat' split) <;> simp
@[simp] theorem deriveReasons_air (r : Fin 8) (s : State) : (deriveReasons r s).air = s.air := by
  unfold deriveReasons; (try dsimp only); (repeat' split) <;> simp
@[simp] theorem deriveReasons_hlk (r : Fin 8) (s : State) : (deriveReasons r s).hlk = s.hlk := by
  unfold deriveReasons; (try dsimp only); (repeat' split) <;> simp
@[simp] theorem deriveReasons_cal (r : Fin 8) (s : State) : (deriveReasons r s).cal = s.cal := by
  unfold deriveReasons; (try dsimp only); (repeat' split) <;> simp
@[simp] theorem deriveReasons_flk (r : Fin 8) (s : State) : (deriveReasons r s).flk = s.flk := by
  unfold deriveReasons; (try dsimp only); (repeat' split) <;> simp
@[simp] theorem deriveReasons_handed (r : Fin 8) (s : State) : (deriveReasons r s).handed = s.handed := by
  unfold deriveReasons; (try dsimp only); (repeat' split) <;> simp
@[simp] theorem deriveReasons_resetLow (r : Fin 8) (s : State) : (deriveReasons r s).resetLow = s.resetLow := by
  unfold deriveReasons; (try dsimp only); (repeat' split) <;> simp
@[simp] theorem deriveReasons_hostOut (r : Fin 8) (s : State) : (deriveReasons r s).hostOut = s.hostOut := by
  unfold deriveReasons; (try dsimp only); (repeat' split) <;> simp
@[simp] theorem deriveReasons_fieldOut (r : Fin 8) (s : State) : (deriveReasons r s).fieldOut = s.fieldOut := by
  unfold deriveReasons; (try dsimp only); (repeat' split) <;> simp
@[simp] theorem deriveReasons_pending (r : Fin 8) (s : State) : (deriveReasons r s).pending = s.pending := by
  unfold deriveReasons; (try dsimp only); (repeat' split) <;> simp
@[simp] theorem deriveReasons_hpt_request (r : Fin 8) (s : State) : (deriveReasons r s).hpt.request = s.hpt.request := by
  unfold deriveReasons; (try dsimp only); (repeat' split) <;> simp
@[simp] theorem deriveReasons_hpt_reply (r : Fin 8) (s : State) : (deriveReasons r s).hpt.reply = s.hpt.reply := by
  unfold deriveReasons; (try dsimp only); (repeat' split) <;> simp
@[simp] theorem deriveReasons_hpt_readPos (r : Fin 8) (s : State) : (deriveReasons r s).hpt.readPos = s.hpt.readPos := by
  unfold deriveReasons; (try dsimp only); (repeat' split) <;> simp
@[simp] theorem deriveReasons_hpt_overrun (r : Fin 8) (s : State) : (deriveReasons r s).hpt.overrun = s.hpt.overrun := by
  unfold deriveReasons; (try dsimp only); (repeat' split) <;> simp
@[simp] theorem deriveReasons_hpt_phase (r : Fin 8) (s : State) : (deriveReasons r s).hpt.phase = s.hpt.phase := by
  unfold deriveReasons; (try dsimp only); (repeat' split) <;> simp
@[simp] theorem deriveReasons_hpt_mask (r : Fin 8) (s : State) : (deriveReasons r s).hpt.mask = s.hpt.mask := by
  unfold deriveReasons; (try dsimp only); (repeat' split) <;> simp
@[simp] theorem deriveReasons_hpt_cursorTable (r : Fin 8) (s : State) : (deriveReasons r s).hpt.cursorTable = s.hpt.cursorTable := by
  unfold deriveReasons; (try dsimp only); (repeat' split) <;> simp
@[simp] theorem deriveReasons_hpt_cursorIndex (r : Fin 8) (s : State) : (deriveReasons r s).hpt.cursorIndex = s.hpt.cursorIndex := by
  unfold deriveReasons; (try dsimp only); (repeat' split) <;> simp

/-! ### occupancyClaim -/

@[simp] theorem occupancyClaim_frt (r : Option (Fin 8)) (s : State) : (occupancyClaim r s).frt = s.frt := by
  unfold occupancyClaim; (try dsimp only); (repeat' split) <;> simp
@[simp] theorem occupancyClaim_znt (r : Option (Fin 8)) (s : State) : (occupancyClaim r s).znt = s.znt := by
  unfold occupancyClaim; (try dsimp only); (repeat' split) <;> simp
@[simp] theorem occupancyClaim_rst (r : Option (Fin 8)) (s : State) : (occupancyClaim r s).rst = s.rst := by
  unfold occupancyClaim; (try dsimp only); (repeat' split) <;> simp
@[simp] theorem occupancyClaim_air (r : Option (Fin 8)) (s : State) : (occupancyClaim r s).air = s.air := by
  unfold occupancyClaim; (try dsimp only); (repeat' split) <;> simp
@[simp] theorem occupancyClaim_hlk (r : Option (Fin 8)) (s : State) : (occupancyClaim r s).hlk = s.hlk := by
  unfold occupancyClaim; (try dsimp only); (repeat' split) <;> simp
@[simp] theorem occupancyClaim_cal (r : Option (Fin 8)) (s : State) : (occupancyClaim r s).cal = s.cal := by
  unfold occupancyClaim; (try dsimp only); (repeat' split) <;> simp
@[simp] theorem occupancyClaim_flk (r : Option (Fin 8)) (s : State) : (occupancyClaim r s).flk = s.flk := by
  unfold occupancyClaim; (try dsimp only); (repeat' split) <;> simp
@[simp] theorem occupancyClaim_handed (r : Option (Fin 8)) (s : State) : (occupancyClaim r s).handed = s.handed := by
  unfold occupancyClaim; (try dsimp only); (repeat' split) <;> simp
@[simp] theorem occupancyClaim_resetLow (r : Option (Fin 8)) (s : State) : (occupancyClaim r s).resetLow = s.resetLow := by
  unfold occupancyClaim; (try dsimp only); (repeat' split) <;> simp
@[simp] theorem occupancyClaim_hostOut (r : Option (Fin 8)) (s : State) : (occupancyClaim r s).hostOut = s.hostOut := by
  unfold occupancyClaim; (try dsimp only); (repeat' split) <;> simp
@[simp] theorem occupancyClaim_fieldOut (r : Option (Fin 8)) (s : State) : (occupancyClaim r s).fieldOut = s.fieldOut := by
  unfold occupancyClaim; (try dsimp only); (repeat' split) <;> simp
@[simp] theorem occupancyClaim_pending (r : Option (Fin 8)) (s : State) : (occupancyClaim r s).pending = s.pending := by
  unfold occupancyClaim; (try dsimp only); (repeat' split) <;> simp
@[simp] theorem occupancyClaim_hpt_request (r : Option (Fin 8)) (s : State) : (occupancyClaim r s).hpt.request = s.hpt.request := by
  unfold occupancyClaim; (try dsimp only); (repeat' split) <;> simp
@[simp] theorem occupancyClaim_hpt_reply (r : Option (Fin 8)) (s : State) : (occupancyClaim r s).hpt.reply = s.hpt.reply := by
  unfold occupancyClaim; (try dsimp only); (repeat' split) <;> simp
@[simp] theorem occupancyClaim_hpt_readPos (r : Option (Fin 8)) (s : State) : (occupancyClaim r s).hpt.readPos = s.hpt.readPos := by
  unfold occupancyClaim; (try dsimp only); (repeat' split) <;> simp
@[simp] theorem occupancyClaim_hpt_overrun (r : Option (Fin 8)) (s : State) : (occupancyClaim r s).hpt.overrun = s.hpt.overrun := by
  unfold occupancyClaim; (try dsimp only); (repeat' split) <;> simp
@[simp] theorem occupancyClaim_hpt_phase (r : Option (Fin 8)) (s : State) : (occupancyClaim r s).hpt.phase = s.hpt.phase := by
  unfold occupancyClaim; (try dsimp only); (repeat' split) <;> simp
@[simp] theorem occupancyClaim_hpt_mask (r : Option (Fin 8)) (s : State) : (occupancyClaim r s).hpt.mask = s.hpt.mask := by
  unfold occupancyClaim; (try dsimp only); (repeat' split) <;> simp
@[simp] theorem occupancyClaim_hpt_cursorTable (r : Option (Fin 8)) (s : State) : (occupancyClaim r s).hpt.cursorTable = s.hpt.cursorTable := by
  unfold occupancyClaim; (try dsimp only); (repeat' split) <;> simp
@[simp] theorem occupancyClaim_hpt_cursorIndex (r : Option (Fin 8)) (s : State) : (occupancyClaim r s).hpt.cursorIndex = s.hpt.cursorIndex := by
  unfold occupancyClaim; (try dsimp only); (repeat' split) <;> simp

/-! ### judgePanel -/

@[simp] theorem judgePanel_frt (r : Fin 8) (s : State) : (judgePanel r s).frt = s.frt := by
  unfold judgePanel; (try dsimp only); (repeat' split) <;> simp
@[simp] theorem judgePanel_znt (r : Fin 8) (s : State) : (judgePanel r s).znt = s.znt := by
  unfold judgePanel; (try dsimp only); (repeat' split) <;> simp
@[simp] theorem judgePanel_rst (r : Fin 8) (s : State) : (judgePanel r s).rst = s.rst := by
  unfold judgePanel; (try dsimp only); (repeat' split) <;> simp
@[simp] theorem judgePanel_air (r : Fin 8) (s : State) : (judgePanel r s).air = s.air := by
  unfold judgePanel; (try dsimp only); (repeat' split) <;> simp
@[simp] theorem judgePanel_hlk (r : Fin 8) (s : State) : (judgePanel r s).hlk = s.hlk := by
  unfold judgePanel; (try dsimp only); (repeat' split) <;> simp
@[simp] theorem judgePanel_cal (r : Fin 8) (s : State) : (judgePanel r s).cal = s.cal := by
  unfold judgePanel; (try dsimp only); (repeat' split) <;> simp
@[simp] theorem judgePanel_flk (r : Fin 8) (s : State) : (judgePanel r s).flk = s.flk := by
  unfold judgePanel; (try dsimp only); (repeat' split) <;> simp
@[simp] theorem judgePanel_handed (r : Fin 8) (s : State) : (judgePanel r s).handed = s.handed := by
  unfold judgePanel; (try dsimp only); (repeat' split) <;> simp
@[simp] theorem judgePanel_resetLow (r : Fin 8) (s : State) : (judgePanel r s).resetLow = s.resetLow := by
  unfold judgePanel; (try dsimp only); (repeat' split) <;> simp
@[simp] theorem judgePanel_hostOut (r : Fin 8) (s : State) : (judgePanel r s).hostOut = s.hostOut := by
  unfold judgePanel; (try dsimp only); (repeat' split) <;> simp
@[simp] theorem judgePanel_fieldOut (r : Fin 8) (s : State) : (judgePanel r s).fieldOut = s.fieldOut := by
  unfold judgePanel; (try dsimp only); (repeat' split) <;> simp
@[simp] theorem judgePanel_pending (r : Fin 8) (s : State) : (judgePanel r s).pending = s.pending := by
  unfold judgePanel; (try dsimp only); (repeat' split) <;> simp
@[simp] theorem judgePanel_hpt_request (r : Fin 8) (s : State) : (judgePanel r s).hpt.request = s.hpt.request := by
  unfold judgePanel; (try dsimp only); (repeat' split) <;> simp
@[simp] theorem judgePanel_hpt_reply (r : Fin 8) (s : State) : (judgePanel r s).hpt.reply = s.hpt.reply := by
  unfold judgePanel; (try dsimp only); (repeat' split) <;> simp
@[simp] theorem judgePanel_hpt_readPos (r : Fin 8) (s : State) : (judgePanel r s).hpt.readPos = s.hpt.readPos := by
  unfold judgePanel; (try dsimp only); (repeat' split) <;> simp
@[simp] theorem judgePanel_hpt_overrun (r : Fin 8) (s : State) : (judgePanel r s).hpt.overrun = s.hpt.overrun := by
  unfold judgePanel; (try dsimp only); (repeat' split) <;> simp
@[simp] theorem judgePanel_hpt_phase (r : Fin 8) (s : State) : (judgePanel r s).hpt.phase = s.hpt.phase := by
  unfold judgePanel; (try dsimp only); (repeat' split) <;> simp
@[simp] theorem judgePanel_hpt_mask (r : Fin 8) (s : State) : (judgePanel r s).hpt.mask = s.hpt.mask := by
  unfold judgePanel; (try dsimp only); (repeat' split) <;> simp
@[simp] theorem judgePanel_hpt_cursorTable (r : Fin 8) (s : State) : (judgePanel r s).hpt.cursorTable = s.hpt.cursorTable := by
  unfold judgePanel; (try dsimp only); (repeat' split) <;> simp
@[simp] theorem judgePanel_hpt_cursorIndex (r : Fin 8) (s : State) : (judgePanel r s).hpt.cursorIndex = s.hpt.cursorIndex := by
  unfold judgePanel; (try dsimp only); (repeat' split) <;> simp

/-! ### judgePanels -/

@[simp] theorem judgePanels_frt (s : State) : (judgePanels s).frt = s.frt := by
  unfold judgePanels; exact (forEach_same (fun t => t.frt) _ (fun _ _ => by simp) _ _).trans (by simp)
@[simp] theorem judgePanels_znt (s : State) : (judgePanels s).znt = s.znt := by
  unfold judgePanels; exact (forEach_same (fun t => t.znt) _ (fun _ _ => by simp) _ _).trans (by simp)
@[simp] theorem judgePanels_rst (s : State) : (judgePanels s).rst = s.rst := by
  unfold judgePanels; exact (forEach_same (fun t => t.rst) _ (fun _ _ => by simp) _ _).trans (by simp)
@[simp] theorem judgePanels_air (s : State) : (judgePanels s).air = s.air := by
  unfold judgePanels; exact (forEach_same (fun t => t.air) _ (fun _ _ => by simp) _ _).trans (by simp)
@[simp] theorem judgePanels_hlk (s : State) : (judgePanels s).hlk = s.hlk := by
  unfold judgePanels; exact (forEach_same (fun t => t.hlk) _ (fun _ _ => by simp) _ _).trans (by simp)
@[simp] theorem judgePanels_cal (s : State) : (judgePanels s).cal = s.cal := by
  unfold judgePanels; exact (forEach_same (fun t => t.cal) _ (fun _ _ => by simp) _ _).trans (by simp)
@[simp] theorem judgePanels_flk (s : State) : (judgePanels s).flk = s.flk := by
  unfold judgePanels; exact (forEach_same (fun t => t.flk) _ (fun _ _ => by simp) _ _).trans (by simp)
@[simp] theorem judgePanels_handed (s : State) : (judgePanels s).handed = s.handed := by
  unfold judgePanels; exact (forEach_same (fun t => t.handed) _ (fun _ _ => by simp) _ _).trans (by simp)
@[simp] theorem judgePanels_resetLow (s : State) : (judgePanels s).resetLow = s.resetLow := by
  unfold judgePanels; exact (forEach_same (fun t => t.resetLow) _ (fun _ _ => by simp) _ _).trans (by simp)
@[simp] theorem judgePanels_hostOut (s : State) : (judgePanels s).hostOut = s.hostOut := by
  unfold judgePanels; exact (forEach_same (fun t => t.hostOut) _ (fun _ _ => by simp) _ _).trans (by simp)
@[simp] theorem judgePanels_fieldOut (s : State) : (judgePanels s).fieldOut = s.fieldOut := by
  unfold judgePanels; exact (forEach_same (fun t => t.fieldOut) _ (fun _ _ => by simp) _ _).trans (by simp)
@[simp] theorem judgePanels_pending (s : State) : (judgePanels s).pending = s.pending := by
  unfold judgePanels; exact (forEach_same (fun t => t.pending) _ (fun _ _ => by simp) _ _).trans (by simp)
@[simp] theorem judgePanels_hpt_request (s : State) : (judgePanels s).hpt.request = s.hpt.request := by
  unfold judgePanels; exact (forEach_same (fun t => t.hpt.request) _ (fun _ _ => by simp) _ _).trans (by simp)
@[simp] theorem judgePanels_hpt_reply (s : State) : (judgePanels s).hpt.reply = s.hpt.reply := by
  unfold judgePanels; exact (forEach_same (fun t => t.hpt.reply) _ (fun _ _ => by simp) _ _).trans (by simp)
@[simp] theorem judgePanels_hpt_readPos (s : State) : (judgePanels s).hpt.readPos = s.hpt.readPos := by
  unfold judgePanels; exact (forEach_same (fun t => t.hpt.readPos) _ (fun _ _ => by simp) _ _).trans (by simp)
@[simp] theorem judgePanels_hpt_overrun (s : State) : (judgePanels s).hpt.overrun = s.hpt.overrun := by
  unfold judgePanels; exact (forEach_same (fun t => t.hpt.overrun) _ (fun _ _ => by simp) _ _).trans (by simp)
@[simp] theorem judgePanels_hpt_phase (s : State) : (judgePanels s).hpt.phase = s.hpt.phase := by
  unfold judgePanels; exact (forEach_same (fun t => t.hpt.phase) _ (fun _ _ => by simp) _ _).trans (by simp)
@[simp] theorem judgePanels_hpt_mask (s : State) : (judgePanels s).hpt.mask = s.hpt.mask := by
  unfold judgePanels; exact (forEach_same (fun t => t.hpt.mask) _ (fun _ _ => by simp) _ _).trans (by simp)
@[simp] theorem judgePanels_hpt_cursorTable (s : State) : (judgePanels s).hpt.cursorTable = s.hpt.cursorTable := by
  unfold judgePanels; exact (forEach_same (fun t => t.hpt.cursorTable) _ (fun _ _ => by simp) _ _).trans (by simp)
@[simp] theorem judgePanels_hpt_cursorIndex (s : State) : (judgePanels s).hpt.cursorIndex = s.hpt.cursorIndex := by
  unfold judgePanels; exact (forEach_same (fun t => t.hpt.cursorIndex) _ (fun _ _ => by simp) _ _).trans (by simp)

/-! ### orderByAir -/

@[simp] theorem orderByAir_frt (z : Fin 32) (y : AirState) (s : State) : (orderByAir z y s).frt = s.frt := by
  unfold orderByAir; (try dsimp only); (repeat' split) <;> simp
@[simp] theorem orderByAir_atq (z : Fin 32) (y : AirState) (s : State) : (orderByAir z y s).atq = s.atq := by
  unfold orderByAir; (try dsimp only); (repeat' split) <;> simp
@[simp] theorem orderByAir_air (z : Fin 32) (y : AirState) (s : State) : (orderByAir z y s).air = s.air := by
  unfold orderByAir; (try dsimp only); (repeat' split) <;> simp
@[simp] theorem orderByAir_rev (z : Fin 32) (y : AirState) (s : State) : (orderByAir z y s).rev = s.rev := by
  unfold orderByAir; (try dsimp only); (repeat' split) <;> simp
@[simp] theorem orderByAir_cal (z : Fin 32) (y : AirState) (s : State) : (orderByAir z y s).cal = s.cal := by
  unfold orderByAir; (try dsimp only); (repeat' split) <;> simp
@[simp] theorem orderByAir_flk (z : Fin 32) (y : AirState) (s : State) : (orderByAir z y s).flk = s.flk := by
  unfold orderByAir; (try dsimp only); (repeat' split) <;> simp
@[simp] theorem orderByAir_hpt (z : Fin 32) (y : AirState) (s : State) : (orderByAir z y s).hpt = s.hpt := by
  unfold orderByAir; (try dsimp only); (repeat' split) <;> simp
@[simp] theorem orderByAir_handed (z : Fin 32) (y : AirState) (s : State) : (orderByAir z y s).handed = s.handed := by
  unfold orderByAir; (try dsimp only); (repeat' split) <;> simp
@[simp] theorem orderByAir_resetLow (z : Fin 32) (y : AirState) (s : State) : (orderByAir z y s).resetLow = s.resetLow := by
  unfold orderByAir; (try dsimp only); (repeat' split) <;> simp
@[simp] theorem orderByAir_hostOut (z : Fin 32) (y : AirState) (s : State) : (orderByAir z y s).hostOut = s.hostOut := by
  unfold orderByAir; (try dsimp only); (repeat' split) <;> simp
@[simp] theorem orderByAir_fieldOut (z : Fin 32) (y : AirState) (s : State) : (orderByAir z y s).fieldOut = s.fieldOut := by
  unfold orderByAir; (try dsimp only); (repeat' split) <;> simp
@[simp] theorem orderByAir_pending (z : Fin 32) (y : AirState) (s : State) : (orderByAir z y s).pending = s.pending := by
  unfold orderByAir; (try dsimp only); (repeat' split) <;> simp

/-! ### orderByLine -/

@[simp] theorem orderByLine_frt (z : Fin 32) (x y : AirState) (s : State) : (orderByLine z x y s).frt = s.frt := by
  unfold orderByLine; (repeat' split) <;> first | rfl | exact forEach_same (fun t => t.frt) _ (fun _ _ => by split <;> simp) _ _ | exact forEach_same (fun t => t.frt) _ (fun _ _ => by simp) _ _
@[simp] theorem orderByLine_atq (z : Fin 32) (x y : AirState) (s : State) : (orderByLine z x y s).atq = s.atq := by
  unfold orderByLine; (repeat' split) <;> first | rfl | exact forEach_same (fun t => t.atq) _ (fun _ _ => by split <;> simp) _ _ | exact forEach_same (fun t => t.atq) _ (fun _ _ => by simp) _ _
@[simp] theorem orderByLine_air (z : Fin 32) (x y : AirState) (s : State) : (orderByLine z x y s).air = s.air := by
  unfold orderByLine; (repeat' split) <;> first | rfl | exact forEach_same (fun t => t.air) _ (fun _ _ => by split <;> simp) _ _ | exact forEach_same (fun t => t.air) _ (fun _ _ => by simp) _ _
@[simp] theorem orderByLine_rev (z : Fin 32) (x y : AirState) (s : State) : (orderByLine z x y s).rev = s.rev := by
  unfold orderByLine; (repeat' split) <;> first | rfl | exact forEach_same (fun t => t.rev) _ (fun _ _ => by split <;> simp) _ _ | exact forEach_same (fun t => t.rev) _ (fun _ _ => by simp) _ _
@[simp] theorem orderByLine_cal (z : Fin 32) (x y : AirState) (s : State) : (orderByLine z x y s).cal = s.cal := by
  unfold orderByLine; (repeat' split) <;> first | rfl | exact forEach_same (fun t => t.cal) _ (fun _ _ => by split <;> simp) _ _ | exact forEach_same (fun t => t.cal) _ (fun _ _ => by simp) _ _
@[simp] theorem orderByLine_flk (z : Fin 32) (x y : AirState) (s : State) : (orderByLine z x y s).flk = s.flk := by
  unfold orderByLine; (repeat' split) <;> first | rfl | exact forEach_same (fun t => t.flk) _ (fun _ _ => by split <;> simp) _ _ | exact forEach_same (fun t => t.flk) _ (fun _ _ => by simp) _ _
@[simp] theorem orderByLine_hpt (z : Fin 32) (x y : AirState) (s : State) : (orderByLine z x y s).hpt = s.hpt := by
  unfold orderByLine; (repeat' split) <;> first | rfl | exact forEach_same (fun t => t.hpt) _ (fun _ _ => by split <;> simp) _ _ | exact forEach_same (fun t => t.hpt) _ (fun _ _ => by simp) _ _
@[simp] theorem orderByLine_handed (z : Fin 32) (x y : AirState) (s : State) : (orderByLine z x y s).handed = s.handed := by
  unfold orderByLine; (repeat' split) <;> first | rfl | exact forEach_same (fun t => t.handed) _ (fun _ _ => by split <;> simp) _ _ | exact forEach_same (fun t => t.handed) _ (fun _ _ => by simp) _ _
@[simp] theorem orderByLine_resetLow (z : Fin 32) (x y : AirState) (s : State) : (orderByLine z x y s).resetLow = s.resetLow := by
  unfold orderByLine; (repeat' split) <;> first | rfl | exact forEach_same (fun t => t.resetLow) _ (fun _ _ => by split <;> simp) _ _ | exact forEach_same (fun t => t.resetLow) _ (fun _ _ => by simp) _ _
@[simp] theorem orderByLine_hostOut (z : Fin 32) (x y : AirState) (s : State) : (orderByLine z x y s).hostOut = s.hostOut := by
  unfold orderByLine; (repeat' split) <;> first | rfl | exact forEach_same (fun t => t.hostOut) _ (fun _ _ => by split <;> simp) _ _ | exact forEach_same (fun t => t.hostOut) _ (fun _ _ => by simp) _ _
@[simp] theorem orderByLine_fieldOut (z : Fin 32) (x y : AirState) (s : State) : (orderByLine z x y s).fieldOut = s.fieldOut := by
  unfold orderByLine; (repeat' split) <;> first | rfl | exact forEach_same (fun t => t.fieldOut) _ (fun _ _ => by split <;> simp) _ _ | exact forEach_same (fun t => t.fieldOut) _ (fun _ _ => by simp) _ _
@[simp] theorem orderByLine_pending (z : Fin 32) (x y : AirState) (s : State) : (orderByLine z x y s).pending = s.pending := by
  unfold orderByLine; (repeat' split) <;> first | rfl | exact forEach_same (fun t => t.pending) _ (fun _ _ => by split <;> simp) _ _ | exact forEach_same (fun t => t.pending) _ (fun _ _ => by simp) _ _

/-! ### evacuateByAir -/

@[simp] theorem evacuateByAir_frt (z : Fin 32) (x y : AirState) (s : State) : (evacuateByAir z x y s).frt = s.frt := by
  unfold evacuateByAir; exact (forEach_same (fun t => t.frt) _ (fun _ _ => by simp) _ _).trans (by simp)
@[simp] theorem evacuateByAir_air (z : Fin 32) (x y : AirState) (s : State) : (evacuateByAir z x y s).air = s.air := by
  unfold evacuateByAir; exact (forEach_same (fun t => t.air) _ (fun _ _ => by simp) _ _).trans (by simp)
@[simp] theorem evacuateByAir_cal (z : Fin 32) (x y : AirState) (s : State) : (evacuateByAir z x y s).cal = s.cal := by
  unfold evacuateByAir; exact (forEach_same (fun t => t.cal) _ (fun _ _ => by simp) _ _).trans (by simp)
@[simp] theorem evacuateByAir_flk (z : Fin 32) (x y : AirState) (s : State) : (evacuateByAir z x y s).flk = s.flk := by
  unfold evacuateByAir; exact (forEach_same (fun t => t.flk) _ (fun _ _ => by simp) _ _).trans (by simp)
@[simp] theorem evacuateByAir_handed (z : Fin 32) (x y : AirState) (s : State) : (evacuateByAir z x y s).handed = s.handed := by
  unfold evacuateByAir; exact (forEach_same (fun t => t.handed) _ (fun _ _ => by simp) _ _).trans (by simp)
@[simp] theorem evacuateByAir_resetLow (z : Fin 32) (x y : AirState) (s : State) : (evacuateByAir z x y s).resetLow = s.resetLow := by
  unfold evacuateByAir; exact (forEach_same (fun t => t.resetLow) _ (fun _ _ => by simp) _ _).trans (by simp)
@[simp] theorem evacuateByAir_hostOut (z : Fin 32) (x y : AirState) (s : State) : (evacuateByAir z x y s).hostOut = s.hostOut := by
  unfold evacuateByAir; exact (forEach_same (fun t => t.hostOut) _ (fun _ _ => by simp) _ _).trans (by simp)
@[simp] theorem evacuateByAir_fieldOut (z : Fin 32) (x y : AirState) (s : State) : (evacuateByAir z x y s).fieldOut = s.fieldOut := by
  unfold evacuateByAir; exact (forEach_same (fun t => t.fieldOut) _ (fun _ _ => by simp) _ _).trans (by simp)
@[simp] theorem evacuateByAir_pending (z : Fin 32) (x y : AirState) (s : State) : (evacuateByAir z x y s).pending = s.pending := by
  unfold evacuateByAir; exact (forEach_same (fun t => t.pending) _ (fun _ _ => by simp) _ _).trans (by simp)
@[simp] theorem evacuateByAir_hpt_request (z : Fin 32) (x y : AirState) (s : State) : (evacuateByAir z x y s).hpt.request = s.hpt.request := by
  unfold evacuateByAir; exact (forEach_same (fun t => t.hpt.request) _ (fun _ _ => by simp) _ _).trans (by simp)
@[simp] theorem evacuateByAir_hpt_reply (z : Fin 32) (x y : AirState) (s : State) : (evacuateByAir z x y s).hpt.reply = s.hpt.reply := by
  unfold evacuateByAir; exact (forEach_same (fun t => t.hpt.reply) _ (fun _ _ => by simp) _ _).trans (by simp)
@[simp] theorem evacuateByAir_hpt_readPos (z : Fin 32) (x y : AirState) (s : State) : (evacuateByAir z x y s).hpt.readPos = s.hpt.readPos := by
  unfold evacuateByAir; exact (forEach_same (fun t => t.hpt.readPos) _ (fun _ _ => by simp) _ _).trans (by simp)
@[simp] theorem evacuateByAir_hpt_overrun (z : Fin 32) (x y : AirState) (s : State) : (evacuateByAir z x y s).hpt.overrun = s.hpt.overrun := by
  unfold evacuateByAir; exact (forEach_same (fun t => t.hpt.overrun) _ (fun _ _ => by simp) _ _).trans (by simp)
@[simp] theorem evacuateByAir_hpt_phase (z : Fin 32) (x y : AirState) (s : State) : (evacuateByAir z x y s).hpt.phase = s.hpt.phase := by
  unfold evacuateByAir; exact (forEach_same (fun t => t.hpt.phase) _ (fun _ _ => by simp) _ _).trans (by simp)
@[simp] theorem evacuateByAir_hpt_mask (z : Fin 32) (x y : AirState) (s : State) : (evacuateByAir z x y s).hpt.mask = s.hpt.mask := by
  unfold evacuateByAir; exact (forEach_same (fun t => t.hpt.mask) _ (fun _ _ => by simp) _ _).trans (by simp)
@[simp] theorem evacuateByAir_hpt_cursorTable (z : Fin 32) (x y : AirState) (s : State) : (evacuateByAir z x y s).hpt.cursorTable = s.hpt.cursorTable := by
  unfold evacuateByAir; exact (forEach_same (fun t => t.hpt.cursorTable) _ (fun _ _ => by simp) _ _).trans (by simp)
@[simp] theorem evacuateByAir_hpt_cursorIndex (z : Fin 32) (x y : AirState) (s : State) : (evacuateByAir z x y s).hpt.cursorIndex = s.hpt.cursorIndex := by
  unfold evacuateByAir; exact (forEach_same (fun t => t.hpt.cursorIndex) _ (fun _ _ => by simp) _ _).trans (by simp)

/-! ### judgeExposure -/

@[simp] theorem judgeExposure_frt (i : Fin 240) (s : State) : (judgeExposure i s).frt = s.frt := by
  unfold judgeExposure; (try dsimp only); (repeat' split) <;> simp
@[simp] theorem judgeExposure_znt (i : Fin 240) (s : State) : (judgeExposure i s).znt = s.znt := by
  unfold judgeExposure; (try dsimp only); (repeat' split) <;> simp
@[simp] theorem judgeExposure_rst (i : Fin 240) (s : State) : (judgeExposure i s).rst = s.rst := by
  unfold judgeExposure; (try dsimp only); (repeat' split) <;> simp
@[simp] theorem judgeExposure_air (i : Fin 240) (s : State) : (judgeExposure i s).air = s.air := by
  unfold judgeExposure; (try dsimp only); (repeat' split) <;> simp
@[simp] theorem judgeExposure_hlk (i : Fin 240) (s : State) : (judgeExposure i s).hlk = s.hlk := by
  unfold judgeExposure; (try dsimp only); (repeat' split) <;> simp
@[simp] theorem judgeExposure_rev (i : Fin 240) (s : State) : (judgeExposure i s).rev = s.rev := by
  unfold judgeExposure; (try dsimp only); (repeat' split) <;> simp
@[simp] theorem judgeExposure_cal (i : Fin 240) (s : State) : (judgeExposure i s).cal = s.cal := by
  unfold judgeExposure; (try dsimp only); (repeat' split) <;> simp
@[simp] theorem judgeExposure_flk (i : Fin 240) (s : State) : (judgeExposure i s).flk = s.flk := by
  unfold judgeExposure; (try dsimp only); (repeat' split) <;> simp
@[simp] theorem judgeExposure_handed (i : Fin 240) (s : State) : (judgeExposure i s).handed = s.handed := by
  unfold judgeExposure; (try dsimp only); (repeat' split) <;> simp
@[simp] theorem judgeExposure_resetLow (i : Fin 240) (s : State) : (judgeExposure i s).resetLow = s.resetLow := by
  unfold judgeExposure; (try dsimp only); (repeat' split) <;> simp
@[simp] theorem judgeExposure_hostOut (i : Fin 240) (s : State) : (judgeExposure i s).hostOut = s.hostOut := by
  unfold judgeExposure; (try dsimp only); (repeat' split) <;> simp
@[simp] theorem judgeExposure_fieldOut (i : Fin 240) (s : State) : (judgeExposure i s).fieldOut = s.fieldOut := by
  unfold judgeExposure; (try dsimp only); (repeat' split) <;> simp
@[simp] theorem judgeExposure_pending (i : Fin 240) (s : State) : (judgeExposure i s).pending = s.pending := by
  unfold judgeExposure; (try dsimp only); (repeat' split) <;> simp
@[simp] theorem judgeExposure_hpt_request (i : Fin 240) (s : State) : (judgeExposure i s).hpt.request = s.hpt.request := by
  unfold judgeExposure; (try dsimp only); (repeat' split) <;> simp
@[simp] theorem judgeExposure_hpt_reply (i : Fin 240) (s : State) : (judgeExposure i s).hpt.reply = s.hpt.reply := by
  unfold judgeExposure; (try dsimp only); (repeat' split) <;> simp
@[simp] theorem judgeExposure_hpt_readPos (i : Fin 240) (s : State) : (judgeExposure i s).hpt.readPos = s.hpt.readPos := by
  unfold judgeExposure; (try dsimp only); (repeat' split) <;> simp
@[simp] theorem judgeExposure_hpt_overrun (i : Fin 240) (s : State) : (judgeExposure i s).hpt.overrun = s.hpt.overrun := by
  unfold judgeExposure; (try dsimp only); (repeat' split) <;> simp
@[simp] theorem judgeExposure_hpt_phase (i : Fin 240) (s : State) : (judgeExposure i s).hpt.phase = s.hpt.phase := by
  unfold judgeExposure; (try dsimp only); (repeat' split) <;> simp
@[simp] theorem judgeExposure_hpt_mask (i : Fin 240) (s : State) : (judgeExposure i s).hpt.mask = s.hpt.mask := by
  unfold judgeExposure; (try dsimp only); (repeat' split) <;> simp
@[simp] theorem judgeExposure_hpt_cursorTable (i : Fin 240) (s : State) : (judgeExposure i s).hpt.cursorTable = s.hpt.cursorTable := by
  unfold judgeExposure; (try dsimp only); (repeat' split) <;> simp
@[simp] theorem judgeExposure_hpt_cursorIndex (i : Fin 240) (s : State) : (judgeExposure i s).hpt.cursorIndex = s.hpt.cursorIndex := by
  unfold judgeExposure; (try dsimp only); (repeat' split) <;> simp

/-! ### raiseExposure -/

@[simp] theorem raiseExposure_frt (i : Fin 240) (s : State) : (raiseExposure i s).frt = s.frt := by
  unfold raiseExposure; (try dsimp only); (repeat' split) <;> simp
@[simp] theorem raiseExposure_znt (i : Fin 240) (s : State) : (raiseExposure i s).znt = s.znt := by
  unfold raiseExposure; (try dsimp only); (repeat' split) <;> simp
@[simp] theorem raiseExposure_air (i : Fin 240) (s : State) : (raiseExposure i s).air = s.air := by
  unfold raiseExposure; (try dsimp only); (repeat' split) <;> simp
@[simp] theorem raiseExposure_hlk (i : Fin 240) (s : State) : (raiseExposure i s).hlk = s.hlk := by
  unfold raiseExposure; (try dsimp only); (repeat' split) <;> simp
@[simp] theorem raiseExposure_rev (i : Fin 240) (s : State) : (raiseExposure i s).rev = s.rev := by
  unfold raiseExposure; (try dsimp only); (repeat' split) <;> simp
@[simp] theorem raiseExposure_cal (i : Fin 240) (s : State) : (raiseExposure i s).cal = s.cal := by
  unfold raiseExposure; (try dsimp only); (repeat' split) <;> simp
@[simp] theorem raiseExposure_flk (i : Fin 240) (s : State) : (raiseExposure i s).flk = s.flk := by
  unfold raiseExposure; (try dsimp only); (repeat' split) <;> simp
@[simp] theorem raiseExposure_handed (i : Fin 240) (s : State) : (raiseExposure i s).handed = s.handed := by
  unfold raiseExposure; (try dsimp only); (repeat' split) <;> simp
@[simp] theorem raiseExposure_resetLow (i : Fin 240) (s : State) : (raiseExposure i s).resetLow = s.resetLow := by
  unfold raiseExposure; (try dsimp only); (repeat' split) <;> simp
@[simp] theorem raiseExposure_hostOut (i : Fin 240) (s : State) : (raiseExposure i s).hostOut = s.hostOut := by
  unfold raiseExposure; (try dsimp only); (repeat' split) <;> simp
@[simp] theorem raiseExposure_fieldOut (i : Fin 240) (s : State) : (raiseExposure i s).fieldOut = s.fieldOut := by
  unfold raiseExposure; (try dsimp only); (repeat' split) <;> simp
@[simp] theorem raiseExposure_pending (i : Fin 240) (s : State) : (raiseExposure i s).pending = s.pending := by
  unfold raiseExposure; (try dsimp only); (repeat' split) <;> simp
@[simp] theorem raiseExposure_hpt_request (i : Fin 240) (s : State) : (raiseExposure i s).hpt.request = s.hpt.request := by
  unfold raiseExposure; (try dsimp only); (repeat' split) <;> simp
@[simp] theorem raiseExposure_hpt_reply (i : Fin 240) (s : State) : (raiseExposure i s).hpt.reply = s.hpt.reply := by
  unfold raiseExposure; (try dsimp only); (repeat' split) <;> simp
@[simp] theorem raiseExposure_hpt_readPos (i : Fin 240) (s : State) : (raiseExposure i s).hpt.readPos = s.hpt.readPos := by
  unfold raiseExposure; (try dsimp only); (repeat' split) <;> simp
@[simp] theorem raiseExposure_hpt_overrun (i : Fin 240) (s : State) : (raiseExposure i s).hpt.overrun = s.hpt.overrun := by
  unfold raiseExposure; (try dsimp only); (repeat' split) <;> simp
@[simp] theorem raiseExposure_hpt_phase (i : Fin 240) (s : State) : (raiseExposure i s).hpt.phase = s.hpt.phase := by
  unfold raiseExposure; (try dsimp only); (repeat' split) <;> simp
@[simp] theorem raiseExposure_hpt_mask (i : Fin 240) (s : State) : (raiseExposure i s).hpt.mask = s.hpt.mask := by
  unfold raiseExposure; (try dsimp only); (repeat' split) <;> simp
@[simp] theorem raiseExposure_hpt_cursorTable (i : Fin 240) (s : State) : (raiseExposure i s).hpt.cursorTable = s.hpt.cursorTable := by
  unfold raiseExposure; (try dsimp only); (repeat' split) <;> simp
@[simp] theorem raiseExposure_hpt_cursorIndex (i : Fin 240) (s : State) : (raiseExposure i s).hpt.cursorIndex = s.hpt.cursorIndex := by
  unfold raiseExposure; (try dsimp only); (repeat' split) <;> simp

/-! ### countExposure -/

@[simp] theorem countExposure_frt (s : State) : (countExposure s).frt = s.frt := by
  unfold countExposure; (repeat' split) <;> first | rfl | exact forEach_same (fun t => t.frt) _ (fun _ _ => by split <;> simp) _ _ | exact forEach_same (fun t => t.frt) _ (fun _ _ => by simp) _ _
@[simp] theorem countExposure_znt (s : State) : (countExposure s).znt = s.znt := by
  unfold countExposure; (repeat' split) <;> first | rfl | exact forEach_same (fun t => t.znt) _ (fun _ _ => by split <;> simp) _ _ | exact forEach_same (fun t => t.znt) _ (fun _ _ => by simp) _ _
@[simp] theorem countExposure_air (s : State) : (countExposure s).air = s.air := by
  unfold countExposure; (repeat' split) <;> first | rfl | exact forEach_same (fun t => t.air) _ (fun _ _ => by split <;> simp) _ _ | exact forEach_same (fun t => t.air) _ (fun _ _ => by simp) _ _
@[simp] theorem countExposure_hlk (s : State) : (countExposure s).hlk = s.hlk := by
  unfold countExposure; (repeat' split) <;> first | rfl | exact forEach_same (fun t => t.hlk) _ (fun _ _ => by split <;> simp) _ _ | exact forEach_same (fun t => t.hlk) _ (fun _ _ => by simp) _ _
@[simp] theorem countExposure_rev (s : State) : (countExposure s).rev = s.rev := by
  unfold countExposure; (repeat' split) <;> first | rfl | exact forEach_same (fun t => t.rev) _ (fun _ _ => by split <;> simp) _ _ | exact forEach_same (fun t => t.rev) _ (fun _ _ => by simp) _ _
@[simp] theorem countExposure_cal (s : State) : (countExposure s).cal = s.cal := by
  unfold countExposure; (repeat' split) <;> first | rfl | exact forEach_same (fun t => t.cal) _ (fun _ _ => by split <;> simp) _ _ | exact forEach_same (fun t => t.cal) _ (fun _ _ => by simp) _ _
@[simp] theorem countExposure_flk (s : State) : (countExposure s).flk = s.flk := by
  unfold countExposure; (repeat' split) <;> first | rfl | exact forEach_same (fun t => t.flk) _ (fun _ _ => by split <;> simp) _ _ | exact forEach_same (fun t => t.flk) _ (fun _ _ => by simp) _ _
@[simp] theorem countExposure_handed (s : State) : (countExposure s).handed = s.handed := by
  unfold countExposure; (repeat' split) <;> first | rfl | exact forEach_same (fun t => t.handed) _ (fun _ _ => by split <;> simp) _ _ | exact forEach_same (fun t => t.handed) _ (fun _ _ => by simp) _ _
@[simp] theorem countExposure_resetLow (s : State) : (countExposure s).resetLow = s.resetLow := by
  unfold countExposure; (repeat' split) <;> first | rfl | exact forEach_same (fun t => t.resetLow) _ (fun _ _ => by split <;> simp) _ _ | exact forEach_same (fun t => t.resetLow) _ (fun _ _ => by simp) _ _
@[simp] theorem countExposure_hostOut (s : State) : (countExposure s).hostOut = s.hostOut := by
  unfold countExposure; (repeat' split) <;> first | rfl | exact forEach_same (fun t => t.hostOut) _ (fun _ _ => by split <;> simp) _ _ | exact forEach_same (fun t => t.hostOut) _ (fun _ _ => by simp) _ _
@[simp] theorem countExposure_fieldOut (s : State) : (countExposure s).fieldOut = s.fieldOut := by
  unfold countExposure; (repeat' split) <;> first | rfl | exact forEach_same (fun t => t.fieldOut) _ (fun _ _ => by split <;> simp) _ _ | exact forEach_same (fun t => t.fieldOut) _ (fun _ _ => by simp) _ _
@[simp] theorem countExposure_pending (s : State) : (countExposure s).pending = s.pending := by
  unfold countExposure; (repeat' split) <;> first | rfl | exact forEach_same (fun t => t.pending) _ (fun _ _ => by split <;> simp) _ _ | exact forEach_same (fun t => t.pending) _ (fun _ _ => by simp) _ _
@[simp] theorem countExposure_hpt_request (s : State) : (countExposure s).hpt.request = s.hpt.request := by
  unfold countExposure; (repeat' split) <;> first | rfl | exact forEach_same (fun t => t.hpt.request) _ (fun _ _ => by split <;> simp) _ _ | exact forEach_same (fun t => t.hpt.request) _ (fun _ _ => by simp) _ _
@[simp] theorem countExposure_hpt_reply (s : State) : (countExposure s).hpt.reply = s.hpt.reply := by
  unfold countExposure; (repeat' split) <;> first | rfl | exact forEach_same (fun t => t.hpt.reply) _ (fun _ _ => by split <;> simp) _ _ | exact forEach_same (fun t => t.hpt.reply) _ (fun _ _ => by simp) _ _
@[simp] theorem countExposure_hpt_readPos (s : State) : (countExposure s).hpt.readPos = s.hpt.readPos := by
  unfold countExposure; (repeat' split) <;> first | rfl | exact forEach_same (fun t => t.hpt.readPos) _ (fun _ _ => by split <;> simp) _ _ | exact forEach_same (fun t => t.hpt.readPos) _ (fun _ _ => by simp) _ _
@[simp] theorem countExposure_hpt_overrun (s : State) : (countExposure s).hpt.overrun = s.hpt.overrun := by
  unfold countExposure; (repeat' split) <;> first | rfl | exact forEach_same (fun t => t.hpt.overrun) _ (fun _ _ => by split <;> simp) _ _ | exact forEach_same (fun t => t.hpt.overrun) _ (fun _ _ => by simp) _ _
@[simp] theorem countExposure_hpt_phase (s : State) : (countExposure s).hpt.phase = s.hpt.phase := by
  unfold countExposure; (repeat' split) <;> first | rfl | exact forEach_same (fun t => t.hpt.phase) _ (fun _ _ => by split <;> simp) _ _ | exact forEach_same (fun t => t.hpt.phase) _ (fun _ _ => by simp) _ _
@[simp] theorem countExposure_hpt_mask (s : State) : (countExposure s).hpt.mask = s.hpt.mask := by
  unfold countExposure; (repeat' split) <;> first | rfl | exact forEach_same (fun t => t.hpt.mask) _ (fun _ _ => by split <;> simp) _ _ | exact forEach_same (fun t => t.hpt.mask) _ (fun _ _ => by simp) _ _
@[simp] theorem countExposure_hpt_cursorTable (s : State) : (countExposure s).hpt.cursorTable = s.hpt.cursorTable := by
  unfold countExposure; (repeat' split) <;> first | rfl | exact forEach_same (fun t => t.hpt.cursorTable) _ (fun _ _ => by split <;> simp) _ _ | exact forEach_same (fun t => t.hpt.cursorTable) _ (fun _ _ => by simp) _ _
@[simp] theorem countExposure_hpt_cursorIndex (s : State) : (countExposure s).hpt.cursorIndex = s.hpt.cursorIndex := by
  unfold countExposure; (repeat' split) <;> first | rfl | exact forEach_same (fun t => t.hpt.cursorIndex) _ (fun _ _ => by split <;> simp) _ _ | exact forEach_same (fun t => t.hpt.cursorIndex) _ (fun _ _ => by simp) _ _

/-! ### exposeMove -/

@[simp] theorem exposeMove_frt (i : Fin 240) (a b : Option (Fin 32)) (s : State) : (exposeMove i a b s).frt = s.frt := by
  unfold exposeMove; (try dsimp only); (repeat' split) <;> simp
@[simp] theorem exposeMove_znt (i : Fin 240) (a b : Option (Fin 32)) (s : State) : (exposeMove i a b s).znt = s.znt := by
  unfold exposeMove; (try dsimp only); (repeat' split) <;> simp
@[simp] theorem exposeMove_air (i : Fin 240) (a b : Option (Fin 32)) (s : State) : (exposeMove i a b s).air = s.air := by
  unfold exposeMove; (try dsimp only); (repeat' split) <;> simp
@[simp] theorem exposeMove_hlk (i : Fin 240) (a b : Option (Fin 32)) (s : State) : (exposeMove i a b s).hlk = s.hlk := by
  unfold exposeMove; (try dsimp only); (repeat' split) <;> simp
@[simp] theorem exposeMove_rev (i : Fin 240) (a b : Option (Fin 32)) (s : State) : (exposeMove i a b s).rev = s.rev := by
  unfold exposeMove; (try dsimp only); (repeat' split) <;> simp
@[simp] theorem exposeMove_cal (i : Fin 240) (a b : Option (Fin 32)) (s : State) : (exposeMove i a b s).cal = s.cal := by
  unfold exposeMove; (try dsimp only); (repeat' split) <;> simp
@[simp] theorem exposeMove_flk (i : Fin 240) (a b : Option (Fin 32)) (s : State) : (exposeMove i a b s).flk = s.flk := by
  unfold exposeMove; (try dsimp only); (repeat' split) <;> simp
@[simp] theorem exposeMove_handed (i : Fin 240) (a b : Option (Fin 32)) (s : State) : (exposeMove i a b s).handed = s.handed := by
  unfold exposeMove; (try dsimp only); (repeat' split) <;> simp
@[simp] theorem exposeMove_resetLow (i : Fin 240) (a b : Option (Fin 32)) (s : State) : (exposeMove i a b s).resetLow = s.resetLow := by
  unfold exposeMove; (try dsimp only); (repeat' split) <;> simp
@[simp] theorem exposeMove_hostOut (i : Fin 240) (a b : Option (Fin 32)) (s : State) : (exposeMove i a b s).hostOut = s.hostOut := by
  unfold exposeMove; (try dsimp only); (repeat' split) <;> simp
@[simp] theorem exposeMove_fieldOut (i : Fin 240) (a b : Option (Fin 32)) (s : State) : (exposeMove i a b s).fieldOut = s.fieldOut := by
  unfold exposeMove; (try dsimp only); (repeat' split) <;> simp
@[simp] theorem exposeMove_pending (i : Fin 240) (a b : Option (Fin 32)) (s : State) : (exposeMove i a b s).pending = s.pending := by
  unfold exposeMove; (try dsimp only); (repeat' split) <;> simp
@[simp] theorem exposeMove_hpt_request (i : Fin 240) (a b : Option (Fin 32)) (s : State) : (exposeMove i a b s).hpt.request = s.hpt.request := by
  unfold exposeMove; (try dsimp only); (repeat' split) <;> simp
@[simp] theorem exposeMove_hpt_reply (i : Fin 240) (a b : Option (Fin 32)) (s : State) : (exposeMove i a b s).hpt.reply = s.hpt.reply := by
  unfold exposeMove; (try dsimp only); (repeat' split) <;> simp
@[simp] theorem exposeMove_hpt_readPos (i : Fin 240) (a b : Option (Fin 32)) (s : State) : (exposeMove i a b s).hpt.readPos = s.hpt.readPos := by
  unfold exposeMove; (try dsimp only); (repeat' split) <;> simp
@[simp] theorem exposeMove_hpt_overrun (i : Fin 240) (a b : Option (Fin 32)) (s : State) : (exposeMove i a b s).hpt.overrun = s.hpt.overrun := by
  unfold exposeMove; (try dsimp only); (repeat' split) <;> simp
@[simp] theorem exposeMove_hpt_phase (i : Fin 240) (a b : Option (Fin 32)) (s : State) : (exposeMove i a b s).hpt.phase = s.hpt.phase := by
  unfold exposeMove; (try dsimp only); (repeat' split) <;> simp
@[simp] theorem exposeMove_hpt_mask (i : Fin 240) (a b : Option (Fin 32)) (s : State) : (exposeMove i a b s).hpt.mask = s.hpt.mask := by
  unfold exposeMove; (try dsimp only); (repeat' split) <;> simp
@[simp] theorem exposeMove_hpt_cursorTable (i : Fin 240) (a b : Option (Fin 32)) (s : State) : (exposeMove i a b s).hpt.cursorTable = s.hpt.cursorTable := by
  unfold exposeMove; (try dsimp only); (repeat' split) <;> simp
@[simp] theorem exposeMove_hpt_cursorIndex (i : Fin 240) (a b : Option (Fin 32)) (s : State) : (exposeMove i a b s).hpt.cursorIndex = s.hpt.cursorIndex := by
  unfold exposeMove; (try dsimp only); (repeat' split) <;> simp

/-! ### exposeRise -/

@[simp] theorem exposeRise_frt (z : Fin 32) (x y : AirState) (s : State) : (exposeRise z x y s).frt = s.frt := by
  unfold exposeRise; (repeat' split) <;> first | rfl | exact forEach_same (fun t => t.frt) _ (fun _ _ => by split <;> simp) _ _ | exact forEach_same (fun t => t.frt) _ (fun _ _ => by simp) _ _
@[simp] theorem exposeRise_znt (z : Fin 32) (x y : AirState) (s : State) : (exposeRise z x y s).znt = s.znt := by
  unfold exposeRise; (repeat' split) <;> first | rfl | exact forEach_same (fun t => t.znt) _ (fun _ _ => by split <;> simp) _ _ | exact forEach_same (fun t => t.znt) _ (fun _ _ => by simp) _ _
@[simp] theorem exposeRise_air (z : Fin 32) (x y : AirState) (s : State) : (exposeRise z x y s).air = s.air := by
  unfold exposeRise; (repeat' split) <;> first | rfl | exact forEach_same (fun t => t.air) _ (fun _ _ => by split <;> simp) _ _ | exact forEach_same (fun t => t.air) _ (fun _ _ => by simp) _ _
@[simp] theorem exposeRise_hlk (z : Fin 32) (x y : AirState) (s : State) : (exposeRise z x y s).hlk = s.hlk := by
  unfold exposeRise; (repeat' split) <;> first | rfl | exact forEach_same (fun t => t.hlk) _ (fun _ _ => by split <;> simp) _ _ | exact forEach_same (fun t => t.hlk) _ (fun _ _ => by simp) _ _
@[simp] theorem exposeRise_rev (z : Fin 32) (x y : AirState) (s : State) : (exposeRise z x y s).rev = s.rev := by
  unfold exposeRise; (repeat' split) <;> first | rfl | exact forEach_same (fun t => t.rev) _ (fun _ _ => by split <;> simp) _ _ | exact forEach_same (fun t => t.rev) _ (fun _ _ => by simp) _ _
@[simp] theorem exposeRise_cal (z : Fin 32) (x y : AirState) (s : State) : (exposeRise z x y s).cal = s.cal := by
  unfold exposeRise; (repeat' split) <;> first | rfl | exact forEach_same (fun t => t.cal) _ (fun _ _ => by split <;> simp) _ _ | exact forEach_same (fun t => t.cal) _ (fun _ _ => by simp) _ _
@[simp] theorem exposeRise_flk (z : Fin 32) (x y : AirState) (s : State) : (exposeRise z x y s).flk = s.flk := by
  unfold exposeRise; (repeat' split) <;> first | rfl | exact forEach_same (fun t => t.flk) _ (fun _ _ => by split <;> simp) _ _ | exact forEach_same (fun t => t.flk) _ (fun _ _ => by simp) _ _
@[simp] theorem exposeRise_handed (z : Fin 32) (x y : AirState) (s : State) : (exposeRise z x y s).handed = s.handed := by
  unfold exposeRise; (repeat' split) <;> first | rfl | exact forEach_same (fun t => t.handed) _ (fun _ _ => by split <;> simp) _ _ | exact forEach_same (fun t => t.handed) _ (fun _ _ => by simp) _ _
@[simp] theorem exposeRise_resetLow (z : Fin 32) (x y : AirState) (s : State) : (exposeRise z x y s).resetLow = s.resetLow := by
  unfold exposeRise; (repeat' split) <;> first | rfl | exact forEach_same (fun t => t.resetLow) _ (fun _ _ => by split <;> simp) _ _ | exact forEach_same (fun t => t.resetLow) _ (fun _ _ => by simp) _ _
@[simp] theorem exposeRise_hostOut (z : Fin 32) (x y : AirState) (s : State) : (exposeRise z x y s).hostOut = s.hostOut := by
  unfold exposeRise; (repeat' split) <;> first | rfl | exact forEach_same (fun t => t.hostOut) _ (fun _ _ => by split <;> simp) _ _ | exact forEach_same (fun t => t.hostOut) _ (fun _ _ => by simp) _ _
@[simp] theorem exposeRise_fieldOut (z : Fin 32) (x y : AirState) (s : State) : (exposeRise z x y s).fieldOut = s.fieldOut := by
  unfold exposeRise; (repeat' split) <;> first | rfl | exact forEach_same (fun t => t.fieldOut) _ (fun _ _ => by split <;> simp) _ _ | exact forEach_same (fun t => t.fieldOut) _ (fun _ _ => by simp) _ _
@[simp] theorem exposeRise_pending (z : Fin 32) (x y : AirState) (s : State) : (exposeRise z x y s).pending = s.pending := by
  unfold exposeRise; (repeat' split) <;> first | rfl | exact forEach_same (fun t => t.pending) _ (fun _ _ => by split <;> simp) _ _ | exact forEach_same (fun t => t.pending) _ (fun _ _ => by simp) _ _
@[simp] theorem exposeRise_hpt_request (z : Fin 32) (x y : AirState) (s : State) : (exposeRise z x y s).hpt.request = s.hpt.request := by
  unfold exposeRise; (repeat' split) <;> first | rfl | exact forEach_same (fun t => t.hpt.request) _ (fun _ _ => by split <;> simp) _ _ | exact forEach_same (fun t => t.hpt.request) _ (fun _ _ => by simp) _ _
@[simp] theorem exposeRise_hpt_reply (z : Fin 32) (x y : AirState) (s : State) : (exposeRise z x y s).hpt.reply = s.hpt.reply := by
  unfold exposeRise; (repeat' split) <;> first | rfl | exact forEach_same (fun t => t.hpt.reply) _ (fun _ _ => by split <;> simp) _ _ | exact forEach_same (fun t => t.hpt.reply) _ (fun _ _ => by simp) _ _
@[simp] theorem exposeRise_hpt_readPos (z : Fin 32) (x y : AirState) (s : State) : (exposeRise z x y s).hpt.readPos = s.hpt.readPos := by
  unfold exposeRise; (repeat' split) <;> first | rfl | exact forEach_same (fun t => t.hpt.readPos) _ (fun _ _ => by split <;> simp) _ _ | exact forEach_same (fun t => t.hpt.readPos) _ (fun _ _ => by simp) _ _
@[simp] theorem exposeRise_hpt_overrun (z : Fin 32) (x y : AirState) (s : State) : (exposeRise z x y s).hpt.overrun = s.hpt.overrun := by
  unfold exposeRise; (repeat' split) <;> first | rfl | exact forEach_same (fun t => t.hpt.overrun) _ (fun _ _ => by split <;> simp) _ _ | exact forEach_same (fun t => t.hpt.overrun) _ (fun _ _ => by simp) _ _
@[simp] theorem exposeRise_hpt_phase (z : Fin 32) (x y : AirState) (s : State) : (exposeRise z x y s).hpt.phase = s.hpt.phase := by
  unfold exposeRise; (repeat' split) <;> first | rfl | exact forEach_same (fun t => t.hpt.phase) _ (fun _ _ => by split <;> simp) _ _ | exact forEach_same (fun t => t.hpt.phase) _ (fun _ _ => by simp) _ _
@[simp] theorem exposeRise_hpt_mask (z : Fin 32) (x y : AirState) (s : State) : (exposeRise z x y s).hpt.mask = s.hpt.mask := by
  unfold exposeRise; (repeat' split) <;> first | rfl | exact forEach_same (fun t => t.hpt.mask) _ (fun _ _ => by split <;> simp) _ _ | exact forEach_same (fun t => t.hpt.mask) _ (fun _ _ => by simp) _ _
@[simp] theorem exposeRise_hpt_cursorTable (z : Fin 32) (x y : AirState) (s : State) : (exposeRise z x y s).hpt.cursorTable = s.hpt.cursorTable := by
  unfold exposeRise; (repeat' split) <;> first | rfl | exact forEach_same (fun t => t.hpt.cursorTable) _ (fun _ _ => by split <;> simp) _ _ | exact forEach_same (fun t => t.hpt.cursorTable) _ (fun _ _ => by simp) _ _
@[simp] theorem exposeRise_hpt_cursorIndex (z : Fin 32) (x y : AirState) (s : State) : (exposeRise z x y s).hpt.cursorIndex = s.hpt.cursorIndex := by
  unfold exposeRise; (repeat' split) <;> first | rfl | exact forEach_same (fun t => t.hpt.cursorIndex) _ (fun _ _ => by split <;> simp) _ _ | exact forEach_same (fun t => t.hpt.cursorIndex) _ (fun _ _ => by simp) _ _

/-! ### judgeSeparation -/

@[simp] theorem judgeSeparation_frt (i : Fin 240) (s : State) : (judgeSeparation i s).frt = s.frt := by
  unfold judgeSeparation; (try dsimp only); (repeat' split) <;> simp
@[simp] theorem judgeSeparation_znt (i : Fin 240) (s : State) : (judgeSeparation i s).znt = s.znt := by
  unfold judgeSeparation; (try dsimp only); (repeat' split) <;> simp
@[simp] theorem judgeSeparation_air (i : Fin 240) (s : State) : (judgeSeparation i s).air = s.air := by
  unfold judgeSeparation; (try dsimp only); (repeat' split) <;> simp
@[simp] theorem judgeSeparation_hlk (i : Fin 240) (s : State) : (judgeSeparation i s).hlk = s.hlk := by
  unfold judgeSeparation; (try dsimp only); (repeat' split) <;> simp
@[simp] theorem judgeSeparation_rev (i : Fin 240) (s : State) : (judgeSeparation i s).rev = s.rev := by
  unfold judgeSeparation; (try dsimp only); (repeat' split) <;> simp
@[simp] theorem judgeSeparation_cal (i : Fin 240) (s : State) : (judgeSeparation i s).cal = s.cal := by
  unfold judgeSeparation; (try dsimp only); (repeat' split) <;> simp
@[simp] theorem judgeSeparation_flk (i : Fin 240) (s : State) : (judgeSeparation i s).flk = s.flk := by
  unfold judgeSeparation; (try dsimp only); (repeat' split) <;> simp
@[simp] theorem judgeSeparation_handed (i : Fin 240) (s : State) : (judgeSeparation i s).handed = s.handed := by
  unfold judgeSeparation; (try dsimp only); (repeat' split) <;> simp
@[simp] theorem judgeSeparation_resetLow (i : Fin 240) (s : State) : (judgeSeparation i s).resetLow = s.resetLow := by
  unfold judgeSeparation; (try dsimp only); (repeat' split) <;> simp
@[simp] theorem judgeSeparation_hostOut (i : Fin 240) (s : State) : (judgeSeparation i s).hostOut = s.hostOut := by
  unfold judgeSeparation; (try dsimp only); (repeat' split) <;> simp
@[simp] theorem judgeSeparation_fieldOut (i : Fin 240) (s : State) : (judgeSeparation i s).fieldOut = s.fieldOut := by
  unfold judgeSeparation; (try dsimp only); (repeat' split) <;> simp
@[simp] theorem judgeSeparation_pending (i : Fin 240) (s : State) : (judgeSeparation i s).pending = s.pending := by
  unfold judgeSeparation; (try dsimp only); (repeat' split) <;> simp
@[simp] theorem judgeSeparation_hpt_request (i : Fin 240) (s : State) : (judgeSeparation i s).hpt.request = s.hpt.request := by
  unfold judgeSeparation; (try dsimp only); (repeat' split) <;> simp
@[simp] theorem judgeSeparation_hpt_reply (i : Fin 240) (s : State) : (judgeSeparation i s).hpt.reply = s.hpt.reply := by
  unfold judgeSeparation; (try dsimp only); (repeat' split) <;> simp
@[simp] theorem judgeSeparation_hpt_readPos (i : Fin 240) (s : State) : (judgeSeparation i s).hpt.readPos = s.hpt.readPos := by
  unfold judgeSeparation; (try dsimp only); (repeat' split) <;> simp
@[simp] theorem judgeSeparation_hpt_overrun (i : Fin 240) (s : State) : (judgeSeparation i s).hpt.overrun = s.hpt.overrun := by
  unfold judgeSeparation; (try dsimp only); (repeat' split) <;> simp
@[simp] theorem judgeSeparation_hpt_phase (i : Fin 240) (s : State) : (judgeSeparation i s).hpt.phase = s.hpt.phase := by
  unfold judgeSeparation; (try dsimp only); (repeat' split) <;> simp
@[simp] theorem judgeSeparation_hpt_mask (i : Fin 240) (s : State) : (judgeSeparation i s).hpt.mask = s.hpt.mask := by
  unfold judgeSeparation; (try dsimp only); (repeat' split) <;> simp
@[simp] theorem judgeSeparation_hpt_cursorTable (i : Fin 240) (s : State) : (judgeSeparation i s).hpt.cursorTable = s.hpt.cursorTable := by
  unfold judgeSeparation; (try dsimp only); (repeat' split) <;> simp
@[simp] theorem judgeSeparation_hpt_cursorIndex (i : Fin 240) (s : State) : (judgeSeparation i s).hpt.cursorIndex = s.hpt.cursorIndex := by
  unfold judgeSeparation; (try dsimp only); (repeat' split) <;> simp

/-! ### judgeEscorts -/

@[simp] theorem judgeEscorts_frt (i : Fin 240) (s : State) : (judgeEscorts i s).frt = s.frt := by
  unfold judgeEscorts; exact (forEach_same (fun t => t.frt) _ (fun _ _ => by simp) _ _).trans (by simp)
@[simp] theorem judgeEscorts_znt (i : Fin 240) (s : State) : (judgeEscorts i s).znt = s.znt := by
  unfold judgeEscorts; exact (forEach_same (fun t => t.znt) _ (fun _ _ => by simp) _ _).trans (by simp)
@[simp] theorem judgeEscorts_air (i : Fin 240) (s : State) : (judgeEscorts i s).air = s.air := by
  unfold judgeEscorts; exact (forEach_same (fun t => t.air) _ (fun _ _ => by simp) _ _).trans (by simp)
@[simp] theorem judgeEscorts_hlk (i : Fin 240) (s : State) : (judgeEscorts i s).hlk = s.hlk := by
  unfold judgeEscorts; exact (forEach_same (fun t => t.hlk) _ (fun _ _ => by simp) _ _).trans (by simp)
@[simp] theorem judgeEscorts_rev (i : Fin 240) (s : State) : (judgeEscorts i s).rev = s.rev := by
  unfold judgeEscorts; exact (forEach_same (fun t => t.rev) _ (fun _ _ => by simp) _ _).trans (by simp)
@[simp] theorem judgeEscorts_cal (i : Fin 240) (s : State) : (judgeEscorts i s).cal = s.cal := by
  unfold judgeEscorts; exact (forEach_same (fun t => t.cal) _ (fun _ _ => by simp) _ _).trans (by simp)
@[simp] theorem judgeEscorts_flk (i : Fin 240) (s : State) : (judgeEscorts i s).flk = s.flk := by
  unfold judgeEscorts; exact (forEach_same (fun t => t.flk) _ (fun _ _ => by simp) _ _).trans (by simp)
@[simp] theorem judgeEscorts_handed (i : Fin 240) (s : State) : (judgeEscorts i s).handed = s.handed := by
  unfold judgeEscorts; exact (forEach_same (fun t => t.handed) _ (fun _ _ => by simp) _ _).trans (by simp)
@[simp] theorem judgeEscorts_resetLow (i : Fin 240) (s : State) : (judgeEscorts i s).resetLow = s.resetLow := by
  unfold judgeEscorts; exact (forEach_same (fun t => t.resetLow) _ (fun _ _ => by simp) _ _).trans (by simp)
@[simp] theorem judgeEscorts_hostOut (i : Fin 240) (s : State) : (judgeEscorts i s).hostOut = s.hostOut := by
  unfold judgeEscorts; exact (forEach_same (fun t => t.hostOut) _ (fun _ _ => by simp) _ _).trans (by simp)
@[simp] theorem judgeEscorts_fieldOut (i : Fin 240) (s : State) : (judgeEscorts i s).fieldOut = s.fieldOut := by
  unfold judgeEscorts; exact (forEach_same (fun t => t.fieldOut) _ (fun _ _ => by simp) _ _).trans (by simp)
@[simp] theorem judgeEscorts_pending (i : Fin 240) (s : State) : (judgeEscorts i s).pending = s.pending := by
  unfold judgeEscorts; exact (forEach_same (fun t => t.pending) _ (fun _ _ => by simp) _ _).trans (by simp)
@[simp] theorem judgeEscorts_hpt_request (i : Fin 240) (s : State) : (judgeEscorts i s).hpt.request = s.hpt.request := by
  unfold judgeEscorts; exact (forEach_same (fun t => t.hpt.request) _ (fun _ _ => by simp) _ _).trans (by simp)
@[simp] theorem judgeEscorts_hpt_reply (i : Fin 240) (s : State) : (judgeEscorts i s).hpt.reply = s.hpt.reply := by
  unfold judgeEscorts; exact (forEach_same (fun t => t.hpt.reply) _ (fun _ _ => by simp) _ _).trans (by simp)
@[simp] theorem judgeEscorts_hpt_readPos (i : Fin 240) (s : State) : (judgeEscorts i s).hpt.readPos = s.hpt.readPos := by
  unfold judgeEscorts; exact (forEach_same (fun t => t.hpt.readPos) _ (fun _ _ => by simp) _ _).trans (by simp)
@[simp] theorem judgeEscorts_hpt_overrun (i : Fin 240) (s : State) : (judgeEscorts i s).hpt.overrun = s.hpt.overrun := by
  unfold judgeEscorts; exact (forEach_same (fun t => t.hpt.overrun) _ (fun _ _ => by simp) _ _).trans (by simp)
@[simp] theorem judgeEscorts_hpt_phase (i : Fin 240) (s : State) : (judgeEscorts i s).hpt.phase = s.hpt.phase := by
  unfold judgeEscorts; exact (forEach_same (fun t => t.hpt.phase) _ (fun _ _ => by simp) _ _).trans (by simp)
@[simp] theorem judgeEscorts_hpt_mask (i : Fin 240) (s : State) : (judgeEscorts i s).hpt.mask = s.hpt.mask := by
  unfold judgeEscorts; exact (forEach_same (fun t => t.hpt.mask) _ (fun _ _ => by simp) _ _).trans (by simp)
@[simp] theorem judgeEscorts_hpt_cursorTable (i : Fin 240) (s : State) : (judgeEscorts i s).hpt.cursorTable = s.hpt.cursorTable := by
  unfold judgeEscorts; exact (forEach_same (fun t => t.hpt.cursorTable) _ (fun _ _ => by simp) _ _).trans (by simp)
@[simp] theorem judgeEscorts_hpt_cursorIndex (i : Fin 240) (s : State) : (judgeEscorts i s).hpt.cursorIndex = s.hpt.cursorIndex := by
  unfold judgeEscorts; exact (forEach_same (fun t => t.hpt.cursorIndex) _ (fun _ _ => by simp) _ _).trans (by simp)

/-! ### judgeEscortLimit -/

@[simp] theorem judgeEscortLimit_frt (i : Fin 240) (s : State) : (judgeEscortLimit i s).frt = s.frt := by
  unfold judgeEscortLimit; (try dsimp only); (repeat' split) <;> simp
@[simp] theorem judgeEscortLimit_znt (i : Fin 240) (s : State) : (judgeEscortLimit i s).znt = s.znt := by
  unfold judgeEscortLimit; (try dsimp only); (repeat' split) <;> simp
@[simp] theorem judgeEscortLimit_air (i : Fin 240) (s : State) : (judgeEscortLimit i s).air = s.air := by
  unfold judgeEscortLimit; (try dsimp only); (repeat' split) <;> simp
@[simp] theorem judgeEscortLimit_hlk (i : Fin 240) (s : State) : (judgeEscortLimit i s).hlk = s.hlk := by
  unfold judgeEscortLimit; (try dsimp only); (repeat' split) <;> simp
@[simp] theorem judgeEscortLimit_rev (i : Fin 240) (s : State) : (judgeEscortLimit i s).rev = s.rev := by
  unfold judgeEscortLimit; (try dsimp only); (repeat' split) <;> simp
@[simp] theorem judgeEscortLimit_cal (i : Fin 240) (s : State) : (judgeEscortLimit i s).cal = s.cal := by
  unfold judgeEscortLimit; (try dsimp only); (repeat' split) <;> simp
@[simp] theorem judgeEscortLimit_flk (i : Fin 240) (s : State) : (judgeEscortLimit i s).flk = s.flk := by
  unfold judgeEscortLimit; (try dsimp only); (repeat' split) <;> simp
@[simp] theorem judgeEscortLimit_handed (i : Fin 240) (s : State) : (judgeEscortLimit i s).handed = s.handed := by
  unfold judgeEscortLimit; (try dsimp only); (repeat' split) <;> simp
@[simp] theorem judgeEscortLimit_resetLow (i : Fin 240) (s : State) : (judgeEscortLimit i s).resetLow = s.resetLow := by
  unfold judgeEscortLimit; (try dsimp only); (repeat' split) <;> simp
@[simp] theorem judgeEscortLimit_hostOut (i : Fin 240) (s : State) : (judgeEscortLimit i s).hostOut = s.hostOut := by
  unfold judgeEscortLimit; (try dsimp only); (repeat' split) <;> simp
@[simp] theorem judgeEscortLimit_fieldOut (i : Fin 240) (s : State) : (judgeEscortLimit i s).fieldOut = s.fieldOut := by
  unfold judgeEscortLimit; (try dsimp only); (repeat' split) <;> simp
@[simp] theorem judgeEscortLimit_pending (i : Fin 240) (s : State) : (judgeEscortLimit i s).pending = s.pending := by
  unfold judgeEscortLimit; (try dsimp only); (repeat' split) <;> simp
@[simp] theorem judgeEscortLimit_hpt_request (i : Fin 240) (s : State) : (judgeEscortLimit i s).hpt.request = s.hpt.request := by
  unfold judgeEscortLimit; (try dsimp only); (repeat' split) <;> simp
@[simp] theorem judgeEscortLimit_hpt_reply (i : Fin 240) (s : State) : (judgeEscortLimit i s).hpt.reply = s.hpt.reply := by
  unfold judgeEscortLimit; (try dsimp only); (repeat' split) <;> simp
@[simp] theorem judgeEscortLimit_hpt_readPos (i : Fin 240) (s : State) : (judgeEscortLimit i s).hpt.readPos = s.hpt.readPos := by
  unfold judgeEscortLimit; (try dsimp only); (repeat' split) <;> simp
@[simp] theorem judgeEscortLimit_hpt_overrun (i : Fin 240) (s : State) : (judgeEscortLimit i s).hpt.overrun = s.hpt.overrun := by
  unfold judgeEscortLimit; (try dsimp only); (repeat' split) <;> simp
@[simp] theorem judgeEscortLimit_hpt_phase (i : Fin 240) (s : State) : (judgeEscortLimit i s).hpt.phase = s.hpt.phase := by
  unfold judgeEscortLimit; (try dsimp only); (repeat' split) <;> simp
@[simp] theorem judgeEscortLimit_hpt_mask (i : Fin 240) (s : State) : (judgeEscortLimit i s).hpt.mask = s.hpt.mask := by
  unfold judgeEscortLimit; (try dsimp only); (repeat' split) <;> simp
@[simp] theorem judgeEscortLimit_hpt_cursorTable (i : Fin 240) (s : State) : (judgeEscortLimit i s).hpt.cursorTable = s.hpt.cursorTable := by
  unfold judgeEscortLimit; (try dsimp only); (repeat' split) <;> simp
@[simp] theorem judgeEscortLimit_hpt_cursorIndex (i : Fin 240) (s : State) : (judgeEscortLimit i s).hpt.cursorIndex = s.hpt.cursorIndex := by
  unfold judgeEscortLimit; (try dsimp only); (repeat' split) <;> simp

/-! ### judgeEscortLimits -/

@[simp] theorem judgeEscortLimits_frt (s : State) : (judgeEscortLimits s).frt = s.frt := by
  unfold judgeEscortLimits; exact (forEach_same (fun t => t.frt) _ (fun _ _ => by simp) _ _).trans (by simp)
@[simp] theorem judgeEscortLimits_znt (s : State) : (judgeEscortLimits s).znt = s.znt := by
  unfold judgeEscortLimits; exact (forEach_same (fun t => t.znt) _ (fun _ _ => by simp) _ _).trans (by simp)
@[simp] theorem judgeEscortLimits_air (s : State) : (judgeEscortLimits s).air = s.air := by
  unfold judgeEscortLimits; exact (forEach_same (fun t => t.air) _ (fun _ _ => by simp) _ _).trans (by simp)
@[simp] theorem judgeEscortLimits_hlk (s : State) : (judgeEscortLimits s).hlk = s.hlk := by
  unfold judgeEscortLimits; exact (forEach_same (fun t => t.hlk) _ (fun _ _ => by simp) _ _).trans (by simp)
@[simp] theorem judgeEscortLimits_rev (s : State) : (judgeEscortLimits s).rev = s.rev := by
  unfold judgeEscortLimits; exact (forEach_same (fun t => t.rev) _ (fun _ _ => by simp) _ _).trans (by simp)
@[simp] theorem judgeEscortLimits_cal (s : State) : (judgeEscortLimits s).cal = s.cal := by
  unfold judgeEscortLimits; exact (forEach_same (fun t => t.cal) _ (fun _ _ => by simp) _ _).trans (by simp)
@[simp] theorem judgeEscortLimits_flk (s : State) : (judgeEscortLimits s).flk = s.flk := by
  unfold judgeEscortLimits; exact (forEach_same (fun t => t.flk) _ (fun _ _ => by simp) _ _).trans (by simp)
@[simp] theorem judgeEscortLimits_handed (s : State) : (judgeEscortLimits s).handed = s.handed := by
  unfold judgeEscortLimits; exact (forEach_same (fun t => t.handed) _ (fun _ _ => by simp) _ _).trans (by simp)
@[simp] theorem judgeEscortLimits_resetLow (s : State) : (judgeEscortLimits s).resetLow = s.resetLow := by
  unfold judgeEscortLimits; exact (forEach_same (fun t => t.resetLow) _ (fun _ _ => by simp) _ _).trans (by simp)
@[simp] theorem judgeEscortLimits_hostOut (s : State) : (judgeEscortLimits s).hostOut = s.hostOut := by
  unfold judgeEscortLimits; exact (forEach_same (fun t => t.hostOut) _ (fun _ _ => by simp) _ _).trans (by simp)
@[simp] theorem judgeEscortLimits_fieldOut (s : State) : (judgeEscortLimits s).fieldOut = s.fieldOut := by
  unfold judgeEscortLimits; exact (forEach_same (fun t => t.fieldOut) _ (fun _ _ => by simp) _ _).trans (by simp)
@[simp] theorem judgeEscortLimits_pending (s : State) : (judgeEscortLimits s).pending = s.pending := by
  unfold judgeEscortLimits; exact (forEach_same (fun t => t.pending) _ (fun _ _ => by simp) _ _).trans (by simp)
@[simp] theorem judgeEscortLimits_hpt_request (s : State) : (judgeEscortLimits s).hpt.request = s.hpt.request := by
  unfold judgeEscortLimits; exact (forEach_same (fun t => t.hpt.request) _ (fun _ _ => by simp) _ _).trans (by simp)
@[simp] theorem judgeEscortLimits_hpt_reply (s : State) : (judgeEscortLimits s).hpt.reply = s.hpt.reply := by
  unfold judgeEscortLimits; exact (forEach_same (fun t => t.hpt.reply) _ (fun _ _ => by simp) _ _).trans (by simp)
@[simp] theorem judgeEscortLimits_hpt_readPos (s : State) : (judgeEscortLimits s).hpt.readPos = s.hpt.readPos := by
  unfold judgeEscortLimits; exact (forEach_same (fun t => t.hpt.readPos) _ (fun _ _ => by simp) _ _).trans (by simp)
@[simp] theorem judgeEscortLimits_hpt_overrun (s : State) : (judgeEscortLimits s).hpt.overrun = s.hpt.overrun := by
  unfold judgeEscortLimits; exact (forEach_same (fun t => t.hpt.overrun) _ (fun _ _ => by simp) _ _).trans (by simp)
@[simp] theorem judgeEscortLimits_hpt_phase (s : State) : (judgeEscortLimits s).hpt.phase = s.hpt.phase := by
  unfold judgeEscortLimits; exact (forEach_same (fun t => t.hpt.phase) _ (fun _ _ => by simp) _ _).trans (by simp)
@[simp] theorem judgeEscortLimits_hpt_mask (s : State) : (judgeEscortLimits s).hpt.mask = s.hpt.mask := by
  unfold judgeEscortLimits; exact (forEach_same (fun t => t.hpt.mask) _ (fun _ _ => by simp) _ _).trans (by simp)
@[simp] theorem judgeEscortLimits_hpt_cursorTable (s : State) : (judgeEscortLimits s).hpt.cursorTable = s.hpt.cursorTable := by
  unfold judgeEscortLimits; exact (forEach_same (fun t => t.hpt.cursorTable) _ (fun _ _ => by simp) _ _).trans (by simp)
@[simp] theorem judgeEscortLimits_hpt_cursorIndex (s : State) : (judgeEscortLimits s).hpt.cursorIndex = s.hpt.cursorIndex := by
  unfold judgeEscortLimits; exact (forEach_same (fun t => t.hpt.cursorIndex) _ (fun _ _ => by simp) _ _).trans (by simp)

/-! ### withdrawEscort -/

@[simp] theorem withdrawEscort_frt (i : Fin 240) (s : State) : (withdrawEscort i s).frt = s.frt := by
  unfold withdrawEscort; (try dsimp only); (repeat' split) <;> simp
@[simp] theorem withdrawEscort_znt (i : Fin 240) (s : State) : (withdrawEscort i s).znt = s.znt := by
  unfold withdrawEscort; (try dsimp only); (repeat' split) <;> simp
@[simp] theorem withdrawEscort_air (i : Fin 240) (s : State) : (withdrawEscort i s).air = s.air := by
  unfold withdrawEscort; (try dsimp only); (repeat' split) <;> simp
@[simp] theorem withdrawEscort_hlk (i : Fin 240) (s : State) : (withdrawEscort i s).hlk = s.hlk := by
  unfold withdrawEscort; (try dsimp only); (repeat' split) <;> simp
@[simp] theorem withdrawEscort_rev (i : Fin 240) (s : State) : (withdrawEscort i s).rev = s.rev := by
  unfold withdrawEscort; (try dsimp only); (repeat' split) <;> simp
@[simp] theorem withdrawEscort_cal (i : Fin 240) (s : State) : (withdrawEscort i s).cal = s.cal := by
  unfold withdrawEscort; (try dsimp only); (repeat' split) <;> simp
@[simp] theorem withdrawEscort_flk (i : Fin 240) (s : State) : (withdrawEscort i s).flk = s.flk := by
  unfold withdrawEscort; (try dsimp only); (repeat' split) <;> simp
@[simp] theorem withdrawEscort_handed (i : Fin 240) (s : State) : (withdrawEscort i s).handed = s.handed := by
  unfold withdrawEscort; (try dsimp only); (repeat' split) <;> simp
@[simp] theorem withdrawEscort_resetLow (i : Fin 240) (s : State) : (withdrawEscort i s).resetLow = s.resetLow := by
  unfold withdrawEscort; (try dsimp only); (repeat' split) <;> simp
@[simp] theorem withdrawEscort_hostOut (i : Fin 240) (s : State) : (withdrawEscort i s).hostOut = s.hostOut := by
  unfold withdrawEscort; (try dsimp only); (repeat' split) <;> simp
@[simp] theorem withdrawEscort_fieldOut (i : Fin 240) (s : State) : (withdrawEscort i s).fieldOut = s.fieldOut := by
  unfold withdrawEscort; (try dsimp only); (repeat' split) <;> simp
@[simp] theorem withdrawEscort_pending (i : Fin 240) (s : State) : (withdrawEscort i s).pending = s.pending := by
  unfold withdrawEscort; (try dsimp only); (repeat' split) <;> simp
@[simp] theorem withdrawEscort_hpt_request (i : Fin 240) (s : State) : (withdrawEscort i s).hpt.request = s.hpt.request := by
  unfold withdrawEscort; (try dsimp only); (repeat' split) <;> simp
@[simp] theorem withdrawEscort_hpt_reply (i : Fin 240) (s : State) : (withdrawEscort i s).hpt.reply = s.hpt.reply := by
  unfold withdrawEscort; (try dsimp only); (repeat' split) <;> simp
@[simp] theorem withdrawEscort_hpt_readPos (i : Fin 240) (s : State) : (withdrawEscort i s).hpt.readPos = s.hpt.readPos := by
  unfold withdrawEscort; (try dsimp only); (repeat' split) <;> simp
@[simp] theorem withdrawEscort_hpt_overrun (i : Fin 240) (s : State) : (withdrawEscort i s).hpt.overrun = s.hpt.overrun := by
  unfold withdrawEscort; (try dsimp only); (repeat' split) <;> simp
@[simp] theorem withdrawEscort_hpt_phase (i : Fin 240) (s : State) : (withdrawEscort i s).hpt.phase = s.hpt.phase := by
  unfold withdrawEscort; (try dsimp only); (repeat' split) <;> simp
@[simp] theorem withdrawEscort_hpt_mask (i : Fin 240) (s : State) : (withdrawEscort i s).hpt.mask = s.hpt.mask := by
  unfold withdrawEscort; (try dsimp only); (repeat' split) <;> simp
@[simp] theorem withdrawEscort_hpt_cursorTable (i : Fin 240) (s : State) : (withdrawEscort i s).hpt.cursorTable = s.hpt.cursorTable := by
  unfold withdrawEscort; (try dsimp only); (repeat' split) <;> simp
@[simp] theorem withdrawEscort_hpt_cursorIndex (i : Fin 240) (s : State) : (withdrawEscort i s).hpt.cursorIndex = s.hpt.cursorIndex := by
  unfold withdrawEscort; (try dsimp only); (repeat' split) <;> simp

/-! ### actOnKey -/

@[simp] theorem actOnKey_frt (i : Fin 240) (k : Key) (s : State) : (actOnKey i k s).frt = s.frt := by
  unfold actOnKey; (try dsimp only); (repeat' split) <;> simp
@[simp] theorem actOnKey_znt (i : Fin 240) (k : Key) (s : State) : (actOnKey i k s).znt = s.znt := by
  unfold actOnKey; (try dsimp only); (repeat' split) <;> simp
@[simp] theorem actOnKey_air (i : Fin 240) (k : Key) (s : State) : (actOnKey i k s).air = s.air := by
  unfold actOnKey; (try dsimp only); (repeat' split) <;> simp
@[simp] theorem actOnKey_hlk (i : Fin 240) (k : Key) (s : State) : (actOnKey i k s).hlk = s.hlk := by
  unfold actOnKey; (try dsimp only); (repeat' split) <;> simp
@[simp] theorem actOnKey_rev (i : Fin 240) (k : Key) (s : State) : (actOnKey i k s).rev = s.rev := by
  unfold actOnKey; (try dsimp only); (repeat' split) <;> simp
@[simp] theorem actOnKey_flk (i : Fin 240) (k : Key) (s : State) : (actOnKey i k s).flk = s.flk := by
  unfold actOnKey; (try dsimp only); (repeat' split) <;> simp
@[simp] theorem actOnKey_handed (i : Fin 240) (k : Key) (s : State) : (actOnKey i k s).handed = s.handed := by
  unfold actOnKey; (try dsimp only); (repeat' split) <;> simp
@[simp] theorem actOnKey_resetLow (i : Fin 240) (k : Key) (s : State) : (actOnKey i k s).resetLow = s.resetLow := by
  unfold actOnKey; (try dsimp only); (repeat' split) <;> simp
@[simp] theorem actOnKey_hostOut (i : Fin 240) (k : Key) (s : State) : (actOnKey i k s).hostOut = s.hostOut := by
  unfold actOnKey; (try dsimp only); (repeat' split) <;> simp
@[simp] theorem actOnKey_fieldOut (i : Fin 240) (k : Key) (s : State) : (actOnKey i k s).fieldOut = s.fieldOut := by
  unfold actOnKey; (try dsimp only); (repeat' split) <;> simp
@[simp] theorem actOnKey_pending (i : Fin 240) (k : Key) (s : State) : (actOnKey i k s).pending = s.pending := by
  unfold actOnKey; (try dsimp only); (repeat' split) <;> simp
@[simp] theorem actOnKey_hpt_request (i : Fin 240) (k : Key) (s : State) : (actOnKey i k s).hpt.request = s.hpt.request := by
  unfold actOnKey; (try dsimp only); (repeat' split) <;> simp
@[simp] theorem actOnKey_hpt_reply (i : Fin 240) (k : Key) (s : State) : (actOnKey i k s).hpt.reply = s.hpt.reply := by
  unfold actOnKey; (try dsimp only); (repeat' split) <;> simp
@[simp] theorem actOnKey_hpt_readPos (i : Fin 240) (k : Key) (s : State) : (actOnKey i k s).hpt.readPos = s.hpt.readPos := by
  unfold actOnKey; (try dsimp only); (repeat' split) <;> simp
@[simp] theorem actOnKey_hpt_overrun (i : Fin 240) (k : Key) (s : State) : (actOnKey i k s).hpt.overrun = s.hpt.overrun := by
  unfold actOnKey; (try dsimp only); (repeat' split) <;> simp
@[simp] theorem actOnKey_hpt_phase (i : Fin 240) (k : Key) (s : State) : (actOnKey i k s).hpt.phase = s.hpt.phase := by
  unfold actOnKey; (try dsimp only); (repeat' split) <;> simp
@[simp] theorem actOnKey_hpt_mask (i : Fin 240) (k : Key) (s : State) : (actOnKey i k s).hpt.mask = s.hpt.mask := by
  unfold actOnKey; (try dsimp only); (repeat' split) <;> simp
@[simp] theorem actOnKey_hpt_cursorTable (i : Fin 240) (k : Key) (s : State) : (actOnKey i k s).hpt.cursorTable = s.hpt.cursorTable := by
  unfold actOnKey; (try dsimp only); (repeat' split) <;> simp
@[simp] theorem actOnKey_hpt_cursorIndex (i : Fin 240) (k : Key) (s : State) : (actOnKey i k s).hpt.cursorIndex = s.hpt.cursorIndex := by
  unfold actOnKey; (try dsimp only); (repeat' split) <;> simp

/-! ### keyEvent -/

@[simp] theorem keyEvent_frt (i : Fin 240) (k : Key) (q : BitVec 2) (s : State) : (keyEvent i k q s).frt = s.frt := by
  unfold keyEvent; (try dsimp only); (repeat' split) <;> simp
@[simp] theorem keyEvent_znt (i : Fin 240) (k : Key) (q : BitVec 2) (s : State) : (keyEvent i k q s).znt = s.znt := by
  unfold keyEvent; (try dsimp only); (repeat' split) <;> simp
@[simp] theorem keyEvent_air (i : Fin 240) (k : Key) (q : BitVec 2) (s : State) : (keyEvent i k q s).air = s.air := by
  unfold keyEvent; (try dsimp only); (repeat' split) <;> simp
@[simp] theorem keyEvent_hlk (i : Fin 240) (k : Key) (q : BitVec 2) (s : State) : (keyEvent i k q s).hlk = s.hlk := by
  unfold keyEvent; (try dsimp only); (repeat' split) <;> simp
@[simp] theorem keyEvent_rev (i : Fin 240) (k : Key) (q : BitVec 2) (s : State) : (keyEvent i k q s).rev = s.rev := by
  unfold keyEvent; (try dsimp only); (repeat' split) <;> simp
@[simp] theorem keyEvent_flk (i : Fin 240) (k : Key) (q : BitVec 2) (s : State) : (keyEvent i k q s).flk = s.flk := by
  unfold keyEvent; (try dsimp only); (repeat' split) <;> simp
@[simp] theorem keyEvent_handed (i : Fin 240) (k : Key) (q : BitVec 2) (s : State) : (keyEvent i k q s).handed = s.handed := by
  unfold keyEvent; (try dsimp only); (repeat' split) <;> simp
@[simp] theorem keyEvent_resetLow (i : Fin 240) (k : Key) (q : BitVec 2) (s : State) : (keyEvent i k q s).resetLow = s.resetLow := by
  unfold keyEvent; (try dsimp only); (repeat' split) <;> simp
@[simp] theorem keyEvent_hostOut (i : Fin 240) (k : Key) (q : BitVec 2) (s : State) : (keyEvent i k q s).hostOut = s.hostOut := by
  unfold keyEvent; (try dsimp only); (repeat' split) <;> simp
@[simp] theorem keyEvent_fieldOut (i : Fin 240) (k : Key) (q : BitVec 2) (s : State) : (keyEvent i k q s).fieldOut = s.fieldOut := by
  unfold keyEvent; (try dsimp only); (repeat' split) <;> simp
@[simp] theorem keyEvent_pending (i : Fin 240) (k : Key) (q : BitVec 2) (s : State) : (keyEvent i k q s).pending = s.pending := by
  unfold keyEvent; (try dsimp only); (repeat' split) <;> simp
@[simp] theorem keyEvent_hpt_request (i : Fin 240) (k : Key) (q : BitVec 2) (s : State) : (keyEvent i k q s).hpt.request = s.hpt.request := by
  unfold keyEvent; (try dsimp only); (repeat' split) <;> simp
@[simp] theorem keyEvent_hpt_reply (i : Fin 240) (k : Key) (q : BitVec 2) (s : State) : (keyEvent i k q s).hpt.reply = s.hpt.reply := by
  unfold keyEvent; (try dsimp only); (repeat' split) <;> simp
@[simp] theorem keyEvent_hpt_readPos (i : Fin 240) (k : Key) (q : BitVec 2) (s : State) : (keyEvent i k q s).hpt.readPos = s.hpt.readPos := by
  unfold keyEvent; (try dsimp only); (repeat' split) <;> simp
@[simp] theorem keyEvent_hpt_overrun (i : Fin 240) (k : Key) (q : BitVec 2) (s : State) : (keyEvent i k q s).hpt.overrun = s.hpt.overrun := by
  unfold keyEvent; (try dsimp only); (repeat' split) <;> simp
@[simp] theorem keyEvent_hpt_phase (i : Fin 240) (k : Key) (q : BitVec 2) (s : State) : (keyEvent i k q s).hpt.phase = s.hpt.phase := by
  unfold keyEvent; (try dsimp only); (repeat' split) <;> simp
@[simp] theorem keyEvent_hpt_mask (i : Fin 240) (k : Key) (q : BitVec 2) (s : State) : (keyEvent i k q s).hpt.mask = s.hpt.mask := by
  unfold keyEvent; (try dsimp only); (repeat' split) <;> simp
@[simp] theorem keyEvent_hpt_cursorTable (i : Fin 240) (k : Key) (q : BitVec 2) (s : State) : (keyEvent i k q s).hpt.cursorTable = s.hpt.cursorTable := by
  unfold keyEvent; (try dsimp only); (repeat' split) <;> simp
@[simp] theorem keyEvent_hpt_cursorIndex (i : Fin 240) (k : Key) (q : BitVec 2) (s : State) : (keyEvent i k q s).hpt.cursorIndex = s.hpt.cursorIndex := by
  unfold keyEvent; (try dsimp only); (repeat' split) <;> simp

/-! ### handSighting -/

@[simp] theorem handSighting_frt (i : Fin 240) (p q : Person) (s : State) : (handSighting i p q s).frt = s.frt := by
  unfold handSighting; (try dsimp only); (repeat' split) <;> simp
@[simp] theorem handSighting_air (i : Fin 240) (p q : Person) (s : State) : (handSighting i p q s).air = s.air := by
  unfold handSighting; (try dsimp only); (repeat' split) <;> simp
@[simp] theorem handSighting_hlk (i : Fin 240) (p q : Person) (s : State) : (handSighting i p q s).hlk = s.hlk := by
  unfold handSighting; (try dsimp only); (repeat' split) <;> simp
@[simp] theorem handSighting_cal (i : Fin 240) (p q : Person) (s : State) : (handSighting i p q s).cal = s.cal := by
  unfold handSighting; (try dsimp only); (repeat' split) <;> simp
@[simp] theorem handSighting_flk (i : Fin 240) (p q : Person) (s : State) : (handSighting i p q s).flk = s.flk := by
  unfold handSighting; (try dsimp only); (repeat' split) <;> simp
@[simp] theorem handSighting_handed (i : Fin 240) (p q : Person) (s : State) : (handSighting i p q s).handed = s.handed := by
  unfold handSighting; (try dsimp only); (repeat' split) <;> simp
@[simp] theorem handSighting_resetLow (i : Fin 240) (p q : Person) (s : State) : (handSighting i p q s).resetLow = s.resetLow := by
  unfold handSighting; (try dsimp only); (repeat' split) <;> simp
@[simp] theorem handSighting_hostOut (i : Fin 240) (p q : Person) (s : State) : (handSighting i p q s).hostOut = s.hostOut := by
  unfold handSighting; (try dsimp only); (repeat' split) <;> simp
@[simp] theorem handSighting_fieldOut (i : Fin 240) (p q : Person) (s : State) : (handSighting i p q s).fieldOut = s.fieldOut := by
  unfold handSighting; (try dsimp only); (repeat' split) <;> simp
@[simp] theorem handSighting_pending (i : Fin 240) (p q : Person) (s : State) : (handSighting i p q s).pending = s.pending := by
  unfold handSighting; (try dsimp only); (repeat' split) <;> simp
@[simp] theorem handSighting_hpt_request (i : Fin 240) (p q : Person) (s : State) : (handSighting i p q s).hpt.request = s.hpt.request := by
  unfold handSighting; (try dsimp only); (repeat' split) <;> simp
@[simp] theorem handSighting_hpt_reply (i : Fin 240) (p q : Person) (s : State) : (handSighting i p q s).hpt.reply = s.hpt.reply := by
  unfold handSighting; (try dsimp only); (repeat' split) <;> simp
@[simp] theorem handSighting_hpt_readPos (i : Fin 240) (p q : Person) (s : State) : (handSighting i p q s).hpt.readPos = s.hpt.readPos := by
  unfold handSighting; (try dsimp only); (repeat' split) <;> simp
@[simp] theorem handSighting_hpt_overrun (i : Fin 240) (p q : Person) (s : State) : (handSighting i p q s).hpt.overrun = s.hpt.overrun := by
  unfold handSighting; (try dsimp only); (repeat' split) <;> simp
@[simp] theorem handSighting_hpt_phase (i : Fin 240) (p q : Person) (s : State) : (handSighting i p q s).hpt.phase = s.hpt.phase := by
  unfold handSighting; (try dsimp only); (repeat' split) <;> simp
@[simp] theorem handSighting_hpt_mask (i : Fin 240) (p q : Person) (s : State) : (handSighting i p q s).hpt.mask = s.hpt.mask := by
  unfold handSighting; (try dsimp only); (repeat' split) <;> simp
@[simp] theorem handSighting_hpt_cursorTable (i : Fin 240) (p q : Person) (s : State) : (handSighting i p q s).hpt.cursorTable = s.hpt.cursorTable := by
  unfold handSighting; (try dsimp only); (repeat' split) <;> simp
@[simp] theorem handSighting_hpt_cursorIndex (i : Fin 240) (p q : Person) (s : State) : (handSighting i p q s).hpt.cursorIndex = s.hpt.cursorIndex := by
  unfold handSighting; (try dsimp only); (repeat' split) <;> simp

/-! ### placeSighted -/

@[simp] theorem placeSighted_frt (i : Fin 240) (p : Person) (z : Fin 32) (l : Nat) (f : Frame) (s : State) : (placeSighted i p z l f s).frt = s.frt := by
  unfold placeSighted; (try dsimp only); (repeat' split) <;> simp
@[simp] theorem placeSighted_air (i : Fin 240) (p : Person) (z : Fin 32) (l : Nat) (f : Frame) (s : State) : (placeSighted i p z l f s).air = s.air := by
  unfold placeSighted; (try dsimp only); (repeat' split) <;> simp
@[simp] theorem placeSighted_hlk (i : Fin 240) (p : Person) (z : Fin 32) (l : Nat) (f : Frame) (s : State) : (placeSighted i p z l f s).hlk = s.hlk := by
  unfold placeSighted; (try dsimp only); (repeat' split) <;> simp
@[simp] theorem placeSighted_cal (i : Fin 240) (p : Person) (z : Fin 32) (l : Nat) (f : Frame) (s : State) : (placeSighted i p z l f s).cal = s.cal := by
  unfold placeSighted; (try dsimp only); (repeat' split) <;> simp
@[simp] theorem placeSighted_flk (i : Fin 240) (p : Person) (z : Fin 32) (l : Nat) (f : Frame) (s : State) : (placeSighted i p z l f s).flk = s.flk := by
  unfold placeSighted; (try dsimp only); (repeat' split) <;> simp
@[simp] theorem placeSighted_handed (i : Fin 240) (p : Person) (z : Fin 32) (l : Nat) (f : Frame) (s : State) : (placeSighted i p z l f s).handed = s.handed := by
  unfold placeSighted; (try dsimp only); (repeat' split) <;> simp
@[simp] theorem placeSighted_resetLow (i : Fin 240) (p : Person) (z : Fin 32) (l : Nat) (f : Frame) (s : State) : (placeSighted i p z l f s).resetLow = s.resetLow := by
  unfold placeSighted; (try dsimp only); (repeat' split) <;> simp
@[simp] theorem placeSighted_hostOut (i : Fin 240) (p : Person) (z : Fin 32) (l : Nat) (f : Frame) (s : State) : (placeSighted i p z l f s).hostOut = s.hostOut := by
  unfold placeSighted; (try dsimp only); (repeat' split) <;> simp
@[simp] theorem placeSighted_fieldOut (i : Fin 240) (p : Person) (z : Fin 32) (l : Nat) (f : Frame) (s : State) : (placeSighted i p z l f s).fieldOut = s.fieldOut := by
  unfold placeSighted; (try dsimp only); (repeat' split) <;> simp
@[simp] theorem placeSighted_pending (i : Fin 240) (p : Person) (z : Fin 32) (l : Nat) (f : Frame) (s : State) : (placeSighted i p z l f s).pending = s.pending := by
  unfold placeSighted; (try dsimp only); (repeat' split) <;> simp
@[simp] theorem placeSighted_hpt_request (i : Fin 240) (p : Person) (z : Fin 32) (l : Nat) (f : Frame) (s : State) : (placeSighted i p z l f s).hpt.request = s.hpt.request := by
  unfold placeSighted; (try dsimp only); (repeat' split) <;> simp
@[simp] theorem placeSighted_hpt_reply (i : Fin 240) (p : Person) (z : Fin 32) (l : Nat) (f : Frame) (s : State) : (placeSighted i p z l f s).hpt.reply = s.hpt.reply := by
  unfold placeSighted; (try dsimp only); (repeat' split) <;> simp
@[simp] theorem placeSighted_hpt_readPos (i : Fin 240) (p : Person) (z : Fin 32) (l : Nat) (f : Frame) (s : State) : (placeSighted i p z l f s).hpt.readPos = s.hpt.readPos := by
  unfold placeSighted; (try dsimp only); (repeat' split) <;> simp
@[simp] theorem placeSighted_hpt_overrun (i : Fin 240) (p : Person) (z : Fin 32) (l : Nat) (f : Frame) (s : State) : (placeSighted i p z l f s).hpt.overrun = s.hpt.overrun := by
  unfold placeSighted; (try dsimp only); (repeat' split) <;> simp
@[simp] theorem placeSighted_hpt_phase (i : Fin 240) (p : Person) (z : Fin 32) (l : Nat) (f : Frame) (s : State) : (placeSighted i p z l f s).hpt.phase = s.hpt.phase := by
  unfold placeSighted; (try dsimp only); (repeat' split) <;> simp
@[simp] theorem placeSighted_hpt_mask (i : Fin 240) (p : Person) (z : Fin 32) (l : Nat) (f : Frame) (s : State) : (placeSighted i p z l f s).hpt.mask = s.hpt.mask := by
  unfold placeSighted; (try dsimp only); (repeat' split) <;> simp
@[simp] theorem placeSighted_hpt_cursorTable (i : Fin 240) (p : Person) (z : Fin 32) (l : Nat) (f : Frame) (s : State) : (placeSighted i p z l f s).hpt.cursorTable = s.hpt.cursorTable := by
  unfold placeSighted; (try dsimp only); (repeat' split) <;> simp
@[simp] theorem placeSighted_hpt_cursorIndex (i : Fin 240) (p : Person) (z : Fin 32) (l : Nat) (f : Frame) (s : State) : (placeSighted i p z l f s).hpt.cursorIndex = s.hpt.cursorIndex := by
  unfold placeSighted; (try dsimp only); (repeat' split) <;> simp

/-! ### sightMustered -/

@[simp] theorem sightMustered_frt (i : Fin 240) (p : Person) (z : Fin 32) (l : Nat) (f : Frame) (s : State) : (sightMustered i p z l f s).frt = s.frt := by
  unfold sightMustered; (try dsimp only); (repeat' split) <;> simp
@[simp] theorem sightMustered_air (i : Fin 240) (p : Person) (z : Fin 32) (l : Nat) (f : Frame) (s : State) : (sightMustered i p z l f s).air = s.air := by
  unfold sightMustered; (try dsimp only); (repeat' split) <;> simp
@[simp] theorem sightMustered_hlk (i : Fin 240) (p : Person) (z : Fin 32) (l : Nat) (f : Frame) (s : State) : (sightMustered i p z l f s).hlk = s.hlk := by
  unfold sightMustered; (try dsimp only); (repeat' split) <;> simp
@[simp] theorem sightMustered_cal (i : Fin 240) (p : Person) (z : Fin 32) (l : Nat) (f : Frame) (s : State) : (sightMustered i p z l f s).cal = s.cal := by
  unfold sightMustered; (try dsimp only); (repeat' split) <;> simp
@[simp] theorem sightMustered_flk (i : Fin 240) (p : Person) (z : Fin 32) (l : Nat) (f : Frame) (s : State) : (sightMustered i p z l f s).flk = s.flk := by
  unfold sightMustered; (try dsimp only); (repeat' split) <;> simp
@[simp] theorem sightMustered_handed (i : Fin 240) (p : Person) (z : Fin 32) (l : Nat) (f : Frame) (s : State) : (sightMustered i p z l f s).handed = s.handed := by
  unfold sightMustered; (try dsimp only); (repeat' split) <;> simp
@[simp] theorem sightMustered_resetLow (i : Fin 240) (p : Person) (z : Fin 32) (l : Nat) (f : Frame) (s : State) : (sightMustered i p z l f s).resetLow = s.resetLow := by
  unfold sightMustered; (try dsimp only); (repeat' split) <;> simp
@[simp] theorem sightMustered_hostOut (i : Fin 240) (p : Person) (z : Fin 32) (l : Nat) (f : Frame) (s : State) : (sightMustered i p z l f s).hostOut = s.hostOut := by
  unfold sightMustered; (try dsimp only); (repeat' split) <;> simp
@[simp] theorem sightMustered_fieldOut (i : Fin 240) (p : Person) (z : Fin 32) (l : Nat) (f : Frame) (s : State) : (sightMustered i p z l f s).fieldOut = s.fieldOut := by
  unfold sightMustered; (try dsimp only); (repeat' split) <;> simp
@[simp] theorem sightMustered_pending (i : Fin 240) (p : Person) (z : Fin 32) (l : Nat) (f : Frame) (s : State) : (sightMustered i p z l f s).pending = s.pending := by
  unfold sightMustered; (try dsimp only); (repeat' split) <;> simp
@[simp] theorem sightMustered_hpt_request (i : Fin 240) (p : Person) (z : Fin 32) (l : Nat) (f : Frame) (s : State) : (sightMustered i p z l f s).hpt.request = s.hpt.request := by
  unfold sightMustered; (try dsimp only); (repeat' split) <;> simp
@[simp] theorem sightMustered_hpt_reply (i : Fin 240) (p : Person) (z : Fin 32) (l : Nat) (f : Frame) (s : State) : (sightMustered i p z l f s).hpt.reply = s.hpt.reply := by
  unfold sightMustered; (try dsimp only); (repeat' split) <;> simp
@[simp] theorem sightMustered_hpt_readPos (i : Fin 240) (p : Person) (z : Fin 32) (l : Nat) (f : Frame) (s : State) : (sightMustered i p z l f s).hpt.readPos = s.hpt.readPos := by
  unfold sightMustered; (try dsimp only); (repeat' split) <;> simp
@[simp] theorem sightMustered_hpt_overrun (i : Fin 240) (p : Person) (z : Fin 32) (l : Nat) (f : Frame) (s : State) : (sightMustered i p z l f s).hpt.overrun = s.hpt.overrun := by
  unfold sightMustered; (try dsimp only); (repeat' split) <;> simp
@[simp] theorem sightMustered_hpt_phase (i : Fin 240) (p : Person) (z : Fin 32) (l : Nat) (f : Frame) (s : State) : (sightMustered i p z l f s).hpt.phase = s.hpt.phase := by
  unfold sightMustered; (try dsimp only); (repeat' split) <;> simp
@[simp] theorem sightMustered_hpt_mask (i : Fin 240) (p : Person) (z : Fin 32) (l : Nat) (f : Frame) (s : State) : (sightMustered i p z l f s).hpt.mask = s.hpt.mask := by
  unfold sightMustered; (try dsimp only); (repeat' split) <;> simp
@[simp] theorem sightMustered_hpt_cursorTable (i : Fin 240) (p : Person) (z : Fin 32) (l : Nat) (f : Frame) (s : State) : (sightMustered i p z l f s).hpt.cursorTable = s.hpt.cursorTable := by
  unfold sightMustered; (try dsimp only); (repeat' split) <;> simp
@[simp] theorem sightMustered_hpt_cursorIndex (i : Fin 240) (p : Person) (z : Fin 32) (l : Nat) (f : Frame) (s : State) : (sightMustered i p z l f s).hpt.cursorIndex = s.hpt.cursorIndex := by
  unfold sightMustered; (try dsimp only); (repeat' split) <;> simp

/-! ### sightByReader -/

@[simp] theorem sightByReader_frt (i : Fin 240) (p : Person) (z : Fin 32) (l : Nat) (f : Frame) (s : State) : (sightByReader i p z l f s).frt = s.frt := by
  unfold sightByReader; (try dsimp only); (repeat' split) <;> simp
@[simp] theorem sightByReader_air (i : Fin 240) (p : Person) (z : Fin 32) (l : Nat) (f : Frame) (s : State) : (sightByReader i p z l f s).air = s.air := by
  unfold sightByReader; (try dsimp only); (repeat' split) <;> simp
@[simp] theorem sightByReader_hlk (i : Fin 240) (p : Person) (z : Fin 32) (l : Nat) (f : Frame) (s : State) : (sightByReader i p z l f s).hlk = s.hlk := by
  unfold sightByReader; (try dsimp only); (repeat' split) <;> simp
@[simp] theorem sightByReader_cal (i : Fin 240) (p : Person) (z : Fin 32) (l : Nat) (f : Frame) (s : State) : (sightByReader i p z l f s).cal = s.cal := by
  unfold sightByReader; (try dsimp only); (repeat' split) <;> simp
@[simp] theorem sightByReader_flk (i : Fin 240) (p : Person) (z : Fin 32) (l : Nat) (f : Frame) (s : State) : (sightByReader i p z l f s).flk = s.flk := by
  unfold sightByReader; (try dsimp only); (repeat' split) <;> simp
@[simp] theorem sightByReader_handed (i : Fin 240) (p : Person) (z : Fin 32) (l : Nat) (f : Frame) (s : State) : (sightByReader i p z l f s).handed = s.handed := by
  unfold sightByReader; (try dsimp only); (repeat' split) <;> simp
@[simp] theorem sightByReader_resetLow (i : Fin 240) (p : Person) (z : Fin 32) (l : Nat) (f : Frame) (s : State) : (sightByReader i p z l f s).resetLow = s.resetLow := by
  unfold sightByReader; (try dsimp only); (repeat' split) <;> simp
@[simp] theorem sightByReader_hostOut (i : Fin 240) (p : Person) (z : Fin 32) (l : Nat) (f : Frame) (s : State) : (sightByReader i p z l f s).hostOut = s.hostOut := by
  unfold sightByReader; (try dsimp only); (repeat' split) <;> simp
@[simp] theorem sightByReader_fieldOut (i : Fin 240) (p : Person) (z : Fin 32) (l : Nat) (f : Frame) (s : State) : (sightByReader i p z l f s).fieldOut = s.fieldOut := by
  unfold sightByReader; (try dsimp only); (repeat' split) <;> simp
@[simp] theorem sightByReader_pending (i : Fin 240) (p : Person) (z : Fin 32) (l : Nat) (f : Frame) (s : State) : (sightByReader i p z l f s).pending = s.pending := by
  unfold sightByReader; (try dsimp only); (repeat' split) <;> simp
@[simp] theorem sightByReader_hpt_request (i : Fin 240) (p : Person) (z : Fin 32) (l : Nat) (f : Frame) (s : State) : (sightByReader i p z l f s).hpt.request = s.hpt.request := by
  unfold sightByReader; (try dsimp only); (repeat' split) <;> simp
@[simp] theorem sightByReader_hpt_reply (i : Fin 240) (p : Person) (z : Fin 32) (l : Nat) (f : Frame) (s : State) : (sightByReader i p z l f s).hpt.reply = s.hpt.reply := by
  unfold sightByReader; (try dsimp only); (repeat' split) <;> simp
@[simp] theorem sightByReader_hpt_readPos (i : Fin 240) (p : Person) (z : Fin 32) (l : Nat) (f : Frame) (s : State) : (sightByReader i p z l f s).hpt.readPos = s.hpt.readPos := by
  unfold sightByReader; (try dsimp only); (repeat' split) <;> simp
@[simp] theorem sightByReader_hpt_overrun (i : Fin 240) (p : Person) (z : Fin 32) (l : Nat) (f : Frame) (s : State) : (sightByReader i p z l f s).hpt.overrun = s.hpt.overrun := by
  unfold sightByReader; (try dsimp only); (repeat' split) <;> simp
@[simp] theorem sightByReader_hpt_phase (i : Fin 240) (p : Person) (z : Fin 32) (l : Nat) (f : Frame) (s : State) : (sightByReader i p z l f s).hpt.phase = s.hpt.phase := by
  unfold sightByReader; (try dsimp only); (repeat' split) <;> simp
@[simp] theorem sightByReader_hpt_mask (i : Fin 240) (p : Person) (z : Fin 32) (l : Nat) (f : Frame) (s : State) : (sightByReader i p z l f s).hpt.mask = s.hpt.mask := by
  unfold sightByReader; (try dsimp only); (repeat' split) <;> simp
@[simp] theorem sightByReader_hpt_cursorTable (i : Fin 240) (p : Person) (z : Fin 32) (l : Nat) (f : Frame) (s : State) : (sightByReader i p z l f s).hpt.cursorTable = s.hpt.cursorTable := by
  unfold sightByReader; (try dsimp only); (repeat' split) <;> simp
@[simp] theorem sightByReader_hpt_cursorIndex (i : Fin 240) (p : Person) (z : Fin 32) (l : Nat) (f : Frame) (s : State) : (sightByReader i p z l f s).hpt.cursorIndex = s.hpt.cursorIndex := by
  unfold sightByReader; (try dsimp only); (repeat' split) <;> simp

/-! ### sightByTruck -/

@[simp] theorem sightByTruck_frt (i : Fin 240) (p : Person) (z : Fin 32) (f : Frame) (s : State) : (sightByTruck i p z f s).frt = s.frt := by
  unfold sightByTruck; (try dsimp only); (repeat' split) <;> simp
@[simp] theorem sightByTruck_air (i : Fin 240) (p : Person) (z : Fin 32) (f : Frame) (s : State) : (sightByTruck i p z f s).air = s.air := by
  unfold sightByTruck; (try dsimp only); (repeat' split) <;> simp
@[simp] theorem sightByTruck_hlk (i : Fin 240) (p : Person) (z : Fin 32) (f : Frame) (s : State) : (sightByTruck i p z f s).hlk = s.hlk := by
  unfold sightByTruck; (try dsimp only); (repeat' split) <;> simp
@[simp] theorem sightByTruck_cal (i : Fin 240) (p : Person) (z : Fin 32) (f : Frame) (s : State) : (sightByTruck i p z f s).cal = s.cal := by
  unfold sightByTruck; (try dsimp only); (repeat' split) <;> simp
@[simp] theorem sightByTruck_flk (i : Fin 240) (p : Person) (z : Fin 32) (f : Frame) (s : State) : (sightByTruck i p z f s).flk = s.flk := by
  unfold sightByTruck; (try dsimp only); (repeat' split) <;> simp
@[simp] theorem sightByTruck_handed (i : Fin 240) (p : Person) (z : Fin 32) (f : Frame) (s : State) : (sightByTruck i p z f s).handed = s.handed := by
  unfold sightByTruck; (try dsimp only); (repeat' split) <;> simp
@[simp] theorem sightByTruck_resetLow (i : Fin 240) (p : Person) (z : Fin 32) (f : Frame) (s : State) : (sightByTruck i p z f s).resetLow = s.resetLow := by
  unfold sightByTruck; (try dsimp only); (repeat' split) <;> simp
@[simp] theorem sightByTruck_hostOut (i : Fin 240) (p : Person) (z : Fin 32) (f : Frame) (s : State) : (sightByTruck i p z f s).hostOut = s.hostOut := by
  unfold sightByTruck; (try dsimp only); (repeat' split) <;> simp
@[simp] theorem sightByTruck_fieldOut (i : Fin 240) (p : Person) (z : Fin 32) (f : Frame) (s : State) : (sightByTruck i p z f s).fieldOut = s.fieldOut := by
  unfold sightByTruck; (try dsimp only); (repeat' split) <;> simp
@[simp] theorem sightByTruck_pending (i : Fin 240) (p : Person) (z : Fin 32) (f : Frame) (s : State) : (sightByTruck i p z f s).pending = s.pending := by
  unfold sightByTruck; (try dsimp only); (repeat' split) <;> simp
@[simp] theorem sightByTruck_hpt_request (i : Fin 240) (p : Person) (z : Fin 32) (f : Frame) (s : State) : (sightByTruck i p z f s).hpt.request = s.hpt.request := by
  unfold sightByTruck; (try dsimp only); (repeat' split) <;> simp
@[simp] theorem sightByTruck_hpt_reply (i : Fin 240) (p : Person) (z : Fin 32) (f : Frame) (s : State) : (sightByTruck i p z f s).hpt.reply = s.hpt.reply := by
  unfold sightByTruck; (try dsimp only); (repeat' split) <;> simp
@[simp] theorem sightByTruck_hpt_readPos (i : Fin 240) (p : Person) (z : Fin 32) (f : Frame) (s : State) : (sightByTruck i p z f s).hpt.readPos = s.hpt.readPos := by
  unfold sightByTruck; (try dsimp only); (repeat' split) <;> simp
@[simp] theorem sightByTruck_hpt_overrun (i : Fin 240) (p : Person) (z : Fin 32) (f : Frame) (s : State) : (sightByTruck i p z f s).hpt.overrun = s.hpt.overrun := by
  unfold sightByTruck; (try dsimp only); (repeat' split) <;> simp
@[simp] theorem sightByTruck_hpt_phase (i : Fin 240) (p : Person) (z : Fin 32) (f : Frame) (s : State) : (sightByTruck i p z f s).hpt.phase = s.hpt.phase := by
  unfold sightByTruck; (try dsimp only); (repeat' split) <;> simp
@[simp] theorem sightByTruck_hpt_mask (i : Fin 240) (p : Person) (z : Fin 32) (f : Frame) (s : State) : (sightByTruck i p z f s).hpt.mask = s.hpt.mask := by
  unfold sightByTruck; (try dsimp only); (repeat' split) <;> simp
@[simp] theorem sightByTruck_hpt_cursorTable (i : Fin 240) (p : Person) (z : Fin 32) (f : Frame) (s : State) : (sightByTruck i p z f s).hpt.cursorTable = s.hpt.cursorTable := by
  unfold sightByTruck; (try dsimp only); (repeat' split) <;> simp
@[simp] theorem sightByTruck_hpt_cursorIndex (i : Fin 240) (p : Person) (z : Fin 32) (f : Frame) (s : State) : (sightByTruck i p z f s).hpt.cursorIndex = s.hpt.cursorIndex := by
  unfold sightByTruck; (try dsimp only); (repeat' split) <;> simp

/-! ### enrolAtPortal -/

@[simp] theorem enrolAtPortal_frt (i : Fin 240) (t : Tag) (z : Fin 32) (l : Nat) (f : Frame) (s : State) : (enrolAtPortal i t z l f s).frt = s.frt := by
  unfold enrolAtPortal; (try dsimp only); (repeat' split) <;> simp
@[simp] theorem enrolAtPortal_air (i : Fin 240) (t : Tag) (z : Fin 32) (l : Nat) (f : Frame) (s : State) : (enrolAtPortal i t z l f s).air = s.air := by
  unfold enrolAtPortal; (try dsimp only); (repeat' split) <;> simp
@[simp] theorem enrolAtPortal_hlk (i : Fin 240) (t : Tag) (z : Fin 32) (l : Nat) (f : Frame) (s : State) : (enrolAtPortal i t z l f s).hlk = s.hlk := by
  unfold enrolAtPortal; (try dsimp only); (repeat' split) <;> simp
@[simp] theorem enrolAtPortal_cal (i : Fin 240) (t : Tag) (z : Fin 32) (l : Nat) (f : Frame) (s : State) : (enrolAtPortal i t z l f s).cal = s.cal := by
  unfold enrolAtPortal; (try dsimp only); (repeat' split) <;> simp
@[simp] theorem enrolAtPortal_flk (i : Fin 240) (t : Tag) (z : Fin 32) (l : Nat) (f : Frame) (s : State) : (enrolAtPortal i t z l f s).flk = s.flk := by
  unfold enrolAtPortal; (try dsimp only); (repeat' split) <;> simp
@[simp] theorem enrolAtPortal_handed (i : Fin 240) (t : Tag) (z : Fin 32) (l : Nat) (f : Frame) (s : State) : (enrolAtPortal i t z l f s).handed = s.handed := by
  unfold enrolAtPortal; (try dsimp only); (repeat' split) <;> simp
@[simp] theorem enrolAtPortal_resetLow (i : Fin 240) (t : Tag) (z : Fin 32) (l : Nat) (f : Frame) (s : State) : (enrolAtPortal i t z l f s).resetLow = s.resetLow := by
  unfold enrolAtPortal; (try dsimp only); (repeat' split) <;> simp
@[simp] theorem enrolAtPortal_hostOut (i : Fin 240) (t : Tag) (z : Fin 32) (l : Nat) (f : Frame) (s : State) : (enrolAtPortal i t z l f s).hostOut = s.hostOut := by
  unfold enrolAtPortal; (try dsimp only); (repeat' split) <;> simp
@[simp] theorem enrolAtPortal_fieldOut (i : Fin 240) (t : Tag) (z : Fin 32) (l : Nat) (f : Frame) (s : State) : (enrolAtPortal i t z l f s).fieldOut = s.fieldOut := by
  unfold enrolAtPortal; (try dsimp only); (repeat' split) <;> simp
@[simp] theorem enrolAtPortal_pending (i : Fin 240) (t : Tag) (z : Fin 32) (l : Nat) (f : Frame) (s : State) : (enrolAtPortal i t z l f s).pending = s.pending := by
  unfold enrolAtPortal; (try dsimp only); (repeat' split) <;> simp
@[simp] theorem enrolAtPortal_hpt_request (i : Fin 240) (t : Tag) (z : Fin 32) (l : Nat) (f : Frame) (s : State) : (enrolAtPortal i t z l f s).hpt.request = s.hpt.request := by
  unfold enrolAtPortal; (try dsimp only); (repeat' split) <;> simp
@[simp] theorem enrolAtPortal_hpt_reply (i : Fin 240) (t : Tag) (z : Fin 32) (l : Nat) (f : Frame) (s : State) : (enrolAtPortal i t z l f s).hpt.reply = s.hpt.reply := by
  unfold enrolAtPortal; (try dsimp only); (repeat' split) <;> simp
@[simp] theorem enrolAtPortal_hpt_readPos (i : Fin 240) (t : Tag) (z : Fin 32) (l : Nat) (f : Frame) (s : State) : (enrolAtPortal i t z l f s).hpt.readPos = s.hpt.readPos := by
  unfold enrolAtPortal; (try dsimp only); (repeat' split) <;> simp
@[simp] theorem enrolAtPortal_hpt_overrun (i : Fin 240) (t : Tag) (z : Fin 32) (l : Nat) (f : Frame) (s : State) : (enrolAtPortal i t z l f s).hpt.overrun = s.hpt.overrun := by
  unfold enrolAtPortal; (try dsimp only); (repeat' split) <;> simp
@[simp] theorem enrolAtPortal_hpt_phase (i : Fin 240) (t : Tag) (z : Fin 32) (l : Nat) (f : Frame) (s : State) : (enrolAtPortal i t z l f s).hpt.phase = s.hpt.phase := by
  unfold enrolAtPortal; (try dsimp only); (repeat' split) <;> simp
@[simp] theorem enrolAtPortal_hpt_mask (i : Fin 240) (t : Tag) (z : Fin 32) (l : Nat) (f : Frame) (s : State) : (enrolAtPortal i t z l f s).hpt.mask = s.hpt.mask := by
  unfold enrolAtPortal; (try dsimp only); (repeat' split) <;> simp
@[simp] theorem enrolAtPortal_hpt_cursorTable (i : Fin 240) (t : Tag) (z : Fin 32) (l : Nat) (f : Frame) (s : State) : (enrolAtPortal i t z l f s).hpt.cursorTable = s.hpt.cursorTable := by
  unfold enrolAtPortal; (try dsimp only); (repeat' split) <;> simp
@[simp] theorem enrolAtPortal_hpt_cursorIndex (i : Fin 240) (t : Tag) (z : Fin 32) (l : Nat) (f : Frame) (s : State) : (enrolAtPortal i t z l f s).hpt.cursorIndex = s.hpt.cursorIndex := by
  unfold enrolAtPortal; (try dsimp only); (repeat' split) <;> simp

/-! ### takeTagReport -/

@[simp] theorem takeTagReport_frt (z : Fin 32) (t : Tag) (l : Nat) (k : Key) (q : BitVec 2) (f : Frame) (s : State) : (takeTagReport z t l k q f s).frt = s.frt := by
  unfold takeTagReport; (try dsimp only); (repeat' split) <;> simp
@[simp] theorem takeTagReport_air (z : Fin 32) (t : Tag) (l : Nat) (k : Key) (q : BitVec 2) (f : Frame) (s : State) : (takeTagReport z t l k q f s).air = s.air := by
  unfold takeTagReport; (try dsimp only); (repeat' split) <;> simp
@[simp] theorem takeTagReport_hlk (z : Fin 32) (t : Tag) (l : Nat) (k : Key) (q : BitVec 2) (f : Frame) (s : State) : (takeTagReport z t l k q f s).hlk = s.hlk := by
  unfold takeTagReport; (try dsimp only); (repeat' split) <;> simp
@[simp] theorem takeTagReport_flk (z : Fin 32) (t : Tag) (l : Nat) (k : Key) (q : BitVec 2) (f : Frame) (s : State) : (takeTagReport z t l k q f s).flk = s.flk := by
  unfold takeTagReport; (try dsimp only); (repeat' split) <;> simp
@[simp] theorem takeTagReport_handed (z : Fin 32) (t : Tag) (l : Nat) (k : Key) (q : BitVec 2) (f : Frame) (s : State) : (takeTagReport z t l k q f s).handed = s.handed := by
  unfold takeTagReport; (try dsimp only); (repeat' split) <;> simp
@[simp] theorem takeTagReport_resetLow (z : Fin 32) (t : Tag) (l : Nat) (k : Key) (q : BitVec 2) (f : Frame) (s : State) : (takeTagReport z t l k q f s).resetLow = s.resetLow := by
  unfold takeTagReport; (try dsimp only); (repeat' split) <;> simp
@[simp] theorem takeTagReport_hostOut (z : Fin 32) (t : Tag) (l : Nat) (k : Key) (q : BitVec 2) (f : Frame) (s : State) : (takeTagReport z t l k q f s).hostOut = s.hostOut := by
  unfold takeTagReport; (try dsimp only); (repeat' split) <;> simp
@[simp] theorem takeTagReport_fieldOut (z : Fin 32) (t : Tag) (l : Nat) (k : Key) (q : BitVec 2) (f : Frame) (s : State) : (takeTagReport z t l k q f s).fieldOut = s.fieldOut := by
  unfold takeTagReport; (try dsimp only); (repeat' split) <;> simp
@[simp] theorem takeTagReport_pending (z : Fin 32) (t : Tag) (l : Nat) (k : Key) (q : BitVec 2) (f : Frame) (s : State) : (takeTagReport z t l k q f s).pending = s.pending := by
  unfold takeTagReport; (try dsimp only); (repeat' split) <;> simp
@[simp] theorem takeTagReport_hpt_request (z : Fin 32) (t : Tag) (l : Nat) (k : Key) (q : BitVec 2) (f : Frame) (s : State) : (takeTagReport z t l k q f s).hpt.request = s.hpt.request := by
  unfold takeTagReport; (try dsimp only); (repeat' split) <;> simp
@[simp] theorem takeTagReport_hpt_reply (z : Fin 32) (t : Tag) (l : Nat) (k : Key) (q : BitVec 2) (f : Frame) (s : State) : (takeTagReport z t l k q f s).hpt.reply = s.hpt.reply := by
  unfold takeTagReport; (try dsimp only); (repeat' split) <;> simp
@[simp] theorem takeTagReport_hpt_readPos (z : Fin 32) (t : Tag) (l : Nat) (k : Key) (q : BitVec 2) (f : Frame) (s : State) : (takeTagReport z t l k q f s).hpt.readPos = s.hpt.readPos := by
  unfold takeTagReport; (try dsimp only); (repeat' split) <;> simp
@[simp] theorem takeTagReport_hpt_overrun (z : Fin 32) (t : Tag) (l : Nat) (k : Key) (q : BitVec 2) (f : Frame) (s : State) : (takeTagReport z t l k q f s).hpt.overrun = s.hpt.overrun := by
  unfold takeTagReport; (try dsimp only); (repeat' split) <;> simp
@[simp] theorem takeTagReport_hpt_phase (z : Fin 32) (t : Tag) (l : Nat) (k : Key) (q : BitVec 2) (f : Frame) (s : State) : (takeTagReport z t l k q f s).hpt.phase = s.hpt.phase := by
  unfold takeTagReport; (try dsimp only); (repeat' split) <;> simp
@[simp] theorem takeTagReport_hpt_mask (z : Fin 32) (t : Tag) (l : Nat) (k : Key) (q : BitVec 2) (f : Frame) (s : State) : (takeTagReport z t l k q f s).hpt.mask = s.hpt.mask := by
  unfold takeTagReport; (try dsimp only); (repeat' split) <;> simp
@[simp] theorem takeTagReport_hpt_cursorTable (z : Fin 32) (t : Tag) (l : Nat) (k : Key) (q : BitVec 2) (f : Frame) (s : State) : (takeTagReport z t l k q f s).hpt.cursorTable = s.hpt.cursorTable := by
  unfold takeTagReport; (try dsimp only); (repeat' split) <;> simp
@[simp] theorem takeTagReport_hpt_cursorIndex (z : Fin 32) (t : Tag) (l : Nat) (k : Key) (q : BitVec 2) (f : Frame) (s : State) : (takeTagReport z t l k q f s).hpt.cursorIndex = s.hpt.cursorIndex := by
  unfold takeTagReport; (try dsimp only); (repeat' split) <;> simp

/-! ### takeProximity -/

@[simp] theorem takeProximity_frt (z : Option (Fin 32)) (f : Frame) (e : Proximity) (s : State) : (takeProximity z f e s).frt = s.frt := by
  unfold takeProximity; (try dsimp only); (repeat' split) <;> simp
@[simp] theorem takeProximity_air (z : Option (Fin 32)) (f : Frame) (e : Proximity) (s : State) : (takeProximity z f e s).air = s.air := by
  unfold takeProximity; (try dsimp only); (repeat' split) <;> simp
@[simp] theorem takeProximity_hlk (z : Option (Fin 32)) (f : Frame) (e : Proximity) (s : State) : (takeProximity z f e s).hlk = s.hlk := by
  unfold takeProximity; (try dsimp only); (repeat' split) <;> simp
@[simp] theorem takeProximity_cal (z : Option (Fin 32)) (f : Frame) (e : Proximity) (s : State) : (takeProximity z f e s).cal = s.cal := by
  unfold takeProximity; (try dsimp only); (repeat' split) <;> simp
@[simp] theorem takeProximity_flk (z : Option (Fin 32)) (f : Frame) (e : Proximity) (s : State) : (takeProximity z f e s).flk = s.flk := by
  unfold takeProximity; (try dsimp only); (repeat' split) <;> simp
@[simp] theorem takeProximity_handed (z : Option (Fin 32)) (f : Frame) (e : Proximity) (s : State) : (takeProximity z f e s).handed = s.handed := by
  unfold takeProximity; (try dsimp only); (repeat' split) <;> simp
@[simp] theorem takeProximity_resetLow (z : Option (Fin 32)) (f : Frame) (e : Proximity) (s : State) : (takeProximity z f e s).resetLow = s.resetLow := by
  unfold takeProximity; (try dsimp only); (repeat' split) <;> simp
@[simp] theorem takeProximity_hostOut (z : Option (Fin 32)) (f : Frame) (e : Proximity) (s : State) : (takeProximity z f e s).hostOut = s.hostOut := by
  unfold takeProximity; (try dsimp only); (repeat' split) <;> simp
@[simp] theorem takeProximity_fieldOut (z : Option (Fin 32)) (f : Frame) (e : Proximity) (s : State) : (takeProximity z f e s).fieldOut = s.fieldOut := by
  unfold takeProximity; (try dsimp only); (repeat' split) <;> simp
@[simp] theorem takeProximity_pending (z : Option (Fin 32)) (f : Frame) (e : Proximity) (s : State) : (takeProximity z f e s).pending = s.pending := by
  unfold takeProximity; (try dsimp only); (repeat' split) <;> simp
@[simp] theorem takeProximity_hpt_request (z : Option (Fin 32)) (f : Frame) (e : Proximity) (s : State) : (takeProximity z f e s).hpt.request = s.hpt.request := by
  unfold takeProximity; (try dsimp only); (repeat' split) <;> simp
@[simp] theorem takeProximity_hpt_reply (z : Option (Fin 32)) (f : Frame) (e : Proximity) (s : State) : (takeProximity z f e s).hpt.reply = s.hpt.reply := by
  unfold takeProximity; (try dsimp only); (repeat' split) <;> simp
@[simp] theorem takeProximity_hpt_readPos (z : Option (Fin 32)) (f : Frame) (e : Proximity) (s : State) : (takeProximity z f e s).hpt.readPos = s.hpt.readPos := by
  unfold takeProximity; (try dsimp only); (repeat' split) <;> simp
@[simp] theorem takeProximity_hpt_overrun (z : Option (Fin 32)) (f : Frame) (e : Proximity) (s : State) : (takeProximity z f e s).hpt.overrun = s.hpt.overrun := by
  unfold takeProximity; (try dsimp only); (repeat' split) <;> simp
@[simp] theorem takeProximity_hpt_phase (z : Option (Fin 32)) (f : Frame) (e : Proximity) (s : State) : (takeProximity z f e s).hpt.phase = s.hpt.phase := by
  unfold takeProximity; (try dsimp only); (repeat' split) <;> simp
@[simp] theorem takeProximity_hpt_mask (z : Option (Fin 32)) (f : Frame) (e : Proximity) (s : State) : (takeProximity z f e s).hpt.mask = s.hpt.mask := by
  unfold takeProximity; (try dsimp only); (repeat' split) <;> simp
@[simp] theorem takeProximity_hpt_cursorTable (z : Option (Fin 32)) (f : Frame) (e : Proximity) (s : State) : (takeProximity z f e s).hpt.cursorTable = s.hpt.cursorTable := by
  unfold takeProximity; (try dsimp only); (repeat' split) <;> simp
@[simp] theorem takeProximity_hpt_cursorIndex (z : Option (Fin 32)) (f : Frame) (e : Proximity) (s : State) : (takeProximity z f e s).hpt.cursorIndex = s.hpt.cursorIndex := by
  unfold takeProximity; (try dsimp only); (repeat' split) <;> simp

/-! ### retirePerson -/

@[simp] theorem retirePerson_frt (i : Fin 240) (s : State) : (retirePerson i s).frt = s.frt := by
  unfold retirePerson; split
  · rfl
  · simp only [freeTheSlot_frt]; (repeat' split) <;> first | simp | (rw [forEach_same (fun t => t.frt) _ (fun _ _ => by simp)]; simp)
@[simp] theorem retirePerson_air (i : Fin 240) (s : State) : (retirePerson i s).air = s.air := by
  unfold retirePerson; split
  · rfl
  · simp only [freeTheSlot_air]; (repeat' split) <;> first | simp | (rw [forEach_same (fun t => t.air) _ (fun _ _ => by simp)]; simp)
@[simp] theorem retirePerson_hlk (i : Fin 240) (s : State) : (retirePerson i s).hlk = s.hlk := by
  unfold retirePerson; split
  · rfl
  · simp only [freeTheSlot_hlk]; (repeat' split) <;> first | simp | (rw [forEach_same (fun t => t.hlk) _ (fun _ _ => by simp)]; simp)
@[simp] theorem retirePerson_flk (i : Fin 240) (s : State) : (retirePerson i s).flk = s.flk := by
  unfold retirePerson; split
  · rfl
  · simp only [freeTheSlot_flk]; (repeat' split) <;> first | simp | (rw [forEach_same (fun t => t.flk) _ (fun _ _ => by simp)]; simp)
@[simp] theorem retirePerson_handed (i : Fin 240) (s : State) : (retirePerson i s).handed = s.handed := by
  unfold retirePerson; split
  · rfl
  · simp only [freeTheSlot_handed]; (repeat' split) <;> first | simp | (rw [forEach_same (fun t => t.handed) _ (fun _ _ => by simp)]; simp)
@[simp] theorem retirePerson_resetLow (i : Fin 240) (s : State) : (retirePerson i s).resetLow = s.resetLow := by
  unfold retirePerson; split
  · rfl
  · simp only [freeTheSlot_resetLow]; (repeat' split) <;> first | simp | (rw [forEach_same (fun t => t.resetLow) _ (fun _ _ => by simp)]; simp)
@[simp] theorem retirePerson_hostOut (i : Fin 240) (s : State) : (retirePerson i s).hostOut = s.hostOut := by
  unfold retirePerson; split
  · rfl
  · simp only [freeTheSlot_hostOut]; (repeat' split) <;> first | simp | (rw [forEach_same (fun t => t.hostOut) _ (fun _ _ => by simp)]; simp)
@[simp] theorem retirePerson_fieldOut (i : Fin 240) (s : State) : (retirePerson i s).fieldOut = s.fieldOut := by
  unfold retirePerson; split
  · rfl
  · simp only [freeTheSlot_fieldOut]; (repeat' split) <;> first | simp | (rw [forEach_same (fun t => t.fieldOut) _ (fun _ _ => by simp)]; simp)
@[simp] theorem retirePerson_pending (i : Fin 240) (s : State) : (retirePerson i s).pending = s.pending := by
  unfold retirePerson; split
  · rfl
  · simp only [freeTheSlot_pending]; (repeat' split) <;> first | simp | (rw [forEach_same (fun t => t.pending) _ (fun _ _ => by simp)]; simp)
@[simp] theorem retirePerson_hpt_request (i : Fin 240) (s : State) : (retirePerson i s).hpt.request = s.hpt.request := by
  unfold retirePerson; split
  · rfl
  · simp only [freeTheSlot_hpt]; (repeat' split) <;> first | simp | (rw [forEach_same (fun t => t.hpt.request) _ (fun _ _ => by simp)]; simp)
@[simp] theorem retirePerson_hpt_reply (i : Fin 240) (s : State) : (retirePerson i s).hpt.reply = s.hpt.reply := by
  unfold retirePerson; split
  · rfl
  · simp only [freeTheSlot_hpt]; (repeat' split) <;> first | simp | (rw [forEach_same (fun t => t.hpt.reply) _ (fun _ _ => by simp)]; simp)
@[simp] theorem retirePerson_hpt_readPos (i : Fin 240) (s : State) : (retirePerson i s).hpt.readPos = s.hpt.readPos := by
  unfold retirePerson; split
  · rfl
  · simp only [freeTheSlot_hpt]; (repeat' split) <;> first | simp | (rw [forEach_same (fun t => t.hpt.readPos) _ (fun _ _ => by simp)]; simp)
@[simp] theorem retirePerson_hpt_overrun (i : Fin 240) (s : State) : (retirePerson i s).hpt.overrun = s.hpt.overrun := by
  unfold retirePerson; split
  · rfl
  · simp only [freeTheSlot_hpt]; (repeat' split) <;> first | simp | (rw [forEach_same (fun t => t.hpt.overrun) _ (fun _ _ => by simp)]; simp)
@[simp] theorem retirePerson_hpt_phase (i : Fin 240) (s : State) : (retirePerson i s).hpt.phase = s.hpt.phase := by
  unfold retirePerson; split
  · rfl
  · simp only [freeTheSlot_hpt]; (repeat' split) <;> first | simp | (rw [forEach_same (fun t => t.hpt.phase) _ (fun _ _ => by simp)]; simp)
@[simp] theorem retirePerson_hpt_mask (i : Fin 240) (s : State) : (retirePerson i s).hpt.mask = s.hpt.mask := by
  unfold retirePerson; split
  · rfl
  · simp only [freeTheSlot_hpt]; (repeat' split) <;> first | simp | (rw [forEach_same (fun t => t.hpt.mask) _ (fun _ _ => by simp)]; simp)
@[simp] theorem retirePerson_hpt_cursorTable (i : Fin 240) (s : State) : (retirePerson i s).hpt.cursorTable = s.hpt.cursorTable := by
  unfold retirePerson; split
  · rfl
  · simp only [freeTheSlot_hpt]; (repeat' split) <;> first | simp | (rw [forEach_same (fun t => t.hpt.cursorTable) _ (fun _ _ => by simp)]; simp)
@[simp] theorem retirePerson_hpt_cursorIndex (i : Fin 240) (s : State) : (retirePerson i s).hpt.cursorIndex = s.hpt.cursorIndex := by
  unfold retirePerson; split
  · rfl
  · simp only [freeTheSlot_hpt]; (repeat' split) <;> first | simp | (rw [forEach_same (fun t => t.hpt.cursorIndex) _ (fun _ _ => by simp)]; simp)

/-! ### ageTo -/

@[simp] theorem ageTo_frt (i : Fin 240) (p : Person) (x : PersonState) (s : State) : (ageTo i p x s).frt = s.frt := by
  unfold ageTo; (try dsimp only); (repeat' split) <;> simp
@[simp] theorem ageTo_air (i : Fin 240) (p : Person) (x : PersonState) (s : State) : (ageTo i p x s).air = s.air := by
  unfold ageTo; (try dsimp only); (repeat' split) <;> simp
@[simp] theorem ageTo_hlk (i : Fin 240) (p : Person) (x : PersonState) (s : State) : (ageTo i p x s).hlk = s.hlk := by
  unfold ageTo; (try dsimp only); (repeat' split) <;> simp
@[simp] theorem ageTo_rev (i : Fin 240) (p : Person) (x : PersonState) (s : State) : (ageTo i p x s).rev = s.rev := by
  unfold ageTo; (try dsimp only); (repeat' split) <;> simp
@[simp] theorem ageTo_flk (i : Fin 240) (p : Person) (x : PersonState) (s : State) : (ageTo i p x s).flk = s.flk := by
  unfold ageTo; (try dsimp only); (repeat' split) <;> simp
@[simp] theorem ageTo_handed (i : Fin 240) (p : Person) (x : PersonState) (s : State) : (ageTo i p x s).handed = s.handed := by
  unfold ageTo; (try dsimp only); (repeat' split) <;> simp
@[simp] theorem ageTo_resetLow (i : Fin 240) (p : Person) (x : PersonState) (s : State) : (ageTo i p x s).resetLow = s.resetLow := by
  unfold ageTo; (try dsimp only); (repeat' split) <;> simp
@[simp] theorem ageTo_hostOut (i : Fin 240) (p : Person) (x : PersonState) (s : State) : (ageTo i p x s).hostOut = s.hostOut := by
  unfold ageTo; (try dsimp only); (repeat' split) <;> simp
@[simp] theorem ageTo_fieldOut (i : Fin 240) (p : Person) (x : PersonState) (s : State) : (ageTo i p x s).fieldOut = s.fieldOut := by
  unfold ageTo; (try dsimp only); (repeat' split) <;> simp
@[simp] theorem ageTo_pending (i : Fin 240) (p : Person) (x : PersonState) (s : State) : (ageTo i p x s).pending = s.pending := by
  unfold ageTo; (try dsimp only); (repeat' split) <;> simp
@[simp] theorem ageTo_hpt_request (i : Fin 240) (p : Person) (x : PersonState) (s : State) : (ageTo i p x s).hpt.request = s.hpt.request := by
  unfold ageTo; (try dsimp only); (repeat' split) <;> simp
@[simp] theorem ageTo_hpt_reply (i : Fin 240) (p : Person) (x : PersonState) (s : State) : (ageTo i p x s).hpt.reply = s.hpt.reply := by
  unfold ageTo; (try dsimp only); (repeat' split) <;> simp
@[simp] theorem ageTo_hpt_readPos (i : Fin 240) (p : Person) (x : PersonState) (s : State) : (ageTo i p x s).hpt.readPos = s.hpt.readPos := by
  unfold ageTo; (try dsimp only); (repeat' split) <;> simp
@[simp] theorem ageTo_hpt_overrun (i : Fin 240) (p : Person) (x : PersonState) (s : State) : (ageTo i p x s).hpt.overrun = s.hpt.overrun := by
  unfold ageTo; (try dsimp only); (repeat' split) <;> simp
@[simp] theorem ageTo_hpt_phase (i : Fin 240) (p : Person) (x : PersonState) (s : State) : (ageTo i p x s).hpt.phase = s.hpt.phase := by
  unfold ageTo; (try dsimp only); (repeat' split) <;> simp
@[simp] theorem ageTo_hpt_mask (i : Fin 240) (p : Person) (x : PersonState) (s : State) : (ageTo i p x s).hpt.mask = s.hpt.mask := by
  unfold ageTo; (try dsimp only); (repeat' split) <;> simp
@[simp] theorem ageTo_hpt_cursorTable (i : Fin 240) (p : Person) (x : PersonState) (s : State) : (ageTo i p x s).hpt.cursorTable = s.hpt.cursorTable := by
  unfold ageTo; (try dsimp only); (repeat' split) <;> simp
@[simp] theorem ageTo_hpt_cursorIndex (i : Fin 240) (p : Person) (x : PersonState) (s : State) : (ageTo i p x s).hpt.cursorIndex = s.hpt.cursorIndex := by
  unfold ageTo; (try dsimp only); (repeat' split) <;> simp

/-! ### judgeAging -/

@[simp] theorem judgeAging_frt (i : Fin 240) (s : State) : (judgeAging i s).frt = s.frt := by
  unfold judgeAging; (try dsimp only); (repeat' split) <;> simp
@[simp] theorem judgeAging_air (i : Fin 240) (s : State) : (judgeAging i s).air = s.air := by
  unfold judgeAging; (try dsimp only); (repeat' split) <;> simp
@[simp] theorem judgeAging_hlk (i : Fin 240) (s : State) : (judgeAging i s).hlk = s.hlk := by
  unfold judgeAging; (try dsimp only); (repeat' split) <;> simp
@[simp] theorem judgeAging_flk (i : Fin 240) (s : State) : (judgeAging i s).flk = s.flk := by
  unfold judgeAging; (try dsimp only); (repeat' split) <;> simp
@[simp] theorem judgeAging_handed (i : Fin 240) (s : State) : (judgeAging i s).handed = s.handed := by
  unfold judgeAging; (try dsimp only); (repeat' split) <;> simp
@[simp] theorem judgeAging_resetLow (i : Fin 240) (s : State) : (judgeAging i s).resetLow = s.resetLow := by
  unfold judgeAging; (try dsimp only); (repeat' split) <;> simp
@[simp] theorem judgeAging_hostOut (i : Fin 240) (s : State) : (judgeAging i s).hostOut = s.hostOut := by
  unfold judgeAging; (try dsimp only); (repeat' split) <;> simp
@[simp] theorem judgeAging_fieldOut (i : Fin 240) (s : State) : (judgeAging i s).fieldOut = s.fieldOut := by
  unfold judgeAging; (try dsimp only); (repeat' split) <;> simp
@[simp] theorem judgeAging_pending (i : Fin 240) (s : State) : (judgeAging i s).pending = s.pending := by
  unfold judgeAging; (try dsimp only); (repeat' split) <;> simp
@[simp] theorem judgeAging_hpt_request (i : Fin 240) (s : State) : (judgeAging i s).hpt.request = s.hpt.request := by
  unfold judgeAging; (try dsimp only); (repeat' split) <;> simp
@[simp] theorem judgeAging_hpt_reply (i : Fin 240) (s : State) : (judgeAging i s).hpt.reply = s.hpt.reply := by
  unfold judgeAging; (try dsimp only); (repeat' split) <;> simp
@[simp] theorem judgeAging_hpt_readPos (i : Fin 240) (s : State) : (judgeAging i s).hpt.readPos = s.hpt.readPos := by
  unfold judgeAging; (try dsimp only); (repeat' split) <;> simp
@[simp] theorem judgeAging_hpt_overrun (i : Fin 240) (s : State) : (judgeAging i s).hpt.overrun = s.hpt.overrun := by
  unfold judgeAging; (try dsimp only); (repeat' split) <;> simp
@[simp] theorem judgeAging_hpt_phase (i : Fin 240) (s : State) : (judgeAging i s).hpt.phase = s.hpt.phase := by
  unfold judgeAging; (try dsimp only); (repeat' split) <;> simp
@[simp] theorem judgeAging_hpt_mask (i : Fin 240) (s : State) : (judgeAging i s).hpt.mask = s.hpt.mask := by
  unfold judgeAging; (try dsimp only); (repeat' split) <;> simp
@[simp] theorem judgeAging_hpt_cursorTable (i : Fin 240) (s : State) : (judgeAging i s).hpt.cursorTable = s.hpt.cursorTable := by
  unfold judgeAging; (try dsimp only); (repeat' split) <;> simp
@[simp] theorem judgeAging_hpt_cursorIndex (i : Fin 240) (s : State) : (judgeAging i s).hpt.cursorIndex = s.hpt.cursorIndex := by
  unfold judgeAging; (try dsimp only); (repeat' split) <;> simp

/-! ### visit -/

@[simp] theorem visit_frt (i : Fin 240) (s : State) : (visit i s).frt = s.frt := by
  unfold visit; (try dsimp only); (repeat' split) <;> simp
@[simp] theorem visit_air (i : Fin 240) (s : State) : (visit i s).air = s.air := by
  unfold visit; (try dsimp only); (repeat' split) <;> simp
@[simp] theorem visit_hlk (i : Fin 240) (s : State) : (visit i s).hlk = s.hlk := by
  unfold visit; (try dsimp only); (repeat' split) <;> simp
@[simp] theorem visit_flk (i : Fin 240) (s : State) : (visit i s).flk = s.flk := by
  unfold visit; (try dsimp only); (repeat' split) <;> simp
@[simp] theorem visit_handed (i : Fin 240) (s : State) : (visit i s).handed = s.handed := by
  unfold visit; (try dsimp only); (repeat' split) <;> simp
@[simp] theorem visit_resetLow (i : Fin 240) (s : State) : (visit i s).resetLow = s.resetLow := by
  unfold visit; (try dsimp only); (repeat' split) <;> simp
@[simp] theorem visit_hostOut (i : Fin 240) (s : State) : (visit i s).hostOut = s.hostOut := by
  unfold visit; (try dsimp only); (repeat' split) <;> simp
@[simp] theorem visit_fieldOut (i : Fin 240) (s : State) : (visit i s).fieldOut = s.fieldOut := by
  unfold visit; (try dsimp only); (repeat' split) <;> simp
@[simp] theorem visit_pending (i : Fin 240) (s : State) : (visit i s).pending = s.pending := by
  unfold visit; (try dsimp only); (repeat' split) <;> simp
@[simp] theorem visit_hpt_request (i : Fin 240) (s : State) : (visit i s).hpt.request = s.hpt.request := by
  unfold visit; (try dsimp only); (repeat' split) <;> simp
@[simp] theorem visit_hpt_reply (i : Fin 240) (s : State) : (visit i s).hpt.reply = s.hpt.reply := by
  unfold visit; (try dsimp only); (repeat' split) <;> simp
@[simp] theorem visit_hpt_readPos (i : Fin 240) (s : State) : (visit i s).hpt.readPos = s.hpt.readPos := by
  unfold visit; (try dsimp only); (repeat' split) <;> simp
@[simp] theorem visit_hpt_overrun (i : Fin 240) (s : State) : (visit i s).hpt.overrun = s.hpt.overrun := by
  unfold visit; (try dsimp only); (repeat' split) <;> simp
@[simp] theorem visit_hpt_phase (i : Fin 240) (s : State) : (visit i s).hpt.phase = s.hpt.phase := by
  unfold visit; (try dsimp only); (repeat' split) <;> simp
@[simp] theorem visit_hpt_mask (i : Fin 240) (s : State) : (visit i s).hpt.mask = s.hpt.mask := by
  unfold visit; (try dsimp only); (repeat' split) <;> simp
@[simp] theorem visit_hpt_cursorTable (i : Fin 240) (s : State) : (visit i s).hpt.cursorTable = s.hpt.cursorTable := by
  unfold visit; (try dsimp only); (repeat' split) <;> simp
@[simp] theorem visit_hpt_cursorIndex (i : Fin 240) (s : State) : (visit i s).hpt.cursorIndex = s.hpt.cursorIndex := by
  unfold visit; (try dsimp only); (repeat' split) <;> simp

/-! ### walk -/

@[simp] theorem walk_frt (s : State) : (walk s).frt = s.frt := by
  unfold walk; exact forEach_same (fun t => t.frt) _ (fun _ _ => by simp) _ _
@[simp] theorem walk_air (s : State) : (walk s).air = s.air := by
  unfold walk; exact forEach_same (fun t => t.air) _ (fun _ _ => by simp) _ _
@[simp] theorem walk_hlk (s : State) : (walk s).hlk = s.hlk := by
  unfold walk; exact forEach_same (fun t => t.hlk) _ (fun _ _ => by simp) _ _
@[simp] theorem walk_flk (s : State) : (walk s).flk = s.flk := by
  unfold walk; exact forEach_same (fun t => t.flk) _ (fun _ _ => by simp) _ _
@[simp] theorem walk_handed (s : State) : (walk s).handed = s.handed := by
  unfold walk; exact forEach_same (fun t => t.handed) _ (fun _ _ => by simp) _ _
@[simp] theorem walk_resetLow (s : State) : (walk s).resetLow = s.resetLow := by
  unfold walk; exact forEach_same (fun t => t.resetLow) _ (fun _ _ => by simp) _ _
@[simp] theorem walk_hostOut (s : State) : (walk s).hostOut = s.hostOut := by
  unfold walk; exact forEach_same (fun t => t.hostOut) _ (fun _ _ => by simp) _ _
@[simp] theorem walk_fieldOut (s : State) : (walk s).fieldOut = s.fieldOut := by
  unfold walk; exact forEach_same (fun t => t.fieldOut) _ (fun _ _ => by simp) _ _
@[simp] theorem walk_pending (s : State) : (walk s).pending = s.pending := by
  unfold walk; exact forEach_same (fun t => t.pending) _ (fun _ _ => by simp) _ _
@[simp] theorem walk_hpt_request (s : State) : (walk s).hpt.request = s.hpt.request := by
  unfold walk; exact forEach_same (fun t => t.hpt.request) _ (fun _ _ => by simp) _ _
@[simp] theorem walk_hpt_reply (s : State) : (walk s).hpt.reply = s.hpt.reply := by
  unfold walk; exact forEach_same (fun t => t.hpt.reply) _ (fun _ _ => by simp) _ _
@[simp] theorem walk_hpt_readPos (s : State) : (walk s).hpt.readPos = s.hpt.readPos := by
  unfold walk; exact forEach_same (fun t => t.hpt.readPos) _ (fun _ _ => by simp) _ _
@[simp] theorem walk_hpt_overrun (s : State) : (walk s).hpt.overrun = s.hpt.overrun := by
  unfold walk; exact forEach_same (fun t => t.hpt.overrun) _ (fun _ _ => by simp) _ _
@[simp] theorem walk_hpt_phase (s : State) : (walk s).hpt.phase = s.hpt.phase := by
  unfold walk; exact forEach_same (fun t => t.hpt.phase) _ (fun _ _ => by simp) _ _
@[simp] theorem walk_hpt_mask (s : State) : (walk s).hpt.mask = s.hpt.mask := by
  unfold walk; exact forEach_same (fun t => t.hpt.mask) _ (fun _ _ => by simp) _ _
@[simp] theorem walk_hpt_cursorTable (s : State) : (walk s).hpt.cursorTable = s.hpt.cursorTable := by
  unfold walk; exact forEach_same (fun t => t.hpt.cursorTable) _ (fun _ _ => by simp) _ _
@[simp] theorem walk_hpt_cursorIndex (s : State) : (walk s).hpt.cursorIndex = s.hpt.cursorIndex := by
  unfold walk; exact forEach_same (fun t => t.hpt.cursorIndex) _ (fun _ _ => by simp) _ _

/-! ### applyWalk -/

@[simp] theorem applyWalk_frt (s : State) : (applyWalk s).frt = s.frt := by
  unfold applyWalk; (try dsimp only); (repeat' split) <;> simp
@[simp] theorem applyWalk_znt (s : State) : (applyWalk s).znt = s.znt := by
  unfold applyWalk; (try dsimp only); (repeat' split) <;> simp
@[simp] theorem applyWalk_atq (s : State) : (applyWalk s).atq = s.atq := by
  unfold applyWalk; (try dsimp only); (repeat' split) <;> simp
@[simp] theorem applyWalk_air (s : State) : (applyWalk s).air = s.air := by
  unfold applyWalk; (try dsimp only); (repeat' split) <;> simp
@[simp] theorem applyWalk_hlk (s : State) : (applyWalk s).hlk = s.hlk := by
  unfold applyWalk; (try dsimp only); (repeat' split) <;> simp
@[simp] theorem applyWalk_rev (s : State) : (applyWalk s).rev = s.rev := by
  unfold applyWalk; (try dsimp only); (repeat' split) <;> simp
@[simp] theorem applyWalk_cal (s : State) : (applyWalk s).cal = s.cal := by
  unfold applyWalk; (try dsimp only); (repeat' split) <;> simp
@[simp] theorem applyWalk_flk (s : State) : (applyWalk s).flk = s.flk := by
  unfold applyWalk; (try dsimp only); (repeat' split) <;> simp
@[simp] theorem applyWalk_hpt (s : State) : (applyWalk s).hpt = s.hpt := by
  unfold applyWalk; (try dsimp only); (repeat' split) <;> simp
@[simp] theorem applyWalk_handed (s : State) : (applyWalk s).handed = s.handed := by
  unfold applyWalk; (try dsimp only); (repeat' split) <;> simp
@[simp] theorem applyWalk_resetLow (s : State) : (applyWalk s).resetLow = s.resetLow := by
  unfold applyWalk; (try dsimp only); (repeat' split) <;> simp
@[simp] theorem applyWalk_hostOut (s : State) : (applyWalk s).hostOut = s.hostOut := by
  unfold applyWalk; (try dsimp only); (repeat' split) <;> simp
@[simp] theorem applyWalk_fieldOut (s : State) : (applyWalk s).fieldOut = s.fieldOut := by
  unfold applyWalk; (try dsimp only); (repeat' split) <;> simp
@[simp] theorem applyWalk_pending (s : State) : (applyWalk s).pending = s.pending := by
  unfold applyWalk; (try dsimp only); (repeat' split) <;> simp

/-! ### moveOccupancy -/

@[simp] theorem moveOccupancy_frt (p : Person) (r : Fin 8) (s : State) : (moveOccupancy p r s).frt = s.frt := by
  unfold moveOccupancy; (try dsimp only); (repeat' split) <;> simp
@[simp] theorem moveOccupancy_znt (p : Person) (r : Fin 8) (s : State) : (moveOccupancy p r s).znt = s.znt := by
  unfold moveOccupancy; (try dsimp only); (repeat' split) <;> simp
@[simp] theorem moveOccupancy_rst (p : Person) (r : Fin 8) (s : State) : (moveOccupancy p r s).rst = s.rst := by
  unfold moveOccupancy; (try dsimp only); (repeat' split) <;> simp
@[simp] theorem moveOccupancy_air (p : Person) (r : Fin 8) (s : State) : (moveOccupancy p r s).air = s.air := by
  unfold moveOccupancy; (try dsimp only); (repeat' split) <;> simp
@[simp] theorem moveOccupancy_hlk (p : Person) (r : Fin 8) (s : State) : (moveOccupancy p r s).hlk = s.hlk := by
  unfold moveOccupancy; (try dsimp only); (repeat' split) <;> simp
@[simp] theorem moveOccupancy_cal (p : Person) (r : Fin 8) (s : State) : (moveOccupancy p r s).cal = s.cal := by
  unfold moveOccupancy; (try dsimp only); (repeat' split) <;> simp
@[simp] theorem moveOccupancy_flk (p : Person) (r : Fin 8) (s : State) : (moveOccupancy p r s).flk = s.flk := by
  unfold moveOccupancy; (try dsimp only); (repeat' split) <;> simp
@[simp] theorem moveOccupancy_handed (p : Person) (r : Fin 8) (s : State) : (moveOccupancy p r s).handed = s.handed := by
  unfold moveOccupancy; (try dsimp only); (repeat' split) <;> simp
@[simp] theorem moveOccupancy_resetLow (p : Person) (r : Fin 8) (s : State) : (moveOccupancy p r s).resetLow = s.resetLow := by
  unfold moveOccupancy; (try dsimp only); (repeat' split) <;> simp
@[simp] theorem moveOccupancy_hostOut (p : Person) (r : Fin 8) (s : State) : (moveOccupancy p r s).hostOut = s.hostOut := by
  unfold moveOccupancy; (try dsimp only); (repeat' split) <;> simp
@[simp] theorem moveOccupancy_fieldOut (p : Person) (r : Fin 8) (s : State) : (moveOccupancy p r s).fieldOut = s.fieldOut := by
  unfold moveOccupancy; (try dsimp only); (repeat' split) <;> simp
@[simp] theorem moveOccupancy_pending (p : Person) (r : Fin 8) (s : State) : (moveOccupancy p r s).pending = s.pending := by
  unfold moveOccupancy; (try dsimp only); (repeat' split) <;> simp
@[simp] theorem moveOccupancy_hpt_request (p : Person) (r : Fin 8) (s : State) : (moveOccupancy p r s).hpt.request = s.hpt.request := by
  unfold moveOccupancy; (try dsimp only); (repeat' split) <;> simp
@[simp] theorem moveOccupancy_hpt_reply (p : Person) (r : Fin 8) (s : State) : (moveOccupancy p r s).hpt.reply = s.hpt.reply := by
  unfold moveOccupancy; (try dsimp only); (repeat' split) <;> simp
@[simp] theorem moveOccupancy_hpt_readPos (p : Person) (r : Fin 8) (s : State) : (moveOccupancy p r s).hpt.readPos = s.hpt.readPos := by
  unfold moveOccupancy; (try dsimp only); (repeat' split) <;> simp
@[simp] theorem moveOccupancy_hpt_overrun (p : Person) (r : Fin 8) (s : State) : (moveOccupancy p r s).hpt.overrun = s.hpt.overrun := by
  unfold moveOccupancy; (try dsimp only); (repeat' split) <;> simp
@[simp] theorem moveOccupancy_hpt_phase (p : Person) (r : Fin 8) (s : State) : (moveOccupancy p r s).hpt.phase = s.hpt.phase := by
  unfold moveOccupancy; (try dsimp only); (repeat' split) <;> simp
@[simp] theorem moveOccupancy_hpt_mask (p : Person) (r : Fin 8) (s : State) : (moveOccupancy p r s).hpt.mask = s.hpt.mask := by
  unfold moveOccupancy; (try dsimp only); (repeat' split) <;> simp
@[simp] theorem moveOccupancy_hpt_cursorTable (p : Person) (r : Fin 8) (s : State) : (moveOccupancy p r s).hpt.cursorTable = s.hpt.cursorTable := by
  unfold moveOccupancy; (try dsimp only); (repeat' split) <;> simp
@[simp] theorem moveOccupancy_hpt_cursorIndex (p : Person) (r : Fin 8) (s : State) : (moveOccupancy p r s).hpt.cursorIndex = s.hpt.cursorIndex := by
  unfold moveOccupancy; (try dsimp only); (repeat' split) <;> simp

/-! ### checkIn -/

@[simp] theorem checkIn_frt (r : Fin 8) (f : Frame) (i : Fin 240) (s : State) : (checkIn r f i s).frt = s.frt := by
  unfold checkIn; (try dsimp only); (repeat' split) <;> simp
@[simp] theorem checkIn_air (r : Fin 8) (f : Frame) (i : Fin 240) (s : State) : (checkIn r f i s).air = s.air := by
  unfold checkIn; (try dsimp only); (repeat' split) <;> simp
@[simp] theorem checkIn_hlk (r : Fin 8) (f : Frame) (i : Fin 240) (s : State) : (checkIn r f i s).hlk = s.hlk := by
  unfold checkIn; (try dsimp only); (repeat' split) <;> simp
@[simp] theorem checkIn_cal (r : Fin 8) (f : Frame) (i : Fin 240) (s : State) : (checkIn r f i s).cal = s.cal := by
  unfold checkIn; (try dsimp only); (repeat' split) <;> simp
@[simp] theorem checkIn_flk (r : Fin 8) (f : Frame) (i : Fin 240) (s : State) : (checkIn r f i s).flk = s.flk := by
  unfold checkIn; (try dsimp only); (repeat' split) <;> simp
@[simp] theorem checkIn_handed (r : Fin 8) (f : Frame) (i : Fin 240) (s : State) : (checkIn r f i s).handed = s.handed := by
  unfold checkIn; (try dsimp only); (repeat' split) <;> simp
@[simp] theorem checkIn_resetLow (r : Fin 8) (f : Frame) (i : Fin 240) (s : State) : (checkIn r f i s).resetLow = s.resetLow := by
  unfold checkIn; (try dsimp only); (repeat' split) <;> simp
@[simp] theorem checkIn_hostOut (r : Fin 8) (f : Frame) (i : Fin 240) (s : State) : (checkIn r f i s).hostOut = s.hostOut := by
  unfold checkIn; (try dsimp only); (repeat' split) <;> simp
@[simp] theorem checkIn_fieldOut (r : Fin 8) (f : Frame) (i : Fin 240) (s : State) : (checkIn r f i s).fieldOut = s.fieldOut := by
  unfold checkIn; (try dsimp only); (repeat' split) <;> simp
@[simp] theorem checkIn_pending (r : Fin 8) (f : Frame) (i : Fin 240) (s : State) : (checkIn r f i s).pending = s.pending := by
  unfold checkIn; (try dsimp only); (repeat' split) <;> simp
@[simp] theorem checkIn_hpt_request (r : Fin 8) (f : Frame) (i : Fin 240) (s : State) : (checkIn r f i s).hpt.request = s.hpt.request := by
  unfold checkIn; (try dsimp only); (repeat' split) <;> simp
@[simp] theorem checkIn_hpt_reply (r : Fin 8) (f : Frame) (i : Fin 240) (s : State) : (checkIn r f i s).hpt.reply = s.hpt.reply := by
  unfold checkIn; (try dsimp only); (repeat' split) <;> simp
@[simp] theorem checkIn_hpt_readPos (r : Fin 8) (f : Frame) (i : Fin 240) (s : State) : (checkIn r f i s).hpt.readPos = s.hpt.readPos := by
  unfold checkIn; (try dsimp only); (repeat' split) <;> simp
@[simp] theorem checkIn_hpt_overrun (r : Fin 8) (f : Frame) (i : Fin 240) (s : State) : (checkIn r f i s).hpt.overrun = s.hpt.overrun := by
  unfold checkIn; (try dsimp only); (repeat' split) <;> simp
@[simp] theorem checkIn_hpt_phase (r : Fin 8) (f : Frame) (i : Fin 240) (s : State) : (checkIn r f i s).hpt.phase = s.hpt.phase := by
  unfold checkIn; (try dsimp only); (repeat' split) <;> simp
@[simp] theorem checkIn_hpt_mask (r : Fin 8) (f : Frame) (i : Fin 240) (s : State) : (checkIn r f i s).hpt.mask = s.hpt.mask := by
  unfold checkIn; (try dsimp only); (repeat' split) <;> simp
@[simp] theorem checkIn_hpt_cursorTable (r : Fin 8) (f : Frame) (i : Fin 240) (s : State) : (checkIn r f i s).hpt.cursorTable = s.hpt.cursorTable := by
  unfold checkIn; (try dsimp only); (repeat' split) <;> simp
@[simp] theorem checkIn_hpt_cursorIndex (r : Fin 8) (f : Frame) (i : Fin 240) (s : State) : (checkIn r f i s).hpt.cursorIndex = s.hpt.cursorIndex := by
  unfold checkIn; (try dsimp only); (repeat' split) <;> simp

/-! ### checkOut -/

@[simp] theorem checkOut_frt (r : Fin 8) (f : Frame) (i : Fin 240) (s : State) : (checkOut r f i s).frt = s.frt := by
  unfold checkOut; (try dsimp only); (repeat' split) <;> simp
@[simp] theorem checkOut_air (r : Fin 8) (f : Frame) (i : Fin 240) (s : State) : (checkOut r f i s).air = s.air := by
  unfold checkOut; (try dsimp only); (repeat' split) <;> simp
@[simp] theorem checkOut_hlk (r : Fin 8) (f : Frame) (i : Fin 240) (s : State) : (checkOut r f i s).hlk = s.hlk := by
  unfold checkOut; (try dsimp only); (repeat' split) <;> simp
@[simp] theorem checkOut_cal (r : Fin 8) (f : Frame) (i : Fin 240) (s : State) : (checkOut r f i s).cal = s.cal := by
  unfold checkOut; (try dsimp only); (repeat' split) <;> simp
@[simp] theorem checkOut_flk (r : Fin 8) (f : Frame) (i : Fin 240) (s : State) : (checkOut r f i s).flk = s.flk := by
  unfold checkOut; (try dsimp only); (repeat' split) <;> simp
@[simp] theorem checkOut_handed (r : Fin 8) (f : Frame) (i : Fin 240) (s : State) : (checkOut r f i s).handed = s.handed := by
  unfold checkOut; (try dsimp only); (repeat' split) <;> simp
@[simp] theorem checkOut_resetLow (r : Fin 8) (f : Frame) (i : Fin 240) (s : State) : (checkOut r f i s).resetLow = s.resetLow := by
  unfold checkOut; (try dsimp only); (repeat' split) <;> simp
@[simp] theorem checkOut_hostOut (r : Fin 8) (f : Frame) (i : Fin 240) (s : State) : (checkOut r f i s).hostOut = s.hostOut := by
  unfold checkOut; (try dsimp only); (repeat' split) <;> simp
@[simp] theorem checkOut_fieldOut (r : Fin 8) (f : Frame) (i : Fin 240) (s : State) : (checkOut r f i s).fieldOut = s.fieldOut := by
  unfold checkOut; (try dsimp only); (repeat' split) <;> simp
@[simp] theorem checkOut_pending (r : Fin 8) (f : Frame) (i : Fin 240) (s : State) : (checkOut r f i s).pending = s.pending := by
  unfold checkOut; (try dsimp only); (repeat' split) <;> simp
@[simp] theorem checkOut_hpt_request (r : Fin 8) (f : Frame) (i : Fin 240) (s : State) : (checkOut r f i s).hpt.request = s.hpt.request := by
  unfold checkOut; (try dsimp only); (repeat' split) <;> simp
@[simp] theorem checkOut_hpt_reply (r : Fin 8) (f : Frame) (i : Fin 240) (s : State) : (checkOut r f i s).hpt.reply = s.hpt.reply := by
  unfold checkOut; (try dsimp only); (repeat' split) <;> simp
@[simp] theorem checkOut_hpt_readPos (r : Fin 8) (f : Frame) (i : Fin 240) (s : State) : (checkOut r f i s).hpt.readPos = s.hpt.readPos := by
  unfold checkOut; (try dsimp only); (repeat' split) <;> simp
@[simp] theorem checkOut_hpt_overrun (r : Fin 8) (f : Frame) (i : Fin 240) (s : State) : (checkOut r f i s).hpt.overrun = s.hpt.overrun := by
  unfold checkOut; (try dsimp only); (repeat' split) <;> simp
@[simp] theorem checkOut_hpt_phase (r : Fin 8) (f : Frame) (i : Fin 240) (s : State) : (checkOut r f i s).hpt.phase = s.hpt.phase := by
  unfold checkOut; (try dsimp only); (repeat' split) <;> simp
@[simp] theorem checkOut_hpt_mask (r : Fin 8) (f : Frame) (i : Fin 240) (s : State) : (checkOut r f i s).hpt.mask = s.hpt.mask := by
  unfold checkOut; (try dsimp only); (repeat' split) <;> simp
@[simp] theorem checkOut_hpt_cursorTable (r : Fin 8) (f : Frame) (i : Fin 240) (s : State) : (checkOut r f i s).hpt.cursorTable = s.hpt.cursorTable := by
  unfold checkOut; (try dsimp only); (repeat' split) <;> simp
@[simp] theorem checkOut_hpt_cursorIndex (r : Fin 8) (f : Frame) (i : Fin 240) (s : State) : (checkOut r f i s).hpt.cursorIndex = s.hpt.cursorIndex := by
  unfold checkOut; (try dsimp only); (repeat' split) <;> simp

end Sys2Proof.Machine
end

