-- ==== Sys2Proof/Laws/AirFrames.lean ====
section
/-! SUPPORT. The operations over zones and channels: what each leaves as it was, one lemma for each field. -/

namespace Sys2Proof.Machine

set_option linter.unusedTactic false
set_option linter.unnecessarySeqFocus false
set_option linter.unreachableTactic false

/-! ### judgeLine -/

@[simp] theorem judgeLine_frt (l : Fin 8) (s : State) : (judgeLine l s).frt = s.frt := by
  unfold judgeLine; (try dsimp only); (repeat' split) <;> simp
@[simp] theorem judgeLine_atq (l : Fin 8) (s : State) : (judgeLine l s).atq = s.atq := by
  unfold judgeLine; (try dsimp only); (repeat' split) <;> simp
@[simp] theorem judgeLine_rst (l : Fin 8) (s : State) : (judgeLine l s).rst = s.rst := by
  unfold judgeLine; (try dsimp only); (repeat' split) <;> simp
@[simp] theorem judgeLine_air (l : Fin 8) (s : State) : (judgeLine l s).air = s.air := by
  unfold judgeLine; (try dsimp only); (repeat' split) <;> simp
@[simp] theorem judgeLine_hlk (l : Fin 8) (s : State) : (judgeLine l s).hlk = s.hlk := by
  unfold judgeLine; (try dsimp only); (repeat' split) <;> simp
@[simp] theorem judgeLine_rev (l : Fin 8) (s : State) : (judgeLine l s).rev = s.rev := by
  unfold judgeLine; (try dsimp only); (repeat' split) <;> simp
@[simp] theorem judgeLine_cal (l : Fin 8) (s : State) : (judgeLine l s).cal = s.cal := by
  unfold judgeLine; (try dsimp only); (repeat' split) <;> simp
@[simp] theorem judgeLine_flk (l : Fin 8) (s : State) : (judgeLine l s).flk = s.flk := by
  unfold judgeLine; (try dsimp only); (repeat' split) <;> simp
@[simp] theorem judgeLine_handed (l : Fin 8) (s : State) : (judgeLine l s).handed = s.handed := by
  unfold judgeLine; (try dsimp only); (repeat' split) <;> simp
@[simp] theorem judgeLine_resetLow (l : Fin 8) (s : State) : (judgeLine l s).resetLow = s.resetLow := by
  unfold judgeLine; (try dsimp only); (repeat' split) <;> simp
@[simp] theorem judgeLine_hostOut (l : Fin 8) (s : State) : (judgeLine l s).hostOut = s.hostOut := by
  unfold judgeLine; (try dsimp only); (repeat' split) <;> simp
@[simp] theorem judgeLine_fieldOut (l : Fin 8) (s : State) : (judgeLine l s).fieldOut = s.fieldOut := by
  unfold judgeLine; (try dsimp only); (repeat' split) <;> simp
@[simp] theorem judgeLine_pending (l : Fin 8) (s : State) : (judgeLine l s).pending = s.pending := by
  unfold judgeLine; (try dsimp only); (repeat' split) <;> simp
@[simp] theorem judgeLine_hpt_request (l : Fin 8) (s : State) : (judgeLine l s).hpt.request = s.hpt.request := by
  unfold judgeLine; (try dsimp only); (repeat' split) <;> simp
@[simp] theorem judgeLine_hpt_reply (l : Fin 8) (s : State) : (judgeLine l s).hpt.reply = s.hpt.reply := by
  unfold judgeLine; (try dsimp only); (repeat' split) <;> simp
@[simp] theorem judgeLine_hpt_readPos (l : Fin 8) (s : State) : (judgeLine l s).hpt.readPos = s.hpt.readPos := by
  unfold judgeLine; (try dsimp only); (repeat' split) <;> simp
@[simp] theorem judgeLine_hpt_overrun (l : Fin 8) (s : State) : (judgeLine l s).hpt.overrun = s.hpt.overrun := by
  unfold judgeLine; (try dsimp only); (repeat' split) <;> simp
@[simp] theorem judgeLine_hpt_phase (l : Fin 8) (s : State) : (judgeLine l s).hpt.phase = s.hpt.phase := by
  unfold judgeLine; (try dsimp only); (repeat' split) <;> simp
@[simp] theorem judgeLine_hpt_mask (l : Fin 8) (s : State) : (judgeLine l s).hpt.mask = s.hpt.mask := by
  unfold judgeLine; (try dsimp only); (repeat' split) <;> simp
@[simp] theorem judgeLine_hpt_cursorTable (l : Fin 8) (s : State) : (judgeLine l s).hpt.cursorTable = s.hpt.cursorTable := by
  unfold judgeLine; (try dsimp only); (repeat' split) <;> simp
@[simp] theorem judgeLine_hpt_cursorIndex (l : Fin 8) (s : State) : (judgeLine l s).hpt.cursorIndex = s.hpt.cursorIndex := by
  unfold judgeLine; (try dsimp only); (repeat' split) <;> simp

/-! ### judgeZoneLine -/

@[simp] theorem judgeZoneLine_frt (z : Fin 32) (s : State) : (judgeZoneLine z s).frt = s.frt := by
  unfold judgeZoneLine; (try dsimp only); (repeat' split) <;> simp
@[simp] theorem judgeZoneLine_atq (z : Fin 32) (s : State) : (judgeZoneLine z s).atq = s.atq := by
  unfold judgeZoneLine; (try dsimp only); (repeat' split) <;> simp
@[simp] theorem judgeZoneLine_rst (z : Fin 32) (s : State) : (judgeZoneLine z s).rst = s.rst := by
  unfold judgeZoneLine; (try dsimp only); (repeat' split) <;> simp
@[simp] theorem judgeZoneLine_air (z : Fin 32) (s : State) : (judgeZoneLine z s).air = s.air := by
  unfold judgeZoneLine; (try dsimp only); (repeat' split) <;> simp
@[simp] theorem judgeZoneLine_hlk (z : Fin 32) (s : State) : (judgeZoneLine z s).hlk = s.hlk := by
  unfold judgeZoneLine; (try dsimp only); (repeat' split) <;> simp
@[simp] theorem judgeZoneLine_rev (z : Fin 32) (s : State) : (judgeZoneLine z s).rev = s.rev := by
  unfold judgeZoneLine; (try dsimp only); (repeat' split) <;> simp
@[simp] theorem judgeZoneLine_cal (z : Fin 32) (s : State) : (judgeZoneLine z s).cal = s.cal := by
  unfold judgeZoneLine; (try dsimp only); (repeat' split) <;> simp
@[simp] theorem judgeZoneLine_flk (z : Fin 32) (s : State) : (judgeZoneLine z s).flk = s.flk := by
  unfold judgeZoneLine; (try dsimp only); (repeat' split) <;> simp
@[simp] theorem judgeZoneLine_handed (z : Fin 32) (s : State) : (judgeZoneLine z s).handed = s.handed := by
  unfold judgeZoneLine; (try dsimp only); (repeat' split) <;> simp
@[simp] theorem judgeZoneLine_resetLow (z : Fin 32) (s : State) : (judgeZoneLine z s).resetLow = s.resetLow := by
  unfold judgeZoneLine; (try dsimp only); (repeat' split) <;> simp
@[simp] theorem judgeZoneLine_hostOut (z : Fin 32) (s : State) : (judgeZoneLine z s).hostOut = s.hostOut := by
  unfold judgeZoneLine; (try dsimp only); (repeat' split) <;> simp
@[simp] theorem judgeZoneLine_fieldOut (z : Fin 32) (s : State) : (judgeZoneLine z s).fieldOut = s.fieldOut := by
  unfold judgeZoneLine; (try dsimp only); (repeat' split) <;> simp
@[simp] theorem judgeZoneLine_pending (z : Fin 32) (s : State) : (judgeZoneLine z s).pending = s.pending := by
  unfold judgeZoneLine; (try dsimp only); (repeat' split) <;> simp
@[simp] theorem judgeZoneLine_hpt_request (z : Fin 32) (s : State) : (judgeZoneLine z s).hpt.request = s.hpt.request := by
  unfold judgeZoneLine; (try dsimp only); (repeat' split) <;> simp
@[simp] theorem judgeZoneLine_hpt_reply (z : Fin 32) (s : State) : (judgeZoneLine z s).hpt.reply = s.hpt.reply := by
  unfold judgeZoneLine; (try dsimp only); (repeat' split) <;> simp
@[simp] theorem judgeZoneLine_hpt_readPos (z : Fin 32) (s : State) : (judgeZoneLine z s).hpt.readPos = s.hpt.readPos := by
  unfold judgeZoneLine; (try dsimp only); (repeat' split) <;> simp
@[simp] theorem judgeZoneLine_hpt_overrun (z : Fin 32) (s : State) : (judgeZoneLine z s).hpt.overrun = s.hpt.overrun := by
  unfold judgeZoneLine; (try dsimp only); (repeat' split) <;> simp
@[simp] theorem judgeZoneLine_hpt_phase (z : Fin 32) (s : State) : (judgeZoneLine z s).hpt.phase = s.hpt.phase := by
  unfold judgeZoneLine; (try dsimp only); (repeat' split) <;> simp
@[simp] theorem judgeZoneLine_hpt_mask (z : Fin 32) (s : State) : (judgeZoneLine z s).hpt.mask = s.hpt.mask := by
  unfold judgeZoneLine; (try dsimp only); (repeat' split) <;> simp
@[simp] theorem judgeZoneLine_hpt_cursorTable (z : Fin 32) (s : State) : (judgeZoneLine z s).hpt.cursorTable = s.hpt.cursorTable := by
  unfold judgeZoneLine; (try dsimp only); (repeat' split) <;> simp
@[simp] theorem judgeZoneLine_hpt_cursorIndex (z : Fin 32) (s : State) : (judgeZoneLine z s).hpt.cursorIndex = s.hpt.cursorIndex := by
  unfold judgeZoneLine; (try dsimp only); (repeat' split) <;> simp

/-! ### endZoneItem -/

@[simp] theorem endZoneItem_frt (z : Fin 32) (x : AirState) (s : State) : (endZoneItem z x s).frt = s.frt := by
  unfold endZoneItem; (try dsimp only); (repeat' split) <;> simp
@[simp] theorem endZoneItem_znt (z : Fin 32) (x : AirState) (s : State) : (endZoneItem z x s).znt = s.znt := by
  unfold endZoneItem; (try dsimp only); (repeat' split) <;> simp
@[simp] theorem endZoneItem_rst (z : Fin 32) (x : AirState) (s : State) : (endZoneItem z x s).rst = s.rst := by
  unfold endZoneItem; (try dsimp only); (repeat' split) <;> simp
@[simp] theorem endZoneItem_air (z : Fin 32) (x : AirState) (s : State) : (endZoneItem z x s).air = s.air := by
  unfold endZoneItem; (try dsimp only); (repeat' split) <;> simp
@[simp] theorem endZoneItem_hlk (z : Fin 32) (x : AirState) (s : State) : (endZoneItem z x s).hlk = s.hlk := by
  unfold endZoneItem; (try dsimp only); (repeat' split) <;> simp
@[simp] theorem endZoneItem_rev (z : Fin 32) (x : AirState) (s : State) : (endZoneItem z x s).rev = s.rev := by
  unfold endZoneItem; (try dsimp only); (repeat' split) <;> simp
@[simp] theorem endZoneItem_cal (z : Fin 32) (x : AirState) (s : State) : (endZoneItem z x s).cal = s.cal := by
  unfold endZoneItem; (try dsimp only); (repeat' split) <;> simp
@[simp] theorem endZoneItem_flk (z : Fin 32) (x : AirState) (s : State) : (endZoneItem z x s).flk = s.flk := by
  unfold endZoneItem; (try dsimp only); (repeat' split) <;> simp
@[simp] theorem endZoneItem_handed (z : Fin 32) (x : AirState) (s : State) : (endZoneItem z x s).handed = s.handed := by
  unfold endZoneItem; (try dsimp only); (repeat' split) <;> simp
@[simp] theorem endZoneItem_resetLow (z : Fin 32) (x : AirState) (s : State) : (endZoneItem z x s).resetLow = s.resetLow := by
  unfold endZoneItem; (try dsimp only); (repeat' split) <;> simp
@[simp] theorem endZoneItem_hostOut (z : Fin 32) (x : AirState) (s : State) : (endZoneItem z x s).hostOut = s.hostOut := by
  unfold endZoneItem; (try dsimp only); (repeat' split) <;> simp
@[simp] theorem endZoneItem_fieldOut (z : Fin 32) (x : AirState) (s : State) : (endZoneItem z x s).fieldOut = s.fieldOut := by
  unfold endZoneItem; (try dsimp only); (repeat' split) <;> simp
@[simp] theorem endZoneItem_pending (z : Fin 32) (x : AirState) (s : State) : (endZoneItem z x s).pending = s.pending := by
  unfold endZoneItem; (try dsimp only); (repeat' split) <;> simp
@[simp] theorem endZoneItem_hpt_request (z : Fin 32) (x : AirState) (s : State) : (endZoneItem z x s).hpt.request = s.hpt.request := by
  unfold endZoneItem; (try dsimp only); (repeat' split) <;> simp
@[simp] theorem endZoneItem_hpt_reply (z : Fin 32) (x : AirState) (s : State) : (endZoneItem z x s).hpt.reply = s.hpt.reply := by
  unfold endZoneItem; (try dsimp only); (repeat' split) <;> simp
@[simp] theorem endZoneItem_hpt_readPos (z : Fin 32) (x : AirState) (s : State) : (endZoneItem z x s).hpt.readPos = s.hpt.readPos := by
  unfold endZoneItem; (try dsimp only); (repeat' split) <;> simp
@[simp] theorem endZoneItem_hpt_overrun (z : Fin 32) (x : AirState) (s : State) : (endZoneItem z x s).hpt.overrun = s.hpt.overrun := by
  unfold endZoneItem; (try dsimp only); (repeat' split) <;> simp
@[simp] theorem endZoneItem_hpt_phase (z : Fin 32) (x : AirState) (s : State) : (endZoneItem z x s).hpt.phase = s.hpt.phase := by
  unfold endZoneItem; (try dsimp only); (repeat' split) <;> simp
@[simp] theorem endZoneItem_hpt_mask (z : Fin 32) (x : AirState) (s : State) : (endZoneItem z x s).hpt.mask = s.hpt.mask := by
  unfold endZoneItem; (try dsimp only); (repeat' split) <;> simp
@[simp] theorem endZoneItem_hpt_cursorTable (z : Fin 32) (x : AirState) (s : State) : (endZoneItem z x s).hpt.cursorTable = s.hpt.cursorTable := by
  unfold endZoneItem; (try dsimp only); (repeat' split) <;> simp
@[simp] theorem endZoneItem_hpt_cursorIndex (z : Fin 32) (x : AirState) (s : State) : (endZoneItem z x s).hpt.cursorIndex = s.hpt.cursorIndex := by
  unfold endZoneItem; (try dsimp only); (repeat' split) <;> simp

/-! ### insertZoneItem -/

@[simp] theorem insertZoneItem_frt (z : Fin 32) (y : AirState) (b : Bool) (s : State) : (insertZoneItem z y b s).frt = s.frt := by
  unfold insertZoneItem; (try dsimp only); (repeat' split) <;> simp
@[simp] theorem insertZoneItem_znt (z : Fin 32) (y : AirState) (b : Bool) (s : State) : (insertZoneItem z y b s).znt = s.znt := by
  unfold insertZoneItem; (try dsimp only); (repeat' split) <;> simp
@[simp] theorem insertZoneItem_rst (z : Fin 32) (y : AirState) (b : Bool) (s : State) : (insertZoneItem z y b s).rst = s.rst := by
  unfold insertZoneItem; (try dsimp only); (repeat' split) <;> simp
@[simp] theorem insertZoneItem_air (z : Fin 32) (y : AirState) (b : Bool) (s : State) : (insertZoneItem z y b s).air = s.air := by
  unfold insertZoneItem; (try dsimp only); (repeat' split) <;> simp
@[simp] theorem insertZoneItem_hlk (z : Fin 32) (y : AirState) (b : Bool) (s : State) : (insertZoneItem z y b s).hlk = s.hlk := by
  unfold insertZoneItem; (try dsimp only); (repeat' split) <;> simp
@[simp] theorem insertZoneItem_rev (z : Fin 32) (y : AirState) (b : Bool) (s : State) : (insertZoneItem z y b s).rev = s.rev := by
  unfold insertZoneItem; (try dsimp only); (repeat' split) <;> simp
@[simp] theorem insertZoneItem_cal (z : Fin 32) (y : AirState) (b : Bool) (s : State) : (insertZoneItem z y b s).cal = s.cal := by
  unfold insertZoneItem; (try dsimp only); (repeat' split) <;> simp
@[simp] theorem insertZoneItem_flk (z : Fin 32) (y : AirState) (b : Bool) (s : State) : (insertZoneItem z y b s).flk = s.flk := by
  unfold insertZoneItem; (try dsimp only); (repeat' split) <;> simp
@[simp] theorem insertZoneItem_handed (z : Fin 32) (y : AirState) (b : Bool) (s : State) : (insertZoneItem z y b s).handed = s.handed := by
  unfold insertZoneItem; (try dsimp only); (repeat' split) <;> simp
@[simp] theorem insertZoneItem_resetLow (z : Fin 32) (y : AirState) (b : Bool) (s : State) : (insertZoneItem z y b s).resetLow = s.resetLow := by
  unfold insertZoneItem; (try dsimp only); (repeat' split) <;> simp
@[simp] theorem insertZoneItem_hostOut (z : Fin 32) (y : AirState) (b : Bool) (s : State) : (insertZoneItem z y b s).hostOut = s.hostOut := by
  unfold insertZoneItem; (try dsimp only); (repeat' split) <;> simp
@[simp] theorem insertZoneItem_fieldOut (z : Fin 32) (y : AirState) (b : Bool) (s : State) : (insertZoneItem z y b s).fieldOut = s.fieldOut := by
  unfold insertZoneItem; (try dsimp only); (repeat' split) <;> simp
@[simp] theorem insertZoneItem_pending (z : Fin 32) (y : AirState) (b : Bool) (s : State) : (insertZoneItem z y b s).pending = s.pending := by
  unfold insertZoneItem; (try dsimp only); (repeat' split) <;> simp
@[simp] theorem insertZoneItem_hpt_request (z : Fin 32) (y : AirState) (b : Bool) (s : State) : (insertZoneItem z y b s).hpt.request = s.hpt.request := by
  unfold insertZoneItem; (try dsimp only); (repeat' split) <;> simp
@[simp] theorem insertZoneItem_hpt_reply (z : Fin 32) (y : AirState) (b : Bool) (s : State) : (insertZoneItem z y b s).hpt.reply = s.hpt.reply := by
  unfold insertZoneItem; (try dsimp only); (repeat' split) <;> simp
@[simp] theorem insertZoneItem_hpt_readPos (z : Fin 32) (y : AirState) (b : Bool) (s : State) : (insertZoneItem z y b s).hpt.readPos = s.hpt.readPos := by
  unfold insertZoneItem; (try dsimp only); (repeat' split) <;> simp
@[simp] theorem insertZoneItem_hpt_overrun (z : Fin 32) (y : AirState) (b : Bool) (s : State) : (insertZoneItem z y b s).hpt.overrun = s.hpt.overrun := by
  unfold insertZoneItem; (try dsimp only); (repeat' split) <;> simp
@[simp] theorem insertZoneItem_hpt_phase (z : Fin 32) (y : AirState) (b : Bool) (s : State) : (insertZoneItem z y b s).hpt.phase = s.hpt.phase := by
  unfold insertZoneItem; (try dsimp only); (repeat' split) <;> simp
@[simp] theorem insertZoneItem_hpt_mask (z : Fin 32) (y : AirState) (b : Bool) (s : State) : (insertZoneItem z y b s).hpt.mask = s.hpt.mask := by
  unfold insertZoneItem; (try dsimp only); (repeat' split) <;> simp
@[simp] theorem insertZoneItem_hpt_cursorTable (z : Fin 32) (y : AirState) (b : Bool) (s : State) : (insertZoneItem z y b s).hpt.cursorTable = s.hpt.cursorTable := by
  unfold insertZoneItem; (try dsimp only); (repeat' split) <;> simp
@[simp] theorem insertZoneItem_hpt_cursorIndex (z : Fin 32) (y : AirState) (b : Bool) (s : State) : (insertZoneItem z y b s).hpt.cursorIndex = s.hpt.cursorIndex := by
  unfold insertZoneItem; (try dsimp only); (repeat' split) <;> simp

/-! ### handReported -/

@[simp] theorem handReported_frt (z : Fin 32) (x y : AirState) (s : State) : (handReported z x y s).frt = s.frt := by
  unfold handReported; (try dsimp only); (repeat' split) <;> simp
@[simp] theorem handReported_rst (z : Fin 32) (x y : AirState) (s : State) : (handReported z x y s).rst = s.rst := by
  unfold handReported; (try dsimp only); (repeat' split) <;> simp
@[simp] theorem handReported_air (z : Fin 32) (x y : AirState) (s : State) : (handReported z x y s).air = s.air := by
  unfold handReported; (try dsimp only); (repeat' split) <;> simp
@[simp] theorem handReported_rev (z : Fin 32) (x y : AirState) (s : State) : (handReported z x y s).rev = s.rev := by
  unfold handReported; (try dsimp only); (repeat' split) <;> simp
@[simp] theorem handReported_cal (z : Fin 32) (x y : AirState) (s : State) : (handReported z x y s).cal = s.cal := by
  unfold handReported; (try dsimp only); (repeat' split) <;> simp
@[simp] theorem handReported_flk (z : Fin 32) (x y : AirState) (s : State) : (handReported z x y s).flk = s.flk := by
  unfold handReported; (try dsimp only); (repeat' split) <;> simp
@[simp] theorem handReported_handed (z : Fin 32) (x y : AirState) (s : State) : (handReported z x y s).handed = s.handed := by
  unfold handReported; (try dsimp only); (repeat' split) <;> simp
@[simp] theorem handReported_resetLow (z : Fin 32) (x y : AirState) (s : State) : (handReported z x y s).resetLow = s.resetLow := by
  unfold handReported; (try dsimp only); (repeat' split) <;> simp
@[simp] theorem handReported_hostOut (z : Fin 32) (x y : AirState) (s : State) : (handReported z x y s).hostOut = s.hostOut := by
  unfold handReported; (try dsimp only); (repeat' split) <;> simp
@[simp] theorem handReported_fieldOut (z : Fin 32) (x y : AirState) (s : State) : (handReported z x y s).fieldOut = s.fieldOut := by
  unfold handReported; (try dsimp only); (repeat' split) <;> simp
@[simp] theorem handReported_pending (z : Fin 32) (x y : AirState) (s : State) : (handReported z x y s).pending = s.pending := by
  unfold handReported; (try dsimp only); (repeat' split) <;> simp
@[simp] theorem handReported_hpt_request (z : Fin 32) (x y : AirState) (s : State) : (handReported z x y s).hpt.request = s.hpt.request := by
  unfold handReported; (try dsimp only); (repeat' split) <;> simp
@[simp] theorem handReported_hpt_reply (z : Fin 32) (x y : AirState) (s : State) : (handReported z x y s).hpt.reply = s.hpt.reply := by
  unfold handReported; (try dsimp only); (repeat' split) <;> simp
@[simp] theorem handReported_hpt_readPos (z : Fin 32) (x y : AirState) (s : State) : (handReported z x y s).hpt.readPos = s.hpt.readPos := by
  unfold handReported; (try dsimp only); (repeat' split) <;> simp
@[simp] theorem handReported_hpt_overrun (z : Fin 32) (x y : AirState) (s : State) : (handReported z x y s).hpt.overrun = s.hpt.overrun := by
  unfold handReported; (try dsimp only); (repeat' split) <;> simp
@[simp] theorem handReported_hpt_phase (z : Fin 32) (x y : AirState) (s : State) : (handReported z x y s).hpt.phase = s.hpt.phase := by
  unfold handReported; (try dsimp only); (repeat' split) <;> simp
@[simp] theorem handReported_hpt_mask (z : Fin 32) (x y : AirState) (s : State) : (handReported z x y s).hpt.mask = s.hpt.mask := by
  unfold handReported; (try dsimp only); (repeat' split) <;> simp
@[simp] theorem handReported_hpt_cursorTable (z : Fin 32) (x y : AirState) (s : State) : (handReported z x y s).hpt.cursorTable = s.hpt.cursorTable := by
  unfold handReported; (try dsimp only); (repeat' split) <;> simp
@[simp] theorem handReported_hpt_cursorIndex (z : Fin 32) (x y : AirState) (s : State) : (handReported z x y s).hpt.cursorIndex = s.hpt.cursorIndex := by
  unfold handReported; (try dsimp only); (repeat' split) <;> simp

/-! ### updateTestMark -/

@[simp] theorem updateTestMark_frt (z : Fin 32) (s : State) : (updateTestMark z s).frt = s.frt := by
  unfold updateTestMark; (try dsimp only); (repeat' split) <;> simp
@[simp] theorem updateTestMark_znt (z : Fin 32) (s : State) : (updateTestMark z s).znt = s.znt := by
  unfold updateTestMark; (try dsimp only); (repeat' split) <;> simp
@[simp] theorem updateTestMark_rst (z : Fin 32) (s : State) : (updateTestMark z s).rst = s.rst := by
  unfold updateTestMark; (try dsimp only); (repeat' split) <;> simp
@[simp] theorem updateTestMark_air (z : Fin 32) (s : State) : (updateTestMark z s).air = s.air := by
  unfold updateTestMark; (try dsimp only); (repeat' split) <;> simp
@[simp] theorem updateTestMark_hlk (z : Fin 32) (s : State) : (updateTestMark z s).hlk = s.hlk := by
  unfold updateTestMark; (try dsimp only); (repeat' split) <;> simp
@[simp] theorem updateTestMark_rev (z : Fin 32) (s : State) : (updateTestMark z s).rev = s.rev := by
  unfold updateTestMark; (try dsimp only); (repeat' split) <;> simp
@[simp] theorem updateTestMark_cal (z : Fin 32) (s : State) : (updateTestMark z s).cal = s.cal := by
  unfold updateTestMark; (try dsimp only); (repeat' split) <;> simp
@[simp] theorem updateTestMark_flk (z : Fin 32) (s : State) : (updateTestMark z s).flk = s.flk := by
  unfold updateTestMark; (try dsimp only); (repeat' split) <;> simp
@[simp] theorem updateTestMark_handed (z : Fin 32) (s : State) : (updateTestMark z s).handed = s.handed := by
  unfold updateTestMark; (try dsimp only); (repeat' split) <;> simp
@[simp] theorem updateTestMark_resetLow (z : Fin 32) (s : State) : (updateTestMark z s).resetLow = s.resetLow := by
  unfold updateTestMark; (try dsimp only); (repeat' split) <;> simp
@[simp] theorem updateTestMark_hostOut (z : Fin 32) (s : State) : (updateTestMark z s).hostOut = s.hostOut := by
  unfold updateTestMark; (try dsimp only); (repeat' split) <;> simp
@[simp] theorem updateTestMark_fieldOut (z : Fin 32) (s : State) : (updateTestMark z s).fieldOut = s.fieldOut := by
  unfold updateTestMark; (try dsimp only); (repeat' split) <;> simp
@[simp] theorem updateTestMark_pending (z : Fin 32) (s : State) : (updateTestMark z s).pending = s.pending := by
  unfold updateTestMark; (try dsimp only); (repeat' split) <;> simp
@[simp] theorem updateTestMark_hpt_request (z : Fin 32) (s : State) : (updateTestMark z s).hpt.request = s.hpt.request := by
  unfold updateTestMark; (try dsimp only); (repeat' split) <;> simp
@[simp] theorem updateTestMark_hpt_reply (z : Fin 32) (s : State) : (updateTestMark z s).hpt.reply = s.hpt.reply := by
  unfold updateTestMark; (try dsimp only); (repeat' split) <;> simp
@[simp] theorem updateTestMark_hpt_readPos (z : Fin 32) (s : State) : (updateTestMark z s).hpt.readPos = s.hpt.readPos := by
  unfold updateTestMark; (try dsimp only); (repeat' split) <;> simp
@[simp] theorem updateTestMark_hpt_overrun (z : Fin 32) (s : State) : (updateTestMark z s).hpt.overrun = s.hpt.overrun := by
  unfold updateTestMark; (try dsimp only); (repeat' split) <;> simp
@[simp] theorem updateTestMark_hpt_phase (z : Fin 32) (s : State) : (updateTestMark z s).hpt.phase = s.hpt.phase := by
  unfold updateTestMark; (try dsimp only); (repeat' split) <;> simp
@[simp] theorem updateTestMark_hpt_mask (z : Fin 32) (s : State) : (updateTestMark z s).hpt.mask = s.hpt.mask := by
  unfold updateTestMark; (try dsimp only); (repeat' split) <;> simp
@[simp] theorem updateTestMark_hpt_cursorTable (z : Fin 32) (s : State) : (updateTestMark z s).hpt.cursorTable = s.hpt.cursorTable := by
  unfold updateTestMark; (try dsimp only); (repeat' split) <;> simp
@[simp] theorem updateTestMark_hpt_cursorIndex (z : Fin 32) (s : State) : (updateTestMark z s).hpt.cursorIndex = s.hpt.cursorIndex := by
  unfold updateTestMark; (try dsimp only); (repeat' split) <;> simp

/-! ### handReal -/

@[simp] theorem handReal_frt (z : Fin 32) (x y : AirState) (s : State) : (handReal z x y s).frt = s.frt := by
  unfold handReal; (try dsimp only); (repeat' split) <;> simp
@[simp] theorem handReal_air (z : Fin 32) (x y : AirState) (s : State) : (handReal z x y s).air = s.air := by
  unfold handReal; (try dsimp only); (repeat' split) <;> simp
@[simp] theorem handReal_cal (z : Fin 32) (x y : AirState) (s : State) : (handReal z x y s).cal = s.cal := by
  unfold handReal; (try dsimp only); (repeat' split) <;> simp
@[simp] theorem handReal_flk (z : Fin 32) (x y : AirState) (s : State) : (handReal z x y s).flk = s.flk := by
  unfold handReal; (try dsimp only); (repeat' split) <;> simp
@[simp] theorem handReal_handed (z : Fin 32) (x y : AirState) (s : State) : (handReal z x y s).handed = s.handed := by
  unfold handReal; (try dsimp only); (repeat' split) <;> simp
@[simp] theorem handReal_resetLow (z : Fin 32) (x y : AirState) (s : State) : (handReal z x y s).resetLow = s.resetLow := by
  unfold handReal; (try dsimp only); (repeat' split) <;> simp
@[simp] theorem handReal_hostOut (z : Fin 32) (x y : AirState) (s : State) : (handReal z x y s).hostOut = s.hostOut := by
  unfold handReal; (try dsimp only); (repeat' split) <;> simp
@[simp] theorem handReal_fieldOut (z : Fin 32) (x y : AirState) (s : State) : (handReal z x y s).fieldOut = s.fieldOut := by
  unfold handReal; (try dsimp only); (repeat' split) <;> simp
@[simp] theorem handReal_pending (z : Fin 32) (x y : AirState) (s : State) : (handReal z x y s).pending = s.pending := by
  unfold handReal; (try dsimp only); (repeat' split) <;> simp
@[simp] theorem handReal_hpt_request (z : Fin 32) (x y : AirState) (s : State) : (handReal z x y s).hpt.request = s.hpt.request := by
  unfold handReal; (try dsimp only); (repeat' split) <;> simp
@[simp] theorem handReal_hpt_reply (z : Fin 32) (x y : AirState) (s : State) : (handReal z x y s).hpt.reply = s.hpt.reply := by
  unfold handReal; (try dsimp only); (repeat' split) <;> simp
@[simp] theorem handReal_hpt_readPos (z : Fin 32) (x y : AirState) (s : State) : (handReal z x y s).hpt.readPos = s.hpt.readPos := by
  unfold handReal; (try dsimp only); (repeat' split) <;> simp
@[simp] theorem handReal_hpt_overrun (z : Fin 32) (x y : AirState) (s : State) : (handReal z x y s).hpt.overrun = s.hpt.overrun := by
  unfold handReal; (try dsimp only); (repeat' split) <;> simp
@[simp] theorem handReal_hpt_phase (z : Fin 32) (x y : AirState) (s : State) : (handReal z x y s).hpt.phase = s.hpt.phase := by
  unfold handReal; (try dsimp only); (repeat' split) <;> simp
@[simp] theorem handReal_hpt_mask (z : Fin 32) (x y : AirState) (s : State) : (handReal z x y s).hpt.mask = s.hpt.mask := by
  unfold handReal; (try dsimp only); (repeat' split) <;> simp
@[simp] theorem handReal_hpt_cursorTable (z : Fin 32) (x y : AirState) (s : State) : (handReal z x y s).hpt.cursorTable = s.hpt.cursorTable := by
  unfold handReal; (try dsimp only); (repeat' split) <;> simp
@[simp] theorem handReal_hpt_cursorIndex (z : Fin 32) (x y : AirState) (s : State) : (handReal z x y s).hpt.cursorIndex = s.hpt.cursorIndex := by
  unfold handReal; (try dsimp only); (repeat' split) <;> simp

/-! ### recomputeZone -/

@[simp] theorem recomputeZone_frt (z : Fin 32) (s : State) : (recomputeZone z s).frt = s.frt := by
  unfold recomputeZone; (try dsimp only); (repeat' split) <;> simp
@[simp] theorem recomputeZone_air (z : Fin 32) (s : State) : (recomputeZone z s).air = s.air := by
  unfold recomputeZone; (try dsimp only); (repeat' split) <;> simp
@[simp] theorem recomputeZone_cal (z : Fin 32) (s : State) : (recomputeZone z s).cal = s.cal := by
  unfold recomputeZone; (try dsimp only); (repeat' split) <;> simp
@[simp] theorem recomputeZone_flk (z : Fin 32) (s : State) : (recomputeZone z s).flk = s.flk := by
  unfold recomputeZone; (try dsimp only); (repeat' split) <;> simp
@[simp] theorem recomputeZone_handed (z : Fin 32) (s : State) : (recomputeZone z s).handed = s.handed := by
  unfold recomputeZone; (try dsimp only); (repeat' split) <;> simp
@[simp] theorem recomputeZone_resetLow (z : Fin 32) (s : State) : (recomputeZone z s).resetLow = s.resetLow := by
  unfold recomputeZone; (try dsimp only); (repeat' split) <;> simp
@[simp] theorem recomputeZone_hostOut (z : Fin 32) (s : State) : (recomputeZone z s).hostOut = s.hostOut := by
  unfold recomputeZone; (try dsimp only); (repeat' split) <;> simp
@[simp] theorem recomputeZone_fieldOut (z : Fin 32) (s : State) : (recomputeZone z s).fieldOut = s.fieldOut := by
  unfold recomputeZone; (try dsimp only); (repeat' split) <;> simp
@[simp] theorem recomputeZone_pending (z : Fin 32) (s : State) : (recomputeZone z s).pending = s.pending := by
  unfold recomputeZone; (try dsimp only); (repeat' split) <;> simp
@[simp] theorem recomputeZone_hpt_request (z : Fin 32) (s : State) : (recomputeZone z s).hpt.request = s.hpt.request := by
  unfold recomputeZone; (try dsimp only); (repeat' split) <;> simp
@[simp] theorem recomputeZone_hpt_reply (z : Fin 32) (s : State) : (recomputeZone z s).hpt.reply = s.hpt.reply := by
  unfold recomputeZone; (try dsimp only); (repeat' split) <;> simp
@[simp] theorem recomputeZone_hpt_readPos (z : Fin 32) (s : State) : (recomputeZone z s).hpt.readPos = s.hpt.readPos := by
  unfold recomputeZone; (try dsimp only); (repeat' split) <;> simp
@[simp] theorem recomputeZone_hpt_overrun (z : Fin 32) (s : State) : (recomputeZone z s).hpt.overrun = s.hpt.overrun := by
  unfold recomputeZone; (try dsimp only); (repeat' split) <;> simp
@[simp] theorem recomputeZone_hpt_phase (z : Fin 32) (s : State) : (recomputeZone z s).hpt.phase = s.hpt.phase := by
  unfold recomputeZone; (try dsimp only); (repeat' split) <;> simp
@[simp] theorem recomputeZone_hpt_mask (z : Fin 32) (s : State) : (recomputeZone z s).hpt.mask = s.hpt.mask := by
  unfold recomputeZone; (try dsimp only); (repeat' split) <;> simp
@[simp] theorem recomputeZone_hpt_cursorTable (z : Fin 32) (s : State) : (recomputeZone z s).hpt.cursorTable = s.hpt.cursorTable := by
  unfold recomputeZone; (try dsimp only); (repeat' split) <;> simp
@[simp] theorem recomputeZone_hpt_cursorIndex (z : Fin 32) (s : State) : (recomputeZone z s).hpt.cursorIndex = s.hpt.cursorIndex := by
  unfold recomputeZone; (try dsimp only); (repeat' split) <;> simp

/-! ### recomputeZone? -/

@[simp] theorem recomputeZoneOpt_frt (z : Option (Fin 32)) (s : State) : (recomputeZone? z s).frt = s.frt := by
  unfold recomputeZone?; (try dsimp only); (repeat' split) <;> simp
@[simp] theorem recomputeZoneOpt_air (z : Option (Fin 32)) (s : State) : (recomputeZone? z s).air = s.air := by
  unfold recomputeZone?; (try dsimp only); (repeat' split) <;> simp
@[simp] theorem recomputeZoneOpt_cal (z : Option (Fin 32)) (s : State) : (recomputeZone? z s).cal = s.cal := by
  unfold recomputeZone?; (try dsimp only); (repeat' split) <;> simp
@[simp] theorem recomputeZoneOpt_flk (z : Option (Fin 32)) (s : State) : (recomputeZone? z s).flk = s.flk := by
  unfold recomputeZone?; (try dsimp only); (repeat' split) <;> simp
@[simp] theorem recomputeZoneOpt_handed (z : Option (Fin 32)) (s : State) : (recomputeZone? z s).handed = s.handed := by
  unfold recomputeZone?; (try dsimp only); (repeat' split) <;> simp
@[simp] theorem recomputeZoneOpt_resetLow (z : Option (Fin 32)) (s : State) : (recomputeZone? z s).resetLow = s.resetLow := by
  unfold recomputeZone?; (try dsimp only); (repeat' split) <;> simp
@[simp] theorem recomputeZoneOpt_hostOut (z : Option (Fin 32)) (s : State) : (recomputeZone? z s).hostOut = s.hostOut := by
  unfold recomputeZone?; (try dsimp only); (repeat' split) <;> simp
@[simp] theorem recomputeZoneOpt_fieldOut (z : Option (Fin 32)) (s : State) : (recomputeZone? z s).fieldOut = s.fieldOut := by
  unfold recomputeZone?; (try dsimp only); (repeat' split) <;> simp
@[simp] theorem recomputeZoneOpt_pending (z : Option (Fin 32)) (s : State) : (recomputeZone? z s).pending = s.pending := by
  unfold recomputeZone?; (try dsimp only); (repeat' split) <;> simp
@[simp] theorem recomputeZoneOpt_hpt_request (z : Option (Fin 32)) (s : State) : (recomputeZone? z s).hpt.request = s.hpt.request := by
  unfold recomputeZone?; (try dsimp only); (repeat' split) <;> simp
@[simp] theorem recomputeZoneOpt_hpt_reply (z : Option (Fin 32)) (s : State) : (recomputeZone? z s).hpt.reply = s.hpt.reply := by
  unfold recomputeZone?; (try dsimp only); (repeat' split) <;> simp
@[simp] theorem recomputeZoneOpt_hpt_readPos (z : Option (Fin 32)) (s : State) : (recomputeZone? z s).hpt.readPos = s.hpt.readPos := by
  unfold recomputeZone?; (try dsimp only); (repeat' split) <;> simp
@[simp] theorem recomputeZoneOpt_hpt_overrun (z : Option (Fin 32)) (s : State) : (recomputeZone? z s).hpt.overrun = s.hpt.overrun := by
  unfold recomputeZone?; (try dsimp only); (repeat' split) <;> simp
@[simp] theorem recomputeZoneOpt_hpt_phase (z : Option (Fin 32)) (s : State) : (recomputeZone? z s).hpt.phase = s.hpt.phase := by
  unfold recomputeZone?; (try dsimp only); (repeat' split) <;> simp
@[simp] theorem recomputeZoneOpt_hpt_mask (z : Option (Fin 32)) (s : State) : (recomputeZone? z s).hpt.mask = s.hpt.mask := by
  unfold recomputeZone?; (try dsimp only); (repeat' split) <;> simp
@[simp] theorem recomputeZoneOpt_hpt_cursorTable (z : Option (Fin 32)) (s : State) : (recomputeZone? z s).hpt.cursorTable = s.hpt.cursorTable := by
  unfold recomputeZone?; (try dsimp only); (repeat' split) <;> simp
@[simp] theorem recomputeZoneOpt_hpt_cursorIndex (z : Option (Fin 32)) (s : State) : (recomputeZone? z s).hpt.cursorIndex = s.hpt.cursorIndex := by
  unfold recomputeZone?; (try dsimp only); (repeat' split) <;> simp

/-! ### rebindZone -/

@[simp] theorem rebindZone_frt (z : Option (Fin 32)) (s : State) : (rebindZone z s).frt = s.frt := by
  unfold rebindZone; (try dsimp only); (repeat' split) <;> simp
@[simp] theorem rebindZone_air (z : Option (Fin 32)) (s : State) : (rebindZone z s).air = s.air := by
  unfold rebindZone; (try dsimp only); (repeat' split) <;> simp
@[simp] theorem rebindZone_cal (z : Option (Fin 32)) (s : State) : (rebindZone z s).cal = s.cal := by
  unfold rebindZone; (try dsimp only); (repeat' split) <;> simp
@[simp] theorem rebindZone_flk (z : Option (Fin 32)) (s : State) : (rebindZone z s).flk = s.flk := by
  unfold rebindZone; (try dsimp only); (repeat' split) <;> simp
@[simp] theorem rebindZone_handed (z : Option (Fin 32)) (s : State) : (rebindZone z s).handed = s.handed := by
  unfold rebindZone; (try dsimp only); (repeat' split) <;> simp
@[simp] theorem rebindZone_resetLow (z : Option (Fin 32)) (s : State) : (rebindZone z s).resetLow = s.resetLow := by
  unfold rebindZone; (try dsimp only); (repeat' split) <;> simp
@[simp] theorem rebindZone_hostOut (z : Option (Fin 32)) (s : State) : (rebindZone z s).hostOut = s.hostOut := by
  unfold rebindZone; (try dsimp only); (repeat' split) <;> simp
@[simp] theorem rebindZone_fieldOut (z : Option (Fin 32)) (s : State) : (rebindZone z s).fieldOut = s.fieldOut := by
  unfold rebindZone; (try dsimp only); (repeat' split) <;> simp
@[simp] theorem rebindZone_pending (z : Option (Fin 32)) (s : State) : (rebindZone z s).pending = s.pending := by
  unfold rebindZone; (try dsimp only); (repeat' split) <;> simp
@[simp] theorem rebindZone_hpt_request (z : Option (Fin 32)) (s : State) : (rebindZone z s).hpt.request = s.hpt.request := by
  unfold rebindZone; (try dsimp only); (repeat' split) <;> simp
@[simp] theorem rebindZone_hpt_reply (z : Option (Fin 32)) (s : State) : (rebindZone z s).hpt.reply = s.hpt.reply := by
  unfold rebindZone; (try dsimp only); (repeat' split) <;> simp
@[simp] theorem rebindZone_hpt_readPos (z : Option (Fin 32)) (s : State) : (rebindZone z s).hpt.readPos = s.hpt.readPos := by
  unfold rebindZone; (try dsimp only); (repeat' split) <;> simp
@[simp] theorem rebindZone_hpt_overrun (z : Option (Fin 32)) (s : State) : (rebindZone z s).hpt.overrun = s.hpt.overrun := by
  unfold rebindZone; (try dsimp only); (repeat' split) <;> simp
@[simp] theorem rebindZone_hpt_phase (z : Option (Fin 32)) (s : State) : (rebindZone z s).hpt.phase = s.hpt.phase := by
  unfold rebindZone; (try dsimp only); (repeat' split) <;> simp
@[simp] theorem rebindZone_hpt_mask (z : Option (Fin 32)) (s : State) : (rebindZone z s).hpt.mask = s.hpt.mask := by
  unfold rebindZone; (try dsimp only); (repeat' split) <;> simp
@[simp] theorem rebindZone_hpt_cursorTable (z : Option (Fin 32)) (s : State) : (rebindZone z s).hpt.cursorTable = s.hpt.cursorTable := by
  unfold rebindZone; (try dsimp only); (repeat' split) <;> simp
@[simp] theorem rebindZone_hpt_cursorIndex (z : Option (Fin 32)) (s : State) : (rebindZone z s).hpt.cursorIndex = s.hpt.cursorIndex := by
  unfold rebindZone; (try dsimp only); (repeat' split) <;> simp

/-! ### changeChannel -/

@[simp] theorem changeChannel_frt (c : Fin 32) (f : Channel → Channel) (s : State) : (changeChannel c f s).frt = s.frt := by
  unfold changeChannel; (try dsimp only); (repeat' split) <;> simp
@[simp] theorem changeChannel_cal (c : Fin 32) (f : Channel → Channel) (s : State) : (changeChannel c f s).cal = s.cal := by
  unfold changeChannel; (try dsimp only); (repeat' split) <;> simp
@[simp] theorem changeChannel_flk (c : Fin 32) (f : Channel → Channel) (s : State) : (changeChannel c f s).flk = s.flk := by
  unfold changeChannel; (try dsimp only); (repeat' split) <;> simp
@[simp] theorem changeChannel_handed (c : Fin 32) (f : Channel → Channel) (s : State) : (changeChannel c f s).handed = s.handed := by
  unfold changeChannel; (try dsimp only); (repeat' split) <;> simp
@[simp] theorem changeChannel_resetLow (c : Fin 32) (f : Channel → Channel) (s : State) : (changeChannel c f s).resetLow = s.resetLow := by
  unfold changeChannel; (try dsimp only); (repeat' split) <;> simp
@[simp] theorem changeChannel_hostOut (c : Fin 32) (f : Channel → Channel) (s : State) : (changeChannel c f s).hostOut = s.hostOut := by
  unfold changeChannel; (try dsimp only); (repeat' split) <;> simp
@[simp] theorem changeChannel_fieldOut (c : Fin 32) (f : Channel → Channel) (s : State) : (changeChannel c f s).fieldOut = s.fieldOut := by
  unfold changeChannel; (try dsimp only); (repeat' split) <;> simp
@[simp] theorem changeChannel_pending (c : Fin 32) (f : Channel → Channel) (s : State) : (changeChannel c f s).pending = s.pending := by
  unfold changeChannel; (try dsimp only); (repeat' split) <;> simp
@[simp] theorem changeChannel_hpt_request (c : Fin 32) (f : Channel → Channel) (s : State) : (changeChannel c f s).hpt.request = s.hpt.request := by
  unfold changeChannel; (try dsimp only); (repeat' split) <;> simp
@[simp] theorem changeChannel_hpt_reply (c : Fin 32) (f : Channel → Channel) (s : State) : (changeChannel c f s).hpt.reply = s.hpt.reply := by
  unfold changeChannel; (try dsimp only); (repeat' split) <;> simp
@[simp] theorem changeChannel_hpt_readPos (c : Fin 32) (f : Channel → Channel) (s : State) : (changeChannel c f s).hpt.readPos = s.hpt.readPos := by
  unfold changeChannel; (try dsimp only); (repeat' split) <;> simp
@[simp] theorem changeChannel_hpt_overrun (c : Fin 32) (f : Channel → Channel) (s : State) : (changeChannel c f s).hpt.overrun = s.hpt.overrun := by
  unfold changeChannel; (try dsimp only); (repeat' split) <;> simp
@[simp] theorem changeChannel_hpt_phase (c : Fin 32) (f : Channel → Channel) (s : State) : (changeChannel c f s).hpt.phase = s.hpt.phase := by
  unfold changeChannel; (try dsimp only); (repeat' split) <;> simp
@[simp] theorem changeChannel_hpt_mask (c : Fin 32) (f : Channel → Channel) (s : State) : (changeChannel c f s).hpt.mask = s.hpt.mask := by
  unfold changeChannel; (try dsimp only); (repeat' split) <;> simp
@[simp] theorem changeChannel_hpt_cursorTable (c : Fin 32) (f : Channel → Channel) (s : State) : (changeChannel c f s).hpt.cursorTable = s.hpt.cursorTable := by
  unfold changeChannel; (try dsimp only); (repeat' split) <;> simp
@[simp] theorem changeChannel_hpt_cursorIndex (c : Fin 32) (f : Channel → Channel) (s : State) : (changeChannel c f s).hpt.cursorIndex = s.hpt.cursorIndex := by
  unfold changeChannel; (try dsimp only); (repeat' split) <;> simp

/-! ### abortConfirm -/

@[simp] theorem abortConfirm_frt (c : Fin 32) (s : State) : (abortConfirm c s).frt = s.frt := by
  unfold abortConfirm; (try dsimp only); (repeat' split) <;> simp
@[simp] theorem abortConfirm_znt (c : Fin 32) (s : State) : (abortConfirm c s).znt = s.znt := by
  unfold abortConfirm; (try dsimp only); (repeat' split) <;> simp
@[simp] theorem abortConfirm_atq (c : Fin 32) (s : State) : (abortConfirm c s).atq = s.atq := by
  unfold abortConfirm; (try dsimp only); (repeat' split) <;> simp
@[simp] theorem abortConfirm_rst (c : Fin 32) (s : State) : (abortConfirm c s).rst = s.rst := by
  unfold abortConfirm; (try dsimp only); (repeat' split) <;> simp
@[simp] theorem abortConfirm_hlk (c : Fin 32) (s : State) : (abortConfirm c s).hlk = s.hlk := by
  unfold abortConfirm; (try dsimp only); (repeat' split) <;> simp
@[simp] theorem abortConfirm_rev (c : Fin 32) (s : State) : (abortConfirm c s).rev = s.rev := by
  unfold abortConfirm; (try dsimp only); (repeat' split) <;> simp
@[simp] theorem abortConfirm_cal (c : Fin 32) (s : State) : (abortConfirm c s).cal = s.cal := by
  unfold abortConfirm; (try dsimp only); (repeat' split) <;> simp
@[simp] theorem abortConfirm_flk (c : Fin 32) (s : State) : (abortConfirm c s).flk = s.flk := by
  unfold abortConfirm; (try dsimp only); (repeat' split) <;> simp
@[simp] theorem abortConfirm_hpt (c : Fin 32) (s : State) : (abortConfirm c s).hpt = s.hpt := by
  unfold abortConfirm; (try dsimp only); (repeat' split) <;> simp
@[simp] theorem abortConfirm_handed (c : Fin 32) (s : State) : (abortConfirm c s).handed = s.handed := by
  unfold abortConfirm; (try dsimp only); (repeat' split) <;> simp
@[simp] theorem abortConfirm_resetLow (c : Fin 32) (s : State) : (abortConfirm c s).resetLow = s.resetLow := by
  unfold abortConfirm; (try dsimp only); (repeat' split) <;> simp
@[simp] theorem abortConfirm_hostOut (c : Fin 32) (s : State) : (abortConfirm c s).hostOut = s.hostOut := by
  unfold abortConfirm; (try dsimp only); (repeat' split) <;> simp
@[simp] theorem abortConfirm_fieldOut (c : Fin 32) (s : State) : (abortConfirm c s).fieldOut = s.fieldOut := by
  unfold abortConfirm; (try dsimp only); (repeat' split) <;> simp
@[simp] theorem abortConfirm_pending (c : Fin 32) (s : State) : (abortConfirm c s).pending = s.pending := by
  unfold abortConfirm; (try dsimp only); (repeat' split) <;> simp

/-! ### dropReading -/

@[simp] theorem dropReading_frt (c : Fin 32) (s : State) : (dropReading c s).frt = s.frt := by
  unfold dropReading; (try dsimp only); (repeat' split) <;> simp
@[simp] theorem dropReading_znt (c : Fin 32) (s : State) : (dropReading c s).znt = s.znt := by
  unfold dropReading; (try dsimp only); (repeat' split) <;> simp
@[simp] theorem dropReading_atq (c : Fin 32) (s : State) : (dropReading c s).atq = s.atq := by
  unfold dropReading; (try dsimp only); (repeat' split) <;> simp
@[simp] theorem dropReading_rst (c : Fin 32) (s : State) : (dropReading c s).rst = s.rst := by
  unfold dropReading; (try dsimp only); (repeat' split) <;> simp
@[simp] theorem dropReading_hlk (c : Fin 32) (s : State) : (dropReading c s).hlk = s.hlk := by
  unfold dropReading; (try dsimp only); (repeat' split) <;> simp
@[simp] theorem dropReading_rev (c : Fin 32) (s : State) : (dropReading c s).rev = s.rev := by
  unfold dropReading; (try dsimp only); (repeat' split) <;> simp
@[simp] theorem dropReading_cal (c : Fin 32) (s : State) : (dropReading c s).cal = s.cal := by
  unfold dropReading; (try dsimp only); (repeat' split) <;> simp
@[simp] theorem dropReading_flk (c : Fin 32) (s : State) : (dropReading c s).flk = s.flk := by
  unfold dropReading; (try dsimp only); (repeat' split) <;> simp
@[simp] theorem dropReading_hpt (c : Fin 32) (s : State) : (dropReading c s).hpt = s.hpt := by
  unfold dropReading; (try dsimp only); (repeat' split) <;> simp
@[simp] theorem dropReading_handed (c : Fin 32) (s : State) : (dropReading c s).handed = s.handed := by
  unfold dropReading; (try dsimp only); (repeat' split) <;> simp
@[simp] theorem dropReading_resetLow (c : Fin 32) (s : State) : (dropReading c s).resetLow = s.resetLow := by
  unfold dropReading; (try dsimp only); (repeat' split) <;> simp
@[simp] theorem dropReading_hostOut (c : Fin 32) (s : State) : (dropReading c s).hostOut = s.hostOut := by
  unfold dropReading; (try dsimp only); (repeat' split) <;> simp
@[simp] theorem dropReading_fieldOut (c : Fin 32) (s : State) : (dropReading c s).fieldOut = s.fieldOut := by
  unfold dropReading; (try dsimp only); (repeat' split) <;> simp
@[simp] theorem dropReading_pending (c : Fin 32) (s : State) : (dropReading c s).pending = s.pending := by
  unfold dropReading; (try dsimp only); (repeat' split) <;> simp

/-! ### appendConfirm -/

@[simp] theorem appendConfirm_frt (c : Fin 32) (s : State) : (appendConfirm c s).frt = s.frt := by
  unfold appendConfirm; (try dsimp only); (repeat' split) <;> simp
@[simp] theorem appendConfirm_znt (c : Fin 32) (s : State) : (appendConfirm c s).znt = s.znt := by
  unfold appendConfirm; (try dsimp only); (repeat' split) <;> simp
@[simp] theorem appendConfirm_atq (c : Fin 32) (s : State) : (appendConfirm c s).atq = s.atq := by
  unfold appendConfirm; (try dsimp only); (repeat' split) <;> simp
@[simp] theorem appendConfirm_rst (c : Fin 32) (s : State) : (appendConfirm c s).rst = s.rst := by
  unfold appendConfirm; (try dsimp only); (repeat' split) <;> simp
@[simp] theorem appendConfirm_hlk (c : Fin 32) (s : State) : (appendConfirm c s).hlk = s.hlk := by
  unfold appendConfirm; (try dsimp only); (repeat' split) <;> simp
@[simp] theorem appendConfirm_rev (c : Fin 32) (s : State) : (appendConfirm c s).rev = s.rev := by
  unfold appendConfirm; (try dsimp only); (repeat' split) <;> simp
@[simp] theorem appendConfirm_cal (c : Fin 32) (s : State) : (appendConfirm c s).cal = s.cal := by
  unfold appendConfirm; (try dsimp only); (repeat' split) <;> simp
@[simp] theorem appendConfirm_flk (c : Fin 32) (s : State) : (appendConfirm c s).flk = s.flk := by
  unfold appendConfirm; (try dsimp only); (repeat' split) <;> simp
@[simp] theorem appendConfirm_hpt (c : Fin 32) (s : State) : (appendConfirm c s).hpt = s.hpt := by
  unfold appendConfirm; (try dsimp only); (repeat' split) <;> simp
@[simp] theorem appendConfirm_handed (c : Fin 32) (s : State) : (appendConfirm c s).handed = s.handed := by
  unfold appendConfirm; (try dsimp only); (repeat' split) <;> simp
@[simp] theorem appendConfirm_resetLow (c : Fin 32) (s : State) : (appendConfirm c s).resetLow = s.resetLow := by
  unfold appendConfirm; (try dsimp only); (repeat' split) <;> simp
@[simp] theorem appendConfirm_hostOut (c : Fin 32) (s : State) : (appendConfirm c s).hostOut = s.hostOut := by
  unfold appendConfirm; (try dsimp only); (repeat' split) <;> simp
@[simp] theorem appendConfirm_fieldOut (c : Fin 32) (s : State) : (appendConfirm c s).fieldOut = s.fieldOut := by
  unfold appendConfirm; (try dsimp only); (repeat' split) <;> simp
@[simp] theorem appendConfirm_pending (c : Fin 32) (s : State) : (appendConfirm c s).pending = s.pending := by
  unfold appendConfirm; (try dsimp only); (repeat' split) <;> simp

/-! ### judgeRun -/

@[simp] theorem judgeRun_frt (c : Fin 32) (s : State) : (judgeRun c s).frt = s.frt := by
  unfold judgeRun; (try dsimp only); (repeat' split) <;> simp
@[simp] theorem judgeRun_cal (c : Fin 32) (s : State) : (judgeRun c s).cal = s.cal := by
  unfold judgeRun; (try dsimp only); (repeat' split) <;> simp
@[simp] theorem judgeRun_flk (c : Fin 32) (s : State) : (judgeRun c s).flk = s.flk := by
  unfold judgeRun; (try dsimp only); (repeat' split) <;> simp
@[simp] theorem judgeRun_handed (c : Fin 32) (s : State) : (judgeRun c s).handed = s.handed := by
  unfold judgeRun; (try dsimp only); (repeat' split) <;> simp
@[simp] theorem judgeRun_resetLow (c : Fin 32) (s : State) : (judgeRun c s).resetLow = s.resetLow := by
  unfold judgeRun; (try dsimp only); (repeat' split) <;> simp
@[simp] theorem judgeRun_hostOut (c : Fin 32) (s : State) : (judgeRun c s).hostOut = s.hostOut := by
  unfold judgeRun; (try dsimp only); (repeat' split) <;> simp
@[simp] theorem judgeRun_fieldOut (c : Fin 32) (s : State) : (judgeRun c s).fieldOut = s.fieldOut := by
  unfold judgeRun; (try dsimp only); (repeat' split) <;> simp
@[simp] theorem judgeRun_pending (c : Fin 32) (s : State) : (judgeRun c s).pending = s.pending := by
  unfold judgeRun; (try dsimp only); (repeat' split) <;> simp
@[simp] theorem judgeRun_hpt_request (c : Fin 32) (s : State) : (judgeRun c s).hpt.request = s.hpt.request := by
  unfold judgeRun; (try dsimp only); (repeat' split) <;> simp
@[simp] theorem judgeRun_hpt_reply (c : Fin 32) (s : State) : (judgeRun c s).hpt.reply = s.hpt.reply := by
  unfold judgeRun; (try dsimp only); (repeat' split) <;> simp
@[simp] theorem judgeRun_hpt_readPos (c : Fin 32) (s : State) : (judgeRun c s).hpt.readPos = s.hpt.readPos := by
  unfold judgeRun; (try dsimp only); (repeat' split) <;> simp
@[simp] theorem judgeRun_hpt_overrun (c : Fin 32) (s : State) : (judgeRun c s).hpt.overrun = s.hpt.overrun := by
  unfold judgeRun; (try dsimp only); (repeat' split) <;> simp
@[simp] theorem judgeRun_hpt_phase (c : Fin 32) (s : State) : (judgeRun c s).hpt.phase = s.hpt.phase := by
  unfold judgeRun; (try dsimp only); (repeat' split) <;> simp
@[simp] theorem judgeRun_hpt_mask (c : Fin 32) (s : State) : (judgeRun c s).hpt.mask = s.hpt.mask := by
  unfold judgeRun; (try dsimp only); (repeat' split) <;> simp
@[simp] theorem judgeRun_hpt_cursorTable (c : Fin 32) (s : State) : (judgeRun c s).hpt.cursorTable = s.hpt.cursorTable := by
  unfold judgeRun; (try dsimp only); (repeat' split) <;> simp
@[simp] theorem judgeRun_hpt_cursorIndex (c : Fin 32) (s : State) : (judgeRun c s).hpt.cursorIndex = s.hpt.cursorIndex := by
  unfold judgeRun; (try dsimp only); (repeat' split) <;> simp

/-! ### judgeWarmup -/

@[simp] theorem judgeWarmup_frt (c : Fin 32) (s : State) : (judgeWarmup c s).frt = s.frt := by
  unfold judgeWarmup; (try dsimp only); (repeat' split) <;> simp
@[simp] theorem judgeWarmup_cal (c : Fin 32) (s : State) : (judgeWarmup c s).cal = s.cal := by
  unfold judgeWarmup; (try dsimp only); (repeat' split) <;> simp
@[simp] theorem judgeWarmup_flk (c : Fin 32) (s : State) : (judgeWarmup c s).flk = s.flk := by
  unfold judgeWarmup; (try dsimp only); (repeat' split) <;> simp
@[simp] theorem judgeWarmup_handed (c : Fin 32) (s : State) : (judgeWarmup c s).handed = s.handed := by
  unfold judgeWarmup; (try dsimp only); (repeat' split) <;> simp
@[simp] theorem judgeWarmup_resetLow (c : Fin 32) (s : State) : (judgeWarmup c s).resetLow = s.resetLow := by
  unfold judgeWarmup; (try dsimp only); (repeat' split) <;> simp
@[simp] theorem judgeWarmup_hostOut (c : Fin 32) (s : State) : (judgeWarmup c s).hostOut = s.hostOut := by
  unfold judgeWarmup; (try dsimp only); (repeat' split) <;> simp
@[simp] theorem judgeWarmup_fieldOut (c : Fin 32) (s : State) : (judgeWarmup c s).fieldOut = s.fieldOut := by
  unfold judgeWarmup; (try dsimp only); (repeat' split) <;> simp
@[simp] theorem judgeWarmup_pending (c : Fin 32) (s : State) : (judgeWarmup c s).pending = s.pending := by
  unfold judgeWarmup; (try dsimp only); (repeat' split) <;> simp
@[simp] theorem judgeWarmup_hpt_request (c : Fin 32) (s : State) : (judgeWarmup c s).hpt.request = s.hpt.request := by
  unfold judgeWarmup; (try dsimp only); (repeat' split) <;> simp
@[simp] theorem judgeWarmup_hpt_reply (c : Fin 32) (s : State) : (judgeWarmup c s).hpt.reply = s.hpt.reply := by
  unfold judgeWarmup; (try dsimp only); (repeat' split) <;> simp
@[simp] theorem judgeWarmup_hpt_readPos (c : Fin 32) (s : State) : (judgeWarmup c s).hpt.readPos = s.hpt.readPos := by
  unfold judgeWarmup; (try dsimp only); (repeat' split) <;> simp
@[simp] theorem judgeWarmup_hpt_overrun (c : Fin 32) (s : State) : (judgeWarmup c s).hpt.overrun = s.hpt.overrun := by
  unfold judgeWarmup; (try dsimp only); (repeat' split) <;> simp
@[simp] theorem judgeWarmup_hpt_phase (c : Fin 32) (s : State) : (judgeWarmup c s).hpt.phase = s.hpt.phase := by
  unfold judgeWarmup; (try dsimp only); (repeat' split) <;> simp
@[simp] theorem judgeWarmup_hpt_mask (c : Fin 32) (s : State) : (judgeWarmup c s).hpt.mask = s.hpt.mask := by
  unfold judgeWarmup; (try dsimp only); (repeat' split) <;> simp
@[simp] theorem judgeWarmup_hpt_cursorTable (c : Fin 32) (s : State) : (judgeWarmup c s).hpt.cursorTable = s.hpt.cursorTable := by
  unfold judgeWarmup; (try dsimp only); (repeat' split) <;> simp
@[simp] theorem judgeWarmup_hpt_cursorIndex (c : Fin 32) (s : State) : (judgeWarmup c s).hpt.cursorIndex = s.hpt.cursorIndex := by
  unfold judgeWarmup; (try dsimp only); (repeat' split) <;> simp

/-! ### judgeFaultClear -/

@[simp] theorem judgeFaultClear_frt (c : Fin 32) (s : State) : (judgeFaultClear c s).frt = s.frt := by
  unfold judgeFaultClear; (try dsimp only); (repeat' split) <;> simp
@[simp] theorem judgeFaultClear_cal (c : Fin 32) (s : State) : (judgeFaultClear c s).cal = s.cal := by
  unfold judgeFaultClear; (try dsimp only); (repeat' split) <;> simp
@[simp] theorem judgeFaultClear_flk (c : Fin 32) (s : State) : (judgeFaultClear c s).flk = s.flk := by
  unfold judgeFaultClear; (try dsimp only); (repeat' split) <;> simp
@[simp] theorem judgeFaultClear_handed (c : Fin 32) (s : State) : (judgeFaultClear c s).handed = s.handed := by
  unfold judgeFaultClear; (try dsimp only); (repeat' split) <;> simp
@[simp] theorem judgeFaultClear_resetLow (c : Fin 32) (s : State) : (judgeFaultClear c s).resetLow = s.resetLow := by
  unfold judgeFaultClear; (try dsimp only); (repeat' split) <;> simp
@[simp] theorem judgeFaultClear_hostOut (c : Fin 32) (s : State) : (judgeFaultClear c s).hostOut = s.hostOut := by
  unfold judgeFaultClear; (try dsimp only); (repeat' split) <;> simp
@[simp] theorem judgeFaultClear_fieldOut (c : Fin 32) (s : State) : (judgeFaultClear c s).fieldOut = s.fieldOut := by
  unfold judgeFaultClear; (try dsimp only); (repeat' split) <;> simp
@[simp] theorem judgeFaultClear_pending (c : Fin 32) (s : State) : (judgeFaultClear c s).pending = s.pending := by
  unfold judgeFaultClear; (try dsimp only); (repeat' split) <;> simp
@[simp] theorem judgeFaultClear_hpt_request (c : Fin 32) (s : State) : (judgeFaultClear c s).hpt.request = s.hpt.request := by
  unfold judgeFaultClear; (try dsimp only); (repeat' split) <;> simp
@[simp] theorem judgeFaultClear_hpt_reply (c : Fin 32) (s : State) : (judgeFaultClear c s).hpt.reply = s.hpt.reply := by
  unfold judgeFaultClear; (try dsimp only); (repeat' split) <;> simp
@[simp] theorem judgeFaultClear_hpt_readPos (c : Fin 32) (s : State) : (judgeFaultClear c s).hpt.readPos = s.hpt.readPos := by
  unfold judgeFaultClear; (try dsimp only); (repeat' split) <;> simp
@[simp] theorem judgeFaultClear_hpt_overrun (c : Fin 32) (s : State) : (judgeFaultClear c s).hpt.overrun = s.hpt.overrun := by
  unfold judgeFaultClear; (try dsimp only); (repeat' split) <;> simp
@[simp] theorem judgeFaultClear_hpt_phase (c : Fin 32) (s : State) : (judgeFaultClear c s).hpt.phase = s.hpt.phase := by
  unfold judgeFaultClear; (try dsimp only); (repeat' split) <;> simp
@[simp] theorem judgeFaultClear_hpt_mask (c : Fin 32) (s : State) : (judgeFaultClear c s).hpt.mask = s.hpt.mask := by
  unfold judgeFaultClear; (try dsimp only); (repeat' split) <;> simp
@[simp] theorem judgeFaultClear_hpt_cursorTable (c : Fin 32) (s : State) : (judgeFaultClear c s).hpt.cursorTable = s.hpt.cursorTable := by
  unfold judgeFaultClear; (try dsimp only); (repeat' split) <;> simp
@[simp] theorem judgeFaultClear_hpt_cursorIndex (c : Fin 32) (s : State) : (judgeFaultClear c s).hpt.cursorIndex = s.hpt.cursorIndex := by
  unfold judgeFaultClear; (try dsimp only); (repeat' split) <;> simp

/-! ### takeRail -/

@[simp] theorem takeRail_frt (c : Fin 32) (s : State) : (takeRail c s).frt = s.frt := by
  unfold takeRail; (try dsimp only); (repeat' split) <;> simp
@[simp] theorem takeRail_cal (c : Fin 32) (s : State) : (takeRail c s).cal = s.cal := by
  unfold takeRail; (try dsimp only); (repeat' split) <;> simp
@[simp] theorem takeRail_flk (c : Fin 32) (s : State) : (takeRail c s).flk = s.flk := by
  unfold takeRail; (try dsimp only); (repeat' split) <;> simp
@[simp] theorem takeRail_handed (c : Fin 32) (s : State) : (takeRail c s).handed = s.handed := by
  unfold takeRail; (try dsimp only); (repeat' split) <;> simp
@[simp] theorem takeRail_resetLow (c : Fin 32) (s : State) : (takeRail c s).resetLow = s.resetLow := by
  unfold takeRail; (try dsimp only); (repeat' split) <;> simp
@[simp] theorem takeRail_hostOut (c : Fin 32) (s : State) : (takeRail c s).hostOut = s.hostOut := by
  unfold takeRail; (try dsimp only); (repeat' split) <;> simp
@[simp] theorem takeRail_fieldOut (c : Fin 32) (s : State) : (takeRail c s).fieldOut = s.fieldOut := by
  unfold takeRail; (try dsimp only); (repeat' split) <;> simp
@[simp] theorem takeRail_pending (c : Fin 32) (s : State) : (takeRail c s).pending = s.pending := by
  unfold takeRail; (try dsimp only); (repeat' split) <;> simp
@[simp] theorem takeRail_hpt_request (c : Fin 32) (s : State) : (takeRail c s).hpt.request = s.hpt.request := by
  unfold takeRail; (try dsimp only); (repeat' split) <;> simp
@[simp] theorem takeRail_hpt_reply (c : Fin 32) (s : State) : (takeRail c s).hpt.reply = s.hpt.reply := by
  unfold takeRail; (try dsimp only); (repeat' split) <;> simp
@[simp] theorem takeRail_hpt_readPos (c : Fin 32) (s : State) : (takeRail c s).hpt.readPos = s.hpt.readPos := by
  unfold takeRail; (try dsimp only); (repeat' split) <;> simp
@[simp] theorem takeRail_hpt_overrun (c : Fin 32) (s : State) : (takeRail c s).hpt.overrun = s.hpt.overrun := by
  unfold takeRail; (try dsimp only); (repeat' split) <;> simp
@[simp] theorem takeRail_hpt_phase (c : Fin 32) (s : State) : (takeRail c s).hpt.phase = s.hpt.phase := by
  unfold takeRail; (try dsimp only); (repeat' split) <;> simp
@[simp] theorem takeRail_hpt_mask (c : Fin 32) (s : State) : (takeRail c s).hpt.mask = s.hpt.mask := by
  unfold takeRail; (try dsimp only); (repeat' split) <;> simp
@[simp] theorem takeRail_hpt_cursorTable (c : Fin 32) (s : State) : (takeRail c s).hpt.cursorTable = s.hpt.cursorTable := by
  unfold takeRail; (try dsimp only); (repeat' split) <;> simp
@[simp] theorem takeRail_hpt_cursorIndex (c : Fin 32) (s : State) : (takeRail c s).hpt.cursorIndex = s.hpt.cursorIndex := by
  unfold takeRail; (try dsimp only); (repeat' split) <;> simp

/-! ### judgeTest -/

@[simp] theorem judgeTest_frt (c : Fin 32) (s : State) : (judgeTest c s).frt = s.frt := by
  unfold judgeTest; (try dsimp only); (repeat' split) <;> simp
@[simp] theorem judgeTest_cal (c : Fin 32) (s : State) : (judgeTest c s).cal = s.cal := by
  unfold judgeTest; (try dsimp only); (repeat' split) <;> simp
@[simp] theorem judgeTest_flk (c : Fin 32) (s : State) : (judgeTest c s).flk = s.flk := by
  unfold judgeTest; (try dsimp only); (repeat' split) <;> simp
@[simp] theorem judgeTest_handed (c : Fin 32) (s : State) : (judgeTest c s).handed = s.handed := by
  unfold judgeTest; (try dsimp only); (repeat' split) <;> simp
@[simp] theorem judgeTest_resetLow (c : Fin 32) (s : State) : (judgeTest c s).resetLow = s.resetLow := by
  unfold judgeTest; (try dsimp only); (repeat' split) <;> simp
@[simp] theorem judgeTest_hostOut (c : Fin 32) (s : State) : (judgeTest c s).hostOut = s.hostOut := by
  unfold judgeTest; (try dsimp only); (repeat' split) <;> simp
@[simp] theorem judgeTest_fieldOut (c : Fin 32) (s : State) : (judgeTest c s).fieldOut = s.fieldOut := by
  unfold judgeTest; (try dsimp only); (repeat' split) <;> simp
@[simp] theorem judgeTest_pending (c : Fin 32) (s : State) : (judgeTest c s).pending = s.pending := by
  unfold judgeTest; (try dsimp only); (repeat' split) <;> simp
@[simp] theorem judgeTest_hpt_request (c : Fin 32) (s : State) : (judgeTest c s).hpt.request = s.hpt.request := by
  unfold judgeTest; (try dsimp only); (repeat' split) <;> simp
@[simp] theorem judgeTest_hpt_reply (c : Fin 32) (s : State) : (judgeTest c s).hpt.reply = s.hpt.reply := by
  unfold judgeTest; (try dsimp only); (repeat' split) <;> simp
@[simp] theorem judgeTest_hpt_readPos (c : Fin 32) (s : State) : (judgeTest c s).hpt.readPos = s.hpt.readPos := by
  unfold judgeTest; (try dsimp only); (repeat' split) <;> simp
@[simp] theorem judgeTest_hpt_overrun (c : Fin 32) (s : State) : (judgeTest c s).hpt.overrun = s.hpt.overrun := by
  unfold judgeTest; (try dsimp only); (repeat' split) <;> simp
@[simp] theorem judgeTest_hpt_phase (c : Fin 32) (s : State) : (judgeTest c s).hpt.phase = s.hpt.phase := by
  unfold judgeTest; (try dsimp only); (repeat' split) <;> simp
@[simp] theorem judgeTest_hpt_mask (c : Fin 32) (s : State) : (judgeTest c s).hpt.mask = s.hpt.mask := by
  unfold judgeTest; (try dsimp only); (repeat' split) <;> simp
@[simp] theorem judgeTest_hpt_cursorTable (c : Fin 32) (s : State) : (judgeTest c s).hpt.cursorTable = s.hpt.cursorTable := by
  unfold judgeTest; (try dsimp only); (repeat' split) <;> simp
@[simp] theorem judgeTest_hpt_cursorIndex (c : Fin 32) (s : State) : (judgeTest c s).hpt.cursorIndex = s.hpt.cursorIndex := by
  unfold judgeTest; (try dsimp only); (repeat' split) <;> simp

/-! ### countTest -/

@[simp] theorem countTest_frt (c : Fin 32) (s : State) : (countTest c s).frt = s.frt := by
  unfold countTest; (try dsimp only); (repeat' split) <;> simp
@[simp] theorem countTest_cal (c : Fin 32) (s : State) : (countTest c s).cal = s.cal := by
  unfold countTest; (try dsimp only); (repeat' split) <;> simp
@[simp] theorem countTest_flk (c : Fin 32) (s : State) : (countTest c s).flk = s.flk := by
  unfold countTest; (try dsimp only); (repeat' split) <;> simp
@[simp] theorem countTest_handed (c : Fin 32) (s : State) : (countTest c s).handed = s.handed := by
  unfold countTest; (try dsimp only); (repeat' split) <;> simp
@[simp] theorem countTest_resetLow (c : Fin 32) (s : State) : (countTest c s).resetLow = s.resetLow := by
  unfold countTest; (try dsimp only); (repeat' split) <;> simp
@[simp] theorem countTest_hostOut (c : Fin 32) (s : State) : (countTest c s).hostOut = s.hostOut := by
  unfold countTest; (try dsimp only); (repeat' split) <;> simp
@[simp] theorem countTest_fieldOut (c : Fin 32) (s : State) : (countTest c s).fieldOut = s.fieldOut := by
  unfold countTest; (try dsimp only); (repeat' split) <;> simp
@[simp] theorem countTest_pending (c : Fin 32) (s : State) : (countTest c s).pending = s.pending := by
  unfold countTest; (try dsimp only); (repeat' split) <;> simp
@[simp] theorem countTest_hpt_request (c : Fin 32) (s : State) : (countTest c s).hpt.request = s.hpt.request := by
  unfold countTest; (try dsimp only); (repeat' split) <;> simp
@[simp] theorem countTest_hpt_reply (c : Fin 32) (s : State) : (countTest c s).hpt.reply = s.hpt.reply := by
  unfold countTest; (try dsimp only); (repeat' split) <;> simp
@[simp] theorem countTest_hpt_readPos (c : Fin 32) (s : State) : (countTest c s).hpt.readPos = s.hpt.readPos := by
  unfold countTest; (try dsimp only); (repeat' split) <;> simp
@[simp] theorem countTest_hpt_overrun (c : Fin 32) (s : State) : (countTest c s).hpt.overrun = s.hpt.overrun := by
  unfold countTest; (try dsimp only); (repeat' split) <;> simp
@[simp] theorem countTest_hpt_phase (c : Fin 32) (s : State) : (countTest c s).hpt.phase = s.hpt.phase := by
  unfold countTest; (try dsimp only); (repeat' split) <;> simp
@[simp] theorem countTest_hpt_mask (c : Fin 32) (s : State) : (countTest c s).hpt.mask = s.hpt.mask := by
  unfold countTest; (try dsimp only); (repeat' split) <;> simp
@[simp] theorem countTest_hpt_cursorTable (c : Fin 32) (s : State) : (countTest c s).hpt.cursorTable = s.hpt.cursorTable := by
  unfold countTest; (try dsimp only); (repeat' split) <;> simp
@[simp] theorem countTest_hpt_cursorIndex (c : Fin 32) (s : State) : (countTest c s).hpt.cursorIndex = s.hpt.cursorIndex := by
  unfold countTest; (try dsimp only); (repeat' split) <;> simp

/-! ### turnOff -/

@[simp] theorem turnOff_frt (c : Fin 32) (s : State) : (turnOff c s).frt = s.frt := by
  unfold turnOff; (try dsimp only); (repeat' split) <;> simp
@[simp] theorem turnOff_cal (c : Fin 32) (s : State) : (turnOff c s).cal = s.cal := by
  unfold turnOff; (try dsimp only); (repeat' split) <;> simp
@[simp] theorem turnOff_flk (c : Fin 32) (s : State) : (turnOff c s).flk = s.flk := by
  unfold turnOff; (try dsimp only); (repeat' split) <;> simp
@[simp] theorem turnOff_handed (c : Fin 32) (s : State) : (turnOff c s).handed = s.handed := by
  unfold turnOff; (try dsimp only); (repeat' split) <;> simp
@[simp] theorem turnOff_resetLow (c : Fin 32) (s : State) : (turnOff c s).resetLow = s.resetLow := by
  unfold turnOff; (try dsimp only); (repeat' split) <;> simp
@[simp] theorem turnOff_hostOut (c : Fin 32) (s : State) : (turnOff c s).hostOut = s.hostOut := by
  unfold turnOff; (try dsimp only); (repeat' split) <;> simp
@[simp] theorem turnOff_fieldOut (c : Fin 32) (s : State) : (turnOff c s).fieldOut = s.fieldOut := by
  unfold turnOff; (try dsimp only); (repeat' split) <;> simp
@[simp] theorem turnOff_pending (c : Fin 32) (s : State) : (turnOff c s).pending = s.pending := by
  unfold turnOff; (try dsimp only); (repeat' split) <;> simp
@[simp] theorem turnOff_hpt_request (c : Fin 32) (s : State) : (turnOff c s).hpt.request = s.hpt.request := by
  unfold turnOff; (try dsimp only); (repeat' split) <;> simp
@[simp] theorem turnOff_hpt_reply (c : Fin 32) (s : State) : (turnOff c s).hpt.reply = s.hpt.reply := by
  unfold turnOff; (try dsimp only); (repeat' split) <;> simp
@[simp] theorem turnOff_hpt_readPos (c : Fin 32) (s : State) : (turnOff c s).hpt.readPos = s.hpt.readPos := by
  unfold turnOff; (try dsimp only); (repeat' split) <;> simp
@[simp] theorem turnOff_hpt_overrun (c : Fin 32) (s : State) : (turnOff c s).hpt.overrun = s.hpt.overrun := by
  unfold turnOff; (try dsimp only); (repeat' split) <;> simp
@[simp] theorem turnOff_hpt_phase (c : Fin 32) (s : State) : (turnOff c s).hpt.phase = s.hpt.phase := by
  unfold turnOff; (try dsimp only); (repeat' split) <;> simp
@[simp] theorem turnOff_hpt_mask (c : Fin 32) (s : State) : (turnOff c s).hpt.mask = s.hpt.mask := by
  unfold turnOff; (try dsimp only); (repeat' split) <;> simp
@[simp] theorem turnOff_hpt_cursorTable (c : Fin 32) (s : State) : (turnOff c s).hpt.cursorTable = s.hpt.cursorTable := by
  unfold turnOff; (try dsimp only); (repeat' split) <;> simp
@[simp] theorem turnOff_hpt_cursorIndex (c : Fin 32) (s : State) : (turnOff c s).hpt.cursorIndex = s.hpt.cursorIndex := by
  unfold turnOff; (try dsimp only); (repeat' split) <;> simp

/-! ### takeGood -/

@[simp] theorem takeGood_frt (g : Bool) (c : Fin 32) (v : Byte) (s : State) : (takeGood g c v s).frt = s.frt := by
  unfold takeGood; (try dsimp only); (repeat' split) <;> simp
@[simp] theorem takeGood_cal (g : Bool) (c : Fin 32) (v : Byte) (s : State) : (takeGood g c v s).cal = s.cal := by
  unfold takeGood; (try dsimp only); (repeat' split) <;> simp
@[simp] theorem takeGood_flk (g : Bool) (c : Fin 32) (v : Byte) (s : State) : (takeGood g c v s).flk = s.flk := by
  unfold takeGood; (try dsimp only); (repeat' split) <;> simp
@[simp] theorem takeGood_handed (g : Bool) (c : Fin 32) (v : Byte) (s : State) : (takeGood g c v s).handed = s.handed := by
  unfold takeGood; (try dsimp only); (repeat' split) <;> simp
@[simp] theorem takeGood_resetLow (g : Bool) (c : Fin 32) (v : Byte) (s : State) : (takeGood g c v s).resetLow = s.resetLow := by
  unfold takeGood; (try dsimp only); (repeat' split) <;> simp
@[simp] theorem takeGood_hostOut (g : Bool) (c : Fin 32) (v : Byte) (s : State) : (takeGood g c v s).hostOut = s.hostOut := by
  unfold takeGood; (try dsimp only); (repeat' split) <;> simp
@[simp] theorem takeGood_fieldOut (g : Bool) (c : Fin 32) (v : Byte) (s : State) : (takeGood g c v s).fieldOut = s.fieldOut := by
  unfold takeGood; (try dsimp only); (repeat' split) <;> simp
@[simp] theorem takeGood_pending (g : Bool) (c : Fin 32) (v : Byte) (s : State) : (takeGood g c v s).pending = s.pending := by
  unfold takeGood; (try dsimp only); (repeat' split) <;> simp
@[simp] theorem takeGood_hpt_request (g : Bool) (c : Fin 32) (v : Byte) (s : State) : (takeGood g c v s).hpt.request = s.hpt.request := by
  unfold takeGood; (try dsimp only); (repeat' split) <;> simp
@[simp] theorem takeGood_hpt_reply (g : Bool) (c : Fin 32) (v : Byte) (s : State) : (takeGood g c v s).hpt.reply = s.hpt.reply := by
  unfold takeGood; (try dsimp only); (repeat' split) <;> simp
@[simp] theorem takeGood_hpt_readPos (g : Bool) (c : Fin 32) (v : Byte) (s : State) : (takeGood g c v s).hpt.readPos = s.hpt.readPos := by
  unfold takeGood; (try dsimp only); (repeat' split) <;> simp
@[simp] theorem takeGood_hpt_overrun (g : Bool) (c : Fin 32) (v : Byte) (s : State) : (takeGood g c v s).hpt.overrun = s.hpt.overrun := by
  unfold takeGood; (try dsimp only); (repeat' split) <;> simp
@[simp] theorem takeGood_hpt_phase (g : Bool) (c : Fin 32) (v : Byte) (s : State) : (takeGood g c v s).hpt.phase = s.hpt.phase := by
  unfold takeGood; (try dsimp only); (repeat' split) <;> simp
@[simp] theorem takeGood_hpt_mask (g : Bool) (c : Fin 32) (v : Byte) (s : State) : (takeGood g c v s).hpt.mask = s.hpt.mask := by
  unfold takeGood; (try dsimp only); (repeat' split) <;> simp
@[simp] theorem takeGood_hpt_cursorTable (g : Bool) (c : Fin 32) (v : Byte) (s : State) : (takeGood g c v s).hpt.cursorTable = s.hpt.cursorTable := by
  unfold takeGood; (try dsimp only); (repeat' split) <;> simp
@[simp] theorem takeGood_hpt_cursorIndex (g : Bool) (c : Fin 32) (v : Byte) (s : State) : (takeGood g c v s).hpt.cursorIndex = s.hpt.cursorIndex := by
  unfold takeGood; (try dsimp only); (repeat' split) <;> simp

/-! ### takeReading -/

@[simp] theorem takeReading_frt (g : Bool) (c : Fin 32) (v : Byte) (s : State) : (takeReading g c v s).frt = s.frt := by
  unfold takeReading; (try dsimp only); (repeat' split) <;> simp
@[simp] theorem takeReading_cal (g : Bool) (c : Fin 32) (v : Byte) (s : State) : (takeReading g c v s).cal = s.cal := by
  unfold takeReading; (try dsimp only); (repeat' split) <;> simp
@[simp] theorem takeReading_flk (g : Bool) (c : Fin 32) (v : Byte) (s : State) : (takeReading g c v s).flk = s.flk := by
  unfold takeReading; (try dsimp only); (repeat' split) <;> simp
@[simp] theorem takeReading_handed (g : Bool) (c : Fin 32) (v : Byte) (s : State) : (takeReading g c v s).handed = s.handed := by
  unfold takeReading; (try dsimp only); (repeat' split) <;> simp
@[simp] theorem takeReading_resetLow (g : Bool) (c : Fin 32) (v : Byte) (s : State) : (takeReading g c v s).resetLow = s.resetLow := by
  unfold takeReading; (try dsimp only); (repeat' split) <;> simp
@[simp] theorem takeReading_hostOut (g : Bool) (c : Fin 32) (v : Byte) (s : State) : (takeReading g c v s).hostOut = s.hostOut := by
  unfold takeReading; (try dsimp only); (repeat' split) <;> simp
@[simp] theorem takeReading_fieldOut (g : Bool) (c : Fin 32) (v : Byte) (s : State) : (takeReading g c v s).fieldOut = s.fieldOut := by
  unfold takeReading; (try dsimp only); (repeat' split) <;> simp
@[simp] theorem takeReading_pending (g : Bool) (c : Fin 32) (v : Byte) (s : State) : (takeReading g c v s).pending = s.pending := by
  unfold takeReading; (try dsimp only); (repeat' split) <;> simp
@[simp] theorem takeReading_hpt_request (g : Bool) (c : Fin 32) (v : Byte) (s : State) : (takeReading g c v s).hpt.request = s.hpt.request := by
  unfold takeReading; (try dsimp only); (repeat' split) <;> simp
@[simp] theorem takeReading_hpt_reply (g : Bool) (c : Fin 32) (v : Byte) (s : State) : (takeReading g c v s).hpt.reply = s.hpt.reply := by
  unfold takeReading; (try dsimp only); (repeat' split) <;> simp
@[simp] theorem takeReading_hpt_readPos (g : Bool) (c : Fin 32) (v : Byte) (s : State) : (takeReading g c v s).hpt.readPos = s.hpt.readPos := by
  unfold takeReading; (try dsimp only); (repeat' split) <;> simp
@[simp] theorem takeReading_hpt_overrun (g : Bool) (c : Fin 32) (v : Byte) (s : State) : (takeReading g c v s).hpt.overrun = s.hpt.overrun := by
  unfold takeReading; (try dsimp only); (repeat' split) <;> simp
@[simp] theorem takeReading_hpt_phase (g : Bool) (c : Fin 32) (v : Byte) (s : State) : (takeReading g c v s).hpt.phase = s.hpt.phase := by
  unfold takeReading; (try dsimp only); (repeat' split) <;> simp
@[simp] theorem takeReading_hpt_mask (g : Bool) (c : Fin 32) (v : Byte) (s : State) : (takeReading g c v s).hpt.mask = s.hpt.mask := by
  unfold takeReading; (try dsimp only); (repeat' split) <;> simp
@[simp] theorem takeReading_hpt_cursorTable (g : Bool) (c : Fin 32) (v : Byte) (s : State) : (takeReading g c v s).hpt.cursorTable = s.hpt.cursorTable := by
  unfold takeReading; (try dsimp only); (repeat' split) <;> simp
@[simp] theorem takeReading_hpt_cursorIndex (g : Bool) (c : Fin 32) (v : Byte) (s : State) : (takeReading g c v s).hpt.cursorIndex = s.hpt.cursorIndex := by
  unfold takeReading; (try dsimp only); (repeat' split) <;> simp

end Sys2Proof.Machine
end

