-- ==== Sys2Proof/Laws/Port.lean ====
section
/-! SUPPORT. The host port: when a request written whole is taken, waits or is turned away, and when it is refused for its
phase. -/

namespace Sys2Proof.Machine

open Sys2Proof.Safety (Ready answered taken)

@[simp] theorem taken_frt (s : State) : (taken s).frt = s.frt := rfl
@[simp] theorem taken_znt (s : State) : (taken s).znt = s.znt := rfl
@[simp] theorem taken_atq (s : State) : (taken s).atq = s.atq := rfl
@[simp] theorem taken_rst (s : State) : (taken s).rst = s.rst := rfl
@[simp] theorem taken_air (s : State) : (taken s).air = s.air := rfl
@[simp] theorem taken_rev (s : State) : (taken s).rev = s.rev := rfl
@[simp] theorem taken_cal (s : State) : (taken s).cal = s.cal := rfl
@[simp] theorem taken_flk (s : State) : (taken s).flk = s.flk := rfl
@[simp] theorem taken_handed (s : State) : (taken s).handed = s.handed := rfl
@[simp] theorem taken_resetLow (s : State) : (taken s).resetLow = s.resetLow := rfl
@[simp] theorem taken_hostOut (s : State) : (taken s).hostOut = s.hostOut := rfl
@[simp] theorem taken_fieldOut (s : State) : (taken s).fieldOut = s.fieldOut := rfl
@[simp] theorem taken_pending (s : State) : (taken s).pending = s.pending := rfl

/-- The port answers a taken request: the state is the owner's with the reply in the reply buffer. -/
theorem reply_taken (status : ReplyStatus) (data : List Byte) (s : State) :
    (taken s).reply status data = answered status data s := rfl

/-- A request written whole to a port that is ready is taken and carried out where the phase admits it, and answered
WRONG_PHASE where it does not (R176 to R178). -/
theorem submit_ready {i : Instr} {code : Byte} {args : List Byte} {row : Config.RequestRow} {s : State} (hr : Ready s)
    (he : encodeRequest i = some (code, args)) (hc : requestRow? code = some row) :
    unlessReset (submit i) s = if admits row.phases s.hpt.phase then carryOut i (taken s) else answered .wrongPhase [] s := by
  obtain ⟨h1, h2, h3⟩ := hr
  simp only [unlessReset, h1, submit, he, h2, h3, takeRequest, hc, taken, State.refuse, Bool.false_eq_true, if_false,
    List.isEmpty_nil, if_true]
  split <;> simp_all [State.reply, answered, heardHost, setRequest]

/-- A request written whole while a COMPLETE request waits is discarded with overrun (R176). -/
theorem submit_complete {i : Instr} {code : Byte} {args : List Byte} {s : State} (hr : s.resetLow = false)
    (he : encodeRequest i = some (code, args)) (hb : s.hpt.request.isComplete = true) :
    unlessReset (submit i) s = { s with hpt := { s.hpt with overrun := true } } := by
  simp [unlessReset, hr, submit, he, hb, setOverrun]

/-- A request written whole while a reply waits becomes the COMPLETE request (R176). -/
theorem submit_waits {i : Instr} {code : Byte} {args : List Byte} {s : State} (hr : s.resetLow = false)
    (he : encodeRequest i = some (code, args)) (hb : s.hpt.request.isComplete = false) (hp : s.hpt.reply ≠ []) :
    unlessReset (submit i) s = { s with hpt := { s.hpt with request := .complete code args } } := by
  have : s.hpt.reply.isEmpty = false := by cases h : s.hpt.reply <;> simp_all
  simp [unlessReset, hr, submit, he, hb, this, setRequest]

set_option maxRecDepth 100000 in
/-- Every request is executed by being written whole at the host port (log 2). -/
theorem exec_request {i : Instr} {code : Byte} {args : List Byte} (he : encodeRequest i = some (code, args)) (s : State) :
    exec i s = .next (unlessReset (submit i) s) := by
  cases i
  all_goals first | (cases he; done) | rfl

end Sys2Proof.Machine
end

