-- ==== Sys2Proof/Laws/PerInstr.lean ====
section
/-! SUPPORT. For every command: a request is written with a code of the request table and as many argument bytes as the table
fixes for it (R176, R186). -/

namespace Sys2Proof.Laws.RequestCode

/-- A command that is a request has a row in the request table, and its argument bytes are as many as the row says. -/
def Statement (i : Instr) : Prop :=
  ∀ (code : Byte) (args : List Byte), encodeRequest i = some (code, args) →
    ∃ row, requestRow? code = some row ∧ row.argBytes = args.length

/-- A request's row is read off its code. -/
theorem of_row {i : Instr} {code : Byte} {args : List Byte} (row : Config.RequestRow) (h : encodeRequest i = some (code, args))
    (hc : requestRow? code = some row) (hl : row.argBytes = args.length) : Statement i := by
  intro c l hcl
  rw [h] at hcl
  cases hcl
  exact ⟨row, hc, hl⟩

/-- A command that is no request is not written at all. -/
theorem of_none {i : Instr} (h : encodeRequest i = none) : Statement i := by
  intro c l hcl
  rw [h] at hcl
  cases hcl

theorem powerOn : Statement .powerOn :=
  of_none rfl

theorem resetLine : Statement .resetLine :=
  of_none rfl

theorem resetRelease : Statement .resetRelease :=
  of_none rfl

theorem hostPortWrite (code : Bool) (byte : Byte) : Statement (.hostPortWrite code byte) :=
  of_none rfl

theorem replyRead : Statement .replyRead :=
  of_none rfl

theorem statusByteRead : Statement .statusByteRead :=
  of_none rfl

theorem unknownRequestCode (code : Byte) : Statement (.unknownRequestCode code) :=
  of_none rfl

theorem setFrame (total tagEnd haulStart haulEnd callStart callEnd : Word16) (sync : Byte) : Statement (.setFrame total
    tagEnd haulStart haulEnd callStart callEnd sync) :=
  of_row _ rfl rfl rfl

theorem setWindows (tagEnd haulStart haulEnd callStart callEnd : Word16) : Statement (.setWindows tagEnd haulStart haulEnd
    callStart callEnd) :=
  of_row _ rfl rfl rfl

theorem setMark (slot : Word16) : Statement (.setMark slot) :=
  of_row _ rfl rfl rfl

theorem setCadence (bit edge : Byte) : Statement (.setCadence bit edge) :=
  of_row _ rfl rfl rfl

theorem readFrame : Statement .readFrame :=
  of_row _ rfl rfl rfl

theorem setZone (zone kind limit level refuge line : Byte) : Statement (.setZone zone kind limit level refuge line) :=
  of_row _ rfl rfl rfl

theorem setVehicleLimit (zone limit : Byte) : Statement (.setVehicleLimit zone limit) :=
  of_row _ rfl rfl rfl

theorem readZone (zone : Byte) : Statement (.readZone zone) :=
  of_row _ rfl rfl rfl

theorem nextItem : Statement .nextItem :=
  of_row _ rfl rfl rfl

theorem ackItem (kind : Byte) (subject : BitVec 24) : Statement (.ackItem kind subject) :=
  of_row _ rfl rfl rfl

theorem enrol (tag : Tag) (role escortSlot escortGen : Byte) : Statement (.enrol tag role escortSlot escortGen) :=
  of_row _ rfl rfl rfl

theorem retire (slot gen : Byte) : Statement (.retire slot gen) :=
  of_row _ rfl rfl rfl

theorem setEscort (slot gen escortSlot escortGen : Byte) : Statement (.setEscort slot gen escortSlot escortGen) :=
  of_row _ rfl rfl rfl

theorem findTag (tag : Tag) : Statement (.findTag tag) :=
  of_row _ rfl rfl rfl

theorem readPerson (slot gen : Byte) : Statement (.readPerson slot gen) :=
  of_row _ rfl rfl rfl

theorem setWalk (walkStep interval : Byte) : Statement (.setWalk walkStep interval) :=
  of_row _ rfl rfl rfl

theorem clearExposure (slot gen : Byte) : Statement (.clearExposure slot gen) :=
  of_row _ rfl rfl rfl

theorem setChannel (channel gas zone caution danger trip persistence hysteresis enabled : Byte) : Statement (.setChannel
    channel gas zone caution danger trip persistence hysteresis enabled) :=
  of_row _ rfl rfl rfl

theorem setLevels (channel caution danger : Byte) : Statement (.setLevels channel caution danger) :=
  of_row _ rfl rfl rfl

theorem channelOn (channel : Byte) : Statement (.channelOn channel) :=
  of_row _ rfl rfl rfl

theorem channelOff (channel : Byte) : Statement (.channelOff channel) :=
  of_row _ rfl rfl rfl

theorem airControl (mode groups : Byte) : Statement (.airControl mode groups) :=
  of_row _ rfl rfl rfl

theorem testChannel (channel forced sweeps : Byte) : Statement (.testChannel channel forced sweeps) :=
  of_row _ rfl rfl rfl

theorem cancelTest (channel : Byte) : Statement (.cancelTest channel) :=
  of_row _ rfl rfl rfl

theorem resetTrip (channel : Byte) : Statement (.resetTrip channel) :=
  of_row _ rfl rfl rfl

theorem readChannel (channel : Byte) : Statement (.readChannel channel) :=
  of_row _ rfl rfl rfl

theorem registerTruck (number : Word16) (kind : Byte) : Statement (.registerTruck number kind) :=
  of_row _ rfl rfl rfl

theorem retireTruck (number : Word16) : Statement (.retireTruck number) :=
  of_row _ rfl rfl rfl

theorem forceOrder (number : Word16) (order : Byte) : Statement (.forceOrder number order) :=
  of_row _ rfl rfl rfl

theorem releaseOrder (number : Word16) : Statement (.releaseOrder number) :=
  of_row _ rfl rfl rfl

theorem readTruck (number : Word16) : Statement (.readTruck number) :=
  of_row _ rfl rfl rfl

theorem resume : Statement .resume :=
  of_row _ rfl rfl rfl

theorem setRefuge (refuge zone capacity : Byte) : Statement (.setRefuge refuge zone capacity) :=
  of_row _ rfl rfl rfl

theorem evacuate (zones : BitVec 32) : Statement (.evacuate zones) :=
  of_row _ rfl rfl rfl

theorem lift (zones : BitVec 32) : Statement (.lift zones) :=
  of_row _ rfl rfl rfl

theorem readRefuge (refuge : Byte) : Statement (.readRefuge refuge) :=
  of_row _ rfl rfl rfl

theorem answer (slot gen : Byte) : Statement (.answer slot gen) :=
  of_row _ rfl rfl rfl

theorem endCall (slot gen : Byte) : Statement (.endCall slot gen) :=
  of_row _ rfl rfl rfl

theorem page (slot gen : Byte) : Statement (.page slot gen) :=
  of_row _ rfl rfl rfl

theorem cancelPage (slot gen : Byte) : Statement (.cancelPage slot gen) :=
  of_row _ rfl rfl rfl

theorem setDistrict (quiet missing outHold portal mode : Byte) (exposure : Word16) (lapse close silence escort refugeSilence
    routineWait emergencyWait : Byte) : Statement (.setDistrict quiet missing outHold portal mode exposure lapse close
    silence escort refugeSilence routineWait emergencyWait) :=
  of_row _ rfl rfl rfl

theorem start : Statement .start :=
  of_row _ rfl rfl rfl

theorem resetPart : Statement .resetPart :=
  of_row _ rfl rfl rfl

theorem status : Statement .status :=
  of_row _ rfl rfl rfl

theorem setCursor (table index : Byte) : Statement (.setCursor table index) :=
  of_row _ rfl rfl rfl

theorem readNext : Statement .readNext :=
  of_row _ rfl rfl rfl

theorem clearNotice (notices : Byte) : Statement (.clearNotice notices) :=
  of_row _ rfl rfl rfl

theorem setNoticeMask (notices : Byte) : Statement (.setNoticeMask notices) :=
  of_row _ rfl rfl rfl

theorem readNotice : Statement .readNotice :=
  of_row _ rfl rfl rfl

theorem slotStrobe : Statement .slotStrobe :=
  of_none rfl

theorem framePulse : Statement .framePulse :=
  of_none rfl

theorem agingWalk : Statement .agingWalk :=
  of_none rfl

theorem agingStateChange (slot : Fin 240) : Statement (.agingStateChange slot) :=
  of_none rfl

theorem escortLimitJudgement : Statement .escortLimitJudgement :=
  of_none rfl

theorem exposureCount : Statement .exposureCount :=
  of_none rfl

theorem exposureLimitReached (slot : Fin 240) : Statement (.exposureLimitReached slot) :=
  of_none rfl

theorem panelSilence : Statement .panelSilence :=
  of_none rfl

theorem alertRoundStart : Statement .alertRoundStart :=
  of_none rfl

theorem callWaitJudgement : Statement .callWaitJudgement :=
  of_none rfl

theorem pollFlagRenewal : Statement .pollFlagRenewal :=
  of_none rfl

theorem silenceCount : Statement .silenceCount :=
  of_none rfl

theorem enterAlone : Statement .enterAlone :=
  of_none rfl

theorem vehicleLimitApply : Statement .vehicleLimitApply :=
  of_none rfl

theorem usableChannelCount : Statement .usableChannelCount :=
  of_none rfl

theorem sweepStart : Statement .sweepStart :=
  of_none rfl

theorem conversionCompletion (count : Byte) (abandoned : Bool) : Statement (.conversionCompletion count abandoned) :=
  of_none rfl

theorem warmupEnd (channel : Fin 32) : Statement (.warmupEnd channel) :=
  of_none rfl

theorem faultClear (channel : Fin 32) : Statement (.faultClear channel) :=
  of_none rfl

theorem runStateChange (channel : Fin 32) : Statement (.runStateChange channel) :=
  of_none rfl

theorem testExpiry (channel : Fin 32) : Statement (.testExpiry channel) :=
  of_none rfl

theorem fieldArrival (bytes : List Byte) : Statement (.fieldArrival bytes) :=
  of_none rfl

theorem messageTaking : Statement .messageTaking :=
  of_none rfl

theorem poll : Statement .poll :=
  of_none rfl

theorem linkLapse (number : Word16) : Statement (.linkLapse number) :=
  of_none rfl

theorem channelHold : Statement .channelHold :=
  of_none rfl

theorem holdingSlotCheck : Statement .holdingSlotCheck :=
  of_none rfl

theorem fetch : Statement .fetch :=
  of_none rfl

end Sys2Proof.Laws.RequestCode
end

