-- ==== Sys2Proof/WellFormed.lean ====
section
/-! DEFINITION. Which commands are well formed. A request is well formed whatever its arguments: the part itself answers
the bad ones. -/

namespace Sys2Proof

/-- A command names an event that can happen: an unknown code names no request (R186), a delivery ends at its message's last
byte (R168), and a truck number lies in 1 to 4095 (R115). -/
def Instr.wellFormed (i : Instr) : Bool :=
  match i with
  | .unknownRequestCode code => (requestRow? code).isNone
  | .fieldArrival bytes =>
    match completeMessage bytes with
    | some message => message.length == bytes.length
    | none => true
  | .linkLapse number => decide (1 ≤ number.toNat ∧ number.toNat ≤ 4095)
  | .powerOn
  | .resetLine
  | .resetRelease
  | .hostPortWrite _ _
  | .replyRead
  | .statusByteRead
  | .setFrame _ _ _ _ _ _ _
  | .setWindows _ _ _ _ _
  | .setMark _
  | .setCadence _ _
  | .readFrame
  | .setZone _ _ _ _ _ _
  | .setVehicleLimit _ _
  | .readZone _
  | .nextItem
  | .ackItem _ _
  | .enrol _ _ _ _
  | .retire _ _
  | .setEscort _ _ _ _
  | .findTag _
  | .readPerson _ _
  | .setWalk _ _
  | .clearExposure _ _
  | .setChannel _ _ _ _ _ _ _ _ _
  | .setLevels _ _ _
  | .channelOn _
  | .channelOff _
  | .airControl _ _
  | .testChannel _ _ _
  | .cancelTest _
  | .resetTrip _
  | .readChannel _
  | .registerTruck _ _
  | .retireTruck _
  | .forceOrder _ _
  | .releaseOrder _
  | .readTruck _
  | .resume
  | .setRefuge _ _ _
  | .evacuate _
  | .lift _
  | .readRefuge _
  | .answer _ _
  | .endCall _ _
  | .page _ _
  | .cancelPage _ _
  | .setDistrict _ _ _ _ _ _ _ _ _ _ _ _ _
  | .start
  | .resetPart
  | .status
  | .setCursor _ _
  | .readNext
  | .clearNotice _
  | .setNoticeMask _
  | .readNotice
  | .slotStrobe
  | .framePulse
  | .agingWalk
  | .agingStateChange _
  | .escortLimitJudgement
  | .exposureCount
  | .exposureLimitReached _
  | .panelSilence
  | .alertRoundStart
  | .callWaitJudgement
  | .pollFlagRenewal
  | .silenceCount
  | .enterAlone
  | .vehicleLimitApply
  | .usableChannelCount
  | .sweepStart
  | .conversionCompletion _ _
  | .warmupEnd _
  | .faultClear _
  | .runStateChange _
  | .testExpiry _
  | .messageTaking
  | .poll
  | .channelHold
  | .holdingSlotCheck
  | .fetch => true

end Sys2Proof
end

