-- ==== Sys2Proof/Tests/Slice0.lean ====
section
/-! SUPPORT. Tests on small states: the checks of well-formedness, the bytes of requests and messages, one step of each kind
of command, and for every statement with hypotheses a state and operands that meet them, clause by clause. -/

-- One theorem at a time: each kernel `decide` waits for the kernel, and waiting theorems would each hold a thread's stack.
set_option Elab.async false

namespace Sys2Proof.Tests

open Sys2Proof.Machine Sys2Proof.Safety

/-! ## Small states -/

/-- SETUP, the reply of reset read out. -/
def setup : State := { State.reset with hpt := { State.reset.hpt with reply := [] } }

/-- RUNNING, before the first slot strobe. -/
def running : State :=
  { setup with hpt := { setup.hpt with phase := .running }, frt := { setup.frt with timer := .armed } }

/-- RUNNING, in a slot of a frame. -/
def counting (frame : Frame) (slot : Nat) : State :=
  { running with frt := { running.frt with timer := .counting, frame := frame, slot := slot } }

/-- A reply waits. -/
def replying (bytes : List Byte) : State := { setup with hpt := { setup.hpt with reply := bytes } }

/-- A request buffer. -/
def buffered (b : RequestBuffer) (s : State) : State := { s with hpt := { s.hpt with request := b } }

/-- A record in a slot with generation 15. -/
def withPerson (i : Fin 240) (p : Person) (s : State) : State := s.setSlot i { gen := 15, person := some p }

/-- A crew record as ENROL makes it. -/
def crew : Person := Person.enrolled 5 .crew none

/-- A truck at position 0, alone on the poll list and at the cursor. -/
def withTruck1 (u : Truck) (s : State) : State :=
  ({ s with hlk := { s.hlk with pollList := [u.number], cursor := some u.number } } : State).setTruckAt 0 (some u)

/-- A truck as REGISTER_TRUCK makes it. -/
def truck : Truck := Truck.registered 7 .diesel

/-- An item of a kind and subject. -/
def item (k : ItemKind) (x : Subject) (state : ItemState) (condition : ItemCondition) : Item :=
  { kind := k, subject := x, raised := 0, insertion := 0, state := state, condition := condition, test := false,
    detail := .absent }

/-- An attention queue with these items and due marks. -/
def withQueue (items : List Item) (due : List DueMark) (s : State) : State :=
  { s with atq := { s.atq with items := items, due := due } }

/-- A full queue of CHANNEL_FAULT items. -/
def fullItems (condition : ItemCondition) : List Item := allChannels.map (fun c => item .channelFault (.channel c) .new condition)

/-- A change of the events handed. -/
def handing (f : Handed → Handed) (s : State) : State := { s with handed := f s.handed }

/-- A message at the head of the receive queue. -/
def received (slotClass : SlotClass) (bytes : List Byte) (s : State) : State :=
  { s with flk := { s.flk with queue := [{ message := bytes, frame := 4, slot := 9, slotClass := slotClass }] } }

/-- The state a command leaves, the state before where it leaves none. -/
def after (c : Instr) (s : State) : State :=
  match exec c s with
  | .next t => t
  | .fault _ | .refused _ => s

theorem ready_setup : Ready setup := ⟨rfl, rfl, rfl⟩
theorem ready_running : Ready running := ⟨rfl, rfl, rfl⟩

theorem person_setup (i : Fin 240) : setup.person i = none := by
  simp [setup, State.person, State.slot, State.reset, Roster.reset]

theorem person_with (i j : Fin 240) (p : Person) (s : State) :
    (withPerson i p s).person j = if j = i then some p else s.person j := by
  rw [withPerson, person_setSlot]

theorem slot_with (i j : Fin 240) (p : Person) (s : State) :
    (withPerson i p s).slot j = if j = i then { gen := 15, person := some p } else s.slot j := by
  rw [withPerson, slot_setSlot]

theorem ready_with {s : State} (i : Fin 240) (p : Person) (h : Ready s) : Ready (withPerson i p s) := h

theorem ready_zone {s : State} (z : Fin 32) (f : Zone → Zone) (h : Ready s) : Ready (s.modifyZone z f) := h

theorem free_setup : ∀ c : Fin 4, setup.cal.channels[c] = none := by decide

/-- The record placed is named by its slot and generation 15. -/
theorem names_with {slot gen : Byte} {i : Fin 240} (p : Person) (s : State) (h1 : slot.toNat = i.val) (h2 : gen.toNat = 15) :
    Names (withPerson i p s) slot gen i p := by
  refine ⟨h1, ?_, ?_⟩
  · rw [slot_with, if_pos rfl]; exact h2
  · rw [person_with, if_pos rfl]

theorem grants_setup : ∀ z : Fin 32, (setup.zone z).grants = [] := by decide +kernel

theorem truck_setup (q : Fin 24) : setup.truckAt q = none := by
  simp [setup, State.truckAt, State.reset, HaulLink.reset]

/-- In a table of one truck, every truck is that one. -/
theorem truck_with {r : Fin 24} {u v : Truck} (h : (withTruck1 u setup).truckAt r = some v) : r = 0 ∧ v = u := by
  rw [withTruck1, truckAt_setTruckAt] at h
  split at h
  · exact ⟨‹_›, (Option.some.inj h).symm⟩
  · exact absurd (h.symm.trans (truck_setup r)) (by simp)

/-- The truck placed is named by its number. -/
theorem names_truck {number : Word16} (u : Truck) (h1 : 1 ≤ number.toNat) (h2 : number.toNat ≤ 4095)
    (h3 : u.number = number.toNat) : NamesTruck (withTruck1 u setup) number 0 u := by
  refine ⟨h1, h2, ?_, h3, fun r v hv _ => (truck_with hv).1⟩
  rw [withTruck1, truckAt_setTruckAt, if_pos rfl]

/-- In a roster of one record, every record is that one. -/
theorem only_person {i j : Fin 240} {p q : Person} {s : State} (h0 : ∀ j, s.person j = none)
    (h : (withPerson i p s).person j = some q) : j = i ∧ q = p := by
  rw [person_with] at h
  split at h
  · exact ⟨‹_›, (Option.some.inj h).symm⟩
  · rw [h0] at h; cases h

theorem queue_reset : QueueHolds AttentionQueue.reset := by unfold QueueHolds; decide

/-! ## Well-formedness -/

theorem test_unknown_code_names_no_request :
    Instr.wellFormed (.unknownRequestCode 0) = true ∧ Instr.wellFormed (.unknownRequestCode 50) = true
      ∧ Instr.wellFormed (.unknownRequestCode 1) = false ∧ Instr.wellFormed (.unknownRequestCode 49) = false := by decide

theorem test_delivery_ends_at_its_message :
    Instr.wellFormed (.fieldArrival [1, 0, 0, 0, 5, 3, 0, 0]) = true
      ∧ Instr.wellFormed (.fieldArrival [1, 0, 0, 0, 5, 3, 0]) = true
      ∧ Instr.wellFormed (.fieldArrival [1, 0, 0, 0, 5, 3, 0, 0, 9]) = false := by decide

theorem test_lapse_names_a_truck_number :
    Instr.wellFormed (.linkLapse 1) = true ∧ Instr.wellFormed (.linkLapse 4095) = true
      ∧ Instr.wellFormed (.linkLapse 0) = false ∧ Instr.wellFormed (.linkLapse 4096) = false := by decide

/-! ## Bytes of requests and messages, as R185, R186, R189 and R190 lay them out -/

theorem test_request_bytes :
    decodeRequest 1 [1, 0, 0, 160, 0, 160, 0, 184, 0, 184, 0, 188, 0] = some (.setFrame 256 160 160 184 184 188 0)
      ∧ decodeRequest 3 [0xff, 0xff] = some (.setMark 65535)
      ∧ decodeRequest 6 [4, 2, 1, 3, 255, 7] = some (.setZone 4 2 1 3 255 7)
      ∧ decodeRequest 10 [13, 0, 2, 9] = some (.ackItem 13 0x000209)
      ∧ decodeRequest 11 [0x01, 0x02, 0x03, 2, 10, 4] = some (.enrol 0x010203 2 10 4)
      ∧ decodeRequest 18 [31, 0, 5, 64, 96, 128, 2, 4, 1] = some (.setChannel 31 0 5 64 96 128 2 4 1)
      ∧ decodeRequest 27 [0x0f, 0xff, 1] = some (.registerTruck 4095 1)
      ∧ decodeRequest 34 [0x80, 0, 0, 1] = some (.evacuate 0x80000001)
      ∧ decodeRequest 41 [3, 6, 8, 0, 0, 0x0e, 0x10, 3, 8, 0, 20, 10, 30, 10]
          = some (.setDistrict 3 6 8 0 0 3600 3 8 0 20 10 30 10)
      ∧ decodeRequest 45 [5, 31] = some (.setCursor 5 31) ∧ decodeRequest 49 [] = some .readNotice
      ∧ decodeRequest 49 [0] = none ∧ decodeRequest 50 [] = none := by decide

theorem test_item_bytes :
    ({ kind := .urgentCall, subject := .person 10 3, raised := 0x0102, insertion := 7, state := .seen, condition := .active,
       test := false, detail := .call 2 true } : Item).bytes = [8, 0, 10, 3, 1, 2, 0, 7, 1, 0, 0, 2, 1]
      ∧ ({ kind := .refugeFault, subject := .refuge 6, raised := 1, insertion := 2, state := .acked, condition := .ended,
           test := false, detail := .faults { FaultReasons.none with supply := true } } : Item).bytes
          = [4, 0, 0, 6, 0, 1, 0, 2, 2, 1, 0, 0, 4] := by decide

theorem test_inbound_bytes :
    inbound? [1, 4, 0, 0, 5, 15, 3, 2]
        = some (.tag { zone := 4, tag := 5, level := 15, key := .emergency, sequence := 2 })
      ∧ inbound? [1, 32, 0, 0, 5, 15, 3, 2] = none ∧ inbound? [1, 4, 0, 0, 5, 16, 3, 2] = none
      ∧ inbound? [1, 4, 0, 0, 5, 15, 6, 2] = none ∧ inbound? [1, 4, 0, 0, 5, 15, 3, 4] = none
      ∧ inbound? [2, 0, 7, 255, 4, 1, 0, 1, 0, 9]
        = some (.truck { number := 7, zone := 255, requested := 4, proximity := [{ tag := 256, level := 9 }] })
      ∧ inbound? [3, 1, 1, 2, 1, 1, 0, 0, 5, 0, 0, 6]
        = some (.refuge { refuge := 1, door := .opened, supply := .fail, checkIns := [5], checkOuts := [6] })
      ∧ inbound? [3, 1, 3, 2, 0, 0] = none := by decide

theorem test_outbound_bytes :
    ({ message := .truckPoll 7 .hold (some 4) true, stamp := { frame := 258, slot := 160 } } : Held).bytes
        = [9, 1, 2, 0, 160, 0, 7, 2, 4, 1]
      ∧ ({ message := .channelHold 3 0x010203, stamp := { frame := 1, slot := 187 } } : Held).bytes
        = [10, 0, 1, 0, 187, 3, 1, 2, 3]
      ∧ (Held.mk (.beacon (Beacon.mk 1 .lost true [(4, some 1), (9, none)] [5] [])) { frame := 1, slot := 0 }).bytes
        = [8, 0, 1, 0, 0, 0, 1, 3, 1, 2, 4, 1, 9, 255, 1, 0, 0, 5, 0] := by decide

theorem test_table_gives_no_word : decodeTableWord 0 0 = none := rfl

/-! ## One step -/

theorem test_enrol_reply : (after (.enrol 5 0 255 0) setup).hpt.reply = [0, 0, 0] := by decide +kernel

theorem test_tag_report_makes_present :
    let s := received .tag [1, 4, 0, 0, 5, 9, 0, 1]
      (withPerson 2 crew ((counting 4 20).modifyZone 4 (fun r => { r with configured := true })))
    ((after .messageTaking s).person 2).map (fun p => (p.state, p.zone, p.level)) = some (.present, some 4, 9)
      ∧ ((after .messageTaking s).zone 4).persons = 1 := by decide +kernel

theorem test_stranger_is_raised :
    let s := received .tag [1, 4, 0, 0, 5, 9, 0, 1] ((counting 4 20).modifyZone 4 (fun r => { r with configured := true }))
    (after .messageTaking s).atq.items.map Item.kind = [.stranger] ∧ (after .messageTaking s).hpt.flags.attention = true := by
  decide +kernel

theorem test_poll_order :
    let s := withTruck1 { truck with held := some 4 }
      (handing (fun h => { h with poll := true }) ((counting 4 160).modifyZone 4 (fun r => { r with reported := .danger })))
    (after .poll s).flk.holding
      = some { message := .truckPoll 7 .hold none false, stamp := { frame := 4, slot := 160 } } := by decide +kernel

theorem test_confirm_sweep_trips :
    let s := (running.modifyChannel 3 (fun r => { r with enabled := true, real := .danger, confirmPending := true, zone := some 4 }))
    let t := { s with air := { s.air with mode := .scan, sweep := .confirm 3, confirmList := [3], turnsDone := 3, turnLive := true,
                                          buffer := #v[some 130, some 0, some 128, none] } }
    ((after (.conversionCompletion 200 false) t).channel 3).real = .trip
      ∧ ((after (.conversionCompletion 200 false) t).channel 3).reading = some 200
      ∧ ((after (.conversionCompletion 200 false) t).channel 3).faultFlag = true
      ∧ (after (.conversionCompletion 200 false) t).air.confirmList = [] := by decide +kernel

theorem test_evacuate_alerts :
    let s := withPerson 2 { crew with state := .present, zone := some 31 } running
    ((after (.evacuate 0x80000000) s).person 2).map Person.alert = some .sent
      ∧ ((after (.evacuate 0x80000000) s).zone 31).evac = .ordered := by decide +kernel

/-! ## The hypotheses of the statements, met -/

theorem test_meets_StepTakesFrontCommand : State.reset.pending = [] := rfl

theorem test_meets_PartResetHasThreeCauses :
    Ready setup ∧ ({ setup with resetLow := true } : State).resetLow = true ∧ Instr.slotStrobe ≠ .powerOn
      ∧ Instr.slotStrobe ≠ .resetLine ∧ Instr.slotStrobe ≠ .resetRelease := ⟨ready_setup, by decide⟩

theorem test_meets_WriteStrobeFillsRequestBuffer :
    State.reset.resetLow = false
      ∧ (buffered (.complete 49 []) setup).hpt.request = .complete 49 []
      ∧ setup.hpt.request = .empty ∧ setup.hpt.request.isComplete = false
      ∧ argBytes 1 ≠ 0 ∧ argBytes 48 ≠ 0 ∧ argBytes 49 = 0 ∧ argBytes 0 = 0 ∧ State.reset.hpt.reply ≠ [] ∧ setup.hpt.reply = []
      ∧ (buffered (.incomplete 6 [4]) setup).hpt.request = .incomplete 6 [4] ∧ [(4 : Byte)].length + 1 ≠ argBytes 6
      ∧ [(4 : Byte), 2, 1, 3, 255].length + 1 = argBytes 6
      ∧ (buffered (.incomplete 6 [4, 2, 1, 3, 255]) (replying [0])).hpt.reply ≠ []
      ∧ (buffered (.incomplete 6 [4, 2, 1, 3, 255]) setup).hpt.reply = []
      ∧ requestRow? 0 = none ∧ requestRow? 50 = none ∧ requestRow? 255 = none := by decide

theorem test_meets_ReplyReadDrivesNextByte :
    setup.resetLow = false ∧ setup.hpt.reply = [] ∧ (replying [0, 1]).hpt.readPos + 1 < (replying [0, 1]).hpt.reply.length
      ∧ State.reset.hpt.readPos + 1 = State.reset.hpt.reply.length ∧ State.reset.hpt.request.isComplete = false
      ∧ (buffered (.complete 43 []) (replying [10])).hpt.readPos + 1 = (replying [10]).hpt.reply.length
      ∧ (buffered (.complete 43 []) (replying [10])).hpt.request = .complete 43 [] := by decide

theorem test_meets_StatusByteShowsThePort : State.reset.resetLow = false := rfl

theorem test_meets_RequestBytesAndRequestsAgree :
    encodeRequest (.setCursor 5 239) = some (45, [5, 239]) ∧ decodeRequest 45 [5, 239] = some (.setCursor 5 239) := by decide

theorem test_meets_RequestIsTheRunOfItsPortWrites :
    encodeRequest .start = some (42, []) ∧ setup.resetLow = false ∧ (buffered (.complete 49 []) setup).hpt.request.isComplete = true
      ∧ State.reset.hpt.request.isComplete = false ∧ State.reset.hpt.reply ≠ [] := by decide

theorem test_meets_PhaseAdmitsRequests :
    (encodeRequest .start = some (42, []) ∧ Ready running ∧ isSetupOnly .start = true ∧ running.hpt.phase = .running)
      ∧ (encodeRequest .resume = some (32, []) ∧ Ready setup ∧ isRunningOnly .resume = true ∧ setup.hpt.phase = .setup)
      ∧ encodeRequest .status = some (44, []) ∧ isSetupOnly .status = false ∧ isRunningOnly .status = false :=
  ⟨⟨rfl, ready_running, by decide⟩, ⟨rfl, ready_setup, by decide⟩, by decide⟩

theorem test_meets_HandlesAreCheckedInOrder :
    let s := withPerson 239 crew running
    Ready s ∧ (isRunningOnly (.page 239 15) = true → s.hpt.phase = .running)
      ∧ 240 ≤ (240 : Byte).toNat ∧ 16 ≤ (16 : Byte).toNat ∧ (239 : Byte).toNat = (239 : Fin 240).val ∧ (15 : Byte).toNat < 16
      ∧ setup.person 239 = none ∧ s.person 239 = some crew ∧ (14 : Byte).toNat ≠ (s.slot 239).gen.toNat
      ∧ Names s 239 15 239 crew :=
  ⟨ready_with _ _ ready_running, fun _ => rfl, by decide, by decide, by decide, by decide, person_setup _, by decide +kernel,
    by decide +kernel, names_with _ _ rfl rfl⟩

theorem test_meets_FrameRequestsWriteTheWindows :
    Ready setup ∧ setup.hpt.phase = .setup
      ∧ ((63 : Word16).toNat < 64 ∧ 1024 < (1025 : Word16).toNat ∧ 1 < (2 : Byte).toNat)
      ∧ (¬ (1024 : Word16).toNat < 64 ∧ ¬ 1024 < (1024 : Word16).toNat ∧ ¬ 1 < (1 : Byte).toNat ∧ setup.frt.markSlot = none)
      ∧ (1 ≤ (1 : Word16).toNat ∧ (1 : Word16).toNat ≤ (232 : Word16).toNat ∧ (232 : Word16).toNat ≤ (256 : Word16).toNat
          ∧ (256 : Word16).toNat ≤ setup.frt.total ∧ (256 : Word16).toNat - (232 : Word16).toNat ≤ 24)
      ∧ setup.frt.timer = .stopped ∧ Ready running ∧ running.frt.total = 256 ∧ running.frt.timer ≠ .stopped
      ∧ ¬ 1 ≤ (0 : Word16).toNat :=
  ⟨ready_setup, by decide, by decide, by decide, by decide, rfl, ready_running, by decide⟩

theorem test_meets_SettingRequestsWriteTheirSettings :
    Ready setup ∧ Ready running ∧ setup.hpt.phase = .setup ∧ running.hpt.phase = .running
      ∧ ((255 : Word16) ≠ 0xffff ∧ (255 : Word16).toNat < setup.frt.total ∧ setup.frt.total ≤ (256 : Word16).toNat)
      ∧ (7 < (8 : Byte).toNat ∧ 2 < (3 : Byte).toNat ∧ (7 : Byte).toNat ≤ 7 ∧ (2 : Byte).toNat ≤ 2)
      ∧ ((3 : Byte).toNat ∉ [1, 2, 4, 8, 16, 32, 64, 128] ∧ (128 : Byte).toNat ∈ [1, 2, 4, 8, 16, 32, 64, 128]
          ∧ ¬ (4 : Byte).toNat < 1 ∧ ¬ 4 < (4 : Byte).toNat ∧ 4 < (5 : Byte).toNat)
      ∧ (ListTable.roster.code = 0 ∧ (239 : Byte).toNat < ListTable.roster.size ∧ ListTable.queue.code = 5
          ∧ (31 : Byte).toNat < ListTable.queue.size)
      ∧ (∀ t : ListTable, t.code = 5 → t.size ≤ (32 : Byte).toNat)
      ∧ (128 : Byte).getLsbD 7 = true ∧ NoticeSet.none.toByte = 0
      ∧ ({ NoticeSet.none with txLate := true } : NoticeSet).toByte = 64 :=
  ⟨ready_setup, ready_running, rfl, rfl, by decide, by decide, by decide, by decide, fun t => by cases t <;> decide, by decide⟩

theorem test_meets_SlotStrobeCountsSlotsAndFrames :
    setup.frt.timer = .stopped ∧ running.frt.timer = .armed ∧ (counting 7 255).frt.timer = .counting
      ∧ (counting 7 254).frt.restartPending = false ∧ (counting 7 254).frt.slot + 1 ≠ (counting 7 254).frt.total
      ∧ (counting 7 255).frt.slot + 1 = (counting 7 255).frt.total ∧ (counting 7 255).resetLow = false := by decide

/-- The classes at the bounds of the windows, a first strobe with windows pending, and both cadence edges of bit 2. -/
theorem test_meets_SlotStrobeCountsSlotsAndFrames_classes :
    [0, 1, 159, 160, 183, 184, 187, 188].map (fun n => (counting 4 n).slotClass)
        = [.beacon, .tag, .tag, .haul, .haul, .voice, .voice, .guard]
      ∧ ({ running with frt := { running.frt with pendingWindows := some running.frt.active } } : State).frt.pendingWindows ≠ none
      ∧ (after .slotStrobe (counting 3 255)).handed.round = true ∧ (after .slotStrobe (counting 7 255)).handed.round = false
      ∧ (after .slotStrobe (counting 4 183)).handed.hold = true := by decide +kernel

/-- Slot 0 of a frame in PULSED mode. -/
def pulsed : State := { counting 7 0 with frt := { (counting 7 0).frt with sync := .pulsed, beginKind := .count } }

theorem test_meets_SlotStartRaisesMarkAndJudgesLock :
    pulsed.resetLow = false ∧ pulsed.frt.timer = .counting ∧ pulsed.frt.sync = .pulsed
      ∧ (after .slotStrobe pulsed).frt.slot = 1 ∧ (after .slotStrobe pulsed).frt.pulseSeen = false
      ∧ (after .slotStrobe pulsed).frt.beginKind = .count ∧ (after .slotStrobe pulsed).frt.lock = .seeking
      ∧ (counting 7 0).frt.sync = .free := by decide +kernel

theorem test_meets_SlotStartRaisesMarkAndJudgesLock_armed :
    let s : State := { running with frt := { running.frt with markSlot := some 0 } }
    s.resetLow = false ∧ s.frt.timer = .armed ∧ (after .slotStrobe s).hpt.flags.mark = true := by decide +kernel

theorem test_meets_FramePulseIsTreatedBySlot :
    (counting 7 0).resetLow = false ∧ (counting 7 0).frt.timer = .counting ∧ (counting 7 0).frt.sync = .free
      ∧ pulsed.frt.sync = .pulsed ∧ pulsed.frt.slot = 0 ∧ (after .slotStrobe pulsed).frt.slot ≠ 0 := by decide +kernel

theorem test_meets_FramePulseIsTreatedBySlot_armed :
    let s : State := { running with frt := { running.frt with sync := .pulsed } }
    s.resetLow = false ∧ s.frt.timer = .armed ∧ s.frt.sync = .pulsed ∧ setup.frt.timer = .stopped
      ∧ (after .slotStrobe (after .framePulse s)).frt.beginKind = .pulse := by decide +kernel

theorem test_meets_FrameStartBuildsTheBeacon :
    let s := (counting 7 255).modifyZone 31 (fun r => { r with evac := .ordered, refuge := some 7 })
    s.resetLow = false ∧ s.frt.timer = .counting ∧ s.handed = Handed.none ∧ s.frt.slot + 1 = s.frt.total
      ∧ s.rev.roundOn = false ∧ (s.zone 31).evac = .ordered ∧ (s.zone 31).refuge = some 7 := by decide +kernel

theorem test_meets_FrameStartBuildsTheBeacon_armed :
    running.resetLow = false ∧ running.frt.timer = .armed ∧ running.rev.roundOn = false
      ∧ (after .slotStrobe running).flk.holding.map Held.stamp = some { frame := 0, slot := 0 } := by decide +kernel

/-- An alert round in progress in the last slot of a frame. -/
def inRound : State :=
  { withPerson 239 { crew with alert := .sent } (counting 7 255) with
    rev := { setup.rev with roundOn := true, roundStart := some 4 } }

theorem test_meets_AlertRoundFillsTheBeaconLists :
    inRound.resetLow = false ∧ inRound.frt.timer = .counting ∧ inRound.handed = Handed.none
      ∧ inRound.frt.slot + 1 = inRound.frt.total ∧ inRound.rev.roundOn = true
      ∧ (after .slotStrobe inRound).rev.roundOn = false := by decide +kernel

theorem test_meets_ReadRequestsChangeNothingElse :
    let s := withPerson 239 crew setup
    Ready s ∧ (31 : Byte).toNat = (31 : Fin 32).val ∧ (7 : Byte).toNat = (7 : Fin 8).val ∧ Names s 239 15 239 crew
      ∧ NamesTruck (withTruck1 truck setup) 7 0 truck ∧ Ready (withTruck1 truck setup)
      ∧ 32 ≤ (32 : Byte).toNat ∧ 8 ≤ (8 : Byte).toNat ∧ (0 : Word16).toNat < 1 ∧ 4095 < (4096 : Word16).toNat
      ∧ (1 ≤ (4095 : Word16).toNat ∧ (4095 : Word16).toNat ≤ 4095
          ∧ ∀ q t, setup.truckAt q = some t → t.number ≠ (4095 : Word16).toNat)
      ∧ ((6 : Tag) ≠ 0 ∧ (6 : Tag) ≠ 0xffffff ∧ ∀ i p, s.person i = some p → p.tag ≠ 6)
      ∧ s.person 239 = some crew ∧ crew.tag = 5 ∧ ∀ j q, s.person j = some q → q.tag = 5 → j = 239 :=
  ⟨ready_with _ _ ready_setup, rfl, rfl, names_with _ _ rfl rfl, names_truck _ (by decide) (by decide) rfl, ready_setup,
    by decide, by decide, by decide, by decide,
    ⟨by decide, by decide, fun q t h => by rw [truck_setup] at h; cases h⟩,
    ⟨by decide, by decide, fun i p h => by rw [(only_person person_setup h).2]; decide⟩,
    (names_with crew setup rfl rfl : Names _ 239 15 _ _).2.2, rfl, fun j q h _ => (only_person person_setup h).1⟩

theorem test_meets_StatusRepliesThePartsState : Ready setup := ready_setup

/-- A record in a state, heard, in zone 31, with misses. -/
def aged (state : PersonState) (misses : Nat) : Person := { crew with state := state, zone := some 31, misses := misses }

theorem test_meets_WalkVisitsStepManySlots :
    let s := handing (fun h => { h with walk := true }) (withPerson 7 (aged .present 1) (counting 4 0))
    s.resetLow = false ∧ setup.handed.walk = false ∧ s.handed.walk = true ∧ s.rst.walkStep ≤ 240
      ∧ s.frt.frame.toNat % s.rst.walkInterval = 0 ∧ ((7 : Fin 240).val + 240 - s.rst.walkPos.val) % 240 < s.rst.walkStep
      ∧ ¬ ((8 : Fin 240).val + 240 - s.rst.walkPos.val) % 240 < s.rst.walkStep
      ∧ ∀ i p, s.person i = some p → p.state = .present ∧ min 15 (p.misses + 1) < s.rst.quietLimit := by
  refine ⟨rfl, rfl, rfl, by decide, by decide, by decide, by decide, fun i p h => ?_⟩
  rw [(only_person (s := counting 4 0) (fun j => person_setup j) h).2]
  decide

/-- A walk whose visit reaches the quiet limit, and one whose visit reaches the out hold. -/
theorem test_meets_WalkVisitsStepManySlots_limits :
    let s := fun (p : Person) => handing (fun h => { h with walk := true }) (withPerson 7 p (counting 4 0))
    (s (aged .present 2)).person 7 = some (aged .present 2)
      ∧ ((after .agingWalk (s (aged .present 2))).person 7).map (fun p => (p.state, p.misses)) = some (.quiet, 3)
      ∧ (after .agingWalk (s (aged .out 7))).slot 7 = { gen := 0, person := none } := by decide +kernel

theorem test_meets_AgingJudgesOneRecord :
    let s := fun (p : Person) => withPerson 239 p setup
    setup.resetLow = false
      ∧ ((s (aged .present 2)).person 239 = some (aged .present 2) ∧ ¬ setup.rst.quietLimit ≤ (aged .present 2).misses)
      ∧ ((s (aged .present 3)).person 239 = some (aged .present 3) ∧ setup.rst.quietLimit ≤ (aged .present 3).misses)
      ∧ ((s (aged .quiet 6)).person 239 = some (aged .quiet 6) ∧ setup.rst.missingLimit ≤ (aged .quiet 6).misses)
      ∧ (s (aged .out 8)).person 239 = some (aged .out 8) ∧ setup.rst.outHold ≤ (aged .out 8).misses := by decide +kernel

/-- An official in slot 0 in a zone, and in slot 239 its visitor, PRESENT in zone 31. -/
def escorted (zone : Fin 32) (f : Person → Person) (s : State) : State :=
  withPerson 239 (f { Person.enrolled 6 .visitor (some { slot := 0, gen := 15 }) with state := .present, zone := some 31 })
    (withPerson 0 { Person.enrolled 9 .official none with state := .present, zone := some zone, misses := 3 } s)

/-- The visitor's separation stamp and escort lost. -/
def separation (s : State) : Option (Option Frame × Bool) := (s.person 239).map (fun v => (v.separation, v.escortLost))

/-- An official that ages to QUIET leaves its visitor separated from then on (R80). -/
theorem test_meets_AgingJudgesOneRecord_escort :
    let s := escorted 31 id (counting 20 0)
    (s.person 0).map Person.state = some .present ∧ s.rst.quietLimit ≤ 3 ∧ separation s = some (none, false)
      ∧ ((after (.agingStateChange 0) s).person 0).map Person.state = some .quiet
      ∧ separation (after (.agingStateChange 0) s) = some (some 20, false) := by decide +kernel

/-- A visitor apart from its escort since frame 0. -/
def lone : Person := { Person.enrolled 6 .visitor none with separation := some 0 }

theorem test_meets_EscortLimitRaisesEscortLost :
    let s := handing (fun h => { h with escort := true }) (withPerson 239 lone (counting 20 0))
    s.resetLow = false ∧ setup.handed.escort = false ∧ s.handed.escort = true ∧ QueueHolds s.atq
      ∧ s.person 239 = some lone ∧ lone.role = .visitor ∧ lone.escortLost = false
      ∧ s.rst.escortLimit ≤ framesSince s.frt.frame 0 :=
  ⟨rfl, rfl, rfl, queue_reset, by decide +kernel⟩

theorem test_meets_ExposureCountRaisesExposedRecords :
    let p := { aged .present 0 with exposure := 65534 }
    let s := handing (fun h => { h with exposure := true })
      ((withPerson 239 p (counting 4 0)).modifyZone 31 (fun r => { r with real := .caution }))
    s.resetLow = false ∧ setup.handed.exposure = false ∧ s.handed.exposure = true ∧ s.rst.exposureMode = .time ∧ QueueHolds s.atq
      ∧ (s.person 239 = some p ∧ p.exposure < 65535 ∧ p.zone = some 31 ∧ (s.zone 31).real = .caution)
      ∧ (p.exposure ≠ s.rst.exposureLimit ∧ (aged .present 0).exposure + 3600 = s.rst.exposureLimit)
      ∧ ({ s with rst := { s.rst with exposureMode := .entries } } : State).rst.exposureMode = .entries :=
  ⟨rfl, rfl, rfl, rfl, queue_reset, by decide +kernel⟩

theorem test_meets_ExposureIsClearedAndPagesAreSet :
    let s := withPerson 239 crew running
    Ready s ∧ Names s 239 15 239 crew ∧ QueueHolds s.atq ∧ s.hpt.phase = .running :=
  ⟨ready_with _ _ ready_running, names_with _ _ rfl rfl, queue_reset, rfl⟩

theorem test_meets_ExposureIsClearedAndPagesAreSet_ack :
    let p : Person := { crew with alert := .sent, page := true }
    let s := withPerson 239 p running
    s.person 239 = some p ∧ crew.page = false ∧ QueueHolds s.atq
      ∧ ((actOnKey 239 .ack s).person 239).map (fun q => (q.alert, q.page)) = some (.acked, false)
      ∧ (actOnKey 239 .ack s).atq.items.map Item.kind = [.pageAnswered] :=
  ⟨by decide +kernel, rfl, queue_reset, by decide +kernel, by decide +kernel⟩

/-- An official. -/
def official : Person := { Person.enrolled 9 .official none with state := .present, zone := some 31 }

theorem test_meets_EnrolMakesARecord :
    let s := withPerson 0 official setup
    Ready s ∧ ¬ ((0 : Tag) ≠ 0) ∧ ((6 : Tag) ≠ 0 ∧ (6 : Tag) ≠ 0xffffff ∧ ∀ i p, s.person i = some p → p.tag ≠ 6)
      ∧ ((1 : Byte).toNat < 2 ∧ Role.crew.code = 0 ∧ Role.official.code = 1 ∧ Role.visitor.code = 2)
      ∧ ((0 : Byte).toNat = (0 : Fin 240).val ∧ (15 : Byte).toNat = (s.slot 0).gen.toNat ∧ s.person 0 = some official
          ∧ official.role = .official)
      ∧ (s.person 1 = none ∧ ∀ j < (1 : Fin 240), (s.person j).isSome = true)
      ∧ ∀ i, (({ setup with rst := { setup.rst with slots := Vector.replicate 240 { gen := 0, person := some official } } } :
          State).person i).isSome = true := by
  refine ⟨ready_setup, by decide, ⟨by decide, by decide, fun i p h => ?_⟩, by decide, by decide +kernel, by decide +kernel,
    fun i => ?_⟩
  · rw [(only_person (fun j => person_setup j) h).2]; decide
  · simp [State.person, State.slot]

theorem test_meets_RetirementTakesTheRecordDown :
    let v := { lone with escort := some { slot := 0, gen := 15 } }
    let s := withPerson 239 v (withPerson 0 official running)
    Ready s ∧ Names s 0 15 0 official ∧ QueueHolds s.atq ∧ s.person 239 = some v ∧ (239 : Fin 240) ≠ 0 ∧ v.role = .visitor
      ∧ v.escort = some (s.handle 0) ∧ official.role = .official :=
  ⟨ready_running, ⟨rfl, by decide +kernel, by decide +kernel⟩, queue_reset, by decide +kernel⟩

theorem test_meets_SetEscortJudgesSeparation :
    let s := fun (v : Person) => withPerson 239 v (withPerson 0 official running)
    let near := { lone with state := .present, zone := some 31 }
    let far := { lone with state := .present, zone := some 4 }
    (∀ v, Ready (s v)) ∧ (∀ v, Names (s v) 239 15 239 v) ∧ Names (s near) 0 15 0 official ∧ Names (s far) 0 15 0 official
      ∧ QueueHolds (s near).atq ∧ crew.role ≠ .visitor ∧ lone.role = .visitor ∧ official.role = .official
      ∧ (far.state = .present ∧ official.zone ≠ far.zone)
      ∧ (near.separation ≠ none ∧ official.state = .present ∧ official.zone = near.zone)
      ∧ ({ near with separation := none } : Person).separation = none :=
  ⟨fun _ => ready_running, fun v => names_with v _ rfl rfl, ⟨rfl, by decide +kernel, by decide +kernel⟩,
    ⟨rfl, by decide +kernel, by decide +kernel⟩, queue_reset, by decide⟩

/-- An active CHANNEL_FAULT of a channel, and a due one. -/
def faultItem (c : Fin 32) (state : ItemState) (condition : ItemCondition) : Item := item .channelFault (.channel c) state condition

theorem test_meets_NextItemReturnsFirstNewItem :
    let s := withQueue [faultItem 0 .seen .active, faultItem 31 .new .active] [] setup
    Ready s ∧ QueueHolds s.atq ∧ (∀ it ∈ (withQueue [faultItem 0 .acked .active] [] setup).atq.items, it.state ≠ .new)
      ∧ s.atq.items = [faultItem 0 .seen .active] ++ faultItem 31 .new .active :: []
      ∧ ∀ e ∈ [faultItem 0 .seen .active], e.state ≠ .new :=
  ⟨ready_setup, by unfold QueueHolds; decide, by decide⟩

theorem test_meets_AcknowledgementActsBySort :
    let mark : DueMark := { kind := .missing, subject := .person 10 3, stamp := 4 }
    let s := withQueue [faultItem 31 .seen .ended] [mark] setup
    Ready s ∧ QueueHolds s.atq ∧ 16 ≤ (16 : Byte).toNat ∧ ItemKind.channelFault.code = 9
      ∧ subject? .channelFault 32 = none ∧ subject? .channelFault 31 = some (.channel 31)
      ∧ (∀ it ∈ setup.atq.items, ¬ (it.kind = .channelFault ∧ it.subject = .channel 31))
      ∧ s.atq.items = [] ++ faultItem 31 .seen .ended :: [] ∧ ItemKind.channelFault.sort = .condition
      ∧ (faultItem 31 .seen .ended).condition ≠ .active ∧ ItemKind.channelFault.sort ≠ .call ∧ s.atq.due ≠ []
      ∧ (faultItem 31 .seen .active).condition = .active ∧ QueueHolds (withQueue [faultItem 31 .seen .active] [] setup).atq :=
  ⟨ready_setup, by unfold QueueHolds; decide, by decide, by decide, by decide, by decide, by decide, by decide, by decide,
    by decide, by decide, by decide, by decide, by unfold QueueHolds; decide⟩

theorem test_meets_InsertTakesOneOfFourWays :
    QueueHolds setup.atq ∧ QueueHolds (withQueue [faultItem 31 .seen .active] [] setup).atq
      ∧ QueueHolds (withQueue [faultItem 31 .seen .ended] [] setup).atq
      ∧ QueueHolds (withQueue [] [{ kind := .missing, subject := .person 10 3, stamp := 4 }] setup).atq
      ∧ (withQueue [] [{ kind := .missing, subject := .person 10 3, stamp := 4 }] setup).dueMark .missing (.person 10 3) ≠ none
      ∧ QueueHolds (withQueue (fullItems .active) [] setup).atq ∧ (fullItems .active).length = 32
      ∧ (∀ it ∈ fullItems .active, ¬ (it.kind = .stranger ∧ it.subject = .tag 5))
      ∧ (fullItems .active = (fullItems .active).take 31 ++ faultItem 31 .new .active :: []
          ∧ ∀ e ∈ fullItems .active, e.condition = .active)
      ∧ (fullItems .ended = (fullItems .ended).take 31 ++ faultItem 31 .new .ended :: [] ∧ (faultItem 31 .new .ended).condition = .ended)
      ∧ ItemKind.missing.rank < ItemKind.channelFault.rank ∧ ItemKind.channelFault.rank ≤ ItemKind.channelFault.rank := by
  unfold QueueHolds; decide +kernel

theorem test_meets_AttentionLawIsKept :
    let s : State := { setup with pending := [.status] }
    QueueHolds s.atq ∧ ∃ t, step s = .next t := ⟨queue_reset, _, rfl⟩

/-- A state of channel 31, bound to zone 31. -/
def withChannel (f : Channel → Channel) (s : State) : State :=
  s.modifyChannel 31 (fun r => f { r with zone := some 31, enabled := true, real := .normal })

/-- The three ways in which a step takes a RESET_TRIP, each of which releases the trip (L9). -/
theorem test_meets_LawsHoldAtReset_reset_trip :
    let s := fun (command : Instr) (b : RequestBuffer) (reply : List Byte) =>
      let r := withChannel (fun r => { r with real := .trip, reading := some 63 }) running
      ({ r with hpt := { r.hpt with request := b, reply := reply }, pending := [command] } : State)
    let released := fun (s : State) => match step s with
      | .next t => (t.channel 31).real == .normal
      | .fault _ | .refused _ => false
    TakesResetTrip 31 (s (.resetTrip 31) .empty []) ∧ released (s (.resetTrip 31) .empty []) = true
      ∧ TakesResetTrip 31 (s (.hostPortWrite false 31) (.incomplete 25 []) [])
      ∧ released (s (.hostPortWrite false 31) (.incomplete 25 []) []) = true
      ∧ TakesResetTrip 31 (s .replyRead (.complete 25 [31]) [0]) ∧ released (s .replyRead (.complete 25 [31]) [0]) = true :=
  ⟨⟨rfl, _, _, 31, rfl, rfl, .inl ⟨rfl, rfl, rfl⟩⟩, by decide +kernel, ⟨rfl, _, _, 31, rfl, rfl, .inr (.inl ⟨rfl, rfl, rfl⟩)⟩,
    by decide +kernel, ⟨rfl, _, _, 31, rfl, rfl, .inr (.inr ⟨rfl, rfl, by decide, by decide⟩)⟩, by decide +kernel⟩

/-- SETUP meets the laws; in RUNNING a channel in TRIP stays there over a step. -/
theorem test_meets_LawsHoldAtReset :
    let s : State := { setup with pending := [.status] }
    let t : State := { withChannel (fun r => { r with real := .trip }) running with pending := [.channelOff 31] }
    (CountsAgree s ∧ OccupanciesAgree s ∧ GrantsHold s ∧ AirAgrees s ∧ AlertsHold s ∧ ∃ u, step s = .next u)
      ∧ EnablesHold t ∧ (t.channel 31).real = .trip ∧ ∃ u, step t = .next u := by
  refine ⟨⟨by unfold CountsAgree; decide +kernel, by unfold OccupanciesAgree; decide +kernel,
    ⟨fun p q t u h => absurd ((truck_setup p).symm.trans h) (by simp),
      fun p t h => absurd ((truck_setup p).symm.trans h) (by simp),
      by decide +kernel, fun z n h => absurd (grants_setup z ▸ h : n ∈ []) (List.not_mem_nil),
      fun p t z h => absurd ((truck_setup p).symm.trans h) (by simp)⟩,
    by unfold AirAgrees; decide +kernel, fun i p h => absurd ((person_setup i).symm.trans h) (by simp), _, rfl⟩,
    by unfold EnablesHold SetupIsQuiet; decide +kernel, by decide +kernel, _, rfl⟩

theorem test_meets_SetupRequestsWriteTheirRecords :
    Ready setup ∧ setup.hpt.phase = .setup
      ∧ ((31 : Byte).toNat < 32 ∧ (3 : Byte).toNat < 4 ∧ (4 : Byte).toNat ≤ 4 ∧ (7 : Byte).toNat < 8 ∧ ¬ (32 : Byte).toNat < 32
          ∧ ZoneKind.refuge.code = 3 ∧ optionalKey (some (7 : Fin 8)) = 7 ∧ optionalKey (none : Option (Fin 8)) = 255)
      ∧ (1 ≤ (64 : Byte).toNat ∧ (64 : Byte).toNat ≤ 64 ∧ ¬ (65 : Byte).toNat ≤ 64)
      ∧ (1 ≤ (7 : Byte).toNat ∧ (7 : Byte).toNat ≤ 7 ∧ (7 : Byte).toNat < (15 : Byte).toNat ∧ (15 : Byte).toNat ≤ 15
          ∧ 1 ≤ (65535 : Word16).toNat ∧ ¬ (8 : Byte).toNat ≤ 7) :=
  ⟨ready_setup, rfl, by decide, by decide, by decide⟩

theorem test_meets_VehicleLimitWaitsForTheFrameStart :
    Ready setup ∧ Ready running ∧ setup.hpt.phase = .setup ∧ running.hpt.phase = .running ∧ 32 ≤ (32 : Byte).toNat
      ∧ 4 < (5 : Byte).toNat ∧ (31 : Fin 32).val = (31 : Byte).toNat ∧ (4 : Byte).toNat ≤ 4 ∧ setup.handed.limits = false
      ∧ (handing (fun h => { h with limits := true }) setup).handed.limits = true :=
  ⟨ready_setup, ready_running, by decide⟩

theorem test_meets_ChannelSetupBindsTheChannel :
    Ready setup ∧ setup.hpt.phase = .setup
      ∧ ((31 : Byte).toNat < 32 ∧ (1 : Byte).toNat ≤ 1 ∧ (252 : Byte).toNat < (253 : Byte).toNat
          ∧ (253 : Byte).toNat < (254 : Byte).toNat ∧ (254 : Byte).toNat ≤ 254 ∧ (7 : Byte).toNat ≤ 7)
      ∧ ¬ (32 : Byte).toNat < 32 ∧ Gas.methane.code = 0 ∧ optionalKey (some (31 : Fin 32)) = 31
      ∧ optionalKey (none : Option (Fin 32)) = 255 ∧ (setup.channel 31).zone = none ∧ (setup.channel 31).zone ≠ some 31 :=
  ⟨ready_setup, rfl, by decide, by decide +kernel⟩

theorem test_meets_ChannelChangeReachesItsZone :
    let s := (withChannel id running).modifyZone 31 (fun r => { r with monitored := true })
    let f : Channel → Channel := fun r => { r with real := .trip }
    QueueHolds s.atq ∧ (f (s.channel 31)).real ≠ (s.channel 31).real ∧ (f (s.channel 31)).zone = some 31
      ∧ ((changeChannel 31 f s).zone 31).reported ≠ (s.zone 31).reported
      ∧ ((changeChannel 31 f s).zone 31).real = .trip ∧ (s.channel 0).zone = none :=
  ⟨queue_reset, by decide +kernel⟩

/-- A person caught by a TRIP of zone 31 in zone 30, on one trip line with it, and the open door of a refuge of zone 31. -/
theorem test_meets_ChannelChangeReachesItsZone_evacuation :
    let s := (((withPerson 2 { aged .present 0 with zone := some 30 } (withChannel id running)).modifyZone 31
      (fun r => { r with monitored := true, tripLine := some 7 })).modifyZone 30 (fun r => { r with tripLine := some 7 })).modifyRefuge 7
      (fun r => { r with configured := true, zone := some 31, door := .opened })
    let t := changeChannel 31 (fun r => { r with real := .trip }) s
    (s.zone 31).autoLevel = .trip ∧ (s.zone 31).real = .clear ∧ (s.zone 30).evac = .notOrdered
      ∧ (t.zone 31).causes = { air := true, line := false, host := false }
      ∧ (t.zone 30).causes = { air := false, line := true, host := false }
      ∧ (t.person 2).map Person.alert = some .sent ∧ (t.refuge 7).reasons.doorBreach = true := by decide +kernel

/-- A rise from CLEAR in ENTRIES mode. -/
theorem test_meets_ChannelChangeReachesItsZone_entries :
    let s : State := { (withPerson 2 (aged .quiet 0) (withChannel id running)).modifyZone 31
      (fun r => { r with monitored := true }) with rst := { (withPerson 2 (aged .quiet 0) running).rst with exposureMode := .entries } }
    let t := changeChannel 31 (fun r => { r with real := .caution }) s
    s.person 2 = some (aged .quiet 0) ∧ s.rst.exposureMode = .entries ∧ (s.zone 31).real = .clear ∧ (t.zone 31).real = .caution
      ∧ (t.person 2).map Person.exposure = some 1 := by decide +kernel

/-- A test raises ZONE_DANGER with the test mark; a real change to DANGER under it takes the mark off (R22, R24). -/
theorem test_meets_ChannelChangeReachesItsZone_mark :
    let s := (withChannel id running).modifyZone 31 (fun r => { r with monitored := true })
    let t := changeChannel 31 (fun r => { r with test := some { forced := .danger, remaining := 5 } }) s
    let u := changeChannel 31 (fun r => { r with real := .danger }) t
    t.atq.items.map (fun it => (it.kind, it.condition, it.test)) = [(.zoneDanger, .active, true)]
      ∧ (u.zone 31).reported = (t.zone 31).reported ∧ (u.zone 31).real ≠ (t.zone 31).real
      ∧ u.atq.items.map (fun it => (it.kind, it.condition, it.test)) = [(.zoneDanger, .active, false)] := by decide +kernel

/-- CHANNEL_OFF during the channel's own turn, and CHANNEL_ON before the turn's completion: no reading (R96, R110). -/
theorem test_meets_ChannelsAreLevelledAndSwitched_turn :
    let r := withChannel id running
    let s : State := { r with air := { r.air with mode := .scan, sweep := .group 7, turnsDone := 3, turnLive := true } }
    let off := after (.channelOff 31) s
    let on := after (.channelOn 31) { off with hpt := { off.hpt with reply := [] } }
    (31 : Fin 32).val = (7 : Fin 8).val + 8 * s.air.turnsDone ∧ off.air.turnLive = false ∧ (on.channel 31).real = .warmup
      ∧ ((after (.conversionCompletion 50 false) on).channel 31).reading = none
      ∧ ((after (.conversionCompletion 50 false) on).channel 31).warmupCount = 0 := by decide +kernel

theorem test_meets_ChannelsAreLevelledAndSwitched :
    let s := withChannel id running
    Ready setup ∧ Ready s ∧ 32 ≤ (32 : Byte).toNat ∧ (31 : Fin 32).val = (31 : Byte).toNat
      ∧ ((s.channel 31).gas = .methane ∧ (s.channel 31).tripLevel = some 128 ∧ (126 : Byte).toNat < (127 : Byte).toNat
          ∧ (127 : Byte).toNat < 128 ∧ ¬ (128 : Byte).toNat < 128)
      ∧ (setup.channel 31).zone = none ∧ ((s.channel 31).zone ≠ none ∧ (s.channel 31).enabled = true)
      ∧ ((withChannel (fun r => { r with enabled := false }) running).channel 31).enabled = false
      ∧ ((withChannel (fun r => { r with enabled := false }) setup).channel 31).enabled = false
      ∧ ((withChannel (fun r => { r with real := .trip }) running).channel 31).real = .trip
      ∧ (s.channel 31).real ≠ .trip ∧ QueueHolds s.atq
      ∧ ((withChannel (fun r => { r with faultFlag := true }) running).channel 31).faultFlag = true :=
  ⟨ready_setup, ready_running, by decide, by decide, by decide +kernel, by decide +kernel, by decide +kernel,
    by decide +kernel, by decide +kernel, by decide +kernel, by decide +kernel, queue_reset, by decide +kernel⟩

theorem test_meets_TestsAndTripsAreSetAndReleased :
    let s := withChannel (fun r => { r with real := .trip, reading := some 63 }) running
    Ready s ∧ s.hpt.phase = .running ∧ Ready (withChannel id running) ∧ (2 : Byte).toNat < 3 ∧ 5 < (6 : Byte).toNat
      ∧ 32 ≤ (32 : Byte).toNat ∧ (31 : Fin 32).val = (31 : Byte).toNat ∧ ChannelState.caution.code = 3
      ∧ ChannelState.trip.code = 5 ∧ (255 : Byte) ≠ 0 ∧ (s.channel 31).real = .trip
      ∧ ((withChannel id running).channel 31).real = .normal
      ∧ (s.channel 31).test = none
      ∧ ((withChannel (fun r => { r with test := some { forced := .trip, remaining := 1 } }) running).channel 31).test ≠ none
      ∧ ((s.channel 31).faultFlag = false ∧ (s.channel 31).reading = some 63 ∧ 63 < (s.channel 31).levels.caution) :=
  ⟨ready_running, rfl, ready_running, by decide +kernel⟩

theorem test_meets_ChannelCountsAreJudged :
    let r := fun (f : Channel → Channel) => (withChannel f running).channel 31
    running.resetLow = false ∧ QueueHolds running.atq
      ∧ ((r (fun x => { x with real := .warmup, warmupCount := 3 })).warmupCount < 4
          ∧ 4 ≤ (r (fun x => { x with real := .warmup, warmupCount := 4 })).warmupCount)
      ∧ ((r id).runCount < (r id).persistence
          ∧ (r (fun x => { x with run := .rise .danger, runCount := 2 })).persistence ≤ 2
          ∧ (r (fun x => { x with real := .danger, run := .fall, runCount := 2 })).run = .fall)
      ∧ ((r id).faultFlag = false ∧ (r (fun x => { x with faultFlag := true, goodCount := 2 })).faultFlag = true
          ∧ (r (fun x => { x with faultFlag := true, goodCount := 2 })).persistence ≤ 2)
      ∧ (r id).test = none
      ∧ (r (fun x => { x with test := some { forced := .caution, remaining := 0 } })).test
          = some { forced := .caution, remaining := 0 } :=
  ⟨rfl, queue_reset, by decide +kernel⟩

/-- RUNNING with a sweep in flight in a mode, its last turn under way. -/
def sweeping (mode : SequencerMode) (sweep : Sweep) (s : State) : State :=
  { s with air := { s.air with mode := mode, sweep := sweep, turnsDone := 3, turnLive := true,
                               buffer := #v[some 200, some 128, none, none] } }

theorem test_meets_AirControlAbortsAndWritesTheMode :
    Ready setup ∧ setup.hpt.phase = .setup ∧ Ready running ∧ running.hpt.phase = .running ∧ 3 < (4 : Byte).toNat
      ∧ (SequencerMode.paused ≠ .idle ∧ SequencerMode.paused.code = 3 ∧ SequencerMode.scan.code = 1) ∧ running.air.sweep = .noSweep
      ∧ Ready (sweeping .scan (.group 7) running) ∧ (sweeping .scan (.group 7) running).air.sweep = .group 7
      ∧ (sweeping .scan (.confirm 31) running).air.sweep = .confirm 31 :=
  ⟨ready_setup, rfl, ready_running, rfl, by decide, by decide, rfl, ready_running, rfl, rfl⟩

theorem test_meets_SlotStartChoosesASweep :
    let s := fun (f : AirSequencer → AirSequencer) =>
      handing (fun h => { h with sweep := true }) { running with air := f { running.air with mode := .scan } }
    running.resetLow = false ∧ setup.handed.sweep = false ∧ (s id).handed.sweep = true ∧ (s id).air.sweep = .noSweep
      ∧ (s (fun a => { a with mode := .idle })).air.mode = .idle ∧ (s (fun a => { a with sweep := .group 7 })).air.sweep ≠ .noSweep
      ∧ (s (fun a => { a with mode := .paused })).air.confirmList = [] ∧ (s (fun a => { a with enableSet := 0 })).air.enableSet = 0
      ∧ (s (fun a => { a with confirmList := [31] })).air.confirmList = 31 :: []
      ∧ (s (fun a => { a with resume := some 7 })).air.resume = some 7
      ∧ ((s id).air.resume = none ∧ ((s id).air.lastGroup.val + 1) % 8 = (0 : Fin 8).val
          ∧ (s id).air.enableSet.getLsbD (0 : Fin 8).val = true)
      ∧ (((s (fun a => { a with enableSet := 128 })).air.lastGroup.val + 8) % 8 = (7 : Fin 8).val
          ∧ (128 : BitVec 8).getLsbD 7 = true
          ∧ ∀ j < 8, 1 ≤ j → (128 : BitVec 8).getLsbD (((s id).air.lastGroup.val + j) % 8) = false) := by
  decide +kernel

/-- PAUSED keeps the resume group, an empty set clears it (log 22); the first turn of group 7 is on channel 7, which is off. -/
theorem test_meets_SlotStartChoosesASweep_nothing :
    let s := fun (f : AirSequencer → AirSequencer) =>
      handing (fun h => { h with sweep := true }) { running with air := f { running.air with mode := .scan, resume := some 7 } }
    (after .sweepStart (s (fun a => { a with mode := .paused }))).air.resume = some 7
      ∧ (after .sweepStart (s (fun a => { a with enableSet := 0 }))).air.resume = none
      ∧ (after .sweepStart (s (fun a => { a with mode := .once, onceSet := 0 }))).air.resume = none
      ∧ (after .sweepStart (s id)).air.sweep = .group 7 ∧ (after .sweepStart (s id)).air.turnLive = false := by decide +kernel

theorem test_meets_ReadingIsJudgedByTheState :
    let r := fun (f : Channel → Channel) => (withChannel f running).channel 31
    QueueHolds running.atq ∧ (running.channel 31).real = .off ∧ (r id).real = .normal ∧ (r id).faultFlag = false
      ∧ (r (fun x => { x with faultFlag := true })).faultFlag = true
      ∧ (r (fun x => { x with real := .warmup, warmupCount := 3 })).warmupCount + 1 = 4
      ∧ (r (fun x => { x with real := .trip })).real = .trip
      ∧ (r (fun x => { x with real := .fault, faultFlag := true })).goodCount + 1 < (r id).persistence
      ∧ (r id).persistence ≤ (r (fun x => { x with real := .fault, faultFlag := true, goodCount := 1 })).goodCount + 1
      ∧ ((r id).gas = .methane ∧ (r id).tripLevel = some 128 ∧ 128 ≤ (128 : Byte).toNat)
      ∧ ((r id).levels.danger ≤ (96 : Byte).toNat ∧ ¬ 128 ≤ (96 : Byte).toNat
          ∧ (∀ y, (r id).run ≠ .rise y) ∧ 1 < (r id).persistence
          ∧ (r (fun x => { x with run := .rise .danger, runCount := 1 })).run = .rise .danger)
      ∧ ((59 : Byte).toNat + (r id).hysteresis < (r id).levels.caution
          ∧ ¬ (r id).levels.caution ≤ (59 : Byte).toNat
          ∧ (r (fun x => { x with real := .caution, run := .fall, runCount := 1 })).run = .fall) :=
  ⟨queue_reset, by decide +kernel, by decide +kernel, by decide +kernel, by decide +kernel, by decide +kernel,
    by decide +kernel, by decide +kernel, by decide +kernel, by decide +kernel,
    ⟨by decide +kernel, by decide, fun y h => (by decide +kernel : ((withChannel id running).channel 31).run = .noRun).symm.trans h
      |> (nomatch ·), by decide +kernel, by decide +kernel⟩, by decide +kernel⟩

theorem test_meets_ConversionCompletionEndsTurnsAndSweeps :
    let s := sweeping .once (.group 7) (withChannel id running)
    let t := sweeping .scan (.confirm 31) (withChannel id running)
    s.resetLow = false ∧ running.air.sweep = .noSweep
      ∧ ({ s with air := { s.air with turnsDone := 2 } } : State).air.turnsDone + 1 < 4
      ∧ (s.air.sweep = .group 7 ∧ s.air.turnsDone = 3 ∧ s.air.mode = .once ∧ (31 : Fin 32).val = (7 : Fin 8).val + 8 * (3 : Fin 4).val
          ∧ (s.channel 31).enabled = true ∧ (s.channel 31).test = none ∧ (7 : Fin 32).val = (7 : Fin 8).val + 8 * (0 : Fin 4).val
          ∧ (s.channel 7).enabled = false)
      ∧ ((withChannel (fun r => { r with test := some { forced := .danger, remaining := 1 } }) running).channel 31).test
          = some { forced := .danger, remaining := 1 }
      ∧ t.air.sweep = .confirm 31 ∧ (t.channel 31).isAtTrip 128 = true ∧ (t.channel 31).isAtTrip 127 = false := by
  decide +kernel

/-- A turn on an enabled channel is live and stores its count, one on another is not and stores none (R93); a confirm sweep that
does not trip takes one sweep off its channel's test. -/
theorem test_meets_ConversionCompletionEndsTurnsAndSweeps_turns :
    let third := fun (f : Channel → Channel) (w : Sweep) =>
      let s := sweeping .scan w (withChannel f running)
      ({ s with air := { s.air with turnsDone := 2, turnLive := false } } : State)
    let on := after (.conversionCompletion 50 false) (third id (.group 7))
    let off := after (.conversionCompletion 50 false) (third (fun r => { r with enabled := false }) (.group 7))
    let test : ChannelTest := { forced := .danger, remaining := 2 }
    let confirm := after (.conversionCompletion 50 false) (third (fun r => { r with test := some test }) (.confirm 31))
    (31 : Fin 32).val = (7 : Fin 8).val + 8 * (2 + 1) ∧ on.air.turnLive = true ∧ off.air.turnLive = false
      ∧ confirm.air.turnLive = true ∧ confirm.air.select.val = (31 : Fin 32).val / 8
      ∧ ((after (.conversionCompletion 50 false) on).channel 31).reading = some 50
      ∧ ((after (.conversionCompletion 50 false) off).channel 31).reading = none
      ∧ ((after (.conversionCompletion 50 false) confirm).channel 31).test = some { test with remaining := 1 } := by
  decide +kernel

theorem test_meets_TripLineLawIsKept :
    let s : State := { setup with pending := [.status] }
    LinesAgree s ∧ SetupIsQuiet s ∧ ∃ t, step s = .next t :=
  ⟨by unfold LinesAgree; decide +kernel, by unfold SetupIsQuiet; decide +kernel, _, rfl⟩

theorem test_meets_TrucksJoinAndLeave :
    let held : Truck := { truck with number := 4095, held := some 31 }
    Ready setup ∧ Ready (withTruck1 held setup) ∧ ((0 : Word16).toNat < 1 ∧ (4095 : Word16).toNat ≤ 4095 ∧ (1 : Byte).toNat ≤ 1)
      ∧ (∀ q t, setup.truckAt q = some t → t.number ≠ 4095) ∧ setup.truckAt 0 = none ∧ TruckKind.battery.code = 1
      ∧ (∀ q, ({ setup with hlk := { setup.hlk with trucks := Vector.replicate 24 (some truck) } } : State).truckAt q ≠ none)
      ∧ NamesTruck (withTruck1 held setup) 4095 0 held ∧ (withTruck1 held setup).hlk.cursor = some 4095
      ∧ (withTruck1 held setup).hlk.pollList = [4095]
      ∧ ({ withTruck1 held setup with hlk := { (withTruck1 held setup).hlk with pollList := [4095, 1] } } : State).hlk.pollList
          = [] ++ 4095 :: 1 :: []
      ∧ ({ withTruck1 held setup with hlk := { (withTruck1 held setup).hlk with pollList := [1, 4095] } } : State).hlk.pollList
          = 1 :: ([] ++ [4095]) :=
  ⟨ready_setup, ready_setup, by decide, fun q t h => absurd ((truck_setup q).symm.trans h) (by simp), truck_setup 0, by decide,
    fun q => by simp [State.truckAt], names_truck _ (by decide) (by decide) rfl, rfl, rfl, rfl, rfl⟩

theorem test_meets_OrdersAreForcedAndReleased :
    let s : State := { withTruck1 truck setup with hpt := running.hpt }
    Ready s ∧ s.hpt.phase = .running ∧ ¬ 1 ≤ (0 : Word16).toNat ∧ ¬ (4096 : Word16).toNat ≤ 4095 ∧ 2 < (3 : Byte).toNat
      ∧ (2 : Byte).toNat ≤ 2 ∧ Order.hold.code = 2 ∧ NamesTruck s 7 0 truck
      ∧ ∀ q t, s.truckAt q = some t → t.number ≠ (4095 : Word16).toNat :=
  ⟨⟨rfl, rfl, rfl⟩, rfl, by decide, by decide, by decide, by decide, by decide, names_truck _ (by decide) (by decide) rfl,
    fun q t h => by rw [(truck_with h).2]; decide⟩

theorem test_meets_HaulSlotPollsTheTruckAtTheCursor :
    let s := fun (u : Truck) => handing (fun h => { h with poll := true }) (withTruck1 u (counting 4 183))
    let late : Truck := { truck with state := .linked, missed := 2, lastPoll := some { frame := 3, slot := 160 } }
    (s truck).resetLow = false ∧ setup.handed.poll = false ∧ (s truck).handed.poll = true ∧ (s truck).slotClass = .haul
      ∧ (counting 4 184).slotClass ≠ .haul ∧ (counting 4 159).slotClass ≠ .haul ∧ (counting 4 160).slotClass = .haul
      ∧ setup.hlk.cursor = none
      ∧ ((s truck).hlk.cursor = some 7 ∧ (s truck).truck 7 = some truck ∧ truck.polled = false ∧ (s truck).hlk.pollList = [7])
      ∧ (s { truck with polled := true }).truck 7 = some { truck with polled := true }
      ∧ ((s late).truck 7 = some late ∧ late.answered = false ∧ (s late).hlk.lapseLimit ≤ late.missed + 1)
      ∧ ((s { late with missed := 3 }).truck (7 : Word16).toNat = some { late with missed := 3 } ∧ (s late).hlk.lapseLimit ≤ 3)
      ∧ ¬ (s late).hlk.lapseLimit ≤ late.missed := by decide +kernel

theorem test_meets_FrameStartCountsTheHostsSilence :
    let u : Truck := { truck with entry := some { zone := 31, status := .granted } }
    let s := handing (fun h => { h with pollFlags := true, silence := true })
      ({ withTruck1 u (counting 4 0) with hlk := { (withTruck1 u (counting 4 0)).hlk with silenceLimit := 255, silenceCount := 254 } })
    s.resetLow = false ∧ setup.handed.pollFlags = false ∧ setup.handed.silence = false ∧ s.handed.pollFlags = true
      ∧ s.handed.silence = true ∧ setup.hlk.silenceLimit = 0 ∧ s.hlk.silenceLimit ≠ 0
      ∧ s.hlk.silenceLimit ≤ min 255 (s.hlk.silenceCount + 1) ∧ s.hlk.silenceCount < s.hlk.silenceLimit ∧ s.hlk.alone = false
      ∧ ({ s.hlk with silenceCount := 255 } : HaulLink).silenceLimit ≤ 255
      ∧ (s.truck 7 = some u ∧ u.entry = some { zone := 31, status := .granted } ∧ 7 ∈ s.hlk.pollList) := by decide +kernel

theorem test_meets_ZonesAreEvacuatedAndLifted :
    let u : Truck := { truck with entry := some { zone := 31, status := .granted } }
    let s := fun (f : Zone → Zone) => (withPerson 239 (aged .missing 6) running).modifyZone 31 f
    (∀ f, Ready (s f)) ∧ running.hpt.phase = .running ∧ (0x80000000 : BitVec 32) ≠ 0
      ∧ (0x80000000 : BitVec 32).getLsbD (31 : Fin 32).val = true ∧ (0x80000000 : BitVec 32).getLsbD (30 : Fin 32).val = false
      ∧ ((s id).zone 31).evac = .notOrdered ∧ ((s (fun r => { r with evac := .ordered })).zone 31).evac = .ordered
      ∧ ((s id).person 239 = some (aged .missing 6) ∧ (aged .missing 6).zone = some 31 ∧ (aged .missing 6).alert = .noAlert)
      ∧ (((withTruck1 u running).truck 7 = some u ∧ 7 ∈ (withTruck1 u running).hlk.pollList)
          ∧ u.entry = some { zone := 31, status := .granted })
      ∧ ((s (fun r => { r with real := .danger })).zone 31).real = .danger ∧ ∀ z, ((s id).zone z).real ≠ .danger ∧ ((s id).zone z).real ≠ .trip :=
  ⟨fun _ => ready_zone _ _ (ready_with _ _ ready_running), rfl, by decide, by decide, by decide, by decide +kernel, by decide +kernel,
    by decide +kernel, by decide +kernel, by decide +kernel, by decide +kernel⟩

theorem test_meets_FrameStartJudgesPanelsAndStartsRounds :
    let s := fun (f : Person → Person) => handing (fun h => { h with panel := true, round := true })
      ((withPerson 239 (f crew) (counting 10 0)).modifyRefuge 7 (fun r => { r with configured := true }))
    (s id).resetLow = false ∧ setup.handed.panel = false ∧ setup.handed.round = false ∧ (s id).handed.panel = true
      ∧ (s id).handed.round = true ∧ QueueHolds (s id).atq
      ∧ (((s id).refuge 7).configured = true ∧ ((s id).refuge 7).panel = .reporting ∧ ((s id).refuge 7).reasons.silent = false
          ∧ (s id).rev.silenceLimit ≤ framesSince (s id).frt.frame ((s id).refuge 7).lastReport
          ∧ ((s id).refuge 0).configured = false)
      ∧ (s id).rev.roundOn = false ∧ (s (fun p => { p with page := true })).person 239 = some { crew with page := true }
      ∧ (s (fun p => { p with alert := .sent })).person 239 = some { crew with alert := .sent }
      ∧ ∀ i p, (withPerson 239 crew setup).person i = some p → ¬ (p.alert = .sent ∨ p.page = true) :=
  ⟨rfl, rfl, rfl, rfl, rfl, queue_reset, by decide +kernel, rfl, by decide +kernel, by decide +kernel,
    fun i p h => by rw [(only_person person_setup h).2]; decide⟩

/-- A record with a call. -/
def calling (precedence : Precedence) (state : CallState) (since : Frame) : Person :=
  { crew with state := .present, zone := some 31, precedence := precedence, callState := state, callStamp := some since }

/-- A call CONNECTED on channel 3. -/
def connected : Person := { calling .urgent .connected 0 with callChannel := some 3 }

/-- The call of slot 239, generation 15, holds channel 3. -/
def holding3 (s : State) : State :=
  { withPerson 239 connected s with
    cal := { s.cal with channels := s.cal.channels.set 3 (some { slot := 239, gen := 15 }) } }

theorem test_meets_CallsAreAnsweredAndEnded :
    let s := fun (p : Person) => withPerson 239 p running
    let full : State := { s (calling .urgent .waiting 0) with
      cal := { setup.cal with channels := Vector.replicate 4 (some { slot := 0, gen := 0 }) } }
    let last : State := { full with cal := { full.cal with channels := full.cal.channels.set 3 none } }
    (∀ p, Ready (s p)) ∧ (∀ p, Names (s p) 239 15 239 p) ∧ running.hpt.phase = .running ∧ QueueHolds running.atq
      ∧ crew.callState ≠ .waiting ∧ crew.callState ≠ .connected
      ∧ (calling .urgent .waiting 0).callState = .waiting ∧ (calling .urgent .waiting 0).state = .present
      ∧ ({ calling .urgent .waiting 0 with state := .quiet } : Person).state ≠ .present
      ∧ (∀ c : Fin 4, c.val < full.cal.usable → full.cal.channels[c] ≠ none)
      ∧ ((3 : Fin 4).val < last.cal.usable ∧ last.cal.channels[(3 : Fin 4)] = none ∧ ∀ d < (3 : Fin 4), last.cal.channels[d] ≠ none)
      ∧ connected.callState = .connected ∧ connected.callChannel = some 3 :=
  ⟨fun _ => ready_with _ _ ready_running, fun p => names_with p _ rfl rfl, rfl, queue_reset, by decide, by decide, rfl, rfl,
    by decide, by decide, by decide, rfl, rfl⟩

/-- A CALL key raises, an EMERGENCY key upgrades, a CALL key repeats, and a CANCEL key ends a call. -/
theorem test_meets_CallsAreAnsweredAndEnded_keys :
    let s := withPerson 239 crew running
    let s1 := actOnKey 239 .call s
    let s2 := actOnKey 239 .emergency s1
    let s3 := actOnKey 239 .call s2
    let call := fun (t : State) => (t.person 239).map (fun p => (p.precedence, p.callState, p.repeats))
    s.person 239 = some crew ∧ crew.callState = .noCall ∧ QueueHolds s.atq
      ∧ call s1 = some (.routine, .waiting, 0) ∧ s1.atq.items.map Item.kind = [.routineCall]
      ∧ call s2 = some (.emergency, .waiting, 0) ∧ s2.atq.items.map Item.kind = [.emergencyCall]
      ∧ call s3 = some (.emergency, .waiting, 1) ∧ call (actOnKey 239 .cancel s3) = some (.noCall, .noCall, 0)
      ∧ (actOnKey 239 .cancel s3).atq.items = []
      ∧ call (actOnKey 239 .emergency (holding3 running)) = some (.emergency, .connected, 1)
      ∧ (actOnKey 239 .cancel (holding3 running)).cal.channels[(3 : Fin 4)] = none :=
  ⟨by decide +kernel, rfl, queue_reset, by decide +kernel⟩

theorem test_meets_CallWaitsAreJudged :
    let s := fun (p : Person) => handing (fun h => { h with callWait := true }) (withPerson 239 p (counting 30 0))
    let p := calling .routine .waiting 0
    let q := calling .urgent .waiting 0
    let r := calling .emergency .waiting 20
    setup.resetLow = false ∧ setup.handed.callWait = false ∧ (s p).handed.callWait = true ∧ QueueHolds (s p).atq
      ∧ ((s p).person 239 = some p ∧ (s p).cal.routineLimit ≤ framesSince (s p).frt.frame 0)
      ∧ ((s q).person 239 = some q ∧ q.overdue = false) ∧ (s r).person 239 = some r
      ∧ (s r).cal.emergencyLimit ≤ framesSince (s r).frt.frame 20
      ∧ ¬ (s p).cal.routineLimit ≤ framesSince (s p).frt.frame 1 :=
  ⟨rfl, rfl, rfl, queue_reset, by decide +kernel⟩

/-- An URGENT call becomes overdue while its item is ACKED: the item is NEW again, with ATTENTION (R159, R39). -/
theorem test_meets_CallWaitsAreJudged_renew :
    let q := calling .urgent .waiting 0
    let it := item .urgentCall (.person 239 15) .acked .active
    let s := withQueue [it] [] (handing (fun h => { h with callWait := true }) (withPerson 239 q (counting 30 0)))
    QueueHolds s.atq ∧ s.personSubject 239 = it.subject ∧ it.state ≠ .new ∧ s.hpt.flags.attention = false
      ∧ (after .callWaitJudgement s).atq.items = [{ it with state := .new, detail := .call 0 true }]
      ∧ (after .callWaitJudgement s).hpt.flags.attention = true := by
  unfold QueueHolds; decide +kernel

theorem test_meets_CallChannelsAreNarrowedAndHeld :
    let s := holding3 (handing (fun h => { h with usable := true, hold := true }) (counting 4 187))
    ChannelsAgree s ∧ s.resetLow = false ∧ setup.handed.usable = false ∧ setup.handed.hold = false
      ∧ s.handed.usable = true ∧ s.handed.hold = true ∧ (counting 4 188).slotClass ≠ .voice ∧ s.slotClass = .voice
      ∧ s.frt.slot = s.frt.active.callStart + (3 : Fin 4).val ∧ (3 : Fin 4).val < s.cal.usable
      ∧ s.cal.channels[(3 : Fin 4)] = some { slot := 239, gen := 15 } ∧ s.person 239 = some connected
      ∧ setup.cal.channels[(3 : Fin 4)] = none := by
  refine ⟨⟨fun c h hc => ?_, fun i p hp hcall => ?_⟩, by decide +kernel⟩
  · have : ∀ c : Fin 4, (holding3 (handing (fun h => { h with usable := true, hold := true }) (counting 4 187))).cal.channels[c]
        = if c = 3 then some { slot := 239, gen := 15 } else none := by decide +kernel
    rw [this] at hc
    split at hc
    · rename_i h3; cases hc; subst h3; exact ⟨connected, by decide +kernel, rfl, rfl⟩
    · cases hc
  · obtain ⟨rfl, rfl⟩ := only_person (s := counting 4 187) (fun j => person_setup j) hp
    exact ⟨3, rfl, by decide +kernel⟩

theorem test_meets_CallLawIsKept :
    let s : State := { setup with pending := [.status] }
    ChannelsAgree s ∧ ∃ t, step s = .next t :=
  ⟨⟨fun c _ h => absurd ((free_setup c).symm.trans h) (by simp),
    fun i p h => absurd ((person_setup i).symm.trans h) (by simp)⟩, _, rfl⟩

theorem test_meets_ArrivalIsQueuedWithItsStamp :
    let bytes : List Byte := [1, 4, 0, 0, 5, 15, 3, 2]
    let full : State := { counting 4 20 with flk := { setup.flk with queue := List.replicate 16 ⟨bytes, 4, 20, .tag⟩ } }
    setup.resetLow = false ∧ setup.frt.timer ≠ .counting ∧ (counting 4 20).frt.timer = .counting
      ∧ (bytes[0]? = some 1 ∧ 8 ≤ bytes.length ∧ ¬ 8 ≤ (bytes.take 7).length)
      ∧ (([2, 0, 7, 4, 4, 1, 0, 1, 0, 9] : List Byte)[5]? = some 1 ∧ 6 + 4 * (1 : Byte).toNat = 10)
      ∧ (([3, 7, 0, 0, 0, 1, 0, 0, 5] : List Byte)[4]? = some 0 ∧ ([3, 7, 0, 0, 0, 1, 0, 0, 5] : List Byte)[5]? = some 1
          ∧ 6 + 3 * (0 : Byte).toNat + 3 * (1 : Byte).toNat = 9)
      ∧ 16 ≤ full.flk.queue.length ∧ (counting 4 20).flk.queue.length < 16 := by decide

theorem test_meets_TagReportSightsItsRecord :
    let bytes : List Byte := [1, 31, 0, 0, 5, 15, 0, 3]
    let zone := fun (kind : ZoneKind) (s : State) => s.modifyZone 31 (fun r => { r with configured := true, kind := kind })
    let s := received .tag bytes (zone .travel (withPerson 239 crew (counting 4 20)))
    let portal : State := received .tag bytes (zone .portal { counting 4 20 with rst := { setup.rst with portalEnrolment := true } })
    s.resetLow = false ∧ setup.flk.queue = [] ∧ s.flk.inHand = none
      ∧ s.flk.queue = { message := bytes, frame := 4, slot := 9, slotClass := .tag } :: []
      ∧ inbound? [1, 4] = none ∧ bytes = [1, 31, 0, 0, 5, 15, 0, 3] ∧ 32 ≤ (32 : Byte).toNat ∧ 15 < (16 : Byte).toNat
      ∧ ((31 : Fin 32).val = (31 : Byte).toNat ∧ (15 : Byte).toNat ≤ 15 ∧ (0 : Byte).toNat ≤ 5 ∧ (3 : Byte).toNat ≤ 3
          ∧ word24 0 0 5 = 5 ∧ word24 255 255 255 = 0xffffff)
      ∧ (setup.zone 31).configured = false ∧ (s.zone 31).configured = true
      ∧ (s.person 239 = some crew ∧ crew.tag = word24 0 0 5 ∧ crew.state ≠ .mustered ∧ QueueHolds s.atq
          ∧ ∀ j q, s.person j = some q → q.tag = word24 0 0 5 → j = 239)
      ∧ ((portal.zone 31).kind = .portal ∧ portal.rst.portalEnrolment = true ∧ portal.person 0 = none)
      ∧ (∀ i p, portal.person i = some p → p.tag ≠ word24 0 0 5) ∧ portal.atq.items.length < 32
      ∧ (s.zone 31).kind ≠ .portal := by
  refine ⟨rfl, rfl, rfl, rfl, by decide, rfl, by decide, by decide, by decide, by decide, by decide +kernel,
    ⟨by decide +kernel, by decide, by decide, queue_reset, fun j q h _ => ?_⟩, by decide +kernel, fun i p h => ?_, by decide,
    by decide +kernel⟩
  · exact (only_person (s := counting 4 20) (fun j => person_setup j) h).1
  · exact absurd ((person_setup i).symm.trans h) (by simp)

/-- A MUSTERED record sighted in its refuge's zone stays, and leaves where another zone wins; a key is acted on once. -/
theorem test_meets_TagReportSightsItsRecord_mustered :
    let mustered : Person := { crew with state := .mustered, refuge := some 7, zone := some 31 }
    let s := fun (zone key : Byte) (p : Person) => received .tag [1, zone, 0, 0, 5, 15, key, 3]
      ((((withPerson 239 p (counting 4 20)).modifyRefuge 7 (fun r => { r with configured := true, zone := some 31, occupancy := 1 })).modifyZone
        31 (fun r => { r with configured := true })).modifyZone 30 (fun r => { r with configured := true }))
    let state := fun (t : State) => (t.person 239).map (fun p => (p.state, p.callState, p.lastKey))
    (s 31 0 mustered).person 239 = some mustered ∧ mustered.heard = none
      ∧ state (after .messageTaking (s 31 0 mustered)) = some (.mustered, .noCall, some 3)
      ∧ state (after .messageTaking (s 30 0 mustered)) = some (.present, .noCall, some 3)
      ∧ ((after .messageTaking (s 30 0 mustered)).refuge 7).occupancy = 0
      ∧ state (after .messageTaking (s 31 1 crew)) = some (.present, .waiting, some 3)
      ∧ state (after .messageTaking (s 31 1 { crew with lastKey := some 3 })) = some (.present, .noCall, some 3) := by
  decide +kernel

theorem test_meets_RefugeAndTruckReportsAreTaken :
    let mustered : Person := { crew with state := .mustered, refuge := some 7 }
    let s := fun (p : Person) (checkIns checkOuts : List Tag) => received .tag
      ([3, 7, 0, 0, byteOf checkIns.length, byteOf checkOuts.length] ++ checkIns.flatMap bytes24 ++ checkOuts.flatMap bytes24)
      ((withPerson 239 p (counting 4 20)).modifyRefuge 7 (fun r => { r with configured := true, zone := some 31 }))
    let u : Truck := { truck with lastPoll := some { frame := 4, slot := 9 } }
    let t := fun (u : Truck) => received .haul [2, 0, 7, 31, 255, 0] (withTruck1 u (counting 4 10))
    (∀ p l m, (s p l m).resetLow = false ∧ (s p l m).flk.inHand = none)
      ∧ inbound? [3, 7, 0, 0, 1, 0, 0, 0, 5]
          = some (.refuge { refuge := 7, door := .closed, supply := .ok, checkIns := [5], checkOuts := [] })
      ∧ inbound? [3, 7, 0, 0, 0, 1, 0, 0, 5]
          = some (.refuge { refuge := 7, door := .closed, supply := .ok, checkIns := [], checkOuts := [5] })
      ∧ (s crew [5] []).flk.queue
          = { message := [3, 7, 0, 0, 1, 0, 0, 0, 5], frame := 4, slot := 9, slotClass := .tag } :: []
      ∧ (setup.refuge 7).configured = false ∧ ((s crew [5] []).refuge 7).configured = true
      ∧ (s crew [5] []).person 239 = some crew ∧ crew.tag = 5 ∧ crew.state ≠ .mustered
      ∧ ((s mustered [] [5]).person 239 = some mustered ∧ mustered.state = .mustered ∧ mustered.refuge = some 7)
      ∧ (∀ j q, (s crew [5] []).person j = some q → q.tag = 5 → j = 239)
      ∧ inbound? [2, 0, 7, 31, 255, 0] = some (.truck { number := 7, zone := 31, requested := 255, proximity := [] })
      ∧ ((t u).flk.queue = { message := [2, 0, 7, 31, 255, 0], frame := 4, slot := 9, slotClass := .haul } :: []
          ∧ (t u).truck 7 = some u ∧ u.lastPoll = some { frame := 4, slot := 9 } ∧ u.answered = false
          ∧ optionalKey (some (31 : Fin 32)) = 31 ∧ optionalKey (none : Option (Fin 32)) = 255)
      ∧ (QueueHolds (t u).atq ∧ u.held = none ∧ u.grantedZone ≠ some 31 ∧ u.intrusion = false)
      ∧ (t truck).truck 7 = some truck ∧ truck.lastPoll ≠ some { frame := 4, slot := 9 } := by
  refine ⟨fun p l m => ⟨rfl, rfl⟩, by decide, by decide, by decide, by decide +kernel, by decide +kernel, by decide +kernel,
    rfl, by decide, by decide +kernel, fun j q h _ => ?_, by decide, by decide +kernel, ⟨queue_reset, by decide +kernel⟩,
    by decide +kernel⟩
  exact (only_person (s := counting 4 20) (fun j => person_setup j) h).1

/-- An official heard in its visitor's zone ends the visitor's separation and its ESCORT_LOST, and one heard elsewhere begins it
(R63, R69). -/
theorem test_meets_TagReportSightsItsRecord_escort :
    let s := fun (zone : Byte) (s : State) => received .tag [1, zone, 0, 0, 9, 15, 0, 3]
      ((s.modifyZone 31 (fun r => { r with configured := true })).modifyZone 30 (fun r => { r with configured := true }))
    let apart := withQueue [item .escortLost (.person 239 15) .seen .active] []
      (escorted 30 (fun v => { v with separation := some 2, escortLost := true }) (counting 20 3))
    separation apart = some (some 2, true) ∧ QueueHolds apart.atq
      ∧ separation (after .messageTaking (s 31 apart)) = some (none, false)
      ∧ (after .messageTaking (s 31 apart)).atq.items.map Item.condition = [.ended]
      ∧ separation (after .messageTaking (s 30 (escorted 31 id (counting 20 3)))) = some (some 20, false) := by
  unfold QueueHolds; decide +kernel

/-- Two tags in one refuge report, a check-in of a record MUSTERED elsewhere, and a proximity entry of a truck report. -/
theorem test_meets_RefugeAndTruckReportsAreTaken_lists :
    let crew6 : Person := { crew with tag := 6, state := .mustered, refuge := some 0 }
    let s := received .tag [3, 7, 0, 0, 2, 1, 0, 0, 5, 0, 0, 6, 0, 0, 5]
      (((withPerson 2 crew6 (withPerson 239 crew (counting 4 20))).modifyRefuge 7
        (fun r => { r with configured := true, zone := some 31 })).modifyRefuge 0 (fun r => { r with occupancy := 1 }))
    let t := after .messageTaking s
    let u : Truck := { truck with lastPoll := some { frame := 4, slot := 9 } }
    let v := received .haul [2, 0, 7, 31, 255, 1, 0, 0, 5, 9] (withPerson 239 crew (withTruck1 u (counting 4 10)))
    inbound? [3, 7, 0, 0, 2, 1, 0, 0, 5, 0, 0, 6, 0, 0, 5]
        = some (.refuge { refuge := 7, door := .closed, supply := .ok, checkIns := [5, 6], checkOuts := [5] })
      ∧ (t.person 239).map (fun p => (p.state, p.refuge)) = some (.present, none)
      ∧ (t.person 2).map (fun p => (p.state, p.refuge)) = some (.mustered, some 7)
      ∧ (t.refuge 7).occupancy = 1 ∧ (t.refuge 0).occupancy = 0 ∧ (s.zone 31).grants.Pairwise (· < ·)
      ∧ ((after .messageTaking v).person 239).map (fun p => (p.state, p.zone, p.level)) = some (.present, some 31, 0) := by
  decide +kernel

/-- A request for a fit zone with room is GRANTED and its place taken; for one in DANGER it is DEFERRED (R127). -/
theorem test_meets_RefugeAndTruckReportsAreTaken_request :
    let u : Truck := { truck with lastPoll := some { frame := 4, slot := 9 } }
    let s := fun (air : AirState) => received .haul [2, 0, 7, 255, 30, 0]
      ((withTruck1 u (counting 4 10)).modifyZone 30 (fun r => { r with reported := air }))
    let entry := fun (t : State) => (t.truck 7).map (fun v => (v.held, v.entry))
    (s .caution).truck 7 = some u ∧ ((s .caution).zone 30).evac = .notOrdered ∧ (s .caution).hlk.alone = false
      ∧ ((s .caution).zone 30).grants = [] ∧ ((s .caution).zone 30).limit = 2
      ∧ entry (after .messageTaking (s .caution)) = some (none, some { zone := 30, status := .granted })
      ∧ ((after .messageTaking (s .caution)).zone 30).grants = [7]
      ∧ entry (after .messageTaking (s .danger)) = some (none, some { zone := 30, status := .deferred })
      ∧ ((after .messageTaking (s .danger)).zone 30).grants = [] := by decide +kernel

/-- A report that opens the door in DANGER air raises REFUGE_FAULT, renews it where a fault was held, and ends it where no reason
is left (R153). -/
theorem test_meets_RefugeAndTruckReportsAreTaken_faults :
    let none : FaultReasons := { doorBreach := false, doorFault := false, supply := false, silent := false, overCapacity := false }
    let s := fun (door : Byte) (old : FaultReasons) (items : List Item) => withQueue items []
      (received .tag [3, 7, door, 0, 0, 0] (((counting 4 20).modifyRefuge 7
        (fun r => { r with configured := true, zone := some 31, reasons := old })).modifyZone 31 (fun r => { r with real := .danger })))
    let fault := item .refugeFault (.refuge 7) .seen .active
    let kept := fun (t : State) => t.atq.items.map (fun it => (it.state, it.condition, it.detail))
    inbound? [3, 7, 1, 0, 0, 0] = some (.refuge { refuge := 7, door := .opened, supply := .ok, checkIns := [], checkOuts := [] })
      ∧ ((after .messageTaking (s 1 none [])).refuge 7).reasons = { none with doorBreach := true }
      ∧ kept (after .messageTaking (s 1 none [])) = [(.new, .active, .faults { none with doorBreach := true })]
      ∧ kept (after .messageTaking (s 1 { none with supply := true } [fault]))
          = [(.new, .active, .faults { none with doorBreach := true })]
      ∧ kept (after .messageTaking (s 1 { none with doorBreach := true, supply := true } [fault]))
          = [(.seen, .active, .faults { none with doorBreach := true })]
      ∧ kept (after .messageTaking (s 0 { none with supply := true } [fault])) = [(.seen, .ended, .absent)] := by decide +kernel

/-- A check-in of an official begins its visitor's separation, and a check-out into the visitor's zone ends it (R150, R151). -/
theorem test_meets_RefugeAndTruckReportsAreTaken_escort :
    let s := fun (bytes : List Byte) (s : State) => received .tag bytes
      (s.modifyRefuge 7 (fun r => { r with configured := true, zone := some 31 }))
    let t := after .messageTaking (s [3, 7, 0, 0, 1, 0, 0, 0, 9] (escorted 31 id (counting 20 3)))
    let u := after .messageTaking (received .tag [3, 7, 0, 0, 0, 1, 0, 0, 9] t)
    separation t = some (some 20, false) ∧ (t.person 0).map Person.state = some .mustered
      ∧ separation u = some (none, false) ∧ (u.person 0).map Person.state = some .present := by decide +kernel

theorem test_meets_HeldMessageIsFetchedOrDropped :
    let held : Held := { message := .channelHold 3 0xffffff, stamp := { frame := 4, slot := 20 } }
    let s := fun (slot : Nat) => handing (fun h => { h with check := true })
      { counting 4 slot with flk := { setup.flk with holding := some held } }
    (s 20).resetLow = false ∧ setup.handed.check = false ∧ (s 20).handed.check = true ∧ setup.flk.holding = none
      ∧ (s 20).flk.holding = some held ∧ held.stamp = (s 20).stamp ∧ held.stamp ≠ (s 21).stamp := by decide

theorem test_meets_StartChecksTheSetupAndArms :
    let badChannel := withChannel id setup
    let badRefuge := setup.modifyRefuge 7 (fun r => { r with configured := true, zone := some 31 })
    let badZone := setup.modifyZone 31 (fun r => { r with refuge := some 7 })
    let badLine := setup.modifyZone 31 (fun r => { r with tripLine := some 7 })
    Ready setup ∧ setup.hpt.phase = .setup
      ∧ (1 ≤ setup.frt.active.tagEnd ∧ setup.frt.active.tagEnd ≤ setup.frt.active.haulStart
          ∧ setup.frt.active.haulStart ≤ setup.frt.active.haulEnd ∧ setup.frt.active.haulEnd ≤ setup.frt.active.callStart
          ∧ setup.frt.active.callStart ≤ setup.frt.active.callEnd ∧ setup.frt.active.callEnd ≤ setup.frt.total
          ∧ setup.frt.active.haulEnd - setup.frt.active.haulStart ≤ 24)
      ∧ (∀ c, (setup.channel c).zone = none) ∧ (∀ r, (setup.refuge r).configured = false)
      ∧ (∀ z, (setup.zone z).refuge = none ∧ (setup.zone z).tripLine = none)
      ∧ ((badChannel.channel 31).zone = some 31 ∧ (badChannel.zone 31).configured = false
          ∧ ∀ d < (31 : Fin 32), (badChannel.channel d).zone = none)
      ∧ ((∀ c, (badRefuge.channel c).zone = none) ∧ (badRefuge.refuge 7).configured = true ∧ (badRefuge.zone 31).kind ≠ .refuge
          ∧ ∀ d < (7 : Fin 8), (badRefuge.refuge d).configured = false)
      ∧ ((∀ c, (badZone.channel c).zone = none) ∧ (badZone.zone 31).refuge = some 7 ∧ (∀ r, (badZone.refuge r).configured = false)
          ∧ ∀ d < (31 : Fin 32), (badZone.zone d).refuge = none)
      ∧ ((∀ c, (badLine.channel c).zone = none) ∧ (∀ r, (badLine.refuge r).configured = false)
          ∧ (badLine.zone 31).tripLine = some 7 ∧ (badLine.zone 31).monitored = false ∧ (∀ z, (badLine.zone z).refuge = none)
          ∧ ∀ d < (31 : Fin 32), (badLine.zone d).tripLine = none) :=
  ⟨ready_setup, rfl, by decide +kernel⟩

theorem test_meets_StartChecksTheSetupAndArms_lock :
    let s : State := { setup with frt := { setup.frt with sync := .pulsed } }
    (s.frt.sync = .pulsed ∧ s.frt.lock ≠ .seeking) ∧ (after .start s).hpt.flags.lock = true
      ∧ (after .start setup).hpt.flags.lock = false := by decide +kernel

theorem test_meets_ReadNextWalksItsTable :
    let s := fun (table : ListTable) (n : Nat) =>
      ({ setup with hpt := { setup.hpt with cursorTable := table, cursorIndex := n } } : State)
    let items := [faultItem 0 .seen .active, faultItem 31 .new .active]
    (∀ table n, Ready (s table n)) ∧ (s .zones 31).hpt.cursorTable = .zones ∧ (s .zones 31).hpt.cursorIndex = (31 : Fin 32).val
      ∧ (s .channels 31).hpt.cursorTable = .channels ∧ ((s .refuges 7).hpt.cursorTable = .refuges
          ∧ (s .refuges 7).hpt.cursorIndex = (7 : Fin 8).val)
      ∧ ((s .roster 239).hpt.cursorTable = .roster ∧ (∀ i, (s .roster 239).person i = none)
          ∧ ((withPerson 238 crew (s .roster 239)).person 238 = some crew ∧ (238 : Fin 240).val = (239 + 239) % 240
            ∧ (∀ l : Fin 240, l ≠ 238 → (withPerson 238 crew (s .roster 239)).person l = none)))
      ∧ ((s .trucks 23).hpt.cursorTable = .trucks ∧ (∀ q, (s .trucks 23).truckAt q = none)
          ∧ ((withTruck1 truck (s .trucks 23)).truckAt 0 = some truck ∧ (0 : Fin 24).val = (23 + 1) % 24
            ∧ (withTruck1 truck (s .trucks 23)).truckAt 23 = none))
      ∧ ((s .queue 31).hpt.cursorTable = .queue ∧ (s .queue 31).atq.items = []
          ∧ items = [faultItem 0 .seen .active] ++ faultItem 31 .new .active :: []
          ∧ [faultItem 0 .seen .active].length = (if 1 < items.length then 1 else 0)
          ∧ ([] : List Item).length = (if 2 < items.length then 2 else 0)) :=
  ⟨fun _ _ => ⟨rfl, rfl, rfl⟩, rfl, rfl, rfl, ⟨rfl, rfl⟩,
    ⟨rfl, person_setup, by decide +kernel, by decide, fun l hl => by rw [person_with, if_neg hl]; exact person_setup l⟩,
    by decide +kernel, by decide⟩

end Sys2Proof.Tests
end

section
/-! The attention queue's requests (R48): a request that both the port and the phase admit, a change of one item in its place,
and NEXT_ITEM. -/

namespace Sys2Proof.Machine

open Sys2Proof.Safety (Ready answered taken QueueHolds)

/-! ## A request taken at once -/

/-- A request of a phase that admits it, written to a port that is ready, is carried out by its owner (R176 to R178). -/
theorem exec_admitted {i : Instr} {code : Byte} {args : List Byte} {row : Config.RequestRow} {s : State} (hr : Ready s)
    (he : encodeRequest i = some (code, args)) (hc : requestRow? code = some row) (ha : admits row.phases s.hpt.phase = true) :
    exec i s = .next (carryOut i (taken s)) := by
  rw [exec_request he, submit_ready hr he hc, if_pos ha]

/-- NEXT_ITEM is taken in both phases (R48, R178). -/
theorem exec_nextItem {s : State} (hr : Ready s) : exec .nextItem s = .next (reqNextItem (taken s)) :=
  exec_admitted hr rfl rfl rfl

/-- A refusal of a taken request: the status code alone. -/
theorem refuse_taken (status : ReplyStatus) (s : State) : (taken s).refuse status = answered status [] s := rfl

/-! ## One item changed in its place -/

/-- Under L7 no other item of the queue has an item's kind and subject. -/
theorem isFor_other {q : AttentionQueue} {before rest : List Item} {it : Item} (h : QueueHolds q)
    (hq : q.items = before ++ it :: rest) : ∀ e, e ∈ before ∨ e ∈ rest → e.isFor it.kind it.subject = false := by
  obtain ⟨-, hdistinct, -⟩ := h
  rw [hq, List.pairwise_append, List.pairwise_cons] at hdistinct
  obtain ⟨-, ⟨hrest, -⟩, hbefore⟩ := hdistinct
  intro e he
  rw [Bool.eq_false_iff, ne_eq, isFor_iff]
  rcases he with he | he
  · exact hbefore e he it List.mem_cons_self
  · exact fun ⟨hk, hx⟩ => hrest e he ⟨hk.symm, hx.symm⟩

/-- A change of an item leaves the items before and behind it as they are, and no item moves (R48, R49). -/
theorem changeItem_eq {s : State} {before rest : List Item} {it : Item} (h : QueueHolds s.atq)
    (hq : s.atq.items = before ++ it :: rest) (f : Item → Item) :
    s.changeItem it.kind it.subject f = { s with atq := { s.atq with items := before ++ f it :: rest } } := by
  have hself : it.isFor it.kind it.subject = true := (isFor_iff ..).2 ⟨rfl, rfl⟩
  have hstay : ∀ l : List Item, (∀ e ∈ l, e.isFor it.kind it.subject = false) →
      l.map (fun e => if e.isFor it.kind it.subject then f e else e) = l :=
    fun l hl => (List.map_congr_left fun e he => by simp [hl e he]).trans l.map_id
  have hother := isFor_other h hq
  rw [State.changeItem, hq, List.map_append, List.map_cons, if_pos hself, hstay before (fun e he => hother e (.inl he)),
    hstay rest (fun e he => hother e (.inr he))]

/-! ## NEXT_ITEM -/

/-- With no item NEW, the reply is NO_RECORD (R48). -/
theorem reqNextItem_none {s : State} (h : ∀ it ∈ s.atq.items, it.state ≠ .new) : reqNextItem s = s.refuse .noRecord := by
  have hfind : s.atq.items.find? (fun it => it.state == .new) = none := by simpa [List.find?_eq_none] using h
  simp only [reqNextItem, hfind]

/-- The first NEW item in queue order becomes SEEN and is the reply (R48). -/
theorem reqNextItem_first {s : State} {before rest : List Item} {it : Item} (h : QueueHolds s.atq)
    (hq : s.atq.items = before ++ it :: rest) (hbefore : ∀ e ∈ before, e.state ≠ .new) (hnew : it.state = .new) :
    reqNextItem s = State.reply .done { it with state := .seen }.bytes
      { s with atq := { s.atq with items := before ++ { it with state := .seen } :: rest } } := by
  have hfind : s.atq.items.find? (fun it => it.state == .new) = some it :=
    List.find?_eq_some_iff_append.2 ⟨by simp [hnew], before, rest, hq, fun e he => by simp [hbefore e he]⟩
  simp only [reqNextItem, hfind]
  rw [changeItem_eq h hq]

/-- Settles O28: the first NEW item is the one that the queue's search finds, and by L7 it is the only one that changes. -/
theorem nextItemReturnsFirstNewItem : Obligations.NextItemReturnsFirstNewItem := by
  intro s hr hq
  refine ⟨fun hseen => ?_, fun before it rest hitems hbefore hnew => ?_⟩
  · rw [exec_nextItem hr, reqNextItem_none (s := taken s) hseen, refuse_taken]
  · rw [exec_nextItem hr, reqNextItem_first (s := taken s) hq hitems hbefore hnew]
    rfl

end Sys2Proof.Machine
end

section
/-! The checks of a handle (R53): what each of them reads of a request's two bytes, the refusal that each answers, and the
requests that name a person by handle. -/

namespace Sys2Proof.Machine

open Sys2Proof.Safety (Ready answered taken Names)

/-! ## The handle of two bytes -/

/-- Two bytes of which one is out of its range spell no handle (R53, first check). -/
theorem handle?_outOfRange {slot gen : Byte} (h : 240 ≤ slot.toNat ∨ 16 ≤ gen.toNat) : handle? slot gen = none := by
  unfold handle?
  split
  · exact if_neg (by omega)
  · rfl

/-- Two bytes in their ranges spell the handle of their slot and generation (R53, first check). -/
theorem handle?_inRange {slot gen : Byte} {k : Fin 240} (hk : slot.toNat = k.val) (hg : gen.toNat < 16) :
    handle? slot gen = some { slot := k, gen := BitVec.ofNat 4 gen.toNat } := by
  have hslot : slot.toNat < 240 := hk ▸ k.isLt
  rw [handle?, dif_pos hslot, if_pos hg]
  simp only [hk]

/-- A generation byte in its range is a slot's generation exactly where the two numbers agree (R53, third check). -/
theorem gen_eq_ofNat_iff {g : Gen} {gen : Byte} (hg : gen.toNat < 16) : g = BitVec.ofNat 4 gen.toNat ↔ gen.toNat = g.toNat := by
  rw [← BitVec.toNat_inj, BitVec.toNat_ofNat, Nat.mod_eq_of_lt hg, eq_comm]

/-- Two bytes that are the handle of a live record spell that handle (R52, R53). -/
theorem handle?_of_names {s : State} {slot gen : Byte} {k : Fin 240} {p : Person} (h : Names s slot gen k p) :
    handle? slot gen = some (s.handle k) := by
  obtain ⟨hk, hgen, -⟩ := h
  have hg : gen.toNat < 16 := hgen ▸ (s.slot k).gen.isLt
  rw [handle?_inRange hk hg, ← (gen_eq_ofNat_iff hg).2 hgen]
  rfl

/-! ## The three refusals -/

/-- The first check of R53 answers BAD_ARGUMENT. -/
theorem withNamed_outOfRange {slot gen : Byte} (h : 240 ≤ slot.toNat ∨ 16 ≤ gen.toNat) (f : Fin 240 → Person → State → State)
    (s : State) : withNamed slot gen f s = s.refuse .badArgument := by
  simp only [withNamed, handle?_outOfRange h]

/-- The second check of R53 answers NO_RECORD. -/
theorem withNamed_free {slot gen : Byte} {k : Fin 240} {s : State} (hk : slot.toNat = k.val) (hg : gen.toNat < 16)
    (hp : s.person k = none) (f : Fin 240 → Person → State → State) : withNamed slot gen f s = s.refuse .noRecord := by
  simp only [withNamed, handle?_inRange hk hg, hp]

/-- The third check of R53 answers STALE. -/
theorem withNamed_stale {slot gen : Byte} {k : Fin 240} {s : State} {p : Person} (hk : slot.toNat = k.val)
    (hg : gen.toNat < 16) (hp : s.person k = some p) (hgen : gen.toNat ≠ (s.slot k).gen.toNat)
    (f : Fin 240 → Person → State → State) : withNamed slot gen f s = s.refuse .stale := by
  have hstale : ¬ (s.slot k).gen = BitVec.ofNat 4 gen.toNat := mt (gen_eq_ofNat_iff hg).1 hgen
  simp only [withNamed, handle?_inRange hk hg, hp, if_neg hstale]

/-! ## The requests that name a person -/

/-- A request of RUNNING, written in RUNNING to a port that is ready, is carried out by its owner (R178). -/
theorem exec_admitted_running {i : Instr} {code : Byte} {args : List Byte} {row : Config.RequestRow} {s : State} (hr : Ready s)
    (hrun : s.hpt.phase = .running) (he : encodeRequest i = some (code, args)) (hc : requestRow? code = some row)
    (hrow : row.phases = .runningOnly) : exec i s = .next (carryOut i (taken s)) :=
  exec_admitted hr he hc (by rw [hrow, hrun]; rfl)

/-- RETIRE is taken in both phases (R65). -/
theorem exec_retire {s : State} (hr : Ready s) (slot gen : Byte) :
    exec (.retire slot gen) s = .next (reqRetire slot gen (taken s)) :=
  exec_admitted hr rfl rfl rfl

/-- SET_ESCORT is taken in both phases (R72). -/
theorem exec_setEscort {s : State} (hr : Ready s) (slot gen escortSlot escortGen : Byte) :
    exec (.setEscort slot gen escortSlot escortGen) s = .next (reqSetEscort slot gen escortSlot escortGen (taken s)) :=
  exec_admitted hr rfl rfl rfl

/-- READ_PERSON is taken in both phases (R74). -/
theorem exec_readPerson {s : State} (hr : Ready s) (slot gen : Byte) :
    exec (.readPerson slot gen) s = .next (reqReadPerson slot gen (taken s)) :=
  exec_admitted hr rfl rfl rfl

/-- CLEAR_EXPOSURE is taken in both phases (R88). -/
theorem exec_clearExposure {s : State} (hr : Ready s) (slot gen : Byte) :
    exec (.clearExposure slot gen) s = .next (reqClearExposure slot gen (taken s)) :=
  exec_admitted hr rfl rfl rfl

/-- ANSWER is taken in RUNNING (R160). -/
theorem exec_answer {s : State} (hr : Ready s) (hrun : s.hpt.phase = .running) (slot gen : Byte) :
    exec (.answer slot gen) s = .next (reqAnswer slot gen (taken s)) :=
  exec_admitted_running hr hrun rfl rfl rfl

/-- END_CALL is taken in both phases (R164). -/
theorem exec_endCall {s : State} (hr : Ready s) (slot gen : Byte) :
    exec (.endCall slot gen) s = .next (reqEndCall slot gen (taken s)) :=
  exec_admitted hr rfl rfl rfl

/-- PAGE is taken in RUNNING (R166). -/
theorem exec_page {s : State} (hr : Ready s) (hrun : s.hpt.phase = .running) (slot gen : Byte) :
    exec (.page slot gen) s = .next (reqPage slot gen (taken s)) :=
  exec_admitted_running hr hrun rfl rfl rfl

/-- CANCEL_PAGE is taken in both phases (R166). -/
theorem exec_cancelPage {s : State} (hr : Ready s) (slot gen : Byte) :
    exec (.cancelPage slot gen) s = .next (reqCancelPage slot gen (taken s)) :=
  exec_admitted hr rfl rfl rfl

/-- ENROL is taken in both phases (R56). -/
theorem exec_enrol {s : State} (hr : Ready s) (tag : Tag) (role escortSlot escortGen : Byte) :
    exec (.enrol tag role escortSlot escortGen) s = .next (reqEnrol tag role escortSlot escortGen (taken s)) :=
  exec_admitted hr rfl rfl rfl

/-- Each request that names a person, where the phase admits it, hands its handle to the checks of R53 and reaches its owner's
part only through them. -/
theorem exec_handleRequest (slot gen escortSlot escortGen : Byte) {s : State} (hr : Ready s) :
    ∀ i ∈ [Instr.retire slot gen, .setEscort slot gen escortSlot escortGen, .readPerson slot gen, .clearExposure slot gen,
        .answer slot gen, .endCall slot gen, .page slot gen, .cancelPage slot gen],
      (Safety.isRunningOnly i = true → s.hpt.phase = .running) →
        ∃ f, exec i s = .next (withNamed slot gen f (taken s)) := by
  simp only [List.forall_mem_cons]
  exact ⟨fun _ => ⟨_, exec_retire hr _ _⟩,
    fun _ => ⟨_, exec_setEscort hr _ _ _ _⟩,
    fun _ => ⟨_, exec_readPerson hr _ _⟩,
    fun _ => ⟨_, exec_clearExposure hr _ _⟩,
    fun hrun => ⟨_, exec_answer hr (hrun rfl) _ _⟩,
    fun _ => ⟨_, exec_endCall hr _ _⟩,
    fun hrun => ⟨_, exec_page hr (hrun rfl) _ _⟩,
    fun _ => ⟨_, exec_cancelPage hr _ _⟩,
    fun _ hi => absurd hi List.not_mem_nil⟩

/-! ## The escort's handle -/

/-- An escort's handle that fails a check of R53 names no escort. -/
theorem official?_none {s : State} {slot gen : Byte}
    (h : 240 ≤ slot.toNat ∨ 16 ≤ gen.toNat
      ∨ ∃ k : Fin 240, slot.toNat = k.val ∧ (s.person k = none ∨ gen.toNat ≠ (s.slot k).gen.toNat)) :
    s.official? slot gen = none := by
  by_cases hrange : 240 ≤ slot.toNat ∨ 16 ≤ gen.toNat
  · simp only [State.official?, handle?_outOfRange hrange]
  · obtain ⟨k, hk, hfails⟩ := (or_assoc.2 h).resolve_left hrange
    have hg : gen.toNat < 16 := by omega
    have hnamed : s.named { slot := k, gen := BitVec.ofNat 4 gen.toNat } = none := by
      rcases hfails with hfree | hstale
      · simp only [State.named, hfree, ite_self]
      · exact if_neg (mt (gen_eq_ofNat_iff hg).1 hstale)
    simp only [State.official?, handle?_inRange hk hg, hnamed]

/-- ENROL of a VISITOR whose escort's handle names no escort is refused with BAD_ARGUMENT (R56). -/
theorem reqEnrol_visitor_noEscort {s : State} {escortSlot escortGen : Byte} (h : s.official? escortSlot escortGen = none)
    (tag : Tag) : reqEnrol tag 2 escortSlot escortGen s = s.refuse .badArgument := by
  have hescort : s.enrolEscort? .visitor escortSlot escortGen = none := by simp [State.enrolEscort?, h]
  have hrole : Role.ofByte? 2 = some .visitor := rfl
  simp only [reqEnrol, hrole, hescort]

/-- SET_ESCORT of a live record, visitor or not, whose escort's handle names no escort is refused with BAD_ARGUMENT (R72). -/
theorem reqSetEscort_noEscort {s : State} {slot gen escortSlot escortGen : Byte} {k : Fin 240} {p : Person}
    (hn : Names s slot gen k p) (h : s.official? escortSlot escortGen = none) :
    reqSetEscort slot gen escortSlot escortGen s = s.refuse .badArgument := by
  have ⟨_, _, hp⟩ := hn
  rw [reqSetEscort, withNamed_live slot gen _ s (s.handle k) p (handle?_of_names hn) hp rfl]
  simp only [h, ite_self]

/-- Settles O10: each request reaches the three checks, whose refusals are those of `withNamed`; an escort's handle that fails
one of them names no escort, and both requests that carry one refuse it with BAD_ARGUMENT. -/
theorem handlesAreCheckedInOrder : Obligations.HandlesAreCheckedInOrder := by
  intro slot gen escortSlot escortGen s hr
  refine ⟨fun i hi hphase => ?_, fun hfails => ?_⟩
  · obtain ⟨f, hexec⟩ := exec_handleRequest slot gen escortSlot escortGen hr i hi hphase
    rw [hexec]
    refine ⟨fun hrange => ?_, fun k hk hg => ⟨fun hfree => ?_, fun p hp hgen => ?_⟩⟩
    · rw [withNamed_outOfRange hrange, refuse_taken]
    · rw [withNamed_free (s := taken s) hk hg hfree, refuse_taken]
    · rw [withNamed_stale (s := taken s) hk hg hp hgen, refuse_taken]
  · have hnone : (taken s).official? escortSlot escortGen = none := official?_none (s := taken s) hfails
    refine ⟨fun tag => ?_, fun k p hn => ?_⟩
    · rw [exec_enrol hr, reqEnrol_visitor_noEscort hnone, refuse_taken]
    · rw [exec_setEscort hr, reqSetEscort_noEscort (s := taken s) hn hnone, refuse_taken]

end Sys2Proof.Machine
end

section
/-! The phases of the requests (R178): the row that the request table has for each request, the phases that the row gives, and
the answer where the present phase is none of them. -/

namespace Sys2Proof.Machine

open Sys2Proof.Safety (Ready answered taken hasCodeIn isSetupOnly isRunningOnly)

/-! ## The row of a request -/

/-- Every request has a row in the request table (R186): a command is no request, or its code finds the row. -/
theorem request_has_row (i : Instr) : Laws.RequestCode.Statement i := by
  intro code args he
  cases i
  all_goals cases he
  all_goals exact ⟨_, rfl, rfl⟩

/-- A row found for a code is a row of the request table, and the row of that code. -/
theorem requestRow?_some {code : Byte} {row : Config.RequestRow} (h : requestRow? code = some row) :
    row ∈ requestTable ∧ BitVec.ofNat 8 row.code = code := by
  have hcode : row.code = code.toNat := by simpa using List.find?_some h
  exact ⟨List.mem_of_find?_eq_some h, by rw [hcode, BitVec.ofNat_toNat, BitVec.setWidth_eq]⟩

/-! ## The phases of a row -/

/-- The rows of the request table that are admitted in one phase only, by their codes (R178). -/
theorem requestTable_phases : ∀ row ∈ requestTable,
    (([1, 6, 18, 33, 41, 42] : List Byte).contains (BitVec.ofNat 8 row.code) = true ↔ row.phases = .setupOnly)
      ∧ (([34, 35, 37, 39, 23, 29, 22, 32] : List Byte).contains (BitVec.ofNat 8 row.code) = true
          ↔ row.phases = .runningOnly) := by
  decide

/-- A request's code is in a list exactly where the code that it is written with is. -/
theorem hasCodeIn_request {i : Instr} {code : Byte} {args : List Byte} (he : encodeRequest i = some (code, args))
    (codes : List Byte) : hasCodeIn codes i = codes.contains code := by
  simp only [hasCodeIn, he]

/-- The requests of SETUP are those whose row says so (R178). -/
theorem isSetupOnly_iff {i : Instr} {code : Byte} {args : List Byte} {row : Config.RequestRow}
    (he : encodeRequest i = some (code, args)) (hc : requestRow? code = some row) :
    isSetupOnly i = true ↔ row.phases = .setupOnly := by
  obtain ⟨hmem, rfl⟩ := requestRow?_some hc
  rw [isSetupOnly, hasCodeIn_request he]
  exact (requestTable_phases row hmem).left

/-- The requests of RUNNING are those whose row says so (R178). -/
theorem isRunningOnly_iff {i : Instr} {code : Byte} {args : List Byte} {row : Config.RequestRow}
    (he : encodeRequest i = some (code, args)) (hc : requestRow? code = some row) :
    isRunningOnly i = true ↔ row.phases = .runningOnly := by
  obtain ⟨hmem, rfl⟩ := requestRow?_some hc
  rw [isRunningOnly, hasCodeIn_request he]
  exact (requestTable_phases row hmem).right

/-! ## The judgement of the phase -/

/-- A phase turns a request away exactly where the request belongs to the other phase only (R178). -/
theorem admits_eq_false_iff (a : Config.Admission) (p : Phase) :
    admits a p = false ↔ (a = .setupOnly ∧ p = .running) ∨ (a = .runningOnly ∧ p = .setup) := by
  cases a <;> cases p <;> decide

/-- A request of the other phase, written to a port that is ready, is answered WRONG_PHASE and changes nothing (R178). -/
theorem exec_wrongPhase {i : Instr} {code : Byte} {args : List Byte} {row : Config.RequestRow} {s : State} (hr : Ready s)
    (he : encodeRequest i = some (code, args)) (hc : requestRow? code = some row) (ha : admits row.phases s.hpt.phase = false) :
    exec i s = .next (answered .wrongPhase [] s) := by
  rw [exec_request he, submit_ready hr he hc, ha, if_neg Bool.false_ne_true]

/-- Settles O9: the two lists of requests are the rows of one phase, and the port judges a request by its row. -/
theorem phaseAdmitsRequests : Obligations.PhaseAdmitsRequests := by
  intro i code args s he hr
  obtain ⟨row, hc, -⟩ := request_has_row i code args he
  rw [isSetupOnly_iff he hc, isRunningOnly_iff he hc, ← admits_eq_false_iff, Bool.not_eq_false]
  exact ⟨exec_wrongPhase hr he hc, exec_admitted hr he hc⟩

end Sys2Proof.Machine
end

section
/-! The host port: the bytes of requests, the strobes of the port, and the causes of part reset (R176, R177, R181, R186, R187). -/

namespace Sys2Proof.Machine

open Sys2Proof.Safety (Ready answered taken execAll portWrites)

/-! ## Numbers and their bytes (R185) -/

theorem getLsbD_append_byte {n : Nat} (x : BitVec n) (y : Byte) (i : Nat) :
    (x ++ y).getLsbD i = if i < 8 then y.getLsbD i else x.getLsbD (i - 8) := by
  rw [BitVec.getLsbD_append]

theorem getLsbD_word16 (a b : Byte) (i : Nat) :
    (word16 a b).getLsbD i = if i < 8 then b.getLsbD i else a.getLsbD (i - 8) := getLsbD_append_byte a b i

theorem getLsbD_word24 (a b c : Byte) (i : Nat) :
    (word24 a b c).getLsbD i = if i < 8 then c.getLsbD i else (word16 a b).getLsbD (i - 8) :=
  getLsbD_append_byte (word16 a b) c i

theorem getLsbD_word32 (a b c d : Byte) (i : Nat) :
    (word32 a b c d).getLsbD i = if i < 8 then d.getLsbD i else (word24 a b c).getLsbD (i - 8) :=
  getLsbD_append_byte (word24 a b c) d i

/-- A number is put together from its bytes. -/
theorem word16_extract (w : Word16) : word16 (w.extractLsb' 8 8) (w.extractLsb' 0 8) = w := by
  refine BitVec.eq_of_getLsbD_eq fun i hi => ?_
  simp only [getLsbD_word16, BitVec.getLsbD_extractLsb']
  split
  · next h => simp [h]
  · next h => simp [show i - 8 < 8 by omega, show 8 + (i - 8) = i by omega]

theorem word24_extract (w : BitVec 24) : word24 (w.extractLsb' 16 8) (w.extractLsb' 8 8) (w.extractLsb' 0 8) = w := by
  refine BitVec.eq_of_getLsbD_eq fun i hi => ?_
  simp only [getLsbD_word24, getLsbD_word16, BitVec.getLsbD_extractLsb']
  split
  · next h => simp [h]
  · split
    · next h => simp [h, show 8 + (i - 8) = i by omega]
    · next h => simp [show i - 8 - 8 < 8 by omega, show 16 + (i - 8 - 8) = i by omega]

theorem word32_extract (w : BitVec 32) :
    word32 (w.extractLsb' 24 8) (w.extractLsb' 16 8) (w.extractLsb' 8 8) (w.extractLsb' 0 8) = w := by
  refine BitVec.eq_of_getLsbD_eq fun i hi => ?_
  simp only [getLsbD_word32, getLsbD_word24, getLsbD_word16, BitVec.getLsbD_extractLsb']
  split
  · next h => simp [h]
  · split
    · next h => simp [h, show 8 + (i - 8) = i by omega]
    · split
      · next h => simp [h, show 16 + (i - 8 - 8) = i by omega]
      · next h => simp [show i - 8 - 8 - 8 < 8 by omega, show 24 + (i - 8 - 8 - 8) = i by omega]

/-- A byte of a number, by its bits. -/
theorem extract_eq {n : Nat} {w : BitVec n} {a : Byte} {k : Nat} (h : ∀ i < 8, w.getLsbD (k + i) = a.getLsbD i) :
    w.extractLsb' k 8 = a := by
  refine BitVec.eq_of_getLsbD_eq fun i hi => ?_
  rw [BitVec.getLsbD_extractLsb', h i hi]
  simp [hi]

/-- The bytes of a number put together from bytes are those bytes. -/
theorem bytes16_word16 (a b : Byte) : bytes16 (word16 a b) = [a, b] := by
  have ha : (word16 a b).extractLsb' 8 8 = a := extract_eq fun i hi => by simp [getLsbD_word16]
  have hb : (word16 a b).extractLsb' 0 8 = b := extract_eq fun i hi => by simp [getLsbD_word16, hi]
  rw [bytes16, ha, hb]

theorem bytes24_word24 (a b c : Byte) : bytes24 (word24 a b c) = [a, b, c] := by
  have ha : (word24 a b c).extractLsb' 16 8 = a := extract_eq fun i hi => by
    simp [getLsbD_word24, getLsbD_word16, show ¬ 16 + i < 8 by omega, show ¬ 16 + i - 8 < 8 by omega,
      show 16 + i - 8 - 8 = i by omega]
  have hb : (word24 a b c).extractLsb' 8 8 = b := extract_eq fun i hi => by simp [getLsbD_word24, getLsbD_word16, hi]
  have hc : (word24 a b c).extractLsb' 0 8 = c := extract_eq fun i hi => by simp [getLsbD_word24, hi]
  rw [bytes24, ha, hb, hc]

theorem bytes32_word32 (a b c d : Byte) : bytes32 (word32 a b c d) = [a, b, c, d] := by
  have ha : (word32 a b c d).extractLsb' 24 8 = a := extract_eq fun i hi => by
    simp [getLsbD_word32, getLsbD_word24, getLsbD_word16, show ¬ 24 + i < 8 by omega, show ¬ 24 + i - 8 < 8 by omega,
      show ¬ 24 + i - 8 - 8 < 8 by omega, show 24 + i - 8 - 8 - 8 = i by omega]
  have hb : (word32 a b c d).extractLsb' 16 8 = b := extract_eq fun i hi => by
    simp [getLsbD_word32, getLsbD_word24, getLsbD_word16, show ¬ 16 + i < 8 by omega, show ¬ 16 + i - 8 < 8 by omega,
      show 16 + i - 8 - 8 = i by omega, hi]
  have hc : (word32 a b c d).extractLsb' 8 8 = c := extract_eq fun i hi => by simp [getLsbD_word32, getLsbD_word24, hi]
  have hd : (word32 a b c d).extractLsb' 0 8 = d := extract_eq fun i hi => by simp [getLsbD_word32, hi]
  rw [bytes32, ha, hb, hc, hd]

/-! ## Requests and their bytes (R186) -/

/-- A request's code and argument bytes decode to the request. -/
theorem decode_of_encode {i : Instr} {code : Byte} {args : List Byte} (h : encodeRequest i = some (code, args)) :
    decodeRequest code args = some i := by
  cases i
  all_goals cases h
  all_goals simp [decodeRequest, bytes16, bytes24, bytes32, word16_extract, word24_extract, word32_extract]

theorem code_eq {code : Byte} {n : Nat} (h : code.toNat = n) : code = BitVec.ofNat 8 n := by
  rw [← h]; simp

/-- Bytes that decode to a request are that request's code and argument bytes. -/
theorem encode_of_decode {i : Instr} {code : Byte} {args : List Byte} (h : decodeRequest code args = some i) :
    encodeRequest i = some (code, args) := by
  unfold decodeRequest at h
  split at h
  case h_50 => cases h
  all_goals
    next hcode =>
    rw [code_eq hcode]
    split at h
    · cases h
      simp [encodeRequest, bytes16_word16, bytes24_word24, bytes32_word32]
    · cases h

/-- The request table gives a request as many argument bytes as it has. -/
theorem argBytes_of_encode {i : Instr} {code : Byte} {args : List Byte} (h : encodeRequest i = some (code, args)) :
    argBytes code = args.length := by
  obtain ⟨row, hrow, hlen⟩ := request_has_row i code args h
  rw [argBytes, hrow]
  exact hlen

/-- Settles O7: an encoded request decodes to itself, bytes that decode encode back, and the table holds the lengths. -/
theorem requestBytesAndRequestsAgree : Obligations.RequestBytesAndRequestsAgree :=
  fun _ _ _ => ⟨fun h => ⟨decode_of_encode h, argBytes_of_encode h⟩, encode_of_decode⟩

/-! ## One step (log 1) -/

/-- Settles O1. -/
theorem stepTakesFrontCommand : Obligations.StepTakesFrontCommand := by
  refine ⟨fun c s => rfl, fun s hs => ?_⟩
  rw [step, hs]

/-! ## Part reset (R181) -/

/-- The commands that act while the reset line is low are the three of part reset. -/
theorem exec_resetLow {c : Instr} {s : State} (hs : s.resetLow = true) (hpower : c ≠ .powerOn) (hline : c ≠ .resetLine)
    (hrelease : c ≠ .resetRelease) : exec c s = .next s := by
  have hnone : ∀ f : State → State, unlessReset f s = s := fun f => by rw [unlessReset, hs, if_pos rfl]
  cases c
  case powerOn => exact absurd rfl hpower
  case resetLine => exact absurd rfl hline
  case resetRelease => exact absurd rfl hrelease
  all_goals exact congrArg Host.Outcome.next (hnone _)

/-- Settles O3: two commands reset the part whatever the reset line, RESET_PART where it is taken, and nothing else acts while
the line is low. -/
theorem partResetHasThreeCauses : Obligations.PartResetHasThreeCauses := by
  intro s
  refine ⟨rfl, rfl, rfl, fun hr => ?_, fun hs c => exec_resetLow hs⟩
  rw [exec_admitted hr rfl rfl rfl]
  show Host.Outcome.next { State.reset with resetLow := s.resetLow, pending := s.pending } = _
  rw [hr.1]
  rfl

/-! ## Strobes of the port (R176, R177) -/

theorem unlessReset_high {s : State} (h : s.resetLow = false) (f : State → State) : unlessReset f s = f s := by
  rw [unlessReset, h]; rfl

theorem exec_hostPortWrite {s : State} (h : s.resetLow = false) (isCode : Bool) (byte : Byte) :
    exec (.hostPortWrite isCode byte) s = .next (hostWrite isCode byte s) :=
  congrArg Host.Outcome.next (unlessReset_high h _)

/-- A request taken empties the request buffer, whatever stood in it. -/
theorem takeRequest_setRequest (code : Byte) (i : Option Instr) (b : RequestBuffer) (s : State) :
    takeRequest code i (setRequest b s) = takeRequest code i s := rfl

/-- A code and argument bytes in the request buffer: PARTIAL, or COMPLETE, and then taken where the reply buffer is empty (R176). -/
theorem settle_bufferOf (code : Byte) (args : List Byte) (s : State) :
    settleRequest (setRequest (bufferOf code args) s) =
      if args.length = argBytes code then
        if s.hpt.reply = [] then takeRequest code (decodeRequest code args) s else setRequest (.complete code args) s
      else setRequest (.incomplete code args) s := by
  unfold bufferOf
  split
  · unfold settleRequest
    by_cases hr : s.hpt.reply = []
    · have hr' : (setRequest (.complete code args) s).hpt.reply = [] := hr
      have hb : (setRequest (.complete code args) s).hpt.request = .complete code args := rfl
      rw [if_pos hr, hb, hr']
      exact takeRequest_setRequest ..
    · rw [if_neg hr]
      simp only [setRequest]
      split
      · next h => exact absurd h hr
      · rfl
  · rfl

theorem hostWrite_complete {s : State} {code : Byte} {args : List Byte} (h : s.hpt.request = .complete code args)
    (isCode : Bool) (byte : Byte) : hostWrite isCode byte s = setOverrun s := by
  rw [hostWrite, h]

theorem hostWrite_code {s : State} (h : s.hpt.request.isComplete = false) (byte : Byte) :
    hostWrite true byte s = settleRequest (setRequest (bufferOf byte []) s) := by
  unfold hostWrite
  split
  · next hb => rw [hb] at h; cases h
  · rfl
  · rfl

theorem hostWrite_argument {s : State} {code : Byte} {args : List Byte} (h : s.hpt.request = .incomplete code args)
    (byte : Byte) : hostWrite false byte s = settleRequest (setRequest (bufferOf code (args ++ [byte])) s) := by
  rw [hostWrite, h]
  rfl

/-- Settles O4, by the way each write leaves the request buffer. -/
theorem writeStrobeFillsRequestBuffer : Obligations.WriteStrobeFillsRequestBuffer := by
  intro s byte hs
  have hlen : ([] : List Byte).length = argBytes byte ↔ argBytes byte = 0 := eq_comm
  refine ⟨fun isCode code args h => ?_, fun h => ?_, fun h ha => ?_, fun h ha hr => ?_, fun h ha hr => ?_,
    fun code args h => ⟨fun ha => ?_, fun ha hr => ?_, fun ha hr => ?_⟩, fun hrow => ⟨rfl, fun hr => ?_⟩⟩
  · rw [exec_hostPortWrite hs, hostWrite_complete h]; rfl
  · rw [exec_hostPortWrite hs, hostWrite, h]; rfl
  · rw [exec_hostPortWrite hs, hostWrite_code h, settle_bufferOf, if_neg (mt hlen.1 ha)]; rfl
  · rw [exec_hostPortWrite hs, hostWrite_code h, settle_bufferOf, if_pos (hlen.2 ha), if_neg hr]; rfl
  · rw [exec_hostPortWrite hs, hostWrite_code h, settle_bufferOf, if_pos (hlen.2 ha), if_pos hr]
  · rw [exec_hostPortWrite hs, hostWrite_argument h, settle_bufferOf, if_neg (by simpa using ha)]; rfl
  · rw [exec_hostPortWrite hs, hostWrite_argument h, settle_bufferOf, if_pos (by simpa using ha), if_neg hr]; rfl
  · rw [exec_hostPortWrite hs, hostWrite_argument h, settle_bufferOf, if_pos (by simpa using ha), if_pos hr]
  · have ha : argBytes byte = 0 := by rw [argBytes, hrow]
    show exec (.hostPortWrite true byte) s = _
    rw [exec_hostPortWrite hs, hostWrite_code hr.2.1, settle_bufferOf, if_pos (hlen.2 ha), if_pos hr.2.2]
    simp [takeRequest, hrow]
    rfl

/-- Settles O5: a read moves the reply on, and one of the last byte settles the COMPLETE request that waits. -/
theorem replyReadDrivesNextByte : Obligations.ReplyReadDrivesNextByte := by
  intro s hs
  have hexec : exec .replyRead s = .next { advanceReply s with hostOut := some (replyByte s) } :=
    congrArg Host.Outcome.next (unlessReset_high hs _)
  have hnonempty : s.hpt.readPos + 1 = s.hpt.reply.length → s.hpt.reply.isEmpty = false := by
    intro h
    cases hr : s.hpt.reply with
    | nil => rw [hr] at h; cases h
    | cons a l => rfl
  have hlast : s.hpt.readPos + 1 = s.hpt.reply.length →
      advanceReply s = settleRequest { s with hpt := { s.hpt with reply := [], readPos := 0 } } := by
    intro h
    rw [advanceReply, hnonempty h, h]
    simp
  refine ⟨fun h => ?_, fun h => ?_, fun h hb => ?_, fun code args h hb => ?_⟩
  · rw [hexec, advanceReply, replyByte, h]
    simp
  · have hne : s.hpt.reply.isEmpty = false := by
      cases hr : s.hpt.reply with
      | nil => rw [hr] at h; simp at h
      | cons a l => rfl
    rw [hexec, advanceReply, hne, if_pos h]
    rfl
  · rw [hexec, hlast h, settleRequest]
    dsimp only
    split
    · next hc _ => rw [hc] at hb; cases hb
    · rfl
  · rw [hexec, hlast h, settleRequest]
    simp only [hb]
    rfl

/-- The bits of a byte are those it is put together from. -/
theorem bits_byteOfBits : ∀ b0 b1 b2 b3 b4 b5 b6 b7 : Bool,
    (List.range 8).map (byteOfBits b0 b1 b2 b3 b4 b5 b6 b7).getLsbD = [b0, b1, b2, b3, b4, b5, b6, b7] := by decide

/-- Settles O6: the bits of the status byte are the flags it is put together from. -/
theorem statusByteShowsThePort : Obligations.StatusByteShowsThePort := by
  intro s hs
  refine ⟨statusByte s, congrArg Host.Outcome.next (unlessReset_high hs _), ?_⟩
  have hbits := bits_byteOfBits s.hpt.request.isComplete (!s.hpt.reply.isEmpty) (s.hpt.phase == .running) s.hlk.alone
    s.hpt.overrun (noticeLine s) false false
  change (List.range 8).map (statusByte s).getLsbD = _ at hbits
  simp only [List.range_succ, List.range_zero, List.nil_append, List.cons_append, List.map_cons, List.map_nil,
    List.cons.injEq, and_true] at hbits
  obtain ⟨h0, h1, h2, h3, h4, h5, h6, h7⟩ := hbits
  refine ⟨?_, ?_, ?_, h3, h4, h5, ?_, h6, h7⟩
  · rw [h0]
    cases s.hpt.request <;> simp [RequestBuffer.isComplete]
  · rw [h1]
    cases s.hpt.reply <;> simp
  · rw [h2, beq_iff_eq]
  · simp [noticeLine, NoticeSet.isEmpty, NoticeSet.without, or_assoc]

/-! ## A request and its port writes (R176; log 2) -/

/-- The argument bytes still to come of a PARTIAL request, written one after another, settle it. -/
theorem execAll_arguments {code : Byte} (rest before : List Byte) (s : State) (hs : s.resetLow = false) (hne : rest ≠ [])
    (hlen : argBytes code = (before ++ rest).length) :
    execAll (rest.map (.hostPortWrite false)) (setRequest (.incomplete code before) s) =
      .next (if s.hpt.reply = [] then takeRequest code (decodeRequest code (before ++ rest)) s
        else setRequest (.complete code (before ++ rest)) s) := by
  induction rest generalizing before with
  | nil => exact absurd rfl hne
  | cons b rest ih =>
    have hwrite : exec (.hostPortWrite false b) (setRequest (.incomplete code before) s) =
        .next (settleRequest (setRequest (bufferOf code (before ++ [b])) s)) := by
      rw [exec_hostPortWrite (s := setRequest (.incomplete code before) s) hs, hostWrite_argument rfl]
      rfl
    rw [List.map_cons, execAll, hwrite, settle_bufferOf]
    rw [hlen]
    cases rest with
    | nil => rw [if_pos (by simp)]; rfl
    | cons c rest =>
      rw [if_neg (by simp)]
      have := ih (before ++ [b]) (by simp) (by simpa using hlen)
      rw [List.append_assoc, List.singleton_append] at this
      exact this

/-- Writes to a COMPLETE request leave it, with overrun. -/
theorem execAll_overrun (l : List Byte) (s : State) (hs : s.resetLow = false) (hb : s.hpt.request.isComplete = true) :
    execAll (l.map (.hostPortWrite false)) (setOverrun s) = .next (setOverrun s) := by
  induction l with
  | nil => rfl
  | cons b l ih =>
    have hwrite : exec (.hostPortWrite false b) (setOverrun s) = .next (setOverrun s) := by
      rw [exec_hostPortWrite (s := setOverrun s) hs]
      cases hr : s.hpt.request with
      | complete code args => rw [hostWrite_complete (s := setOverrun s) hr]; rfl
      | empty => rw [hr] at hb; cases hb
      | incomplete code args => rw [hr] at hb; cases hb
    rw [List.map_cons, execAll, hwrite]
    exact ih

/-- Settles O8: the writes fill the request buffer, and the last one settles it as the request written whole does. -/
theorem requestIsTheRunOfItsPortWrites : Obligations.RequestIsTheRunOfItsPortWrites := by
  intro i code args s he hs
  have hlen := argBytes_of_encode he
  refine ⟨?_, fun hb => ?_, fun hb hr => ?_⟩
  · rw [portWrites, execAll, exec_hostPortWrite hs, exec_request he]
    dsimp only
    cases hb : s.hpt.request.isComplete with
    | true =>
      rw [submit_complete hs he hb]
      cases hr : s.hpt.request with
      | complete c a => rw [hostWrite_complete hr]; exact execAll_overrun args s hs hb
      | empty => rw [hr] at hb; cases hb
      | incomplete c a => rw [hr] at hb; cases hb
    | false =>
      have hsubmit : submit i s = if s.hpt.reply = [] then takeRequest code (some i) s else setRequest (.complete code args) s := by
        rw [submit, he]
        simp [hb]
      rw [hostWrite_code hb, settle_bufferOf, hlen, unlessReset_high hs, hsubmit, ← decode_of_encode he]
      cases args with
      | nil => rw [if_pos rfl]; rfl
      | cons a l => rw [if_neg (by simp)]; exact execAll_arguments (a :: l) [] s hs (by simp) hlen
  · rw [exec_request he, submit_complete hs he hb]
  · rw [exec_request he, submit_waits hs he hb hr]

end Sys2Proof.Machine
end

section
/-! What the laws L1, L2, L4, L7, L8, L10, L11 and L12 read of a state, and the changes that leave all of it as it was. -/

namespace Sys2Proof.Machine

open Sys2Proof.Safety

/-! ## What the laws read of a record -/

/-- The call channel field of a CONNECTED call; none where the record has no CONNECTED call (L11). -/
def Person.connection (p : Person) : Option (Option (Fin 4)) := if p.callState = .connected then some p.callChannel else none

/-- The refuge at which a record is MUSTERED (L2). -/
def Person.musterPlace (p : Person) : Option (Fin 8) := if p.state = .mustered then p.refuge else none

/-- The number, the held grant and the GRANTED entry of a truck (L4). -/
def Truck.claims (u : Truck) : Nat × Option (Fin 32) × Option (Fin 32) := (u.number, u.held, u.grantedZone)

/-- The zone in which the record of a slot is counted (L1). -/
def State.countedAt (s : State) (i : Fin 240) : Option (Fin 32) := (s.person i).bind Person.countedZone

/-- The refuge at which the record of a slot is MUSTERED (L2). -/
def State.musteredAt (s : State) (i : Fin 240) : Option (Fin 8) := (s.person i).bind Person.musterPlace

/-- The connection of the record of a slot (L11). -/
def State.connectionAt (s : State) (i : Fin 240) : Option (Option (Fin 4)) := (s.person i).bind Person.connection

/-- One record in the place of another: its place and its connection stay, and an alert given is not taken back. -/
structure Person.StaysPut (p q : Person) : Prop where
  state : q.state = p.state
  zone : q.zone = p.zone
  refuge : q.refuge = p.refuge
  alert : p.alert ≠ .noAlert → q.alert ≠ .noAlert
  connection : q.connection = p.connection

theorem Person.StaysPut.refl (p : Person) : p.StaysPut p := ⟨rfl, rfl, rfl, id, rfl⟩

theorem Person.StaysPut.trans {p q r : Person} (h : p.StaysPut q) (k : q.StaysPut r) : p.StaysPut r :=
  ⟨k.state.trans h.state, k.zone.trans h.zone, k.refuge.trans h.refuge, k.alert ∘ h.alert, k.connection.trans h.connection⟩

theorem Person.StaysPut.countedZone {p q : Person} (h : p.StaysPut q) : q.countedZone = p.countedZone := by
  simp only [Person.countedZone, h.state, h.zone]

theorem Person.StaysPut.musterPlace {p q : Person} (h : p.StaysPut q) : q.musterPlace = p.musterPlace := by
  simp only [Person.musterPlace, h.state, h.refuge]

/-- Two slots hold records of which one stands in the place of the other, or are both free. -/
abbrev SameRecord (o o' : Option Person) : Prop := Option.Rel Person.StaysPut o o'

theorem SameRecord.refl (o : Option Person) : SameRecord o o := by
  cases o
  · exact .none
  · exact .some (.refl _)

theorem SameRecord.trans {a b c : Option Person} (h : SameRecord a b) (k : SameRecord b c) : SameRecord a c := by
  cases h
  · cases k with
    | some k => exact .some (.trans ‹_› k)
  · exact k

theorem SameRecord.bind {β : Type} {a b : Option Person} (h : SameRecord a b) (f : Person → Option β)
    (hf : ∀ p q : Person, p.StaysPut q → f q = f p) : b.bind f = a.bind f := by
  cases h with
  | some h => exact hf _ _ h
  | none => rfl

/-! ## Changes that the laws do not see -/

/-- What the laws over people, refuges, trucks, calls and the queue read is as it was, but for a queue that keeps L7. -/
structure RollStays (s t : State) : Prop where
  queue : QueueHolds s.atq → QueueHolds t.atq
  gens : ∀ j, (t.slot j).gen = (s.slot j).gen
  people : ∀ j, SameRecord (s.person j) (t.person j)
  persons : ∀ z, (t.zone z).persons = (s.zone z).persons
  grants : ∀ z, (t.zone z).grants = (s.zone z).grants
  evac : ∀ z, (t.zone z).evac = (s.zone z).evac
  occupancy : ∀ r, (t.refuge r).occupancy = (s.refuge r).occupancy
  claims : ∀ p, (t.truckAt p).map Truck.claims = (s.truckAt p).map Truck.claims
  held : t.cal.channels = s.cal.channels

/-- What the laws over the air and the trip lines read is as it was. -/
structure AirStays (s t : State) : Prop where
  lines : t.znt.lines = s.znt.lines
  monitored : ∀ z, (t.zone z).monitored = (s.zone z).monitored
  reported : ∀ z, (t.zone z).reported = (s.zone z).reported
  real : ∀ z, (t.zone z).real = (s.zone z).real
  tripLine : ∀ z, (t.zone z).tripLine = (s.zone z).tripLine
  bound : ∀ c, (t.channel c).zone = (s.channel c).zone
  channelReported : ∀ c, (t.channel c).reported = (s.channel c).reported
  channelReal : ∀ c, (t.channel c).real = (s.channel c).real
  enabled : ∀ c, (t.channel c).enabled = (s.channel c).enabled
  mode : t.air.mode = s.air.mode
  sweep : t.air.sweep = s.air.sweep
  confirmList : t.air.confirmList = s.air.confirmList
  phase : t.hpt.phase = s.hpt.phase

/-- A change that no law sees, but for a queue that keeps L7. -/
structure Aside (s t : State) : Prop where
  roll : RollStays s t
  air : AirStays s t

theorem RollStays.refl (s : State) : RollStays s s :=
  ⟨id, fun _ => rfl, fun _ => .refl _, fun _ => rfl, fun _ => rfl, fun _ => rfl, fun _ => rfl, fun _ => rfl, rfl⟩

theorem RollStays.trans {s t u : State} (h : RollStays s t) (k : RollStays t u) : RollStays s u where
  queue := k.queue ∘ h.queue
  gens j := (k.gens j).trans (h.gens j)
  people j := (h.people j).trans (k.people j)
  persons z := (k.persons z).trans (h.persons z)
  grants z := (k.grants z).trans (h.grants z)
  evac z := (k.evac z).trans (h.evac z)
  occupancy r := (k.occupancy r).trans (h.occupancy r)
  claims p := (k.claims p).trans (h.claims p)
  held := k.held.trans h.held

theorem AirStays.refl (s : State) : AirStays s s := by constructor <;> intros <;> rfl

theorem AirStays.trans {s t u : State} (h : AirStays s t) (k : AirStays t u) : AirStays s u where
  lines := k.lines.trans h.lines
  monitored z := (k.monitored z).trans (h.monitored z)
  reported z := (k.reported z).trans (h.reported z)
  real z := (k.real z).trans (h.real z)
  tripLine z := (k.tripLine z).trans (h.tripLine z)
  bound c := (k.bound c).trans (h.bound c)
  channelReported c := (k.channelReported c).trans (h.channelReported c)
  channelReal c := (k.channelReal c).trans (h.channelReal c)
  enabled c := (k.enabled c).trans (h.enabled c)
  mode := k.mode.trans h.mode
  sweep := k.sweep.trans h.sweep
  confirmList := k.confirmList.trans h.confirmList
  phase := k.phase.trans h.phase

theorem Aside.refl (s : State) : Aside s s := ⟨.refl s, .refl s⟩

theorem Aside.trans {s t u : State} (h : Aside s t) (k : Aside t u) : Aside s u := ⟨h.roll.trans k.roll, h.air.trans k.air⟩

/-- A walk whose every act is aside is aside. -/
theorem Aside.forEach {f : α → State → State} (h : ∀ a s, Aside s (f a s)) (l : List α) (s : State) :
    Aside s (forEach l f s) := by
  induction l generalizing s with
  | nil => exact .refl s
  | cons a l ih => exact (h a s).trans (ih _)

theorem Aside.ite {c : Prop} [Decidable c] {s t u : State} (ht : Aside s t) (hu : Aside s u) :
    Aside s (if c then t else u) := by
  split
  · exact ht
  · exact hu

/-- The air reads its own blocks only. -/
theorem AirStays.of_eq {s t : State} (hz : t.znt = s.znt) (ha : t.air = s.air) (hp : t.hpt.phase = s.hpt.phase) :
    AirStays s t := by
  constructor <;> intros <;> simp only [State.zone, State.channel, hz, ha, hp]

/-- The roll reads its own blocks only. -/
theorem RollStays.of_eq {s t : State} (hz : t.znt = s.znt) (hq : t.atq = s.atq) (hs : t.rst.slots = s.rst.slots)
    (ht : t.hlk.trucks = s.hlk.trucks) (hr : t.rev.refuges = s.rev.refuges) (hc : t.cal.channels = s.cal.channels) :
    RollStays s t where
  queue := hq ▸ id
  gens j := by simp only [State.slot, hs]
  people j := by simp only [State.person, State.slot, hs]; exact .refl _
  persons z := by simp only [State.zone, hz]
  grants z := by simp only [State.zone, hz]
  evac z := by simp only [State.zone, hz]
  occupancy r := by simp only [State.refuge, hr]
  claims p := by simp only [State.truckAt, ht]
  held := hc

/-- A change of the timer, the field link, the port, the handed events and other settings is aside. -/
theorem Aside.of_eq {s t : State} (hz : t.znt = s.znt) (hq : t.atq = s.atq) (hs : t.rst.slots = s.rst.slots)
    (ha : t.air = s.air) (ht : t.hlk.trucks = s.hlk.trucks) (hr : t.rev.refuges = s.rev.refuges)
    (hc : t.cal.channels = s.cal.channels) (hp : t.hpt.phase = s.hpt.phase) : Aside s t :=
  ⟨.of_eq hz hq hs ht hr hc, .of_eq hz ha hp⟩

/-- An operation of the queue that keeps L7 is aside. -/
theorem Aside.of_queue {s t : State} (h : QueueOnly s t) (hq : QueueHolds s.atq → QueueHolds t.atq) : Aside s t := by
  have hphase : t.hpt.phase = s.hpt.phase := by rw [h]
  obtain ⟨-, hz, hr, ha, hl, hv, hc, -⟩ := h.same
  refine ⟨⟨hq, ?_, ?_, ?_, ?_, ?_, ?_, ?_, by rw [hc]⟩, .of_eq hz ha hphase⟩
  · intro j; simp only [State.slot, hr]
  · intro j; simp only [State.person, State.slot, hr]; exact .refl _
  · intro z; simp only [State.zone, hz]
  · intro z; simp only [State.zone, hz]
  · intro z; simp only [State.zone, hz]
  · intro r; simp only [State.refuge, hv]
  · intro p; simp only [State.truckAt, hl]

theorem Aside.insertItem (k : ItemKind) (x : Subject) (b : Bool) (d : Detail) (r : Bool) (s : State) :
    Aside s (insertItem k x b d r s) := .of_queue (insertItem_only ..) (insertItem_holds k x b d r s)

theorem Aside.raiseItem (k : ItemKind) (x : Subject) (s : State) : Aside s (raiseItem k x s) := .insertItem ..

theorem Aside.endItem (k : ItemKind) (x : Subject) (s : State) : Aside s (endItem k x s) :=
  .of_queue (endItem_only ..) (endItem_holds k x s)

theorem Aside.endCallItem (k : ItemKind) (x : Subject) (s : State) : Aside s (endCallItem k x s) :=
  .of_queue (endCallItem_only ..) (endCallItem_holds k x s)

theorem Aside.retireSubject (x : Subject) (s : State) : Aside s (retireSubject x s) :=
  .of_queue (retireSubject_only ..) (retireSubject_holds x s)

theorem Aside.acknowledge (it : Item) (s : State) : Aside s (acknowledge it s) :=
  .of_queue (acknowledge_only ..) (acknowledge_holds it s)

theorem Aside.notify (n : Notice) (s : State) : Aside s (s.notify n) := .of_queue (notify_only n s) id

theorem Aside.reply (status : ReplyStatus) (data : List Byte) (s : State) : Aside s (s.reply status data) :=
  .of_eq rfl rfl rfl rfl rfl rfl rfl rfl

/-- A change of one record that leaves it in its place is aside. -/
theorem Aside.modifyPerson {i : Fin 240} {f : Person → Person} {s : State}
    (h : ∀ p, s.person i = some p → p.StaysPut (f p)) : Aside s (s.modifyPerson i f) := by
  refine ⟨⟨id, fun j => gen_modifyPerson .., fun j => ?_, ?_, ?_, ?_, ?_, ?_, rfl⟩, .of_eq rfl rfl rfl⟩
  · rw [person_modifyPerson]
    split
    · subst j
      cases hp : s.person i with
      | none => exact .none
      | some p => exact .some (h p hp)
    · exact .refl _
  all_goals intros; rfl

/-- A change of every record that leaves each in its place is aside. -/
theorem Aside.mapPersons {f : Person → Person} (h : ∀ p, Person.StaysPut p (f p)) (s : State) : Aside s (s.mapPersons f) := by
  refine ⟨⟨id, fun j => by rw [slot_mapPersons], fun j => ?_, ?_, ?_, ?_, ?_, ?_, rfl⟩, .of_eq rfl rfl rfl⟩
  · rw [person_mapPersons]
    cases s.person j with
    | none => exact .none
    | some p => exact .some (h p)
  all_goals intros; rfl

/-- A change of a refuge record that leaves its occupancy is aside. -/
theorem Aside.modifyRefuge {r : Fin 8} {f : Refuge → Refuge} (h : ∀ x, (f x).occupancy = x.occupancy) (s : State) :
    Aside s (s.modifyRefuge r f) := by
  refine ⟨⟨id, ?_, fun j => .refl _, ?_, ?_, ?_, fun q => ?_, ?_, rfl⟩, .of_eq rfl rfl rfl⟩
  · intro j; rfl
  · intro z; rfl
  · intro z; rfl
  · intro z; rfl
  · rw [refuge_modifyRefuge]
    split
    · subst q; exact h _
    · rfl
  · intro p; rfl

/-- A truck record written over one with the same claims is aside. -/
theorem Aside.setTruckAt {p : Fin 24} {v : Option Truck} {s : State}
    (h : v.map Truck.claims = (s.truckAt p).map Truck.claims) : Aside s (s.setTruckAt p v) := by
  refine ⟨⟨id, ?_, fun j => .refl _, ?_, ?_, ?_, ?_, fun q => ?_, rfl⟩, .of_eq rfl rfl rfl⟩
  · intro j; rfl
  · intro z; rfl
  · intro z; rfl
  · intro z; rfl
  · intro r; rfl
  · rw [truckAt_setTruckAt]
    split
    · subst q; exact h
    · rfl

/-- A change of a truck record that keeps its claims is aside. -/
theorem Aside.modifyTruck {n : Nat} {f : Truck → Truck} (h : ∀ u, (f u).claims = u.claims) (s : State) :
    Aside s (s.modifyTruck n f) := by
  unfold State.modifyTruck
  split
  · refine .setTruckAt ?_
    rw [Option.map_map]
    exact congrArg (fun g => Option.map g _) (funext h)
  · exact .refl s

/-- Zone records written with new limits are aside. -/
theorem Aside.of_limits {s : State} {zones : Vector Zone 32}
    (h : ∀ w : Fin 32, zones[w] = { s.zone w with limit := zones[w].limit, pendingLimit := zones[w].pendingLimit }) :
    Aside s { s with znt := { s.znt with zones := zones } } := by
  have hz : ∀ w, ({ s with znt := { s.znt with zones := zones } } : State).zone w = zones[w] := fun _ => rfl
  refine ⟨⟨id, fun _ => rfl, fun _ => .refl _, fun w => ?_, fun w => ?_, fun w => ?_, fun _ => rfl, fun _ => rfl, rfl⟩,
    ⟨rfl, fun w => ?_, fun w => ?_, fun w => ?_, fun w => ?_, fun _ => rfl, fun _ => rfl, fun _ => rfl, fun _ => rfl, rfl, rfl,
      rfl, rfl⟩⟩
  all_goals rw [hz, h]

/-- A change of one zone's limits is aside. -/
theorem Aside.modifyZone {z : Fin 32} {f : Zone → Zone}
    (h : ∀ r : Zone, f r = { r with limit := (f r).limit, pendingLimit := (f r).pendingLimit }) (s : State) :
    Aside s (s.modifyZone z f) := by
  refine .of_limits fun w => ?_
  have hz := zone_modifyZone z w f s
  simp only [State.zone, State.modifyZone] at hz ⊢
  rw [hz]
  split
  · subst w; exact h _
  · rfl

end Sys2Proof.Machine
end

section
/-! The laws over people, refuges, trucks, calls and the queue, and the changes that keep all of them. -/

namespace Sys2Proof.Machine

open Sys2Proof.Safety

/-- Each law over people, refuges, trucks, calls and the queue is kept by itself (L1, L2, L4, L7, L10, L11). -/
structure KeepsRoll (s t : State) : Prop where
  queue : QueueHolds s.atq → QueueHolds t.atq
  counts : CountsAgree s → CountsAgree t
  occupancies : OccupanciesAgree s → OccupanciesAgree t
  grants : GrantsHold s → GrantsHold t
  calls : ChannelsAgree s → ChannelsAgree t
  alerts : AlertsHold s → AlertsHold t

theorem KeepsRoll.refl (s : State) : KeepsRoll s s := ⟨id, id, id, id, id, id⟩

theorem KeepsRoll.trans {s t u : State} (h : KeepsRoll s t) (k : KeepsRoll t u) : KeepsRoll s u :=
  ⟨k.queue ∘ h.queue, k.counts ∘ h.counts, k.occupancies ∘ h.occupancies, k.grants ∘ h.grants, k.calls ∘ h.calls,
    k.alerts ∘ h.alerts⟩

/-! ## The laws over what a change leaves -/

theorem isCountedIn_eq (s : State) (z : Fin 32) (i : Fin 240) : s.isCountedIn z i = (s.countedAt i == some z) := by
  unfold State.isCountedIn State.countedAt
  cases s.person i <;> rfl

theorem isMusteredAt_eq (s : State) (r : Fin 8) (i : Fin 240) : isMusteredAt s r i = (s.musteredAt i == some r) := by
  unfold isMusteredAt State.musteredAt
  cases s.person i with
  | none => rfl
  | some p =>
    simp only [Option.bind_some, Person.musterPlace]
    by_cases h : p.state = .mustered <;> simp [h]

/-- L11 over the connections of the records. -/
theorem channelsAgree_iff (s : State) : ChannelsAgree s ↔
    (∀ (c : Fin 4) (h : Handle), s.cal.channels[c] = some h →
        (s.slot h.slot).gen = h.gen ∧ s.connectionAt h.slot = some (some c))
      ∧ ∀ (i : Fin 240) (o : Option (Fin 4)), s.connectionAt i = some o →
        ∃ c : Fin 4, o = some c ∧ s.cal.channels[c] = some (s.handle i) := by
  have hcon : ∀ p : Person, ∀ o, p.connection = some o ↔ p.callState = .connected ∧ p.callChannel = o := by
    intro p o; unfold Person.connection; split <;> simp_all
  unfold ChannelsAgree
  refine and_congr (forall₃_congr fun c h _ => ?_) ⟨fun hc i o ho => ?_, fun hc i p hp hcall => ?_⟩
  · simp only [State.named, State.connectionAt, Option.bind_eq_some_iff, hcon]
    constructor
    · rintro ⟨p, hp, hcall, hchan⟩
      split at hp
      · exact ⟨‹_›, p, hp, hcall, hchan⟩
      · cases hp
    · rintro ⟨hg, p, hp, hcall, hchan⟩
      exact ⟨p, by rw [if_pos hg, hp], hcall, hchan⟩
  · obtain ⟨p, hp, hpo⟩ := Option.bind_eq_some_iff.1 ho
    obtain ⟨hcall, rfl⟩ := (hcon ..).1 hpo
    exact hc i p hp hcall
  · exact hc i _ (Option.bind_eq_some_iff.2 ⟨p, hp, (hcon ..).2 ⟨hcall, rfl⟩⟩)

/-- L4 over the claims of the truck records. -/
theorem grantsHold_iff (s : State) : GrantsHold s ↔
    (∀ (p q : Fin 24) (c d : Nat × Option (Fin 32) × Option (Fin 32)), (s.truckAt p).map Truck.claims = some c →
        (s.truckAt q).map Truck.claims = some d → c.1 = d.1 → p = q)
      ∧ (∀ (p : Fin 24) (c : Nat × Option (Fin 32) × Option (Fin 32)), (s.truckAt p).map Truck.claims = some c →
        ∀ z : Fin 32, c.1 ∈ (s.zone z).grants ↔ c.2.1 = some z ∨ c.2.2 = some z)
      ∧ (∀ z : Fin 32, (s.zone z).grants.Pairwise (· < ·))
      ∧ (∀ z : Fin 32, ∀ n ∈ (s.zone z).grants, ∃ (p : Fin 24) (c : Nat × Option (Fin 32) × Option (Fin 32)),
        (s.truckAt p).map Truck.claims = some c ∧ c.1 = n)
      ∧ ∀ (p : Fin 24) (c : Nat × Option (Fin 32) × Option (Fin 32)) (z : Fin 32),
        (s.truckAt p).map Truck.claims = some c → c.2.1 = some z → c.2.2 ≠ some z := by
  unfold GrantsHold GrantsAgree
  simp only [Option.map_eq_some_iff]
  constructor
  · rintro ⟨hone, hagree, hsorted, hlive, hapart⟩
    refine ⟨?_, ?_, hsorted, ?_, ?_⟩
    · rintro p q _ _ ⟨t, ht, rfl⟩ ⟨u, hu, rfl⟩ he; exact hone p q t u ht hu he
    · rintro p _ ⟨t, ht, rfl⟩; exact hagree p t ht
    · intro z n hn; obtain ⟨p, t, ht, rfl⟩ := hlive z n hn; exact ⟨p, _, ⟨t, ht, rfl⟩, rfl⟩
    · rintro p _ z ⟨t, ht, rfl⟩; exact hapart p t z ht
  · rintro ⟨hone, hagree, hsorted, hlive, hapart⟩
    refine ⟨?_, ?_, hsorted, ?_, ?_⟩
    · intro p q t u ht hu; exact hone p q _ _ ⟨t, ht, rfl⟩ ⟨u, hu, rfl⟩
    · intro p t ht; exact hagree p _ ⟨t, ht, rfl⟩
    · intro z n hn; obtain ⟨p, _, ⟨t, ht, rfl⟩, rfl⟩ := hlive z n hn; exact ⟨p, t, ht, rfl⟩
    · intro p t z ht; exact hapart p _ z ⟨t, ht, rfl⟩

theorem isOrdered_iff (s : State) (o : Option (Fin 32)) : s.isOrdered o = true ↔ ∃ z, o = some z ∧ (s.zone z).evac = .ordered := by
  cases o <;> simp [State.isOrdered]

theorem isOrdered_congr {s t : State} (h : ∀ z, (t.zone z).evac = (s.zone z).evac) (o : Option (Fin 32)) :
    t.isOrdered o = s.isOrdered o := by
  cases o <;> simp [State.isOrdered, h]

theorem RollStays.countedAt {s t : State} (h : RollStays s t) (i : Fin 240) : t.countedAt i = s.countedAt i :=
  (h.people i).bind _ fun _ _ => Person.StaysPut.countedZone

theorem RollStays.musteredAt {s t : State} (h : RollStays s t) (i : Fin 240) : t.musteredAt i = s.musteredAt i :=
  (h.people i).bind _ fun _ _ => Person.StaysPut.musterPlace

theorem RollStays.connectionAt {s t : State} (h : RollStays s t) (i : Fin 240) : t.connectionAt i = s.connectionAt i :=
  (h.people i).bind _ fun _ _ => Person.StaysPut.connection

/-- L1 reads the counts and the places in which the records are counted. -/
theorem countsAgree_of {s t : State} (hp : ∀ z, (t.zone z).persons = (s.zone z).persons)
    (hc : ∀ i, t.countedAt i = s.countedAt i) (hs : CountsAgree s) : CountsAgree t := by
  intro z
  rw [hp, hs z]
  exact congrArg List.length (List.filter_congr fun i _ => by rw [isCountedIn_eq, isCountedIn_eq, hc])

/-- L2 reads the occupancies and the places at which the records are MUSTERED. -/
theorem occupanciesAgree_of {s t : State} (ho : ∀ r, (t.refuge r).occupancy = (s.refuge r).occupancy)
    (hm : ∀ i, t.musteredAt i = s.musteredAt i) (hs : OccupanciesAgree s) : OccupanciesAgree t := by
  intro r
  rw [ho, hs r]
  exact congrArg List.length (List.filter_congr fun i _ => by rw [isMusteredAt_eq, isMusteredAt_eq, hm])

/-- L11 reads the call channels, the connections of the records and their generations. -/
theorem channelsAgree_of {s t : State} (hheld : t.cal.channels = s.cal.channels)
    (hc : ∀ i, t.connectionAt i = s.connectionAt i) (hg : ∀ i, (t.slot i).gen = (s.slot i).gen) (hs : ChannelsAgree s) :
    ChannelsAgree t := by
  rw [channelsAgree_iff] at *
  simpa only [hc, hheld, hg, State.handle] using hs

/-- A change that leaves what the laws read keeps them. -/
theorem RollStays.keeps {s t : State} (h : RollStays s t) : KeepsRoll s t where
  queue := h.queue
  counts := countsAgree_of h.persons h.countedAt
  occupancies := occupanciesAgree_of h.occupancy h.musteredAt
  grants hs := by
    rw [grantsHold_iff] at *
    simpa only [h.claims, h.grants] using hs
  calls := channelsAgree_of h.held h.connectionAt h.gens
  alerts hs i q hq hstate hord := by
    have hrec := h.people i
    rw [hq] at hrec
    generalize hp : s.person i = o at hrec
    cases hrec with
    | some k =>
      rw [k.state] at hstate
      rw [k.zone, isOrdered_congr h.evac] at hord
      exact k.alert (hs i _ hp hstate hord)

/-- A change that keeps the laws over the roll and that the air does not see. -/
structure Tame (s t : State) : Prop where
  roll : KeepsRoll s t
  air : AirStays s t

theorem Tame.refl (s : State) : Tame s s := ⟨.refl s, .refl s⟩

theorem Tame.trans {s t u : State} (h : Tame s t) (k : Tame t u) : Tame s u := ⟨h.roll.trans k.roll, h.air.trans k.air⟩

theorem Aside.tame {s t : State} (h : Aside s t) : Tame s t := ⟨h.roll.keeps, h.air⟩

/-- A change of the timer, the field link, the port, the handed events and other settings is tame. -/
theorem Tame.of_eq {s t : State} (hz : t.znt = s.znt := by rfl) (hq : t.atq = s.atq := by rfl)
    (hs : t.rst.slots = s.rst.slots := by rfl) (ha : t.air = s.air := by rfl)
    (ht : t.hlk.trucks = s.hlk.trucks := by rfl) (hr : t.rev.refuges = s.rev.refuges := by rfl)
    (hc : t.cal.channels = s.cal.channels := by rfl) (hp : t.hpt.phase = s.hpt.phase := by rfl) : Tame s t :=
  (Aside.of_eq hz hq hs ha ht hr hc hp).tame

/-- A walk whose every act is tame is tame. -/
theorem Tame.forEach {f : α → State → State} (h : ∀ a s, Tame s (f a s)) (l : List α) (s : State) : Tame s (forEach l f s) := by
  induction l generalizing s with
  | nil => exact .refl s
  | cons a l ih => exact (h a s).trans (ih _)

/-! ## One record moved (R27, R151, R163) -/

/-- A count after a claim that names a place before and after a change (R27). -/
def claimed {α : Type} [DecidableEq α] (before after : Option α) (a : α) (n : Nat) : Nat :=
  if before = after then n else if after = some a then n + 1 else if before = some a then n - 1 else n

/-- The count of the members of a list for which a property holds, after the property has changed for one member. -/
theorem length_filter_change {α : Type} [DecidableEq α] {l : List α} (hl : l.Nodup) {i : α} (hi : i ∈ l) {f g : α → Bool}
    (h : ∀ j, j ≠ i → g j = f j) : (l.filter g).length + (f i).toNat = (l.filter f).length + (g i).toNat := by
  induction l with
  | nil => cases hi
  | cons a l ih =>
    obtain ⟨ha, hl⟩ := List.nodup_cons.1 hl
    rcases List.mem_cons.1 hi with rfl | hi
    · have hrest : l.filter g = l.filter f := List.filter_congr fun j hj => h j (ne_of_mem_of_not_mem hj ha)
      simp only [List.filter_cons, hrest]
      cases f i <;> cases g i <;> simp
    · have hga := h a (ne_of_mem_of_not_mem hi ha).symm
      have := ih hl hi
      simp only [List.filter_cons, hga]
      cases f a <;> simp <;> omega

theorem mem_allSlots (i : Fin 240) : i ∈ allSlots := List.mem_finRange i

/-- The claims of a change of one slot's place keep a count that agrees with the places. -/
theorem claimed_agrees {α : Type} [DecidableEq α] {place place' : Fin 240 → Option α} {i : Fin 240} {a : α} {n : Nat}
    (h : ∀ j, j ≠ i → place' j = place j) (hn : n = (allSlots.filter (fun j => place j == some a)).length) :
    claimed (place i) (place' i) a n = (allSlots.filter (fun j => place' j == some a)).length := by
  have hchange := length_filter_change (List.nodup_finRange 240) (mem_allSlots i) (f := fun j => place j == some a)
    (g := fun j => place' j == some a) (fun j hj => by rw [h j hj])
  have hbool : ∀ o : Option α, (o == some a).toNat = if o = some a then 1 else 0 := by
    intro o; by_cases ho : o = some a <;> simp [ho]
  rw [hbool, hbool] at hchange
  unfold allSlots at hn
  unfold claimed allSlots
  by_cases he : place i = place' i
  · rw [if_pos he]
    rw [he] at hchange
    omega
  · rw [if_neg he]
    by_cases ha : place' i = some a
    · have hb : place i ≠ some a := fun e => he (e.trans ha.symm)
      rw [if_pos ha, if_neg hb] at hchange
      rw [if_pos ha]
      omega
    · rw [if_neg ha] at hchange ⊢
      split at hchange
      · next hb => rw [if_pos hb]; omega
      · next hb => rw [if_neg hb]; omega

/-- A change that moves the record of one slot, under way: the slot now holds `o` or a record in its place, the claims from
`before` to `after` and from `left` to `joined` are made, the channel `freed` is FREE, and everything else that the laws over
the roll read stays. -/
structure Moved (i : Fin 240) (o : Option Person) (before after : Option (Fin 32)) (left joined : Option (Fin 8))
    (freed : Option (Fin 4)) (s t : State) : Prop where
  queue : QueueHolds s.atq → QueueHolds t.atq
  gens : ∀ j, j ≠ i → (t.slot j).gen = (s.slot j).gen
  gen : o = none ∨ (t.slot i).gen = (s.slot i).gen
  people : ∀ j, j ≠ i → SameRecord (s.person j) (t.person j)
  record : SameRecord o (t.person i)
  persons : ∀ z, (t.zone z).persons = claimed before after z (s.zone z).persons
  grants : ∀ z, (t.zone z).grants = (s.zone z).grants
  evac : ∀ z, (t.zone z).evac = (s.zone z).evac
  occupancy : ∀ r, (t.refuge r).occupancy = claimed left joined r (s.refuge r).occupancy
  claims : ∀ p, (t.truckAt p).map Truck.claims = (s.truckAt p).map Truck.claims
  held : ∀ c : Fin 4, t.cal.channels[c] = if freed = some c then none else s.cal.channels[c]
  air : AirStays s t

section
variable {i : Fin 240} {o : Option Person} {before after : Option (Fin 32)} {left joined : Option (Fin 8)}
  {freed : Option (Fin 4)} {s t u : State}

/-- A move of one record, all its claims made, keeps the laws over the roll. -/
theorem Moved.keeps (h : Moved i o before after left joined freed s t)
    (hcounted : s.countedAt i = before ∧ o.bind Person.countedZone = after)
    (hmustered : s.musteredAt i = left ∧ o.bind Person.musterPlace = joined)
    (hconnection : (o.bind Person.connection = s.connectionAt i ∧ freed = none)
      ∨ (o.bind Person.connection = none ∧ freed = (s.connectionAt i).join))
    (halert : AlertsHold s → ∀ q, t.person i = some q → q.state = .present ∨ q.state = .quiet → s.isOrdered q.zone = true →
      q.alert ≠ .noAlert) : Tame s t := by
  refine ⟨?_, h.air⟩
  exact
    { queue := h.queue
      counts hs z := by
        have hother : ∀ j, j ≠ i → t.countedAt j = s.countedAt j :=
          fun j hj => (h.people j hj).bind _ fun _ _ => Person.StaysPut.countedZone
        have hself : t.countedAt i = after := (h.record.bind _ fun _ _ => Person.StaysPut.countedZone).trans hcounted.2
        simp only [CountsAgree, funext (isCountedIn_eq _ _)] at hs ⊢
        rw [h.persons, ← hcounted.1, ← hself]
        exact claimed_agrees hother (hs z)
      occupancies hs r := by
        have hother : ∀ j, j ≠ i → t.musteredAt j = s.musteredAt j :=
          fun j hj => (h.people j hj).bind _ fun _ _ => Person.StaysPut.musterPlace
        have hself : t.musteredAt i = joined := (h.record.bind _ fun _ _ => Person.StaysPut.musterPlace).trans hmustered.2
        simp only [OccupanciesAgree, funext (isMusteredAt_eq _ _)] at hs ⊢
        rw [h.occupancy, ← hmustered.1, ← hself]
        exact claimed_agrees hother (hs r)
      grants hs := by
        rw [grantsHold_iff] at *
        simpa only [h.claims, h.grants] using hs
      calls hs := by
        rw [channelsAgree_iff] at *
        obtain ⟨hheld, hcon⟩ := hs
        have hother : ∀ j, j ≠ i → t.connectionAt j = s.connectionAt j :=
          fun j hj => (h.people j hj).bind _ fun _ _ => Person.StaysPut.connection
        have hself : t.connectionAt i = o.bind Person.connection := h.record.bind _ fun _ _ => Person.StaysPut.connection
        have hhandle : ∀ j, j ≠ i → t.handle j = s.handle j := fun j hj => by simp only [State.handle, h.gens j hj]
        have hlive : t.connectionAt i ≠ none → (t.slot i).gen = (s.slot i).gen := by
          intro hne
          refine h.gen.resolve_left ?_
          rintro rfl
          exact hne (by rw [hself]; rfl)
        rw [← hself] at hconnection
        rcases hconnection with ⟨hsame, rfl⟩ | ⟨hnone, hfreed⟩
        · have hchan : ∀ c : Fin 4, t.cal.channels[c] = s.cal.channels[c] := fun c => by rw [h.held]; simp
          refine ⟨fun c a hc => ?_, fun j o' ho => ?_⟩
          · rw [hchan] at hc
            obtain ⟨hg, hk⟩ := hheld c a hc
            by_cases hj : a.slot = i
            · subst hj
              rw [← hsame] at hk
              exact ⟨(hlive (by simp [hk])).trans hg, hk⟩
            · exact ⟨(h.gens _ hj).trans hg, (hother _ hj).trans hk⟩
          · by_cases hj : j = i
            · subst hj
              have hg := hlive (by simp [ho])
              obtain ⟨c, rfl, hc⟩ := hcon j o' (hsame ▸ ho)
              exact ⟨c, rfl, by rw [hchan, hc, State.handle, State.handle, hg]⟩
            · rw [hother j hj] at ho
              rw [hhandle j hj]
              simpa only [hchan] using hcon j o' ho
        · refine ⟨fun c a hc => ?_, fun j o' ho => ?_⟩
          · rw [h.held] at hc
            split at hc
            · cases hc
            · next hne =>
              obtain ⟨hg, hk⟩ := hheld c a hc
              have hj : a.slot ≠ i := by rintro rfl; exact hne (by rw [hfreed, hk]; rfl)
              exact ⟨(h.gens _ hj).trans hg, (hother _ hj).trans hk⟩
          · have hj : j ≠ i := by rintro rfl; rw [hnone] at ho; cases ho
            rw [hother j hj] at ho
            obtain ⟨c, rfl, hc⟩ := hcon j o' ho
            refine ⟨c, rfl, ?_⟩
            have hne : freed ≠ some c := by
              intro e
              rw [hfreed, Option.join_eq_some_iff] at e
              obtain ⟨d, hd, hi⟩ := hcon i _ e
              cases hd
              rw [hc] at hi
              exact hj (congrArg Handle.slot (Option.some.inj hi))
            rw [h.held, if_neg hne, hhandle j hj, hc]
      alerts hs j q hq hstate hord := by
        rw [isOrdered_congr h.evac] at hord
        by_cases hj : j = i
        · subst hj; exact halert hs q hq hstate hord
        · have hrec := h.people j hj
          rw [hq] at hrec
          generalize hp : s.person j = o at hrec
          cases hrec with
          | some k => exact k.alert (hs j _ hp (k.state ▸ hstate) (k.zone ▸ hord)) }

/-- A move begins with the record as it is. -/
theorem Moved.refl (i : Fin 240) (s : State) : Moved i (s.person i) none none none none none s s :=
  ⟨id, fun _ _ => rfl, .inr rfl, fun _ _ => .refl _, .refl _, fun _ => by simp [claimed], fun _ => rfl, fun _ => rfl,
    fun _ => by simp [claimed], fun _ => rfl, fun _ => by simp, .refl s⟩

/-- A move that makes no claim stays where it is, wherever that is. -/
theorem Moved.stays (h : Moved i o none none none none freed s t) (b : Option (Fin 32)) (l : Option (Fin 8)) :
    Moved i o b b l l freed s t :=
  { h with
    persons := fun z => by rw [h.persons]; simp [claimed]
    occupancy := fun r => by rw [h.occupancy]; simp [claimed] }

/-- A record in the place of the one moved has an alert where that one has. -/
theorem Moved.alert (h : Moved i o before after left joined freed s t)
    (ho : ∀ p, o = some p → p.state = .present ∨ p.state = .quiet → s.isOrdered p.zone = true → p.alert ≠ .noAlert) :
    ∀ q, t.person i = some q → q.state = .present ∨ q.state = .quiet → s.isOrdered q.zone = true → q.alert ≠ .noAlert := by
  intro q hq hstate hord
  have hr := h.record
  rw [hq] at hr
  generalize ho' : o = w at hr
  cases hr with
  | some k => exact k.alert (ho _ ho' (k.state ▸ hstate) (k.zone ▸ hord))

/-- A change that the laws do not see goes on with a move. -/
theorem Moved.aside (h : Moved i o before after left joined freed s t) (k : Aside t u) :
    Moved i o before after left joined freed s u where
  queue := k.roll.queue ∘ h.queue
  gens j hj := (k.roll.gens j).trans (h.gens j hj)
  gen := h.gen.imp_right (k.roll.gens i).trans
  people j hj := (h.people j hj).trans (k.roll.people j)
  record := h.record.trans (k.roll.people i)
  persons z := (k.roll.persons z).trans (h.persons z)
  grants z := (k.roll.grants z).trans (h.grants z)
  evac z := (k.roll.evac z).trans (h.evac z)
  occupancy r := (k.roll.occupancy r).trans (h.occupancy r)
  claims p := (k.roll.claims p).trans (h.claims p)
  held c := by rw [k.roll.held]; exact h.held c
  air := h.air.trans k.air

/-- The slot of the move written. -/
theorem Moved.setSlot (h : Moved i o before after left joined freed s t) {v : Slot}
    (hv : v.person = none ∨ v.gen = (s.slot i).gen) :
    Moved i v.person before after left joined freed s (t.setSlot i v) where
  queue := h.queue
  gens j hj := by rw [slot_setSlot, if_neg hj]; exact h.gens j hj
  gen := by rw [slot_setSlot, if_pos rfl]; exact hv
  people j hj := by rw [person_setSlot, if_neg hj]; exact h.people j hj
  record := by rw [person_setSlot, if_pos rfl]; exact .refl _
  persons := h.persons
  grants := h.grants
  evac := h.evac
  occupancy := h.occupancy
  claims := h.claims
  held := h.held
  air := h.air.trans (.of_eq rfl rfl rfl)

/-- The record of the move changed by a function that keeps records in place of one another. -/
theorem Moved.modifyPerson (h : Moved i o before after left joined freed s t) {f : Person → Person}
    (hf : ∀ p q : Person, p.StaysPut q → (f p).StaysPut (f q)) :
    Moved i (o.map f) before after left joined freed s (t.modifyPerson i f) where
  queue := h.queue
  gens j hj := by rw [gen_modifyPerson]; exact h.gens j hj
  gen := by rw [gen_modifyPerson]; exact h.gen.imp_left (by rintro rfl; rfl)
  people j hj := by rw [person_modifyPerson, if_neg hj]; exact h.people j hj
  record := by
    have hr := h.record
    rw [person_modifyPerson, if_pos rfl]
    generalize t.person i = w at hr ⊢
    cases hr with
    | some hr => exact .some (hf _ _ hr)
    | none => exact .none
  persons := h.persons
  grants := h.grants
  evac := h.evac
  occupancy := h.occupancy
  claims := h.claims
  held := h.held
  air := h.air.trans (.of_eq rfl rfl rfl)

end

/-! ## Claims (R27, R151) and the end of a call (R163) -/

/-- A zone record after a count claim (R27). -/
theorem zone_countClaim (b a : Option (Fin 32)) (s : State) (z : Fin 32) :
    (countClaim b a s).zone z = { s.zone z with persons := claimed b a z (s.zone z).persons } := by
  unfold countClaim claimed
  cases b with
  | none =>
    cases a with
    | none => simp
    | some a => by_cases h : z = a <;> simp [zone_modifyZone, h, eq_comm]
  | some b =>
    cases a with
    | none => by_cases h : z = b <;> simp [zone_modifyZone, h, eq_comm]
    | some a =>
      by_cases h : b = a
      · simp [h]
      · by_cases ha : z = a
        · have hb : z ≠ b := fun e => h (e.symm.trans ha)
          subst ha
          simp [zone_modifyZone, h, hb]
        · by_cases hb : z = b
          · subst hb; simp [zone_modifyZone, h, Ne.symm ha]
          · simp [zone_modifyZone, h, ha, hb, Ne.symm ha, Ne.symm hb]

@[simp] theorem person_countClaim (b a : Option (Fin 32)) (s : State) (j : Fin 240) :
    (countClaim b a s).person j = s.person j := by
  simp only [State.person, State.slot, countClaim_rst]

theorem AirStays.countClaim (b a : Option (Fin 32)) (s : State) : AirStays s (countClaim b a s) := by
  have hlines : (Machine.countClaim b a s).znt.lines = s.znt.lines := by rw [countClaim_only]
  constructor <;> intros <;> simp [zone_countClaim, State.channel, hlines]

section
variable {i : Fin 240} {o : Option Person} {before after : Option (Fin 32)} {left joined : Option (Fin 8)}
  {freed : Option (Fin 4)} {s t u : State}

/-- The count claim of a move made (R27). -/
theorem Moved.countClaim (h : Moved i o none none left joined freed s t) (b a : Option (Fin 32)) :
    Moved i o b a left joined freed s (countClaim b a t) where
  queue := by rw [countClaim_atq]; exact h.queue
  gens j hj := by rw [State.slot, countClaim_rst]; exact h.gens j hj
  gen := by rw [State.slot, countClaim_rst]; exact h.gen
  people j hj := by rw [person_countClaim]; exact h.people j hj
  record := by rw [person_countClaim]; exact h.record
  persons z := by rw [zone_countClaim, h.persons]; simp [claimed]
  grants z := by rw [zone_countClaim]; exact h.grants z
  evac z := by rw [zone_countClaim]; exact h.evac z
  occupancy r := by rw [State.refuge, countClaim_rev]; exact h.occupancy r
  claims p := by rw [State.truckAt, countClaim_hlk]; exact h.claims p
  held c := by rw [countClaim_cal]; exact h.held c
  air := h.air.trans (.countClaim b a t)

/-- The refuges written anew with the occupancies that a move gives them (R150, R151). -/
theorem Moved.modifyRefuge (h : Moved i o before after left joined freed s t) {left' joined' : Option (Fin 8)} {r : Fin 8}
    {f : Refuge → Refuge}
    (hf : ∀ q, ((t.modifyRefuge r f).refuge q).occupancy = claimed left' joined' q (s.refuge q).occupancy) :
    Moved i o before after left' joined' freed s (t.modifyRefuge r f) where
  queue := h.queue
  gens := h.gens
  gen := h.gen
  people := h.people
  record := h.record
  persons := h.persons
  grants := h.grants
  evac := h.evac
  occupancy := hf
  claims := h.claims
  held := h.held
  air := h.air.trans (.of_eq rfl rfl rfl)

end

theorem Aside.handReasons (r : Fin 8) (old new : FaultReasons) (s : State) : Aside s (handReasons r old new s) := by
  unfold Machine.handReasons
  split
  · exact .refl s
  · split
    · exact .endItem ..
    · exact .insertItem ..

theorem Aside.deriveReasons (r : Fin 8) (s : State) : Aside s (deriveReasons r s) := by
  unfold Machine.deriveReasons
  split
  · refine .trans (.modifyRefuge (r := r) ?_ s) (.handReasons ..)
    intro x; rfl
  · exact .refl s

section
variable {i : Fin 240} {o : Option Person} {before after : Option (Fin 32)} {left joined : Option (Fin 8)}
  {freed : Option (Fin 4)} {s t u : State}

/-- An occupancy claim on the way of a move (R151). -/
theorem Moved.occupancyClaim (h : Moved i o before after none none freed s t) (r : Option (Fin 8)) :
    Moved i o before after r none freed s (occupancyClaim r t) := by
  cases r with
  | none => exact h
  | some r =>
    refine Moved.aside (h.modifyRefuge fun q => ?_) (.deriveReasons r _)
    rw [refuge_modifyRefuge]
    by_cases hq : q = r
    · subst hq; simp [h.occupancy, claimed]
    · simp [h.occupancy, claimed, hq, Ne.symm hq]

/-- The occupancies that a check-in moves, on the way of a move (R150). -/
theorem Moved.moveOccupancy (h : Moved i o before after none none freed s t) (p : Person) (r : Fin 8) :
    Moved i o before after p.musterPlace (some r) freed s (moveOccupancy p r t) := by
  have hjoin : ∀ {l : Option (Fin 8)} {v : State}, l ≠ some r → Moved i o before after l none freed s v →
      Moved i o before after l (some r) freed s (setOccupancy r (· + 1) v) := by
    intro l v hl hv
    refine hv.modifyRefuge fun q => ?_
    rw [refuge_modifyRefuge]
    by_cases hq : q = r
    · subst hq; cases l <;> simp_all [hv.occupancy, claimed]
    · cases l <;> simp_all [hv.occupancy, claimed, Ne.symm hq]
  unfold Machine.moveOccupancy Person.musterPlace
  split
  · split
    · next hr => rw [hr]; exact { h with occupancy := fun q => by rw [h.occupancy]; simp [claimed] }
    · next hr => exact hjoin hr (h.occupancyClaim p.refuge)
  · exact hjoin (by simp) h

/-- A record whose CONNECTED call has ended (R163). -/
def Person.disconnected (p : Person) : Person := if p.callState = .connected then p.withoutCall else p

theorem Person.disconnected_same (p : Person) : p.disconnected.state = p.state ∧ p.disconnected.zone = p.zone
    ∧ p.disconnected.refuge = p.refuge ∧ p.disconnected.alert = p.alert ∧ p.disconnected.connection = none := by
  unfold Person.disconnected
  split
  · exact ⟨rfl, rfl, rfl, rfl, rfl⟩
  · next h => exact ⟨rfl, rfl, rfl, rfl, by simp [Person.connection, h]⟩

theorem Person.StaysPut.disconnected {p q : Person} (h : p.StaysPut q) : p.disconnected.StaysPut q.disconnected := by
  obtain ⟨hps, hpz, hpr, hpa, hpc⟩ := p.disconnected_same
  obtain ⟨hqs, hqz, hqr, hqa, hqc⟩ := q.disconnected_same
  exact ⟨by rw [hps, hqs, h.state], by rw [hpz, hqz, h.zone], by rw [hpr, hqr, h.refuge], by rw [hpa, hqa]; exact h.alert,
    by rw [hpc, hqc]⟩

/-- A call channel made FREE on the way of a move (R163). -/
theorem Moved.freeCallChannel (h : Moved i o before after left joined none s t) (c : Option (Fin 4)) :
    Moved i o before after left joined c s (freeCallChannel c t) := by
  cases c with
  | none => exact h
  | some c =>
    have hheld : ∀ d : Fin 4, (Machine.freeCallChannel (some c) t).cal.channels[d]
        = if some c = some d then none else s.cal.channels[d] := by
      intro d
      have hd : t.cal.channels[d] = s.cal.channels[d] := by simpa using h.held d
      simp only [Machine.freeCallChannel, Fin.getElem_fin, Vector.getElem_set, Option.some.injEq, Fin.ext_iff] at hd ⊢
      rw [hd]
    exact { h with held := hheld, air := h.air.trans (.of_eq rfl rfl rfl) }

/-- The end of a CONNECTED call on the way of a move (R163). -/
theorem Moved.endConnected (h : Moved i o before after left joined none s t) :
    Moved i (o.map Person.disconnected) before after left joined (o.bind Person.connection).join s (endConnected i t) := by
  have hr := h.record
  unfold Machine.endConnected
  generalize hp : t.person i = w at hr
  cases hr with
  | none => exact h
  | @some p w hpw =>
    have hcon := hpw.connection
    unfold Person.connection at hcon
    dsimp only
    split
    · next hc =>
      rw [if_pos hc] at hcon
      split at hcon
      · next hcp =>
        have hjoin : ((some p).bind Person.connection).join = p.callChannel := by simp [Person.connection, hcp]
        rw [hjoin, ← Option.some.inj hcon]
        have hfree := (h.freeCallChannel w.callChannel).modifyPerson (f := Person.disconnected)
          fun _ _ => Person.StaysPut.disconnected
        have hw : (Machine.freeCallChannel w.callChannel t).person i = some w := by
          rw [← hp]; cases w.callChannel <;> rfl
        have he : (Machine.freeCallChannel w.callChannel t).modifyPerson i Person.withoutCall
            = (Machine.freeCallChannel w.callChannel t).modifyPerson i Person.disconnected := by
          simp only [State.modifyPerson, hw, Option.map_some, Person.disconnected, hc, if_true]
        rw [he]
        exact hfree
      · cases hcon
    all_goals
      next hc =>
      have hnone : p.connection = none := by rw [← hpw.connection]; simp [Person.connection, hc]
      have hsame : p.disconnected = p := by
        have hne : p.callState ≠ .connected := by intro e; simp [Person.connection, e] at hnone
        simp [Person.disconnected, hne]
      simpa [hnone, hsame] using h

end

end Sys2Proof.Machine
end

section
/-! What the calls, the escorts, the exposure, the roster and the aging do to the laws. -/

namespace Sys2Proof.Machine

open Sys2Proof.Safety

/-! ## Calls (R157 to R164) -/

/-- A change of one record that keeps its place, its alert and its connection is aside. -/
theorem Aside.modifyPerson_of_eq {i : Fin 240} {f : Person → Person} {s : State}
    (h : ∀ p, (f p).state = p.state ∧ (f p).zone = p.zone ∧ (f p).refuge = p.refuge ∧ (f p).alert = p.alert
      ∧ (f p).connection = p.connection := by intro p; exact ⟨rfl, rfl, rfl, rfl, rfl⟩) : Aside s (s.modifyPerson i f) :=
  .modifyPerson fun p _ => ⟨(h p).1, (h p).2.1, (h p).2.2.1, by rw [(h p).2.2.2.1]; exact id, (h p).2.2.2.2⟩

theorem Aside.insertCall (i : Fin 240) (renew : Bool) (s : State) : Aside s (insertCall i renew s) := by
  unfold Machine.insertCall
  split
  · split
    · exact .insertItem ..
    · exact .refl s
  · exact .refl s

theorem Aside.endCallKind (i : Fin 240) (s : State) : Aside s (endCallKind i s) := by
  unfold Machine.endCallKind
  split
  · split
    · exact .endCallItem ..
    · exact .refl s
  · exact .refl s

theorem Aside.endManDown (i : Fin 240) (p : Person) (s : State) : Aside s (endManDown i p s) := by
  unfold Machine.endManDown
  split
  · exact .endItem ..
  · exact .refl s

/-- A record without a CONNECTED call stays in its place when its call fields are written without connecting it. -/
theorem Person.StaysPut.of_call {p q : Person} (hp : p.callState ≠ .connected) (hq : q.callState ≠ .connected)
    (h : q.state = p.state ∧ q.zone = p.zone ∧ q.refuge = p.refuge ∧ q.alert = p.alert) : p.StaysPut q :=
  ⟨h.1, h.2.1, h.2.2.1, by rw [h.2.2.2]; exact id, by simp [Person.connection, hp, hq]⟩

theorem Aside.raiseCall {i : Fin 240} {s : State} (precedence : Precedence)
    (h : ∀ p, s.person i = some p → p.callState ≠ .connected) : Aside s (raiseCall i precedence s) := by
  refine .trans (.modifyPerson fun p hp => ?_) (.insertCall ..)
  exact .of_call (h p hp) (by simp [Person.waitingAt]) ⟨rfl, rfl, rfl, rfl⟩

theorem Aside.upgradeCall {i : Fin 240} {s : State} (precedence : Precedence)
    (h : ∀ p, s.person i = some p → p.callState ≠ .connected) : Aside s (upgradeCall i precedence s) := by
  refine .trans (.endCallKind i s) (.raiseCall precedence fun p hp => h p ?_)
  rwa [State.person, State.slot, endCallKind_rst] at hp

theorem Aside.callKey (i : Fin 240) (precedence : Precedence) (s : State) : Aside s (callKey i precedence s) := by
  unfold Machine.callKey
  split
  · exact .refl s
  · next p hp =>
    have hcalls : ∀ q, s.person i = some q → q.callState = p.callState := fun q hq => by rw [hp] at hq; cases hq; rfl
    split
    · next hc => exact .raiseCall precedence fun q hq => by rw [hcalls q hq, hc]; simp
    · next hc =>
      split
      · exact .upgradeCall precedence fun q hq => by rw [hcalls q hq, hc]; simp
      · exact .trans (.modifyPerson_of_eq (f := Person.withRepeat)) (.insertCall ..)
    · exact .modifyPerson_of_eq

/-- The end of a CONNECTED call keeps the laws: its channel is FREE and its record has no call (R163). -/
theorem Tame.endConnected (i : Fin 240) (s : State) : Tame s (endConnected i s) := by
  have h := (Moved.refl i s).endConnected.stays (s.countedAt i) (s.musteredAt i)
  refine h.keeps ⟨rfl, ?_⟩ ⟨rfl, ?_⟩ (.inr ⟨?_, rfl⟩) fun hs => h.alert fun q hq hstate hord => ?_
  · unfold State.countedAt
    cases s.person i with
    | none => rfl
    | some p =>
      obtain ⟨hs, hz, -, -, -⟩ := p.disconnected_same
      simp only [Option.map_some, Option.bind_some, Person.countedZone, hs, hz]
  · unfold State.musteredAt
    cases s.person i with
    | none => rfl
    | some p =>
      obtain ⟨hs, -, hr, -, -⟩ := p.disconnected_same
      simp only [Option.map_some, Option.bind_some, Person.musterPlace, hs, hr]
  · cases s.person i with
    | none => rfl
    | some p => exact p.disconnected_same.2.2.2.2
  · obtain ⟨p, hp, rfl⟩ := Option.map_eq_some_iff.1 hq
    obtain ⟨hps, hpz, -, hpa, -⟩ := p.disconnected_same
    rw [hps] at hstate
    rw [hpz] at hord
    rw [hpa]
    exact hs i p hp hstate hord

theorem Tame.cancelKey (i : Fin 240) (s : State) : Tame s (cancelKey i s) := by
  unfold Machine.cancelKey
  split
  · exact .refl s
  · next p hp =>
    split
    · exact .refl s
    · next hc =>
      refine (Aside.trans ((Aside.endCallKind i s).trans (.endManDown i p _)) (.modifyPerson fun q hq => ?_)).tame
      rw [State.person, State.slot, endManDown_rst, endCallKind_rst] at hq
      cases hp.symm.trans hq
      exact .of_call (by rw [hc]; simp) (by simp [Person.withoutCall]) ⟨rfl, rfl, rfl, rfl⟩
    · exact .endConnected i s

theorem Aside.judgeCallWait (i : Fin 240) (s : State) : Aside s (judgeCallWait i s) := by
  have hoverdue : Aside s (s.modifyPerson i (fun q => { q with overdue := true })) :=
    .modifyPerson_of_eq
  unfold Machine.judgeCallWait
  split
  · exact .refl s
  · next p hp =>
    split
    · next hc hstamp =>
      dsimp only
      split
      · exact .refl s
      · split
        · exact .upgradeCall _ fun q hq => by rw [hp] at hq; cases hq; rw [hc]; simp
        · exact .refl s
      · split
        · exact hoverdue.trans (.insertCall ..)
        · exact .refl s
      · split
        · exact (hoverdue.trans (.insertCall ..)).trans (.raiseItem ..)
        · exact .refl s
    · exact .refl s

theorem Tame.narrowCalls (usable : Nat) (s : State) : Tame s (narrowCalls usable s) := by
  refine .trans (Tame.of_eq (t := { s with cal := { s.cal with usable := usable } })) (.forEach (fun c s => ?_) _ _)
  split
  · exact .endConnected ..
  · exact .refl s

theorem Aside.writeHolding (m : Outbound) (s : State) : Aside s (writeHolding m s) := by
  rw [writeHolding_only]
  exact .of_eq rfl rfl rfl rfl rfl rfl rfl rfl

theorem Aside.holdChannel (s : State) : Aside s (holdChannel s) := by
  unfold Machine.holdChannel
  split
  · split
    · exact .refl s
    · split
      · exact .refl s
      · split
        · exact .writeHolding ..
        · exact .refl s
  · exact .refl s

/-- An event that waits is taken, and the flag of it is no part of the laws. -/
theorem Tame.ofHanded {s : State} {h : Handed} {f : State → State} (hf : ∀ s, Tame s (f s)) :
    Tame s (f { s with handed := h }) :=
  .trans (t := { s with handed := h }) .of_eq (hf _)

theorem Tame.takeCallWait (s : State) : Tame s (takeCallWait s) := by
  unfold Machine.takeCallWait
  split
  · exact .ofHanded fun s => (Aside.forEach Aside.judgeCallWait _ s).tame
  · exact .refl s

theorem Tame.takeUsable (s : State) : Tame s (takeUsable s) := by
  unfold Machine.takeUsable
  split
  · exact .ofHanded fun s => .narrowCalls _ s
  · exact .refl s

theorem Tame.takeHold (s : State) : Tame s (takeHold s) := by
  unfold Machine.takeHold
  split
  · exact .ofHanded fun s => (Aside.holdChannel s).tame
  · exact .refl s

/-! ## Requests that name a person -/

theorem Tame.reply (status : ReplyStatus) (data : List Byte) (s : State) : Tame s (s.reply status data) :=
  (Aside.reply status data s).tame

/-- A reply after a change is no part of the laws. -/
theorem Tame.replied {s t : State} (h : Tame s t) (status : ReplyStatus) (data : List Byte) : Tame s (t.reply status data) :=
  h.trans (.reply ..)

theorem Tame.withNamed {slot gen : Byte} {f : Fin 240 → Person → State → State} {s : State}
    (h : ∀ i p, s.person i = some p → Tame s (f i p s)) : Tame s (withNamed slot gen f s) := by
  unfold Machine.withNamed
  split
  · exact .reply ..
  · split
    · exact .reply ..
    · next p hp =>
      split
      · exact h _ p hp
      · exact .reply ..

theorem Tame.reqEndCall (slot gen : Byte) (s : State) : Tame s (reqEndCall slot gen s) := by
  refine .withNamed fun i p hp => ?_
  split
  · exact .reply ..
  · exact (Tame.endConnected i s).replied ..

theorem Tame.reqPage (slot gen : Byte) (s : State) : Tame s (reqPage slot gen s) :=
  .withNamed fun i _ _ => (Aside.modifyPerson_of_eq).tame.replied ..

theorem Tame.reqCancelPage (slot gen : Byte) (s : State) : Tame s (reqCancelPage slot gen s) :=
  .withNamed fun i _ _ => (Aside.modifyPerson_of_eq).tame.replied ..

/-! ### ANSWER (R160) -/

/-- A record with its call connected on a channel (R160). -/
def Person.connectedOn (c : Fin 4) (p : Person) : Person := { p with callState := .connected, callChannel := some c }

/-- The call channel held by the record in a slot, and the record's call connected on it (R160). -/
def holdFor (i : Fin 240) (c : Fin 4) (s : State) : State :=
  ({ s with cal := { s.cal with channels := s.cal.channels.set c (some (s.handle i)) } } : State).modifyPerson i
    (Person.connectedOn c)

theorem connectCall_eq (i : Fin 240) (p : Person) (c : Fin 4) (s : State) :
    connectCall i p c s = endManDown i p (endCallKind i (holdFor i c s)) := rfl

theorem person_holdFor (i j : Fin 240) (c : Fin 4) (s : State) :
    (holdFor i c s).person j = if j = i then (s.person i).map (Person.connectedOn c) else s.person j :=
  person_modifyPerson i j _ _

theorem handle_holdFor (i j : Fin 240) (c : Fin 4) (s : State) : (holdFor i c s).handle j = s.handle j :=
  handle_modifyPerson i j _ _

theorem callChannel_holdFor (i : Fin 240) (c d : Fin 4) (s : State) :
    (holdFor i c s).cal.channels[d] = if d = c then some (s.handle i) else s.cal.channels[d] := by
  show (s.cal.channels.set c (some (s.handle i)))[d] = _
  simp only [Fin.getElem_fin, Vector.getElem_set, Fin.ext_iff, eq_comm]

/-- What a record gives that its call has no part in is as it was when its call is connected. -/
theorem bind_holdFor {β : Type} (i j : Fin 240) (c : Fin 4) (s : State) (f : Person → Option β)
    (hf : ∀ p, f (p.connectedOn c) = f p) : ((holdFor i c s).person j).bind f = (s.person j).bind f := by
  rw [person_holdFor]
  split
  · next hj =>
    subst hj
    cases s.person j with
    | none => rfl
    | some p => exact hf p
  · rfl

/-- A call connected on a FREE channel keeps L11 (R160). -/
theorem channelsAgree_holdFor {i : Fin 240} {p : Person} {c : Fin 4} {s : State} (hp : s.person i = some p)
    (hcall : p.callState ≠ .connected) (hfree : s.cal.channels[c] = none) (hs : ChannelsAgree s) :
    ChannelsAgree (holdFor i c s) := by
  have hi : (holdFor i c s).person i = some (p.connectedOn c) := by rw [person_holdFor, if_pos rfl, hp]; rfl
  have hgen : ∀ j, ((holdFor i c s).slot j).gen = (s.slot j).gen := fun j => congrArg Handle.gen (handle_holdFor i j c s)
  obtain ⟨hheld, hconnected⟩ := hs
  refine ⟨fun d h hd => ?_, fun j q hq hqc => ?_⟩
  · rw [callChannel_holdFor] at hd
    simp only [State.named, hgen]
    split at hd
    · next he =>
      cases hd
      subst he
      exact ⟨p.connectedOn d, (if_pos rfl).trans hi, rfl, rfl⟩
    · obtain ⟨q, hq, hqc, hqd⟩ := hheld d h hd
      have hg : (s.slot h.slot).gen = h.gen := by
        by_contra hne
        rw [State.named, if_neg hne] at hq
        cases hq
      rw [State.named, if_pos hg] at hq
      have hne : h.slot ≠ i := by
        rintro rfl
        rw [hp] at hq
        cases hq
        exact hcall hqc
      exact ⟨q, by rw [if_pos hg, person_holdFor, if_neg hne, hq], hqc, hqd⟩
  · rw [person_holdFor] at hq
    split at hq
    · next he =>
      subst he
      rw [hp] at hq
      cases hq
      exact ⟨c, rfl, by rw [callChannel_holdFor, if_pos rfl, handle_holdFor]⟩
    · obtain ⟨d, hd, hh⟩ := hconnected j q hq hqc
      have hne : d ≠ c := by rintro rfl; rw [hfree] at hh; cases hh
      exact ⟨d, hd, by rw [callChannel_holdFor, if_neg hne, handle_holdFor, hh]⟩

/-- A WAITING call connected on a FREE channel keeps the laws (R160). -/
theorem Tame.connectCall {i : Fin 240} {p : Person} {c : Fin 4} {s : State} (hp : s.person i = some p)
    (hcall : p.callState ≠ .connected) (hfree : s.cal.channels[c] = none) : Tame s (connectCall i p c s) := by
  rw [connectCall_eq]
  refine Tame.trans (t := holdFor i c s) ⟨?_, .of_eq rfl rfl rfl⟩ ((Aside.endCallKind i _).trans (.endManDown i p _)).tame
  refine ⟨id, countsAgree_of (fun _ => rfl) fun j => bind_holdFor i j c s _ fun _ => rfl,
    occupanciesAgree_of (fun _ => rfl) fun j => bind_holdFor i j c s _ fun _ => rfl, id,
    channelsAgree_holdFor hp hcall hfree, fun hs j q hq hstate hord => ?_⟩
  · rw [person_holdFor] at hq
    split at hq
    · next hj =>
      subst hj
      obtain ⟨p, hp, rfl⟩ := Option.map_eq_some_iff.1 hq
      exact hs j p hp hstate hord
    · exact hs j q hq hstate hord

theorem Tame.reqAnswer (slot gen : Byte) (s : State) : Tame s (reqAnswer slot gen s) := by
  refine .withNamed fun i p hp => ?_
  split
  · exact .reply ..
  · next hc =>
    split
    · exact .reply ..
    · split
      · exact .reply ..
      · next c hc' =>
        have hfree : s.cal.channels[c] = none := by
          have := List.find?_some hc'
          simp only [Bool.and_eq_true, Option.isNone_iff_eq_none] at this
          exact this.2
        exact (Tame.connectCall hp (by rw [not_not.1 hc]; simp) hfree).replied ..

/-! ## Escorts (R68 to R72) -/

theorem Aside.judgeSeparation (i : Fin 240) (s : State) : Aside s (judgeSeparation i s) := by
  unfold Machine.judgeSeparation
  split
  · exact .refl s
  · split
    · split
      · split
        · exact .refl s
        · exact .modifyPerson_of_eq
      · split
        · exact .refl s
        · dsimp only
          split
          · exact .trans .modifyPerson_of_eq (.endItem ..)
          · exact .modifyPerson_of_eq
    · exact .refl s

theorem Aside.judgeEscorts (i : Fin 240) (s : State) : Aside s (judgeEscorts i s) :=
  .trans (.judgeSeparation i s) (.forEach (fun j s => .judgeSeparation j s) _ _)

theorem Aside.judgeEscortLimit (i : Fin 240) (s : State) : Aside s (judgeEscortLimit i s) := by
  unfold Machine.judgeEscortLimit
  split
  · exact .refl s
  · split
    · exact .refl s
    · split
      · exact .trans .modifyPerson_of_eq (.raiseItem ..)
      · exact .refl s

theorem Aside.withdrawEscort (i : Fin 240) (s : State) : Aside s (withdrawEscort i s) :=
  .trans (.trans (.trans (.trans .modifyPerson_of_eq (.judgeSeparation i _)) (.endItem ..)) (.raiseItem ..))
    .modifyPerson_of_eq

theorem Tame.reqSetEscort (slot gen escortSlot escortGen : Byte) (s : State) :
    Tame s (reqSetEscort slot gen escortSlot escortGen s) := by
  refine .withNamed fun i p hp => ?_
  split
  · split
    · exact .reply ..
    · exact (Aside.trans .modifyPerson_of_eq (.judgeSeparation i _)).tame.replied ..
  · exact .reply ..

theorem Tame.takeEscort (s : State) : Tame s (takeEscort s) := by
  unfold Machine.takeEscort
  split
  · exact .ofHanded fun s => (Aside.forEach Aside.judgeEscortLimit _ s).tame
  · exact .refl s

/-! ## Exposure (R84 to R88) -/

theorem Aside.judgeExposure (i : Fin 240) (s : State) : Aside s (judgeExposure i s) := by
  unfold Machine.judgeExposure
  split
  · split
    · exact .raiseItem ..
    · exact .refl s
  · exact .refl s

theorem Aside.raiseExposure (i : Fin 240) (s : State) : Aside s (raiseExposure i s) := by
  unfold Machine.raiseExposure
  split
  · split
    · exact .trans (.modifyPerson_of_eq (f := Person.raised)) (.judgeExposure i _)
    · exact .refl s
  · exact .refl s

theorem Aside.countExposure (s : State) : Aside s (countExposure s) := by
  unfold Machine.countExposure
  split
  · refine .forEach (fun i s => ?_) _ s
    split
    · exact .raiseExposure i s
    · exact .refl s
  · exact .refl s

theorem Aside.exposeMove (i : Fin 240) (before after : Option (Fin 32)) (s : State) :
    Aside s (exposeMove i before after s) := by
  unfold Machine.exposeMove
  split
  · exact .refl s
  · split
    · exact .raiseExposure i s
    · exact .refl s

theorem Aside.exposeRise (z : Fin 32) (x y : AirState) (s : State) : Aside s (exposeRise z x y s) := by
  unfold Machine.exposeRise
  split
  · exact .refl s
  · split
    · refine .forEach (fun i s => ?_) _ s
      split
      · exact .raiseExposure i s
      · exact .refl s
    · exact .refl s

theorem Tame.reqClearExposure (slot gen : Byte) (s : State) : Tame s (reqClearExposure slot gen s) :=
  .withNamed fun i _ _ => (Aside.trans .modifyPerson_of_eq (.endItem ..)).tame.replied ..

theorem Tame.takeExposure (s : State) : Tame s (takeExposure s) := by
  unfold Machine.takeExposure
  split
  · exact .ofHanded fun s => (Aside.countExposure s).tame
  · exact .refl s

end Sys2Proof.Machine
end

section
/-! What the roster, the walker and the refuge reports do to the laws. -/

namespace Sys2Proof.Machine

open Sys2Proof.Safety

/-! ## Alerts and keys (R64, R142, R143) -/

theorem Aside.alertArrived (i : Fin 240) (s : State) : Aside s (alertArrived i s) := by
  refine .modifyPerson fun p _ => ?_
  split
  · refine ⟨rfl, rfl, rfl, fun h => ?_, rfl⟩
    simp [Person.alerted, h]
  · exact .refl p

theorem Aside.ackKey (i : Fin 240) (s : State) : Aside s (ackKey i s) := by
  have hack : Aside s (s.modifyPerson i (fun q => { q with alert := if q.alert = .sent then .acked else q.alert })) := by
    refine .modifyPerson fun p _ => ⟨rfl, rfl, rfl, fun h => ?_, rfl⟩
    dsimp only
    split
    · simp
    · exact h
  unfold Machine.ackKey
  split
  · exact .refl s
  · dsimp only
    split
    · exact (hack.trans .modifyPerson_of_eq).trans (.raiseItem ..)
    · exact hack

theorem Tame.actOnKey (i : Fin 240) (k : Key) (s : State) : Tame s (actOnKey i k s) := by
  cases k with
  | noKey => exact .refl s
  | call => exact (Aside.callKey i _ s).tame
  | urgent => exact (Aside.callKey i _ s).tame
  | emergency => exact (Aside.callKey i _ s).tame
  | ack => exact (Aside.ackKey i s).tame
  | cancel => exact .cancelKey i s

theorem Tame.keyEvent (i : Fin 240) (k : Key) (sequence : BitVec 2) (s : State) : Tame s (keyEvent i k sequence s) := by
  unfold Machine.keyEvent
  split
  · exact .refl s
  · split
    · exact .refl s
    · exact (Aside.modifyPerson_of_eq).tame.trans (.actOnKey i k _)

/-! ## Sightings (R57 to R63) -/

/-- A record that is PRESENT and judged by its zone's order has an alert where its zone is ORDERED (R142). -/
theorem alert_alertArrived {i : Fin 240} {s : State} {q : Person} (hq : (alertArrived i s).person i = some q)
    (hstate : q.state = .present) (hord : s.isOrdered q.zone = true) : q.alert ≠ .noAlert := by
  rw [Machine.alertArrived, person_modifyPerson_self] at hq
  obtain ⟨p, -, rfl⟩ := Option.map_eq_some_iff.1 hq
  split
  · simp only [Person.alerted]
    split
    · simp
    · next h => exact h
  · next h =>
    rw [if_neg h] at hstate hord
    exact absurd ⟨hstate, hord⟩ h

/-- A move of one record that makes it PRESENT and ends with the judgement of its alert keeps the laws. -/
theorem Moved.keeps_arrived {i : Fin 240} {q : Person} {left : Option (Fin 8)} {s t : State}
    (h : Moved i (some q) (s.countedAt i) q.countedZone left none none s t) (hstate : q.state = .present)
    (hleft : s.musteredAt i = left) (hconnection : q.connection = s.connectionAt i) : Tame s (alertArrived i t) := by
  have hend := h.aside (.alertArrived i t)
  refine hend.keeps ⟨rfl, rfl⟩ ⟨hleft, ?_⟩ (.inl ⟨hconnection, rfl⟩) fun _ q' hq' _ hord => ?_
  · simp [Person.musterPlace, hstate]
  · have hrec := hend.record
    rw [hq'] at hrec
    cases hrec with
    | some k =>
      exact alert_alertArrived hq' (k.state.trans hstate) (by rwa [isOrdered_congr h.evac])

/-- A sighting handed on keeps the laws: `p` gives the place that the record had, and `q` is the record now in its slot. -/
theorem Moved.handSighting {i : Fin 240} {p q : Person} {s t : State}
    (h : Moved i (some q) none none none none none s t) (hstate : q.state = .present)
    (hcounted : s.countedAt i = p.countedZone) (hmustered : s.musteredAt i = p.musterPlace)
    (hconnection : q.connection = s.connectionAt i) : Tame s (handSighting i p q t) := by
  have hcount := h.countClaim p.countedZone q.countedZone
  have hoccupied : Moved i (some q) p.countedZone q.countedZone p.musterPlace none none s
      (if p.state = .mustered then Machine.occupancyClaim p.refuge (Machine.countClaim p.countedZone q.countedZone t)
        else Machine.countClaim p.countedZone q.countedZone t) := by
    unfold Person.musterPlace
    split
    · exact hcount.occupancyClaim p.refuge
    · exact hcount
  rw [← hcounted] at hoccupied hcount
  unfold Machine.handSighting
  rw [← hcounted]
  exact Moved.keeps_arrived (.aside (.aside (.aside hoccupied (.ite (.endItem ..) (.refl _)))
    (.ite (.refl _) (.judgeEscorts ..))) (.exposeMove ..)) hstate hmustered hconnection

theorem Tame.placeSighted {i : Fin 240} {p : Person} {s : State} (hp : s.person i = some p) (z : Fin 32) (level : Nat)
    (frame : Frame) : Tame s (placeSighted i p z level frame s) := by
  have hwrite := (Moved.refl i s).modifyPerson
    (f := fun _ => p.heardIn (contest p z level frame).1 (contest p z level frame).2 frame) fun _ _ _ => .refl _
  rw [hp] at hwrite
  refine hwrite.handSighting rfl ?_ ?_ ?_
  · simp [State.countedAt, hp]
  · simp [State.musteredAt, hp]
  · simp [State.connectionAt, hp]; rfl

theorem Tame.sightMustered {i : Fin 240} {p : Person} {s : State} (hp : s.person i = some p) (z : Fin 32) (level : Nat)
    (frame : Frame) : Tame s (sightMustered i p z level frame s) := by
  unfold Machine.sightMustered
  dsimp only
  split
  · exact (Aside.trans .modifyPerson_of_eq (.alertArrived i _)).tame
  · exact .placeSighted hp z level frame

theorem Tame.sightByReader {i : Fin 240} {p : Person} {s : State} (hp : s.person i = some p) (z : Fin 32) (level : Nat)
    (frame : Frame) : Tame s (sightByReader i p z level frame s) := by
  unfold Machine.sightByReader
  split
  · exact .sightMustered hp z level frame
  all_goals exact .placeSighted hp z level frame

theorem Tame.sightByTruck {i : Fin 240} {p : Person} {s : State} (hp : s.person i = some p) (z : Fin 32) (frame : Frame) :
    Tame s (sightByTruck i p z frame s) := by
  unfold Machine.sightByTruck
  split
  · exact .refl s
  all_goals exact .placeSighted hp z 0 frame

/-- A free slot holds no record. -/
theorem person_of_freeSlot {s : State} {i : Fin 240} (h : s.freeSlot = some i) : s.person i = none := by
  obtain ⟨e, he, rfl⟩ := Option.map_eq_some_iff.1 h
  have hmem := List.mem_of_find?_eq_some he
  have hnone := List.find?_some he
  rw [indexedSlots_eq] at hmem
  obtain ⟨j, -, rfl⟩ := List.mem_map.1 hmem
  exact Option.isNone_iff_eq_none.1 hnone

/-- A slot of a tag holds a record with that tag. -/
theorem person_of_slotOfTag {s : State} {t : Tag} {i : Fin 240} (h : s.slotOfTag t = some i) :
    ∃ p, s.person i = some p ∧ p.tag = t := by
  obtain ⟨e, he, rfl⟩ := Option.map_eq_some_iff.1 h
  have hmem := List.mem_of_find?_eq_some he
  have hholds := List.find?_some he
  rw [indexedSlots_eq] at hmem
  obtain ⟨j, -, rfl⟩ := List.mem_map.1 hmem
  simp only [Slot.holds] at hholds
  split at hholds
  · next p hp => exact ⟨p, hp, by simpa using hholds⟩
  · cases hholds

theorem Tame.enrolAtPortal {i : Fin 240} {s : State} (hfree : s.person i = none) (tag : Tag) (z : Fin 32) (level : Nat)
    (frame : Frame) : Tame s (enrolAtPortal i tag z level frame s) := by
  have hwrite := (Moved.refl i s).setSlot (v := { gen := (s.slot i).gen, person := some (Person.atPortal tag z level frame) })
    (.inr rfl)
  refine hwrite.handSighting rfl ?_ ?_ ?_
  · simp [State.countedAt, hfree]; rfl
  · simp [State.musteredAt, hfree]; rfl
  · simp [State.connectionAt, hfree]; rfl

theorem Tame.takeTagReport (z : Fin 32) (tag : Tag) (level : Nat) (k : Key) (sequence : BitVec 2) (frame : Frame) (s : State) :
    Tame s (takeTagReport z tag level k sequence frame s) := by
  unfold Machine.takeTagReport
  split
  · split
    · split
      · next p hp => exact (Tame.sightByReader hp z level frame).trans (.keyEvent ..)
      · exact .refl s
    · split
      · next i hi =>
        have hfree : s.person i = none := by
          unfold State.portalSlot? at hi
          split at hi
          · exact person_of_freeSlot hi
          · cases hi
        exact (Tame.enrolAtPortal hfree tag z level frame).trans (.keyEvent ..)
      · exact (Aside.raiseItem ..).tame
  · exact .refl s

theorem Tame.takeProximity (z : Option (Fin 32)) (frame : Frame) (e : Proximity) (s : State) :
    Tame s (takeProximity z frame e s) := by
  unfold Machine.takeProximity
  split
  · exact .refl s
  · split
    · split
      · split
        · next p hp => exact .sightByTruck hp _ frame
        · exact .refl s
      · exact (Aside.raiseItem ..).tame
    · exact .refl s

/-! ## Enrolment and retirement (R56, R65, R66) -/

/-- A record made where the slot is free, in a state in which it is neither counted nor MUSTERED, keeps the laws. -/
theorem Tame.makeEnrolled {i : Fin 240} {s : State} (hfree : s.person i = none) (tag : Tag) (role : Role)
    (escort : Option Handle) : Tame s (makeRecord i (Person.enrolled tag role escort) s) := by
  have hwrite := (Moved.refl i s).setSlot (v := { gen := (s.slot i).gen, person := some (Person.enrolled tag role escort) })
    (.inr rfl)
  refine hwrite.keeps ⟨?_, rfl⟩ ⟨?_, rfl⟩ (.inl ⟨?_, rfl⟩) fun _ => hwrite.alert fun p hp hstate => ?_
  · simp [State.countedAt, hfree]
  · simp [State.musteredAt, hfree]
  · simp [State.connectionAt, hfree]; rfl
  · cases hp; simp [Person.enrolled] at hstate

theorem Tame.reqEnrol (tag : Tag) (role escortSlot escortGen : Byte) (s : State) :
    Tame s (reqEnrol tag role escortSlot escortGen s) := by
  unfold Machine.reqEnrol
  split
  · exact .reply ..
  · split
    · exact .reply ..
    · split
      · exact .reply ..
      · split
        · exact .reply ..
        · next i hi => exact (Tame.makeEnrolled (person_of_freeSlot hi) ..).replied ..

theorem Tame.retirePerson (i : Fin 240) (s : State) : Tame s (retirePerson i s) := by
  unfold Machine.retirePerson
  split
  · exact .refl s
  · next p hp =>
    have hcount := (Moved.refl i s).countClaim p.countedZone none
    have hoccupied : Moved i (s.person i) p.countedZone none p.musterPlace none none s
        (if p.state = .mustered then occupancyClaim p.refuge (countClaim p.countedZone none s)
          else countClaim p.countedZone none s) := by
      unfold Person.musterPlace
      split
      · exact hcount.occupancyClaim p.refuge
      · exact hcount
    dsimp only
    generalize (if p.state = .mustered then occupancyClaim p.refuge (countClaim p.countedZone none s)
      else countClaim p.countedZone none s) = t at hoccupied ⊢
    have hretired := hoccupied.endConnected.aside (.retireSubject (s.personSubject i) _)
    generalize retireSubject (s.personSubject i) (Machine.endConnected i t) = u at hretired ⊢
    have hlast : ∀ v, Aside u v → Tame s (freeTheSlot i v) := fun v hv =>
      ((hretired.aside hv).setSlot (v := { gen := (v.slot i).gen + 1, person := none }) (.inl rfl)).keeps
        ⟨by simp [State.countedAt, hp], rfl⟩ ⟨by simp [State.musteredAt, hp], rfl⟩ (.inr ⟨rfl, rfl⟩)
        fun _ q hq => by rw [person_setSlot, if_pos rfl] at hq; cases hq
    split
    · exact hlast _ (.forEach (fun j s => .withdrawEscort j s) _ _)
    · exact hlast _ (.refl u)

theorem Tame.reqRetire (slot gen : Byte) (s : State) : Tame s (reqRetire slot gen s) :=
  .withNamed fun i _ _ => (Tame.retirePerson i s).replied ..

/-! ## Aging (R76 to R83) -/

theorem Tame.ageTo {i : Fin 240} {p : Person} {s : State} (hp : s.person i = some p)
    (hcounted : p.state = .present ∨ p.state = .quiet) {x : PersonState} (hx : x ≠ .mustered) : Tame s (ageTo i p x s) := by
  have hwrite := (Moved.refl i s).modifyPerson (f := fun _ => { p with state := x }) fun _ _ _ => .refl _
  rw [hp] at hwrite
  have hclaimed := hwrite.countClaim p.countedZone ({ p with state := x } : Person).countedZone
  unfold Machine.ageTo
  dsimp only
  have hraised : Moved i (some { p with state := x }) p.countedZone ({ p with state := x } : Person).countedZone none none none s
      (if x = .missing then raiseItem .missing (s.personSubject i) (countClaim p.countedZone
          ({ p with state := x } : Person).countedZone (s.modifyPerson i (fun _ => { p with state := x })))
        else countClaim p.countedZone ({ p with state := x } : Person).countedZone
          (s.modifyPerson i (fun _ => { p with state := x }))) := by
    split
    · exact hclaimed.aside (.raiseItem ..)
    · exact hclaimed
  have hend := hraised.endConnected.aside (.judgeEscorts i _)
  obtain ⟨hs, hz, hr, ha, hc⟩ := ({ p with state := x } : Person).disconnected_same
  refine hend.keeps ⟨by simp [State.countedAt, hp], ?_⟩ ⟨?_, ?_⟩ (.inr ⟨hc, ?_⟩) fun hal => hend.alert fun q hq _ hord => ?_
  · show Person.countedZone _ = _
    simp only [Person.countedZone, hs, hz]
  · rcases hcounted with h | h <;> simp [State.musteredAt, hp, Person.musterPlace, h]
  · show Person.musterPlace _ = _
    simp [Person.musterPlace, hs, hx]
  · simp [State.connectionAt, hp, Person.connection]
  · cases hq
    rw [hz] at hord
    rw [ha]
    exact hal i p hp hcounted hord

theorem agedFrom_ne_mustered (s : State) (z : Option (Fin 32)) : s.agedFrom z ≠ .mustered := by
  unfold State.agedFrom
  split
  · split <;> simp
  · simp

theorem Tame.judgeAging (i : Fin 240) (s : State) : Tame s (judgeAging i s) := by
  unfold Machine.judgeAging
  split
  · exact .refl s
  · next p hp =>
    split
    · next hs =>
      split
      · exact .ageTo hp (.inl hs) (agedFrom_ne_mustered s p.zone)
      · exact .refl s
    · next hs =>
      split
      · exact .ageTo hp (.inr hs) (by simp)
      · exact .refl s
    · split
      · exact .retirePerson i s
      · exact .refl s
    all_goals exact .refl s

theorem Tame.visit (i : Fin 240) (s : State) : Tame s (visit i s) := by
  unfold Machine.visit
  split
  · exact .refl s
  · split
    · refine (Aside.modifyPerson_of_eq (f := Person.visited) fun p => ?_).tame.trans (.judgeAging i _)
      unfold Person.visited
      split <;> exact ⟨rfl, rfl, rfl, rfl, rfl⟩
    · exact .refl s

theorem Tame.walk (s : State) : Tame s (walk s) :=
  (Tame.forEach Tame.visit _ s).trans .of_eq

theorem Tame.walkAtFrameStart (s : State) : Tame s (walkAtFrameStart s) := by
  have happly : Tame s (applyWalk s) := by
    unfold applyWalk
    split
    · exact .of_eq
    · exact .refl s
  unfold Machine.walkAtFrameStart
  dsimp only
  split
  · exact happly.trans (.walk _)
  · exact happly

theorem Tame.takeWalk (s : State) : Tame s (takeWalk s) := by
  unfold Machine.takeWalk
  split
  · exact .ofHanded Tame.walkAtFrameStart
  · exact .refl s

theorem Tame.reqSetWalk (walkStep interval : Byte) (s : State) : Tame s (reqSetWalk walkStep interval s) := by
  unfold Machine.reqSetWalk
  split
  · refine Tame.replied ?_ ..
    split <;> exact .of_eq
  · exact .reply ..

/-! ## Refuge reports (R149 to R153) -/

theorem Aside.judgePanel (r : Fin 8) (s : State) : Aside s (judgePanel r s) := by
  unfold Machine.judgePanel
  dsimp only
  split
  · refine .trans (.modifyRefuge ?_ s) (.deriveReasons r _)
    intro x; rfl
  · exact .refl s

theorem Tame.takePanel (s : State) : Tame s (takePanel s) := by
  unfold Machine.takePanel
  split
  · exact .ofHanded fun s => (Aside.forEach Aside.judgePanel _ s).tame
  · exact .refl s

theorem Tame.checkIn (r : Fin 8) (frame : Frame) (i : Fin 240) (s : State) : Tame s (checkIn r frame i s) := by
  unfold Machine.checkIn
  split
  · exact .refl s
  · next p hp =>
    have hwrite := (Moved.refl i s).modifyPerson (f := fun q => q.musteredAt r (s.refuge r).zone frame)
      fun p q h => ⟨rfl, rfl, rfl, fun e => e, h.connection⟩
    rw [hp] at hwrite
    have hcount := (hwrite.moveOccupancy p r).countClaim p.countedZone none
    dsimp only
    have hmissing : ∀ {v : State}, Moved i (some (p.musteredAt r (s.refuge r).zone frame)) p.countedZone none p.musterPlace
        (some r) none s v → Moved i (some (p.musteredAt r (s.refuge r).zone frame)) p.countedZone none p.musterPlace
        (some r) none s (if p.state = .missing then Machine.endItem .missing (s.personSubject i) v else v) := by
      intro v hv
      split
      · exact hv.aside (.endItem ..)
      · exact hv
    have hend := (hmissing hcount).aside (.judgeEscorts i _)
    refine hend.keeps ⟨by simp [State.countedAt, hp], rfl⟩ ⟨by simp [State.musteredAt, hp], rfl⟩ (.inl ⟨?_, rfl⟩)
      fun _ => hend.alert fun q hq hstate => ?_
    · simp [State.connectionAt, hp]; rfl
    · cases hq; simp [Person.musteredAt] at hstate

theorem Tame.checkOut (r : Fin 8) (frame : Frame) (i : Fin 240) (s : State) : Tame s (checkOut r frame i s) := by
  unfold Machine.checkOut
  split
  · exact .refl s
  · next p hp =>
    split
    · next hat =>
      obtain ⟨hstate, hrefuge⟩ := hat
      have hleave : Moved i (s.person i) none none (some r) none none s (setOccupancy r (· - 1) s) := by
        refine (Moved.refl i s).modifyRefuge fun q => ?_
        rw [refuge_modifyRefuge]
        by_cases hq : q = r
        · subst hq; simp [claimed]
        · simp [claimed, hq, Ne.symm hq]
      have hwrite := hleave.modifyPerson (f := fun q => q.checkedOut (s.refuge r).zone frame)
        fun p q h => ⟨rfl, rfl, rfl, h.alert, h.connection⟩
      rw [hp] at hwrite
      have hnone : s.countedAt i = none := by simp [State.countedAt, hp, Person.countedZone, hstate]
      have hcount : Moved i (some (p.checkedOut (s.refuge r).zone frame)) (s.countedAt i) (s.refuge r).zone (some r) none none s
          (countClaim none (s.refuge r).zone ((setOccupancy r (· - 1) s).modifyPerson i
            (fun q => q.checkedOut (s.refuge r).zone frame))) := by
        rw [hnone]
        exact hwrite.countClaim none (s.refuge r).zone
      refine Moved.keeps_arrived (q := p.checkedOut (s.refuge r).zone frame)
        (.aside (.aside hcount (.judgeEscorts i _)) (.exposeMove ..)) rfl ?_ ?_
      · simp [State.musteredAt, hp, Person.musterPlace, hstate, hrefuge]
      · simp [State.connectionAt, hp]; rfl
    · exact .refl s

theorem Tame.forTags {act : Fin 240 → State → State} (h : ∀ i s, Tame s (act i s)) (tags : List Tag) (s : State) :
    Tame s (forTags tags act s) := by
  refine .forEach (fun t s => ?_) _ s
  split
  · exact h _ s
  · exact .refl s

theorem Tame.takeRefugeReport (r : Fin 8) (door : Door) (supply : Supply) (checkIns checkOuts : List Tag) (frame : Frame)
    (s : State) : Tame s (takeRefugeReport r door supply checkIns checkOuts frame s) := by
  unfold Machine.takeRefugeReport
  split
  · refine .trans (.trans (.trans (Aside.modifyRefuge ?_ s).tame (.forTags (Tame.checkIn r frame) checkIns _))
      (.forTags (Tame.checkOut r frame) checkOuts _)) (Aside.deriveReasons r _).tame
    intro x; rfl
  · exact .refl s

end Sys2Proof.Machine
end

section
/-! What the haul link, the truck reports, and the orders and lifts of zones do to the laws. -/

namespace Sys2Proof.Machine

open Sys2Proof.Safety

/-! ## Truck records by number -/

/-- The position of a number holds a record with that number. -/
theorem truckAt_of_positionOf {s : State} {n : Nat} {p : Fin 24} (h : s.positionOf n = some p) :
    ∃ t, s.truckAt p = some t ∧ t.number = n := by
  have := List.find?_some h
  split at this
  · next t ht => exact ⟨t, ht, by simpa using this⟩
  · cases this

/-- The record of a number stands at the number's position. -/
theorem truck_some {s : State} {n : Nat} {t : Truck} (h : s.truck n = some t) :
    ∃ p, s.positionOf n = some p ∧ s.truckAt p = some t ∧ t.number = n := by
  obtain ⟨p, hp, ht⟩ := Option.bind_eq_some_iff.1 h
  obtain ⟨u, hu, hn⟩ := truckAt_of_positionOf hp
  rw [ht] at hu
  cases hu
  exact ⟨p, hp, ht, hn⟩

/-- No record holds a number that has no position. -/
theorem positionOf_none {s : State} {n : Nat} :
    s.positionOf n = none ↔ ∀ p t, s.truckAt p = some t → t.number ≠ n := by
  unfold State.positionOf
  rw [List.find?_eq_none]
  constructor
  · intro h p t ht hn
    have := h p (List.mem_finRange p)
    rw [ht] at this
    simp [hn] at this
  · intro h p _
    cases ht : s.truckAt p with
    | none => simp
    | some t => simpa using h p t ht

theorem positionOf_congr {s t : State} (h : t.hlk.trucks = s.hlk.trucks) (n : Nat) : t.positionOf n = s.positionOf n := by
  simp only [State.positionOf, State.truckAt, h]

theorem truck_congr {s t : State} (h : t.hlk.trucks = s.hlk.trucks) (n : Nat) : t.truck n = s.truck n := by
  have hat : t.truckAt = s.truckAt := funext fun p => by simp only [State.truckAt, h]
  rw [State.truck, State.truck, positionOf_congr h, hat]

/-- The change of a truck record by its number, where the truck table is that of a state that has the record. -/
theorem modifyTruck_eq {s t : State} (h : t.hlk.trucks = s.hlk.trucks) {n : Nat} {p : Fin 24} {u : Truck}
    (hp : s.positionOf n = some p) (hu : s.truckAt p = some u) (f : Truck → Truck) :
    t.modifyTruck n f = t.setTruckAt p (some (f u)) := by
  have hu' : t.truckAt p = some u := by rw [State.truckAt, h]; exact hu
  simp only [State.modifyTruck, positionOf_congr h, hp, hu', Option.map_some]

theorem truckAt_modifyTruck (n : Nat) (f : Truck → Truck) (s : State) (p : Fin 24) :
    (s.modifyTruck n f).truckAt p = if s.positionOf n = some p then (s.truckAt p).map f else s.truckAt p := by
  unfold State.modifyTruck
  cases h : s.positionOf n with
  | none => simp
  | some q =>
    dsimp only
    rw [truckAt_setTruckAt]
    by_cases hp : p = q
    · subst hp; simp
    · simp [hp, Ne.symm hp]

/-- A change that keeps the numbers of the records keeps their positions. -/
theorem positionOf_modifyTruck {n : Nat} {f : Truck → Truck} (hf : ∀ t, (f t).number = t.number) (s : State) (m : Nat) :
    (s.modifyTruck n f).positionOf m = s.positionOf m := by
  unfold State.positionOf
  refine congrArg (fun g => allPositions.find? g) (funext fun p => ?_)
  have hat := truckAt_modifyTruck n f s p
  by_cases hp : s.positionOf n = some p
  · rw [hat, if_pos hp]
    cases s.truckAt p with
    | none => rfl
    | some t => exact congrArg (· == m) (hf t)
  · rw [hat, if_neg hp]

/-- Two numbers of one position are the same. -/
theorem positionOf_inj {s : State} {n m : Nat} {p : Fin 24} (hn : s.positionOf n = some p) (hm : s.positionOf m = some p) :
    n = m := by
  obtain ⟨t, ht, rfl⟩ := truckAt_of_positionOf hn
  obtain ⟨u, hu, rfl⟩ := truckAt_of_positionOf hm
  rw [ht] at hu
  cases hu
  rfl

theorem truck_modifyTruck {n : Nat} {f : Truck → Truck} (hf : ∀ t, (f t).number = t.number) (s : State) (m : Nat) :
    (s.modifyTruck n f).truck m = if m = n then (s.truck n).map f else s.truck m := by
  rw [State.truck, positionOf_modifyTruck hf]
  cases hm : s.positionOf m with
  | none =>
    split
    · next h => subst h; simp [State.truck, hm]
    · simp [State.truck, hm]
  | some p =>
    rw [Option.bind_some, truckAt_modifyTruck]
    split
    · next hn =>
      cases positionOf_inj hn hm
      simp [State.truck, hm]
    · next hn =>
      rw [if_neg (by rintro rfl; exact hn hm)]
      simp [State.truck, hm]

/-! ## Grant sets (R29, R30) -/

/-- An ascending list stays ascending when a number is put into it. -/
theorem pairwise_insertNumber (n : Nat) {l : List Nat} (h : l.Pairwise (· < ·)) : (insertNumber n l).Pairwise (· < ·) := by
  induction l with
  | nil => simp [insertNumber]
  | cons m l ih =>
    obtain ⟨hm, hl⟩ := List.pairwise_cons.1 h
    unfold insertNumber
    split
    · next hlt =>
      refine List.pairwise_cons.2 ⟨fun a ha => ?_, h⟩
      rcases List.mem_cons.1 ha with rfl | ha
      · exact hlt
      · exact hlt.trans (hm a ha)
    · split
      · exact h
      · next hge hne =>
        refine List.pairwise_cons.2 ⟨fun a ha => ?_, ih hl⟩
        rcases (mem_insertNumber ..).1 ha with rfl | ha
        · omega
        · exact hm a ha

/-- The grant sets of two states, which otherwise have the same zone records. -/
structure Regranted (s t : State) : Prop where
  zones : t = { s with znt := { s.znt with zones := t.znt.zones } }
  zone : ∀ z, t.zone z = { s.zone z with grants := (t.zone z).grants }

theorem Regranted.refl (s : State) : Regranted s s := ⟨rfl, fun _ => rfl⟩

theorem Regranted.trucks {s t : State} (h : Regranted s t) : t.hlk.trucks = s.hlk.trucks := by rw [h.zones]

theorem Regranted.modifyGrants (z : Fin 32) (f : List Nat → List Nat) (s : State) :
    Regranted s (s.modifyZone z (fun r => { r with grants := f r.grants })) := by
  refine ⟨rfl, fun w => ?_⟩
  rw [zone_modifyZone]
  split
  · next h => subst h; rfl
  · rfl

theorem Regranted.removeClaim (n : Nat) (z : Fin 32) (s : State) : Regranted s (removeClaim n z s) := .modifyGrants ..

theorem Regranted.removeClaim? (n : Nat) (z : Option (Fin 32)) (s : State) : Regranted s (removeClaim? n z s) := by
  cases z with
  | none => exact .refl s
  | some z => exact .removeClaim n z s

theorem Regranted.addClaim (n : Nat) (z : Fin 32) (s : State) : Regranted s (addClaim n z s) := by
  unfold Machine.addClaim
  split
  · exact .modifyGrants ..
  · exact .refl s

theorem Regranted.trans {s t u : State} (h : Regranted s t) (k : Regranted t u) : Regranted s u := by
  refine ⟨?_, fun z => ?_⟩
  · have hk := k.zones
    rw [h.zones] at hk
    exact hk
  · rw [k.zone, h.zone]

/-- The grant set of a zone after a remove claim in a zone that may be absent. -/
theorem grants_removeClaim? (n : Nat) (o : Option (Fin 32)) (s : State) (z : Fin 32) :
    ((removeClaim? n o s).zone z).grants =
      if o = some z then (s.zone z).grants.filter (fun m => m != n) else (s.zone z).grants := by
  cases o with
  | none => simp [removeClaim?]
  | some w =>
    show ((removeClaim n w s).zone z).grants = _
    rw [Machine.removeClaim, zone_modifyZone]
    by_cases h : z = w
    · subst h; simp
    · simp [h, Ne.symm h]

/-- The grant set of a zone after an add claim that is answered ADDED. -/
theorem grants_addClaim {n : Nat} {q : Fin 32} {s : State} (h : isAdded n q s = true) (z : Fin 32) :
    ((addClaim n q s).zone z).grants = if q = z then insertNumber n (s.zone z).grants else (s.zone z).grants := by
  rw [Machine.addClaim, if_pos h, zone_modifyZone]
  by_cases h : z = q
  · subst h; simp
  · simp [h, Ne.symm h]

/-- A change of the truck table and of the grant sets, and of the queue where it keeps L7, keeps the laws where it keeps L4. -/
theorem Tame.of_trucks {s t : State} (hzone : ∀ z, t.zone z = { s.zone z with grants := (t.zone z).grants })
    (hlines : t.znt.lines = s.znt.lines) (hqueue : QueueHolds s.atq → QueueHolds t.atq) (hrst : t.rst = s.rst)
    (hair : t.air = s.air) (hrev : t.rev = s.rev) (hcal : t.cal = s.cal) (hphase : t.hpt.phase = s.hpt.phase)
    (hgrants : GrantsHold s → GrantsHold t) : Tame s t := by
  have hperson : ∀ i, t.person i = s.person i := fun i => by simp only [State.person, State.slot, hrst]
  have hord : ∀ o, t.isOrdered o = s.isOrdered o := isOrdered_congr fun z => by rw [hzone]
  refine ⟨⟨hqueue, countsAgree_of (fun z => by rw [hzone]) fun i => ?_, occupanciesAgree_of (fun r => ?_) fun i => ?_, hgrants,
    channelsAgree_of (by rw [hcal]) (fun i => ?_) fun i => ?_, fun hs i p hp hstate ho => ?_⟩, ?_⟩
  · simp only [State.countedAt, hperson]
  · simp only [State.refuge, hrev]
  · simp only [State.musteredAt, hperson]
  · simp only [State.connectionAt, hperson]
  · simp only [State.slot, hrst]
  · rw [hperson] at hp
    rw [hord] at ho
    exact hs i p hp hstate ho
  · refine ⟨hlines, fun z => ?_, fun z => ?_, fun z => ?_, fun z => ?_, fun c => ?_, fun c => ?_, fun c => ?_, fun c => ?_,
      by rw [hair], by rw [hair], by rw [hair], hphase⟩
    iterate 4 rw [hzone]
    all_goals rw [State.channel, hair]; rfl

/-- L4 after the record at one position has been written anew and its claims moved. -/
theorem grantsHold_regrant {s w : State} {p : Fin 24} {t v : Truck} (hs : GrantsHold s) (hw : w.hlk.trucks = s.hlk.trucks)
    (hp : s.truckAt p = some t) (hn : v.number = t.number)
    (hsorted : ∀ z, (w.zone z).grants.Pairwise (· < ·))
    (hmem : ∀ z m, m ∈ (w.zone z).grants ↔
      if m = t.number then v.held = some z ∨ v.grantedZone = some z else m ∈ (s.zone z).grants)
    (hapart : ∀ z, v.held = some z → v.grantedZone ≠ some z) : GrantsHold (w.setTruckAt p (some v)) := by
  obtain ⟨hone, hagree, -, hlive, hapart'⟩ := hs
  have hwt : ∀ q, w.truckAt q = s.truckAt q := fun q => by simp only [State.truckAt, hw]
  have hat : ∀ q, (w.setTruckAt p (some v)).truckAt q = if q = p then some v else s.truckAt q := by
    intro q; rw [truckAt_setTruckAt, hwt]
  have hnumber : ∀ q u, (w.setTruckAt p (some v)).truckAt q = some u → ∃ u', s.truckAt q = some u' ∧ u'.number = u.number := by
    intro q u hu
    rw [hat] at hu
    split at hu
    · next hq => subst hq; cases hu; exact ⟨t, hp, hn.symm⟩
    · exact ⟨u, hu, rfl⟩
  refine ⟨?_, ?_, hsorted, ?_, ?_⟩
  · intro q r u u' hu hu' he
    obtain ⟨a, ha, hna⟩ := hnumber q u hu
    obtain ⟨b, hb, hnb⟩ := hnumber r u' hu'
    exact hone q r a b ha hb (by rw [hna, hnb, he])
  · intro q u hu z
    refine (hmem z u.number).trans ?_
    rw [hat] at hu
    split at hu
    · cases hu
      rw [if_pos hn]
    · next hq =>
      rw [if_neg fun e => hq (hone q p u t hu hp e)]
      exact hagree q u hu z
  · intro z n hz
    have hz := (hmem z n).1 hz
    split at hz
    · next he => exact ⟨p, v, by rw [hat, if_pos rfl], hn.trans he.symm⟩
    · next hne =>
      obtain ⟨q, u, hu, hun⟩ := hlive z n hz
      have hq : q ≠ p := by rintro rfl; rw [hp] at hu; cases hu; exact hne hun.symm
      exact ⟨q, u, by rw [hat, if_neg hq, hu], hun⟩
  · intro q u z hu
    rw [hat] at hu
    split at hu
    · cases hu; exact hapart z
    · exact hapart' q u z hu

/-- A truck record written anew with the grant sets that its claims then ask for keeps the laws. -/
theorem Tame.regrant {s w : State} {n : Nat} {t : Truck} {f : Truck → Truck} (ht : s.truck n = some t) (hw : Regranted s w)
    (hn : (f t).number = t.number)
    (hgrants : GrantsHold s → (∀ z, (w.zone z).grants.Pairwise (· < ·))
      ∧ (∀ z m, m ∈ (w.zone z).grants ↔
        if m = n then (f t).held = some z ∨ (f t).grantedZone = some z else m ∈ (s.zone z).grants)
      ∧ ∀ z, (f t).held = some z → (f t).grantedZone ≠ some z) : Tame s (w.modifyTruck n f) := by
  obtain ⟨p, hpos, hp, hnumber⟩ := truck_some ht
  rw [modifyTruck_eq hw.trucks hpos hp]
  have heq := hw.zones
  refine .of_trucks hw.zone (by rw [heq]; rfl) (by rw [heq]; exact id) (by rw [heq]; rfl) (by rw [heq]; rfl) (by rw [heq]; rfl)
    (by rw [heq]; rfl) (by rw [heq]; rfl) fun hs => ?_
  obtain ⟨hsorted, hmem, hapart⟩ := hgrants hs
  exact grantsHold_regrant hs hw.trucks hp hn hsorted (hnumber ▸ hmem) hapart

/-- What L4 says of one live truck. -/
theorem grantsHold_of_truck {s : State} (h : GrantsHold s) {n : Nat} {t : Truck} (ht : s.truck n = some t) :
    (∀ z, n ∈ (s.zone z).grants ↔ t.held = some z ∨ t.grantedZone = some z)
      ∧ (∀ z, (s.zone z).grants.Pairwise (· < ·)) ∧ ∀ z, t.held = some z → t.grantedZone ≠ some z := by
  obtain ⟨p, -, hp, rfl⟩ := truck_some ht
  obtain ⟨-, hagree, hsorted, -, hapart⟩ := h
  exact ⟨hagree p t hp, hsorted, fun z => hapart p t z hp⟩

/-- A record written anew after a remove claim of one of its zones. -/
theorem Tame.removeAndWrite {s : State} {n : Nat} {t : Truck} {f : Truck → Truck} (ht : s.truck n = some t)
    (o : Option (Fin 32)) (hn : (f t).number = t.number)
    (hclaims : ∀ z, (∀ w, t.held = some w → t.grantedZone ≠ some w) →
      (((f t).held = some z ∨ (f t).grantedZone = some z) ↔ o ≠ some z ∧ (t.held = some z ∨ t.grantedZone = some z))
        ∧ ((f t).held = some z → (f t).grantedZone ≠ some z)) :
    Tame s ((removeClaim? n o s).modifyTruck n f) := by
  refine .regrant ht (.removeClaim? n o s) hn fun hs => ?_
  obtain ⟨hmem, hsorted, hapart⟩ := grantsHold_of_truck hs ht
  refine ⟨fun z => ?_, fun z m => ?_, fun z => (hclaims z hapart).2⟩
  · rw [grants_removeClaim?]
    split
    · exact (hsorted z).filter _
    · exact hsorted z
  · rw [grants_removeClaim?]
    by_cases hm : m = n
    · subst hm
      rw [if_pos rfl, (hclaims z hapart).1, ← hmem]
      split
      · next ho => simp [ho]
      · next ho => simp [ho]
    · rw [if_neg hm]
      split
      · simp [hm]
      · rfl

/-- A record written anew after an add claim that is answered ADDED. -/
theorem Tame.addAndWrite {s : State} {n : Nat} {t : Truck} {f : Truck → Truck} {q : Fin 32} (ht : s.truck n = some t)
    (hadd : isAdded n q s = true) (hn : (f t).number = t.number)
    (hclaims : ∀ z, (((f t).held = some z ∨ (f t).grantedZone = some z) ↔ q = z ∨ (t.held = some z ∨ t.grantedZone = some z))
        ∧ ((∀ w, t.held = some w → t.grantedZone ≠ some w) → (f t).held = some z → (f t).grantedZone ≠ some z)) :
    Tame s ((addClaim n q s).modifyTruck n f) := by
  refine .regrant ht (.addClaim n q s) hn fun hs => ?_
  obtain ⟨hmem, hsorted, hapart⟩ := grantsHold_of_truck hs ht
  refine ⟨fun z => ?_, fun z m => ?_, fun z => (hclaims z).2 hapart⟩
  · rw [grants_addClaim hadd]
    split
    · exact pairwise_insertNumber n (hsorted z)
    · exact hsorted z
  · rw [grants_addClaim hadd]
    by_cases hm : m = n
    · subst hm
      rw [if_pos rfl, (hclaims z).1, ← hmem]
      split
      · next hq => simp [hq, mem_insertNumber]
      · next hq => simp [hq]
    · rw [if_neg hm]
      split
      · simp [hm, mem_insertNumber]
      · rfl

/-! ## Withdrawals and silence (R129, R133) -/

theorem Tame.withdrawEntry (only : Option (Fin 32)) (n : Nat) (s : State) : Tame s (withdrawEntry only n s) := by
  unfold Machine.withdrawEntry
  split
  · exact .refl s
  · next z hz =>
    split
    · obtain ⟨t, ht, hg⟩ := Option.bind_eq_some_iff.1 hz
      refine Tame.removeAndWrite ht (some z) rfl fun w hapart => ?_
      have hnone : (t.deferredTo z).grantedZone = none := by simp [Truck.deferredTo, Truck.grantedZone]
      have hheld : (t.deferredTo z).held = t.held := rfl
      rw [hnone, hheld, hg]
      have := hapart w
      rw [hg] at this
      refine ⟨?_, by simp⟩
      constructor
      · rintro (h | h)
        · exact ⟨this h, .inl h⟩
        · cases h
      · rintro ⟨hne, h | h⟩
        · exact .inl h
        · exact absurd h hne
    · exact .refl s

theorem Tame.withdrawEntriesTo (z : Fin 32) (s : State) : Tame s (withdrawEntriesTo z s) :=
  .forEach (Tame.withdrawEntry (some z)) _ s

theorem Tame.judgeAlone (s : State) : Tame s (judgeAlone s) := by
  unfold Machine.judgeAlone
  split
  · exact .trans (t := ({ s with hlk := { s.hlk with alone := true } }).notify .alone) .of_eq
      (.forEach (Tame.withdrawEntry none) _ _)
  · exact .refl s

theorem Tame.takeSilence (s : State) : Tame s (takeSilence s) := by
  unfold Machine.takeSilence
  split
  · exact .ofHanded fun s => .trans .of_eq (.judgeAlone _)
  · exact .refl s

/-! ## Polls (R118 to R120) -/

theorem Aside.judgeLapse (n : Nat) (s : State) : Aside s (judgeLapse n s) := by
  unfold Machine.judgeLapse
  split
  · exact .refl s
  · split
    · exact .trans (.modifyTruck (by intro u; rfl) s) (.raiseItem ..)
    · exact .refl s

theorem Aside.judgePreviousPoll (n : Nat) (s : State) : Aside s (judgePreviousPoll n s) := by
  unfold Machine.judgePreviousPoll
  split
  · exact .refl s
  · split
    · exact .trans (.modifyTruck (by intro u; rfl) s) (.judgeLapse n _)
    · exact .refl s

theorem Aside.sendPoll (n : Nat) (s : State) : Aside s (sendPoll n s) := by
  unfold Machine.sendPoll
  split
  · exact .refl s
  · exact .trans (.writeHolding _ s) (.modifyTruck (by intro u; rfl) _)

theorem Tame.takePoll (s : State) : Tame s (takePoll s) := by
  have hslot : ∀ s, Tame s (pollSlot s) := by
    intro s
    unfold pollSlot
    split
    · split
      · exact .refl s
      · split
        · exact .refl s
        · split
          · exact .refl s
          · exact .trans ((Aside.judgePreviousPoll _ s).trans (.sendPoll _ _)).tame .of_eq
    · exact .refl s
  unfold Machine.takePoll
  split
  · exact .ofHanded hslot
  · exact .refl s

theorem Tame.takePollFlags (s : State) : Tame s (takePollFlags s) := by
  unfold Machine.takePollFlags
  split
  · refine .ofHanded fun s => Aside.tame ⟨⟨id, fun _ => rfl, fun _ => .refl _, fun _ => rfl, fun _ => rfl, fun _ => rfl,
      fun _ => rfl, fun p => ?_, rfl⟩, .of_eq rfl rfl rfl⟩
    simp only [renewPollFlags, State.truckAt, Fin.getElem_fin, Vector.getElem_map, Option.map_map]
    rfl
  · exact .refl s

/-! ## The truck table (R116, R117, R132, R135) -/

/-- The claims of a truck number that has no record are none, and a record made with no claim keeps L4. -/
theorem Tame.addTruck {p : Fin 24} {n : Nat} {k : TruckKind} {s : State} (hnew : s.positionOf n = none)
    (hfree : s.truckAt p = none) : Tame s (addTruck p (Truck.registered n k) s) := by
  refine .of_trucks (fun z => rfl) rfl id rfl rfl rfl rfl rfl fun hs => ?_
  obtain ⟨hone, hagree, hsorted, hlive, hapart⟩ := hs
  have hnew := positionOf_none.1 hnew
  have hat : ∀ q, (Machine.addTruck p (Truck.registered n k) s).truckAt q =
      if q = p then some (Truck.registered n k) else s.truckAt q := fun q => truckAt_setTruckAt p q _ s
  refine ⟨?_, ?_, hsorted, ?_, ?_⟩
  · intro q r t u ht hu he
    rw [hat] at ht hu
    split at ht <;> split at hu
    · next hq hr => rw [hq, hr]
    · cases ht; exact absurd he.symm (hnew r u hu)
    · cases hu; exact absurd he (hnew q t ht)
    · exact hone q r t u ht hu he
  · intro q t ht z
    rw [hat] at ht
    split at ht
    · cases ht
      refine ⟨fun h => ?_, by rintro (h | h) <;> cases h⟩
      obtain ⟨r, u, hu, hn⟩ := hlive z _ h
      exact absurd hn (hnew r u hu)
    · exact hagree q t ht z
  · intro z m hm
    obtain ⟨q, t, ht, hn⟩ := hlive z m hm
    have hq : q ≠ p := by rintro rfl; rw [hfree] at ht; cases ht
    exact ⟨q, t, by rw [hat, if_neg hq, ht], hn⟩
  · intro q t z ht
    rw [hat] at ht
    split at ht
    · cases ht; rintro h; cases h
    · exact hapart q t z ht

theorem Tame.reqRegisterTruck (number : Word16) (kind : Byte) (s : State) : Tame s (reqRegisterTruck number kind s) := by
  unfold Machine.reqRegisterTruck
  split
  · exact .reply ..
  · split
    · exact .reply ..
    · next hok =>
      split
      · exact .reply ..
      · next p hp =>
        have hnew : s.positionOf number.toNat = none := by
          cases h : s.positionOf number.toNat with
          | none => rfl
          | some q => exact absurd (.inr (by rw [h]; rfl)) hok
        exact (Tame.addTruck hnew (by simpa using List.find?_some hp)).replied ..

/-- A truck taken out of its grant sets and of the truck table keeps L4 (R135). -/
theorem Tame.retireTruck {p : Fin 24} {t : Truck} {s : State} (hp : s.truckAt p = some t) : Tame s (retireTruck p t s) := by
  have hclaims := (Regranted.removeClaim? t.number t.held s).trans (.removeClaim? t.number t.grantedZone _)
  have hgrants : ∀ z, ((removeClaim? t.number t.grantedZone (removeClaim? t.number t.held s)).zone z).grants =
      if t.held = some z ∨ t.grantedZone = some z then (s.zone z).grants.filter (fun m => m != t.number)
      else (s.zone z).grants := by
    intro z
    rw [grants_removeClaim?, grants_removeClaim?]
    by_cases hh : t.held = some z <;> by_cases hg : t.grantedZone = some z <;> simp [hh, hg]
  unfold Machine.retireTruck
  dsimp only
  generalize removeClaim? t.number t.grantedZone (removeClaim? t.number t.held s) = w at hclaims hgrants ⊢
  have hqueue := (Aside.retireSubject (.truck t.number) (leavePollList t.number w)).roll.queue
  have honly := (retireSubject_only (.truck t.number) (leavePollList t.number w)).same
  have hphase : (retireSubject (.truck t.number) (leavePollList t.number w)).hpt.phase = w.hpt.phase :=
    (Aside.retireSubject (.truck t.number) (leavePollList t.number w)).air.phase
  generalize retireSubject (.truck t.number) (leavePollList t.number w) = u at hqueue honly hphase ⊢
  obtain ⟨-, hznt, hrst, hair, hhlk, hrev, hcal, -⟩ := honly
  have hzone : ∀ z, (u.setTruckAt p none).zone z = w.zone z := fun z => by
    show u.znt.zones[z] = _
    rw [hznt]; rfl
  have hat : ∀ q, (u.setTruckAt p none).truckAt q = if q = p then none else s.truckAt q := by
    intro q
    rw [truckAt_setTruckAt, State.truckAt, hhlk, State.truckAt, ← hclaims.trucks]
    rfl
  have heq := hclaims.zones
  refine .of_trucks (fun z => by rw [hzone]; exact hclaims.zone z) ?_ (fun hs => hqueue ?_) ?_ ?_ ?_ ?_ ?_ fun hs => ?_
  · show u.znt.lines = _
    rw [hznt, heq]; rfl
  · show QueueHolds w.atq
    rw [heq]; exact hs
  · show u.rst = _
    rw [hrst, heq]; rfl
  · show u.air = _
    rw [hair, heq]; rfl
  · show u.rev = _
    rw [hrev, heq]; rfl
  · show u.cal = _
    rw [hcal, heq]; rfl
  · show u.hpt.phase = _
    rw [hphase, heq]
  · obtain ⟨hone, hagree, hsorted, hlive, hapart⟩ := hs
    have hout : ∀ z, t.number ∉ (w.zone z).grants := by
      intro z hm
      rw [hgrants] at hm
      split at hm
      · simp at hm
      · next hno => exact hno ((hagree p t hp z).1 hm)
    have hin : ∀ z m, m ≠ t.number → (m ∈ (w.zone z).grants ↔ m ∈ (s.zone z).grants) := by
      intro z m hm
      rw [hgrants]
      split
      · simp [hm]
      · rfl
    have hlive' : ∀ q v, (u.setTruckAt p none).truckAt q = some v → q ≠ p ∧ s.truckAt q = some v := by
      intro q v hv
      rw [hat] at hv
      split at hv
      · cases hv
      · next hq => exact ⟨hq, hv⟩
    refine ⟨?_, ?_, fun z => ?_, ?_, ?_⟩
    · intro q r a b ha hb
      exact hone q r a b (hlive' q a ha).2 (hlive' r b hb).2
    · intro q v hv z
      obtain ⟨hq, hv⟩ := hlive' q v hv
      rw [hzone, hin z _ fun e => hq (hone q p v t hv hp e)]
      exact hagree q v hv z
    · rw [hzone, hgrants]
      split
      · exact (hsorted z).filter _
      · exact hsorted z
    · intro z m hm
      rw [hzone] at hm
      have hne : m ≠ t.number := fun e => hout z (e ▸ hm)
      obtain ⟨q, v, hv, hn⟩ := hlive z m ((hin z m hne).1 hm)
      have hq : q ≠ p := by rintro rfl; rw [hp] at hv; cases hv; exact hne hn.symm
      exact ⟨q, v, by rw [hat, if_neg hq, hv], hn⟩
    · intro q v z hv
      exact hapart q v z (hlive' q v hv).2

theorem Tame.withTruck {number : Word16} {f : Fin 24 → Truck → State → State} {s : State}
    (h : ∀ p t, s.truckAt p = some t → Tame s (f p t s)) : Tame s (withTruck number f s) := by
  unfold Machine.withTruck
  split
  · split
    · exact .reply ..
    · split
      · exact .reply ..
      · next t ht => exact h _ t ht
  · exact .reply ..

theorem Tame.reqRetireTruck (number : Word16) (s : State) : Tame s (reqRetireTruck number s) :=
  .withTruck fun _ _ hp => (Tame.retireTruck hp).replied ..

theorem Tame.reqForceOrder (number : Word16) (order : Byte) (s : State) : Tame s (reqForceOrder number order s) := by
  unfold Machine.reqForceOrder
  split
  · exact .reply ..
  · exact .withTruck fun _ _ hp => Tame.replied (Aside.tame (.setTruckAt (by rw [hp]; rfl))) ..

theorem Tame.reqReleaseOrder (number : Word16) (s : State) : Tame s (reqReleaseOrder number s) :=
  .withTruck fun _ _ hp => Tame.replied (Aside.tame (.setTruckAt (by rw [hp]; rfl))) ..

end Sys2Proof.Machine
end

section
/-! What the steps of a truck report, the orders and lifts of zones, and the messages of the field do to the laws. -/

namespace Sys2Proof.Machine

open Sys2Proof.Safety

/-! ## Truck reports (R122 to R128) -/

theorem Aside.reportAnswers (n : Nat) (t : Truck) (s : State) : Aside s (reportAnswers n t s) := by
  have hanswer : Aside s (s.modifyTruck n (fun t => { t with answered := true, missed := 0, state := .linked })) :=
    .modifyTruck (by intro u; rfl) s
  exact .ite (hanswer.trans (.endItem ..)) hanswer

theorem Aside.reportPlaces (n : Nat) (zone : Option (Fin 32)) (l : List Proximity) (s : State) :
    Aside s (reportPlaces n zone l s) := .modifyTruck (by intro u; rfl) s

theorem Tame.arrive (n : Nat) (z : Fin 32) (s : State) : Tame s (arrive n z s) := by
  unfold Machine.arrive
  split
  · exact .refl s
  · next t ht =>
    split
    · next hg =>
      split
      · next hh =>
        refine Tame.regrant ht (.refl s) rfl fun hs => ?_
        exact absurd hg ((grantsHold_of_truck hs ht).2.2 z hh)
      · next hh =>
        refine Tame.removeAndWrite ht t.held rfl fun w _ => ⟨?_, fun _ h => by cases h⟩
        show some z = some w ∨ none = some w ↔ _
        rw [hg]
        constructor
        · rintro (h | h)
          · exact ⟨h ▸ hh, .inr h⟩
          · cases h
        · rintro ⟨hne, h | h⟩
          · exact absurd h hne
          · exact .inl h
    · exact .refl s

/-- The record of the truck after the arrival step. -/
theorem truck_arrive (n : Nat) (z : Fin 32) (s : State) :
    (arrive n z s).truck n =
      (s.truck n).map (fun t => if t.grantedZone = some z then { t with held := some z, entry := none } else t) := by
  unfold arrive
  split
  · next h => rw [h]; rfl
  · next t ht =>
    rw [ht]
    split
    · next hg =>
      have hw : (if t.held = some z then s else removeClaim? n t.held s).hlk.trucks = s.hlk.trucks := by
        split
        · rfl
        · exact (Regranted.removeClaim? ..).trucks
      rw [truck_modifyTruck (by intro u; rfl), if_pos rfl, truck_congr hw, ht]
      simp [hg]
    · next hg => simp [ht, hg]

/-- After the arrival step the truck has no GRANTED entry to the zone it has reported. -/
theorem grantedZone_arrive {n : Nat} {z : Fin 32} {s : State} {t : Truck} (ht : (arrive n z s).truck n = some t) :
    t.grantedZone ≠ some z := by
  rw [truck_arrive] at ht
  obtain ⟨u, -, rfl⟩ := Option.map_eq_some_iff.1 ht
  split
  · rintro h; cases h
  · next h => exact h

theorem Tame.tryFirstGrant {n : Nat} {z : Fin 32} {s : State} (hs : ∀ t, s.truck n = some t → t.grantedZone ≠ some z) :
    Tame s (tryFirstGrant n z s) := by
  unfold Machine.tryFirstGrant
  split
  · exact .refl s
  · next t ht =>
    split
    · next hok =>
      obtain ⟨hnone, -, hadd⟩ := hok
      refine Tame.addAndWrite ht hadd rfl fun w => ⟨?_, fun _ h => ?_⟩
      · show some z = some w ∨ t.grantedZone = some w ↔ _
        simp [hnone]
      · cases h; exact hs t ht
    · exact .refl s

theorem Tame.endEntry (n : Nat) (s : State) : Tame s (endEntry n s) := by
  unfold Machine.endEntry
  split
  · exact .refl s
  · next t ht =>
    refine Tame.removeAndWrite ht t.grantedZone rfl fun w hapart => ⟨?_, fun _ h => by cases h⟩
    show t.held = some w ∨ none = some w ↔ _
    constructor
    · rintro (h | h)
      · exact ⟨hapart w h, .inl h⟩
      · cases h
    · rintro ⟨hne, h | h⟩
      · exact .inl h
      · exact absurd h hne

/-- The record of the truck after its entry has ended. -/
theorem truck_endEntry (n : Nat) (s : State) :
    (endEntry n s).truck n = (s.truck n).map (fun t => { t with entry := none }) := by
  unfold endEntry
  split
  · next h => rw [h]; rfl
  · next t ht =>
    rw [truck_modifyTruck (by intro u; rfl), if_pos rfl, truck_congr (Regranted.removeClaim? ..).trucks, ht]

theorem Tame.judgeRequest {n : Nat} {q : Fin 32} {s : State} {t : Truck} (ht : s.truck n = some t)
    (hg : t.grantedZone = none) (hh : t.held ≠ some q) : Tame s (judgeRequest n q s) := by
  unfold Machine.judgeRequest
  split
  · next hok =>
    refine Tame.addAndWrite ht hok.2 rfl fun w => ⟨?_, fun _ h => ?_⟩
    · show t.held = some w ∨ some q = some w ↔ _
      simp [hg, or_comm]
    · show some q ≠ some w
      rintro h'
      cases h'
      exact hh h
  · refine Tame.removeAndWrite ht none rfl fun w _ => ⟨?_, fun _ h => ?_⟩
    · show t.held = some w ∨ none = some w ↔ _
      simp [hg]
    · cases h

/-- An entry that is not GRANTED, or none, gives no granted zone. -/
theorem grantedZone_of_deferred {t : Truck} (h : ∀ e, t.entry = some e → e.status ≠ .granted) : t.grantedZone = none := by
  unfold Truck.grantedZone
  split
  · next e he => rw [if_neg (h e he)]
  · rfl

theorem Tame.reportRequests (n : Nat) (requested : Option (Fin 32)) (s : State) : Tame s (reportRequests n requested s) := by
  unfold Machine.reportRequests
  split
  · exact .refl s
  · next t ht =>
    split
    · exact .endEntry n s
    · next q =>
      split
      · exact .endEntry n s
      · next hh =>
        split
        · next he => exact .judgeRequest ht (grantedZone_of_deferred (by simp [he])) hh
        · next e he =>
          split
          · split
            · exact .refl s
            · next hg => exact .judgeRequest ht (grantedZone_of_deferred (by simpa [he] using hg)) hh
          · refine (Tame.endEntry n s).trans (.judgeRequest (t := { t with entry := none }) ?_ rfl hh)
            rw [truck_endEntry, ht]; rfl

theorem Aside.judgeIntrusion (n : Nat) (z : Fin 32) (s : State) : Aside s (judgeIntrusion n z s) := by
  unfold Machine.judgeIntrusion
  split
  · exact .refl s
  · next t ht =>
    have hwrite : Aside s (s.modifyTruck n (fun u => { u with intrusion := t.held != some z })) :=
      .modifyTruck (by intro u; rfl) s
    exact .ite hwrite (.ite (hwrite.trans (.raiseItem ..)) (hwrite.trans (.endItem ..)))

/-- The arrival and the first grant of a report that gives a zone. -/
theorem Tame.inZone_grants (n : Nat) (zone : Option (Fin 32)) (s : State) :
    Tame s (inZone zone (Machine.tryFirstGrant n) (inZone zone (Machine.arrive n) s)) := by
  cases zone with
  | none => exact .refl s
  | some z => exact (Tame.arrive n z s).trans (.tryFirstGrant fun t ht => grantedZone_arrive ht)

theorem Tame.takeReport (n : Nat) (t : Truck) (zone requested : Option (Fin 32)) (l : List Proximity) (frame : Frame)
    (s : State) : Tame s (takeReport n t zone requested l frame s) := by
  have hplaced := ((Aside.reportAnswers n t s).trans (.reportPlaces n zone l _)).tame
  have hintrusion : ∀ u, Tame u (inZone zone (Machine.judgeIntrusion n) u) := by
    intro u
    cases zone with
    | none => exact .refl u
    | some z => exact (Aside.judgeIntrusion n z u).tame
  exact (((hplaced.trans (.inZone_grants n zone _)).trans (.reportRequests n requested _)).trans (hintrusion _)).trans
    (.forEach (fun e u => Tame.takeProximity zone frame e u) l _)

theorem Tame.takeTruckReport (r : TruckReport) (stamp : SlotStamp) (s : State) : Tame s (takeTruckReport r stamp s) := by
  unfold Machine.takeTruckReport
  split
  · split
    · exact .takeReport ..
    · exact .refl s
  · exact .refl s

/-! ## Messages of the field (R168, R169, R173, R174) -/

theorem Tame.handInbound (m : Inbound) (e : Received) (s : State) : Tame s (handInbound m e s) := by
  cases m with
  | tag r =>
    unfold Machine.handInbound
    dsimp only
    split
    · exact .takeTagReport ..
    · exact .refl s
  | truck r =>
    unfold Machine.handInbound
    dsimp only
    split
    · exact .takeTruckReport ..
    · exact .refl s
  | refuge r =>
    unfold Machine.handInbound
    dsimp only
    split
    · exact .takeRefugeReport ..
    · exact .refl s

theorem Tame.takeMessage (s : State) : Tame s (takeMessage s) := by
  unfold Machine.takeMessage
  split
  · next e rest _ _ =>
    have hjudge : ∀ u, Tame u (judgeMessage e u) := by
      intro u
      unfold judgeMessage
      split
      · exact .handInbound ..
      · exact .refl u
    exact .trans (.trans (t := setInHand (some e) { s with flk := { s.flk with queue := rest } }) .of_eq (hjudge _)) .of_eq
  · exact .refl s

theorem Tame.arriveMessage (bytes : List Byte) (s : State) : Tame s (arriveMessage bytes s) := by
  unfold Machine.arriveMessage
  split
  · split
    · exact .refl s
    · split
      · exact .of_eq
      · exact (Aside.notify ..).tame
  · exact .refl s

theorem Tame.takeCheck (s : State) : Tame s (takeCheck s) := by
  unfold Machine.takeCheck
  split
  · refine .ofHanded fun s => ?_
    unfold checkHoldingSlot
    split
    · exact .of_eq
    · exact .refl s
  · exact .refl s

theorem Tame.fetchHeld (s : State) : Tame s (fetchHeld s) := by
  unfold Machine.fetchHeld
  split
  · exact .of_eq
  · exact .of_eq

/-! ## Orders and lifts (R138 to R141) -/

/-- Zone records written with new evacuation states, causes and stamps keep the laws where they keep L10. -/
theorem Tame.modifyZone_evac {z : Fin 32} {f : Zone → Zone} {s : State}
    (hf : ∀ r : Zone, f r = { r with evac := (f r).evac, causes := (f r).causes, orderedStamp := (f r).orderedStamp })
    (hs : AlertsHold s → AlertsHold (s.modifyZone z f)) : Tame s (s.modifyZone z f) := by
  have hzone : ∀ w, ∃ e c o, (s.modifyZone z f).zone w = { s.zone w with evac := e, causes := c, orderedStamp := o } := by
    intro w
    rw [zone_modifyZone]
    split
    · next h => subst h; exact ⟨_, _, _, hf _⟩
    · exact ⟨_, _, _, rfl⟩
  have hgrants : ∀ w, ((s.modifyZone z f).zone w).grants = (s.zone w).grants := by
    intro w; obtain ⟨e, c, o, h⟩ := hzone w; rw [h]
  refine ⟨⟨id, countsAgree_of (fun w => ?_) fun _ => rfl, occupanciesAgree_of (fun _ => rfl) fun _ => rfl, fun hg => ?_,
    channelsAgree_of rfl (fun _ => rfl) fun _ => rfl, hs⟩, rfl, fun w => ?_, fun w => ?_, fun w => ?_, fun w => ?_,
    fun _ => rfl, fun _ => rfl, fun _ => rfl, fun _ => rfl, rfl, rfl, rfl, rfl⟩
  · obtain ⟨e, c, o, h⟩ := hzone w; rw [h]
  · rw [grantsHold_iff] at *
    have hat : (s.modifyZone z f).truckAt = s.truckAt := rfl
    simpa only [hgrants, hat] using hg
  all_goals obtain ⟨e, c, o, h⟩ := hzone w; rw [h]

theorem Aside.alertCaught (z : Fin 32) (s : State) : Aside s (alertCaught z s) := by
  refine .mapPersons (fun p => ?_) s
  split
  · refine ⟨rfl, rfl, rfl, fun h => ?_, rfl⟩
    simp [Person.alerted, h]
  · exact .refl p

/-- After the alert of the persons caught in a zone each of them has one. -/
theorem alert_alertCaught {z : Fin 32} {s : State} {i : Fin 240} {p : Person} (hp : (alertCaught z s).person i = some p)
    (hstate : p.state = .present ∨ p.state = .quiet) (hz : p.zone = some z) : p.alert ≠ .noAlert := by
  rw [alertCaught, person_mapPersons] at hp
  obtain ⟨q, -, rfl⟩ := Option.map_eq_some_iff.1 hp
  split
  · simp only [Person.alerted]
    split
    · simp
    · next h => exact h
  · next h =>
    rw [if_neg h] at hstate hz
    refine absurd ?_ h
    rcases hstate with hs | hs <;> simp [Person.isCaughtIn, hs, hz]

theorem Tame.orderZone (cause : Causes) (z : Fin 32) (s : State) : Tame s (orderZone cause z s) := by
  unfold Machine.orderZone
  split
  · refine .modifyZone_evac (by intro r; rfl) fun hs i p hp hstate hord => hs i p hp hstate ?_
    rw [isOrdered_iff] at hord ⊢
    obtain ⟨w, hw, ho⟩ := hord
    refine ⟨w, hw, ?_⟩
    rw [zone_modifyZone] at ho
    split at ho
    · next h => rw [h]; exact ho
    · exact ho
  · refine Tame.trans ?_ (.withdrawEntriesTo z _)
    have hcomm : ∀ f, Machine.alertCaught z (s.modifyZone z f) = (Machine.alertCaught z s).modifyZone z f := fun _ => rfl
    rw [hcomm]
    refine (Aside.alertCaught z s).tame.trans (.modifyZone_evac (by intro r; rfl) fun hs i p hp hstate hord => ?_)
    rw [isOrdered_iff] at hord
    obtain ⟨w, hw, ho⟩ := hord
    rw [zone_modifyZone] at ho
    split at ho
    · next h => exact alert_alertCaught hp hstate (hw.trans (congrArg some h))
    · exact hs i p hp hstate ((isOrdered_iff ..).2 ⟨w, hw, ho⟩)

theorem Tame.reqEvacuate (zones : BitVec 32) (s : State) : Tame s (reqEvacuate zones s) := by
  unfold Machine.reqEvacuate
  split
  · exact .reply ..
  · exact (Tame.forEach (Tame.orderZone Causes.onlyHost) _ s).replied ..

theorem Tame.liftZone (z : Fin 32) (s : State) : Tame s (liftZone z s) := by
  refine .modifyZone_evac (by intro r; rfl) fun hs i p hp hstate hord => hs i p hp hstate ?_
  rw [isOrdered_iff] at hord ⊢
  obtain ⟨w, hw, ho⟩ := hord
  rw [zone_modifyZone] at ho
  split at ho
  · cases ho
  · exact ⟨w, hw, ho⟩

/-- What a record gives that its alert has no part in is as it was when alerts are cleared. -/
theorem bind_clearAlerts {β : Type} (s : State) (j : Fin 240) (f : Person → Option β)
    (hf : ∀ p a, f { p with alert := a } = f p) : ((clearAlerts s).person j).bind f = (s.person j).bind f := by
  rw [clearAlerts, person_mapPersons]
  cases s.person j with
  | none => rfl
  | some p =>
    simp only [Option.map_some, Option.bind_some]
    split
    · rfl
    · exact hf p _

theorem Tame.clearAlerts (s : State) : Tame s (clearAlerts s) := by
  refine ⟨⟨id, countsAgree_of (fun _ => rfl) fun j => bind_clearAlerts s j _ fun _ _ => rfl,
    occupanciesAgree_of (fun _ => rfl) fun j => bind_clearAlerts s j _ fun _ _ => rfl, id,
    channelsAgree_of rfl (fun j => bind_clearAlerts s j _ fun _ _ => rfl) fun j => by rw [Machine.clearAlerts, slot_mapPersons],
    fun hs i p hp hstate hord => ?_⟩, .of_eq rfl rfl rfl⟩
  rw [Machine.clearAlerts, person_mapPersons] at hp
  obtain ⟨q, hq, rfl⟩ := Option.map_eq_some_iff.1 hp
  have hq' : s.isOrdered q.zone = true := by
    split at hord
    · exact hord
    · exact hord
  rw [if_pos hq'] at hstate ⊢
  exact hs i q hq hstate hq'

theorem Tame.reqLift (zones : BitVec 32) (s : State) : Tame s (reqLift zones s) := by
  unfold Machine.reqLift
  split
  · exact .reply ..
  · split
    · exact .reply ..
    · exact ((Tame.forEach Tame.liftZone _ s).trans (.clearAlerts _)).replied ..

theorem Tame.takeRound (s : State) : Tame s (takeRound s) := by
  unfold Machine.takeRound
  split
  · refine .ofHanded fun s => ?_
    unfold startRound
    split
    · exact .of_eq
    · exact .refl s
  · exact .refl s

theorem Tame.reqSetRefuge (refuge zone capacity : Byte) (s : State) : Tame s (reqSetRefuge refuge zone capacity s) := by
  unfold Machine.reqSetRefuge
  split
  · split
    · exact Tame.replied (Aside.tame (.modifyRefuge (by intro x; rfl) s)) ..
    · exact .reply ..
  · exact .reply ..

/-! ## Vehicle limits (R31, R32) -/

theorem Tame.reqSetVehicleLimit (zone limit : Byte) (s : State) : Tame s (reqSetVehicleLimit zone limit s) := by
  unfold Machine.reqSetVehicleLimit
  split
  · exact .reply ..
  · split
    · split
      · exact Tame.replied (Aside.tame (.modifyZone (by intro r; rfl) s)) ..
      · exact Tame.replied (Aside.tame (.modifyZone (by intro r; rfl) s)) ..
    · exact .reply ..

theorem Tame.takeLimits (s : State) : Tame s (takeLimits s) := by
  unfold Machine.takeLimits
  split
  · refine .ofHanded fun s => Aside.tame (.of_limits fun w => ?_)
    simp only [Fin.getElem_fin, Vector.getElem_map, State.zone]
    unfold Zone.withLimitApplied
    split <;> rfl
  · exact .refl s

end Sys2Proof.Machine
end

section
/-! What the frame timer and the requests that only write settings or read do to the laws. -/

namespace Sys2Proof.Machine

open Sys2Proof.Safety

/-! ## The frame timer (R2 to R15) -/

theorem Tame.ite {c : Prop} [Decidable c] {s t u : State} (ht : Tame s t) (hu : Tame s u) : Tame s (if c then t else u) := by
  split
  · exact ht
  · exact hu

theorem Tame.setLock (x : LockState) (s : State) : Tame s (setLock x s) := .ite (.refl s) .of_eq

theorem Tame.judgeLock (s : State) : Tame s (judgeLock s) := by
  unfold Machine.judgeLock
  split
  · exact .trans (t := { s with frt := { s.frt with countRun := 0 } }) .of_eq (.setLock ..)
  · split
    · exact .trans (t := { s with frt := { s.frt with countRun := min 4 (s.frt.countRun + 1) } }) .of_eq (.setLock ..)
    all_goals exact .refl s

theorem Tame.buildBeacon (s : State) : Tame s (buildBeacon s) := by
  have hadvance : ∀ u, Tame u (advanceRound u) := by
    intro u
    unfold advanceRound
    split
    · split
      · exact .of_eq
      · exact .of_eq
    · exact .refl u
  exact (Aside.writeHolding (.beacon (beaconOf s)) s).tame.trans (hadvance _)

theorem Tame.frameStart (first : Bool) (s : State) : Tame s (frameStart first s) := by
  have hwindows : Tame s (applyWindows s) := by
    unfold applyWindows
    split
    · exact .of_eq
    · exact .refl s
  exact (hwindows.trans (.buildBeacon _)).trans .of_eq

theorem Tame.slotStart (s : State) : Tame s (slotStart s) := by
  have hmark : Tame s (markSlotStart s) := .ite .of_eq (.refl s)
  have hlock : ∀ u, Tame u (judgeLockAtSlot u) := fun u => .ite (.judgeLock u) (.refl u)
  exact (hmark.trans (hlock _)).trans .of_eq

theorem Tame.strobeArmed (s : State) : Tame s (strobeArmed s) :=
  .trans (.trans (t := beginFrame 0 (if s.frt.restartPending then .pulse else .start) s) .of_eq (.frameStart ..)) (.slotStart _)

theorem Tame.strobeCounting (s : State) : Tame s (strobeCounting s) := by
  have hnew : ∀ kind, Tame s (strobeNewFrame kind s) := fun kind =>
    .trans (.trans (t := beginFrame (s.frt.frame + 1) kind s) .of_eq (.frameStart ..)) (.slotStart _)
  exact .ite (hnew _) (.ite (hnew _) (.trans (t := { s with frt := { s.frt with slot := s.frt.slot + 1 } }) .of_eq
    (.slotStart _)))

theorem Tame.pulse (s : State) : Tame s (pulse s) := by
  unfold Machine.pulse
  split
  · exact .refl s
  · exact .refl s
  · exact .of_eq
  · exact .ite .of_eq .of_eq

theorem Tame.armTimer (s : State) : Tame s (armTimer s) := by
  unfold Machine.armTimer
  dsimp only
  split
  · exact .trans (t := { s with frt := { s.frt with
      timer := .armed, slot := 0, frame := 0, restartPending := false, countRun := 0 } }) .of_eq (.setLock ..)
  · exact .of_eq

/-! ## Requests that write settings or read -/

theorem Tame.reqSetFrame (total tagEnd haulStart haulEnd callStart callEnd : Word16) (sync : Byte) (s : State) :
    Tame s (reqSetFrame total tagEnd haulStart haulEnd callStart callEnd sync s) := by
  unfold Machine.reqSetFrame
  dsimp only
  split
  · exact .reply ..
  · exact .ite .of_eq (.reply ..)

theorem Tame.reqSetWindows (tagEnd haulStart haulEnd callStart callEnd : Word16) (s : State) :
    Tame s (reqSetWindows tagEnd haulStart haulEnd callStart callEnd s) := by
  unfold Machine.reqSetWindows
  dsimp only
  split
  · split
    all_goals exact .of_eq
  · exact .reply ..

theorem Tame.reqSetMark (slot : Word16) (s : State) : Tame s (reqSetMark slot s) := .ite .of_eq (.ite .of_eq (.reply ..))

theorem Tame.reqSetCadence (bit edge : Byte) (s : State) : Tame s (reqSetCadence bit edge s) := by
  unfold Machine.reqSetCadence
  split
  · exact .ite .of_eq (.reply ..)
  · exact .reply ..

theorem Tame.reqReadZone (zone : Byte) (s : State) : Tame s (reqReadZone zone s) := by
  unfold Machine.reqReadZone
  split <;> exact .reply ..

theorem Tame.reqReadRefuge (refuge : Byte) (s : State) : Tame s (reqReadRefuge refuge s) := by
  unfold Machine.reqReadRefuge
  split <;> exact .reply ..

theorem Tame.reqReadPerson (slot gen : Byte) (s : State) : Tame s (reqReadPerson slot gen s) :=
  .withNamed fun _ _ _ => .reply ..

theorem Tame.reqReadTruck (number : Word16) (s : State) : Tame s (reqReadTruck number s) :=
  .withTruck fun _ _ _ => .reply ..

theorem Tame.withChannel {channel : Byte} {f : Fin 32 → Channel → State → State} {s : State}
    (h : ∀ c, Tame s (f c (s.channel c) s)) : Tame s (withChannel channel f s) := by
  unfold Machine.withChannel
  split
  · exact .reply ..
  · exact h _

theorem Tame.reqReadChannel (channel : Byte) (s : State) : Tame s (reqReadChannel channel s) :=
  .withChannel fun _ => .reply ..

theorem Tame.reqFindTag (tag : Tag) (s : State) : Tame s (reqFindTag tag s) := by
  unfold Machine.reqFindTag
  split
  · split <;> exact .reply ..
  · exact .reply ..

theorem Tame.reqNextItem (s : State) : Tame s (reqNextItem s) := by
  unfold Machine.reqNextItem
  split
  · exact .reply ..
  · exact Tame.replied (Aside.tame (.of_queue (changeItem_only ..)
      fun hs => changeItem_holds _ _ _ s hs (by intro a; exact ⟨rfl, rfl⟩))) ..

theorem Tame.reqAckItem (kind : Byte) (subject : BitVec 24) (s : State) : Tame s (reqAckItem kind subject s) := by
  unfold Machine.reqAckItem
  split
  · exact .reply ..
  · split
    · exact .reply ..
    · split
      · exact .reply ..
      · exact (Aside.acknowledge ..).tame.replied ..

theorem Tame.reqSetCursor (table index : Byte) (s : State) : Tame s (reqSetCursor table index s) := by
  unfold Machine.reqSetCursor
  split
  · exact .ite .of_eq (.reply ..)
  · exact .reply ..

theorem Tame.reqReadNext (s : State) : Tame s (reqReadNext s) := by
  unfold Machine.reqReadNext
  split
  · exact .reply ..
  · exact .of_eq

theorem Tame.reqClearNotice (notices : Byte) (s : State) : Tame s (reqClearNotice notices s) := by
  unfold Machine.reqClearNotice
  split
  · exact .of_eq
  · exact .reply ..

theorem Tame.reqSetNoticeMask (notices : Byte) (s : State) : Tame s (reqSetNoticeMask notices s) := by
  unfold Machine.reqSetNoticeMask
  split
  · exact .of_eq
  · exact .reply ..

theorem Tame.reqSetDistrict (quiet missing outHold portal mode : Byte) (exposure : Word16)
    (lapse close silence escort refugeSilence routineWait emergencyWait : Byte) (s : State) :
    Tame s (reqSetDistrict quiet missing outHold portal mode exposure lapse close silence escort refugeSilence routineWait
      emergencyWait s) := by
  unfold Machine.reqSetDistrict
  split
  · exact .ite .of_eq (.reply ..)
  · exact .reply ..

end Sys2Proof.Machine
end

section
/-! The laws over the air and the trip lines, and what the recomputation of a zone and a change of a channel do to them. -/

namespace Sys2Proof.Machine

open Sys2Proof.Safety

/-! ## Air states and trip lines as the laws read them -/

/-- The channel records are those of the channels in ascending order. -/
theorem channels_toList (s : State) : s.air.channels.toList = allChannels.map s.channel := by
  apply List.ext_getElem
  · simp [allChannels]
  · intro i _ _
    simp [allChannels, State.channel]

/-- A zone's air state is read from the contributions of the channels. -/
theorem derivedAir_eq (s : State) (f : Channel → ChannelState) (z : Fin 32) :
    s.derivedAir f z =
      ((allChannels.map (fun c => (s.channel c).contributionTo z f)).foldl worseAir none).getD .unknown := by
  unfold State.derivedAir
  rw [← Vector.foldl_toList, channels_toList, List.foldl_map, List.foldl_map]

theorem derivedAir_congr {s t : State} {f : Channel → ChannelState} {z : Fin 32}
    (h : ∀ c, (t.channel c).contributionTo z f = (s.channel c).contributionTo z f) : t.derivedAir f z = s.derivedAir f z := by
  simp only [derivedAir_eq, h]

/-- A trip line is to be asserted exactly while some zone mapped to it has real air state TRIP. -/
theorem isTripped_iff (s : State) (line : Fin 8) :
    s.isTripped line = true ↔ ∃ z, (s.zone z).tripLine = some line ∧ (s.zone z).real = .trip := by
  unfold State.isTripped
  rw [Vector.any_eq_true]
  simp only [Bool.and_eq_true, beq_iff_eq]
  constructor
  · rintro ⟨i, hi, h⟩; exact ⟨⟨i, hi⟩, h⟩
  · rintro ⟨z, h⟩; exact ⟨z.val, z.isLt, h⟩

theorem isTripped_congr {s t : State} {line : Fin 8}
    (h : ∀ z, ((t.zone z).tripLine = some line ∧ (t.zone z).real = .trip)
      ↔ ((s.zone z).tripLine = some line ∧ (s.zone z).real = .trip)) : t.isTripped line = s.isTripped line := by
  rw [Bool.eq_iff_iff, isTripped_iff, isTripped_iff]
  exact exists_congr h

theorem AirStays.isTripped {s t : State} (h : AirStays s t) (line : Fin 8) : t.isTripped line = s.isTripped line :=
  isTripped_congr fun z => by rw [h.tripLine, h.real]

theorem AirStays.derivedAir {s t : State} (h : AirStays s t) (z : Fin 32) :
    t.derivedAir Channel.reported z = s.derivedAir Channel.reported z
      ∧ t.derivedAir Channel.real z = s.derivedAir Channel.real z :=
  ⟨derivedAir_congr fun c => by simp only [Channel.contributionTo, h.bound, h.channelReported],
    derivedAir_congr fun c => by simp only [Channel.contributionTo, h.bound, h.channelReal]⟩

/-- L8 at one zone (R20). -/
def AirAgreesAt (z : Fin 32) (s : State) : Prop := (s.zone z).reported = s.reportedAir z ∧ (s.zone z).real = s.realAir z

/-- The laws over the air and the trip lines are kept: L12 from a quiet SETUP, the quiet of SETUP, L8, what L9 needs, and L9. -/
structure Lawful (s t : State) : Prop where
  roll : KeepsRoll s t
  quiet : SetupIsQuiet s → SetupIsQuiet t
  lines : SetupIsQuiet s → LinesAgree s → LinesAgree t
  air : AirAgrees s → AirAgrees t
  enables : EnablesHold s → EnablesHold t
  trips : EnablesHold s → ∀ c, (s.channel c).real = .trip → (t.channel c).real = .trip

theorem Lawful.refl (s : State) : Lawful s s := ⟨.refl s, id, fun _ => id, id, id, fun _ _ => id⟩

theorem Lawful.trans {s t u : State} (h : Lawful s t) (k : Lawful t u) : Lawful s u where
  roll := h.roll.trans k.roll
  quiet := k.quiet ∘ h.quiet
  lines hq hl := k.lines (h.quiet hq) (h.lines hq hl)
  air := k.air ∘ h.air
  enables := k.enables ∘ h.enables
  trips he c hc := k.trips (h.enables he) c (h.trips he c hc)

theorem Lawful.ite {c : Prop} [Decidable c] {s t u : State} (ht : Lawful s t) (hu : Lawful s u) :
    Lawful s (if c then t else u) := by
  split
  · exact ht
  · exact hu

theorem Lawful.forEach {f : α → State → State} (h : ∀ a s, Lawful s (f a s)) (l : List α) (s : State) :
    Lawful s (forEach l f s) := by
  induction l generalizing s with
  | nil => exact .refl s
  | cons a l ih => exact (h a s).trans (ih _)

theorem AirStays.quiet {s t : State} (h : AirStays s t) (hs : SetupIsQuiet s) : SetupIsQuiet t := by
  intro hp
  obtain ⟨hmode, hsweep, hoff, hreal⟩ := hs (h.phase ▸ hp)
  exact ⟨h.mode.trans hmode, h.sweep.trans hsweep, fun c => (h.channelReal c).trans (hoff c), fun z => by
    rw [h.real]; exact hreal z⟩

theorem Tame.lawful {s t : State} (h : Tame s t) : Lawful s t where
  roll := h.roll
  quiet := h.air.quiet
  lines _ hs line := by rw [h.air.lines, h.air.isTripped]; exact hs line
  air hs z := by
    obtain ⟨hrep, hreal⟩ := h.air.derivedAir z
    rw [h.air.reported, h.air.real, State.reportedAir, State.realAir, h.air.monitored, hrep, hreal]
    exact hs z
  enables hs := by
    obtain ⟨hquiet, hlist, hen⟩ := hs
    refine ⟨h.air.quiet hquiet, fun hp => ?_, fun c hc => ?_⟩
    · rw [h.air.confirmList]; exact hlist (h.air.phase ▸ hp)
    · rw [h.air.channelReal, h.air.confirmList, h.air.sweep] at hc
      rw [h.air.enabled]
      exact hen c hc
  trips _ c hc := by rw [h.air.channelReal]; exact hc

/-! ## A zone recomputed (R21 to R26) -/

/-- A zone recomputed: the laws over the roll are kept, its air states are those of its channels, every other zone's air states
stay, and L12 is kept. -/
structure Recomputed (z : Fin 32) (s t : State) : Prop where
  roll : KeepsRoll s t
  air : t.air = s.air
  phase : t.hpt.phase = s.hpt.phase
  monitored : ∀ w, (t.zone w).monitored = (s.zone w).monitored
  reported : ∀ w, (t.zone w).reported = if w = z then s.reportedAir z else (s.zone w).reported
  real : ∀ w, (t.zone w).real = if w = z then s.realAir z else (s.zone w).real
  lines : LinesAgree s → LinesAgree t

theorem Tame.handReported (z : Fin 32) (x y : AirState) (s : State) : Tame s (handReported z x y s) := by
  have hend : Tame s (endZoneItem z x s) := by
    unfold endZoneItem
    split
    · exact (Aside.endItem ..).tame
    · exact .refl s
  have hinsert : ∀ b u, Tame u (insertZoneItem z y b u) := by
    intro b u
    unfold insertZoneItem
    split
    · exact (Aside.insertItem ..).tame
    · exact .refl u
  exact .ite (.refl s) (.ite ((hend.trans (hinsert _ _)).trans (.withdrawEntriesTo z _)) (hend.trans (hinsert _ _)))

theorem Aside.updateTestMark (z : Fin 32) (s : State) : Aside s (updateTestMark z s) := by
  unfold Machine.updateTestMark
  split
  · exact .refl s
  · split
    · exact .refl s
    · exact .ite (.insertItem ..) (.refl s)

theorem Tame.evacuateByAir (z : Fin 32) (x y : AirState) (s : State) : Tame s (evacuateByAir z x y s) := by
  have hair : Tame s (orderByAir z y s) := .ite (.orderZone ..) (.refl s)
  have hline : ∀ u, Tame u (orderByLine z x y u) := by
    intro u
    unfold orderByLine
    split
    · split
      · exact .forEach (Tame.orderZone Causes.onlyLine) _ u
      · exact .refl u
    · exact .refl u
  exact (hair.trans (hline _)).trans (Aside.forEach Aside.deriveReasons _ _).tame

/-- The lines after one is judged anew. -/
theorem lines_judgeLine (line l : Fin 8) (s : State) :
    (judgeLine line s).znt.lines[l] = if l = line then s.isTripped line else s.znt.lines[l] := by
  unfold judgeLine
  split
  · next h =>
    split
    · next hl => rw [hl]; exact h
    · rfl
  · show (s.znt.lines.set line (s.isTripped line))[l] = _
    simp only [Fin.getElem_fin, Vector.getElem_set, Fin.ext_iff, eq_comm]

theorem zone_judgeLine (line : Fin 8) (w : Fin 32) (s : State) : (judgeLine line s).zone w = s.zone w := by
  unfold judgeLine
  split <;> rfl

/-- A line judged anew is no part of the laws over the roll, and the zones and channels do not see it. -/
theorem RollStays.judgeZoneLine (z : Fin 32) (s : State) : RollStays s (judgeZoneLine z s) := by
  unfold Machine.judgeZoneLine
  split
  · next line _ =>
    refine ⟨by rw [judgeLine_atq]; exact id, fun j => ?_, fun j => ?_, fun w => ?_, fun w => ?_, fun w => ?_, fun r => ?_,
      fun p => ?_, by rw [judgeLine_cal]⟩
    · rw [State.slot, judgeLine_rst]; rfl
    · have : (judgeLine line s).person j = s.person j := by simp only [State.person, State.slot, judgeLine_rst]
      rw [this]; exact .refl _
    · rw [zone_judgeLine]
    · rw [zone_judgeLine]
    · rw [zone_judgeLine]
    · rw [State.refuge, judgeLine_rev]; rfl
    · rw [State.truckAt, judgeLine_hlk]; rfl
  · exact .refl s

theorem zone_judgeZoneLine (z w : Fin 32) (s : State) : (judgeZoneLine z s).zone w = s.zone w := by
  unfold judgeZoneLine
  split
  · exact zone_judgeLine ..
  · rfl

theorem air_judgeZoneLine (z : Fin 32) (s : State) : (judgeZoneLine z s).air = s.air := by
  unfold judgeZoneLine
  split
  · exact judgeLine_air ..
  · rfl

theorem phase_judgeZoneLine (z : Fin 32) (s : State) : (judgeZoneLine z s).hpt.phase = s.hpt.phase := by
  unfold judgeZoneLine
  split
  · unfold judgeLine
    split <;> rfl
  · rfl

/-- The judgement of a zone's line mends L12 where only that line was wrong. -/
theorem linesAgree_judgeZoneLine {z : Fin 32} {s : State}
    (h : ∀ line, (s.zone z).tripLine ≠ some line → s.znt.lines[line] = s.isTripped line) :
    LinesAgree (judgeZoneLine z s) := by
  intro line
  rw [isTripped_congr (s := s) fun w => by rw [zone_judgeZoneLine]]
  unfold judgeZoneLine
  split
  · next l hl =>
    rw [lines_judgeLine]
    split
    · next he => rw [he]
    · next hne => exact h line (by rw [hl]; exact fun e => hne (Option.some.inj e).symm)
  · next hl => exact h line (by rw [hl]; simp)

/-- The air states of a zone written. -/
def writeAir (z : Fin 32) (reported real : AirState) (s : State) : State :=
  s.modifyZone z (fun r => { r with reported := reported, real := real })

theorem zone_writeAir (z w : Fin 32) (a b : AirState) (s : State) : (writeAir z a b s).zone w =
    { s.zone w with
      reported := if w = z then a else (s.zone w).reported, real := if w = z then b else (s.zone w).real } := by
  rw [writeAir, zone_modifyZone]
  split
  · next h => subst h; simp
  · next h => simp

theorem RollStays.writeAir (z : Fin 32) (a b : AirState) (s : State) : RollStays s (writeAir z a b s) :=
  ⟨id, fun _ => rfl, fun _ => .refl _, fun w => by rw [zone_writeAir], fun w => by rw [zone_writeAir],
    fun w => by rw [zone_writeAir], fun _ => rfl, fun _ => rfl, rfl⟩

/-- A zone recomputed acts as `Recomputed` says (R21). -/
theorem recomputed (z : Fin 32) (s : State) : Recomputed z s (recomputeZone z s) := by
  unfold recomputeZone
  dsimp only
  split
  · next h =>
    refine ⟨.refl s, rfl, rfl, fun _ => rfl, fun w => ?_, fun w => ?_, id⟩
    · split
      · next hw => rw [hw, h.1]
      · rfl
    · split
      · next hw => rw [hw, h.2]
      · rfl
  · change Recomputed z s (handReal z (s.zone z).real (s.realAir z) (updateTestMark z (handReported z (s.zone z).reported
      (s.reportedAir z) (writeAir z (s.reportedAir z) (s.realAir z) s))))
    have hmid := (Tame.handReported z (s.zone z).reported (s.reportedAir z)
      (writeAir z (s.reportedAir z) (s.realAir z) s)).trans (Aside.updateTestMark z _).tame
    generalize hu : updateTestMark z (handReported z (s.zone z).reported (s.reportedAir z)
      (writeAir z (s.reportedAir z) (s.realAir z) s)) = u at hmid ⊢
    have hua : u.air = s.air := by rw [← hu]; simp [writeAir]
    have hwlines : ∀ line : Fin 8, (writeAir z (s.reportedAir z) (s.realAir z) s).znt.lines[line] = s.znt.lines[line] := fun _ => rfl
    have hother : ∀ line : Fin 8, ((s.zone z).tripLine = some line → (s.zone z).real = s.realAir z) →
        (writeAir z (s.reportedAir z) (s.realAir z) s).isTripped line = s.isTripped line := by
      intro line hsame
      refine isTripped_congr fun w => ?_
      rw [zone_writeAir]
      by_cases hw : w = z
      · subst hw
        refine and_congr_right fun hl => ?_
        simp only [if_true]
        rw [hsame hl]
      · simp [hw]
    have hroll := (RollStays.writeAir z (s.reportedAir z) (s.realAir z) s).keeps.trans hmid.roll
    unfold handReal
    split
    · next hsame =>
      refine ⟨hroll, hua, hmid.air.phase, fun w => ?_, fun w => ?_, fun w => ?_, fun hs line => ?_⟩
      · rw [hmid.air.monitored, zone_writeAir]
      · rw [hmid.air.reported, zone_writeAir]
      · rw [hmid.air.real, zone_writeAir]
      · rw [hmid.air.lines, hmid.air.isTripped, hwlines, hother line fun _ => hsame]
        exact hs line
    · have hafter := (Tame.evacuateByAir z (s.zone z).real (s.realAir z) (judgeZoneLine z u)).trans
        (Aside.exposeRise z (s.zone z).real (s.realAir z) _).tame
      generalize hv : exposeRise z (s.zone z).real (s.realAir z)
        (Machine.evacuateByAir z (s.zone z).real (s.realAir z) (judgeZoneLine z u)) = v at hafter ⊢
      refine ⟨(hroll.trans (RollStays.judgeZoneLine z u).keeps).trans hafter.roll, ?_, ?_, fun w => ?_, fun w => ?_, fun w => ?_,
        fun hs => ?_⟩
      · rw [← hv]; simp [hua]
      · rw [hafter.air.phase, phase_judgeZoneLine, hmid.air.phase]; rfl
      · rw [hafter.air.monitored, zone_judgeZoneLine, hmid.air.monitored, zone_writeAir]
      · rw [hafter.air.reported, zone_judgeZoneLine, hmid.air.reported, zone_writeAir]
      · rw [hafter.air.real, zone_judgeZoneLine, hmid.air.real, zone_writeAir]
      · have hmended : LinesAgree (judgeZoneLine z u) := by
          refine linesAgree_judgeZoneLine fun line hl => ?_
          rw [hmid.air.tripLine, zone_writeAir] at hl
          rw [hmid.air.lines, hmid.air.isTripped, hwlines, hother line fun e => absurd e hl]
          exact hs line
        intro line
        rw [hafter.air.lines, hafter.air.isTripped]
        exact hmended line

end Sys2Proof.Machine
end

section
/-! What changes of channel records, the judgement of readings and the sweeps do to the laws. -/

namespace Sys2Proof.Machine

open Sys2Proof.Safety

/-! ## Zones judged anew after a change of a channel (R19, R21) -/

/-- Some zones are judged anew: their air states are those of their channels, every other zone stays as it was, and L12 is kept. -/
structure Rejudged (P : Fin 32 → Prop) (s t : State) : Prop where
  roll : KeepsRoll s t
  air : t.air = s.air
  phase : t.hpt.phase = s.hpt.phase
  monitored : ∀ w, ¬ P w → (t.zone w).monitored = (s.zone w).monitored
  reported : ∀ w, ¬ P w → (t.zone w).reported = (s.zone w).reported
  real : ∀ w, ¬ P w → (t.zone w).real = (s.zone w).real
  agrees : ∀ w, P w → AirAgreesAt w t
  lines : LinesAgree s → LinesAgree t

theorem derivedAir_of_air {s t : State} (h : t.air = s.air) (f : Channel → ChannelState) (z : Fin 32) :
    t.derivedAir f z = s.derivedAir f z := derivedAir_congr fun c => by rw [State.channel, h]; rfl

/-- L8 at a zone reads the zone's states, its monitored flag and the channels. -/
theorem airAgreesAt_of {z : Fin 32} {s t : State} (hr : (t.zone z).reported = (s.zone z).reported)
    (hx : (t.zone z).real = (s.zone z).real) (hm : (t.zone z).monitored = (s.zone z).monitored)
    (hd : t.derivedAir Channel.reported z = s.derivedAir Channel.reported z)
    (he : t.derivedAir Channel.real z = s.derivedAir Channel.real z) (h : AirAgreesAt z s) : AirAgreesAt z t := by
  obtain ⟨ha, hb⟩ := h
  exact ⟨by rw [hr, ha, State.reportedAir, State.reportedAir, hm, hd], by rw [hx, hb, State.realAir, State.realAir, hm, he]⟩

theorem Rejudged.refl (s : State) : Rejudged (fun _ => False) s s :=
  ⟨.refl s, rfl, rfl, fun _ _ => rfl, fun _ _ => rfl, fun _ _ => rfl, fun _ h => h.elim, id⟩

theorem Rejudged.trans {P Q : Fin 32 → Prop} {s t u : State} (h : Rejudged P s t) (k : Rejudged Q t u) :
    Rejudged (fun w => P w ∨ Q w) s u where
  roll := h.roll.trans k.roll
  air := k.air.trans h.air
  phase := k.phase.trans h.phase
  monitored w hw := (k.monitored w fun e => hw (.inr e)).trans (h.monitored w fun e => hw (.inl e))
  reported w hw := (k.reported w fun e => hw (.inr e)).trans (h.reported w fun e => hw (.inl e))
  real w hw := (k.real w fun e => hw (.inr e)).trans (h.real w fun e => hw (.inl e))
  agrees w hw := by
    by_cases hq : Q w
    · exact k.agrees w hq
    · exact airAgreesAt_of (k.reported w hq) (k.real w hq) (k.monitored w hq) (derivedAir_of_air k.air ..)
        (derivedAir_of_air k.air ..) (h.agrees w (hw.resolve_right hq))
  lines := k.lines ∘ h.lines

theorem Rejudged.recomputeZone (z : Fin 32) (s : State) : Rejudged (· = z) s (recomputeZone z s) := by
  have h := recomputed z s
  refine ⟨h.roll, h.air, h.phase, fun w _ => h.monitored w, fun w hw => ?_, fun w hw => ?_, fun w hw => ?_, h.lines⟩
  · rw [h.reported, if_neg hw]
  · rw [h.real, if_neg hw]
  · subst hw
    refine ⟨?_, ?_⟩
    · rw [h.reported, if_pos rfl, State.reportedAir, State.reportedAir, h.monitored, derivedAir_of_air h.air]
    · rw [h.real, if_pos rfl, State.realAir, State.realAir, h.monitored, derivedAir_of_air h.air]

theorem Rejudged.recomputeZone? (z : Option (Fin 32)) (s : State) : Rejudged (fun w => z = some w) s (recomputeZone? z s) := by
  cases z with
  | none => exact { Rejudged.refl s with
      monitored := fun _ _ => rfl, reported := fun _ _ => rfl, real := fun _ _ => rfl, agrees := fun _ h => by cases h }
  | some z =>
    have h := Rejudged.recomputeZone z s
    exact { h with
      monitored := fun w hw => h.monitored w fun e => hw (by rw [e])
      reported := fun w hw => h.reported w fun e => hw (by rw [e])
      real := fun w hw => h.real w fun e => hw (by rw [e])
      agrees := fun w hw => h.agrees w (Option.some.inj hw).symm }

/-- The monitored flag of a zone written. -/
def writeMonitored (z : Fin 32) (b : Bool) (s : State) : State := s.modifyZone z (fun r => { r with monitored := b })

theorem zone_writeMonitored (z w : Fin 32) (b : Bool) (s : State) : (writeMonitored z b s).zone w =
    { s.zone w with monitored := if w = z then b else (s.zone w).monitored } := by
  rw [writeMonitored, zone_modifyZone]
  split
  · next h => subst h; rfl
  · rfl

theorem Rejudged.rebindZone (z : Option (Fin 32)) (s : State) : Rejudged (fun w => z = some w) s (rebindZone z s) := by
  cases z with
  | none => exact Rejudged.recomputeZone? none s
  | some z =>
    have h := Rejudged.recomputeZone? (some z) (writeMonitored z (s.isBound z) s)
    have hroll : RollStays s (writeMonitored z (s.isBound z) s) :=
      ⟨id, fun _ => rfl, fun _ => .refl _, fun w => by rw [zone_writeMonitored], fun w => by rw [zone_writeMonitored],
        fun w => by rw [zone_writeMonitored], fun _ => rfl, fun _ => rfl, rfl⟩
    refine ⟨hroll.keeps.trans h.roll, h.air, h.phase, fun w hw => ?_, fun w hw => ?_, fun w hw => ?_, h.agrees,
      fun hs => h.lines fun line => ?_⟩
    · exact (h.monitored w hw).trans (by rw [zone_writeMonitored, if_neg fun e => hw (by rw [e])])
    · exact (h.reported w hw).trans (by rw [zone_writeMonitored])
    · exact (h.real w hw).trans (by rw [zone_writeMonitored])
    · rw [isTripped_congr (s := s) fun w => by rw [zone_writeMonitored]]
      exact hs line

/-! ## Channels changed -/

/-- A channel changed and the zones concerned judged anew. -/
structure Changed (c : Fin 32) (f : Channel → Channel) (s t : State) : Prop where
  roll : KeepsRoll s t
  air : t.air = (s.modifyChannel c f).air
  phase : t.hpt.phase = s.hpt.phase
  agrees : AirAgrees s → AirAgrees t
  real : ∀ w, (t.zone w).real = (s.zone w).real ∨ (t.zone w).real = t.realAir w
  lines : LinesAgree s → LinesAgree t

theorem RollStays.modifyChannel (c : Fin 32) (f : Channel → Channel) (s : State) : RollStays s (s.modifyChannel c f) :=
  .of_eq rfl rfl rfl rfl rfl rfl

/-- A zone to which a channel contributes the same before and after its change keeps its air states. -/
theorem derivedAir_modifyChannel {c : Fin 32} {f : Channel → Channel} {s : State} {z : Fin 32} {g : Channel → ChannelState}
    (h : (f (s.channel c)).contributionTo z g = (s.channel c).contributionTo z g) :
    (s.modifyChannel c f).derivedAir g z = s.derivedAir g z := by
  refine derivedAir_congr fun d => ?_
  rw [channel_modifyChannel]
  split
  · next hd => rw [hd]; exact h
  · rfl

/-- The zones judged anew after a change of a channel are those to which its contribution may have changed. -/
theorem Rejudged.changed {P : Fin 32 → Prop} {c : Fin 32} {f : Channel → Channel} {s t : State}
    (h : Rejudged P (s.modifyChannel c f) t)
    (hout : ∀ w, ¬ P w → (f (s.channel c)).contributionTo w Channel.reported = (s.channel c).contributionTo w Channel.reported
      ∧ (f (s.channel c)).contributionTo w Channel.real = (s.channel c).contributionTo w Channel.real) : Changed c f s t where
  roll := (RollStays.modifyChannel c f s).keeps.trans h.roll
  air := h.air
  phase := h.phase
  agrees hs w := by
    by_cases hw : P w
    · exact h.agrees w hw
    · refine airAgreesAt_of (s := s) (h.reported w hw) (h.real w hw) (h.monitored w hw) ?_ ?_ (hs w)
      · rw [derivedAir_of_air h.air, derivedAir_modifyChannel (hout w hw).1]
      · rw [derivedAir_of_air h.air, derivedAir_modifyChannel (hout w hw).2]
  real w := by
    by_cases hw : P w
    · exact .inr (h.agrees w hw).2
    · exact .inl (h.real w hw)
  lines hs := h.lines hs

theorem Changed.changeChannel {c : Fin 32} {f : Channel → Channel} {s : State}
    (hzone : (f (s.channel c)).zone = (s.channel c).zone) : Changed c f s (changeChannel c f s) := by
  unfold Machine.changeChannel
  dsimp only
  split
  · next hsame =>
    refine Rejudged.changed (.refl _) fun w _ => ?_
    simp only [Channel.contributionTo, hzone, hsame.1, hsame.2, and_self]
  · refine Rejudged.changed (.recomputeZone? _ _) fun w hw => ?_
    simp only [Channel.contributionTo, hw, if_false, ← hzone, and_self]

theorem Changed.setupChannel {c : Fin 32} {f : Channel → Channel} {s : State}
    (hrep : (f (s.channel c)).reported = (s.channel c).reported) (hreal : (f (s.channel c)).real = (s.channel c).real) :
    Changed c f s (setupChannel c f s) := by
  unfold Machine.setupChannel
  dsimp only
  rw [channel_modifyChannel_self]
  split
  · next hsame =>
    refine Rejudged.changed (.refl _) fun w _ => ?_
    simp only [Channel.contributionTo, hsame, hrep, hreal, and_self]
  · refine Rejudged.changed ((Rejudged.rebindZone _ _).trans (.rebindZone _ _)) fun w hw => ?_
    obtain ⟨hold, hnew⟩ := not_or.1 hw
    simp only [Channel.contributionTo, hold, hnew, if_false, and_self]

/-- A change of a channel that its zone's air states have no part in. -/
theorem Changed.modifyChannel {c : Fin 32} {f : Channel → Channel} {s : State}
    (hzone : (f (s.channel c)).zone = (s.channel c).zone) (hrep : (f (s.channel c)).reported = (s.channel c).reported)
    (hreal : (f (s.channel c)).real = (s.channel c).real) : Changed c f s (s.modifyChannel c f) :=
  Rejudged.changed (.refl _) fun w _ => by simp only [Channel.contributionTo, hzone, hrep, hreal, and_self]

/-- A zone whose channels are all OFF is not in TRIP. -/
theorem realAir_ne_trip {s : State} (h : ∀ c, (s.channel c).real = .off) (z : Fin 32) : s.realAir z ≠ .trip := by
  have hnone : ∀ c, (s.channel c).contributionTo z Channel.real = none := by
    intro c
    simp [Channel.contributionTo, h c, ChannelState.contribution]
  have hfold : ∀ l : List (Fin 32), (l.map (fun _ => (none : Option AirState))).foldl worseAir none = none := by
    intro l
    induction l with
    | nil => rfl
    | cons a l ih => exact ih
  unfold State.realAir
  split
  · rw [derivedAir_eq]
    simp only [hnone, hfold]
    simp
  · simp

theorem Changed.channel {c : Fin 32} {f : Channel → Channel} {s t : State} (h : Changed c f s t) (d : Fin 32) :
    t.channel d = if d = c then f (s.channel c) else s.channel d := by
  rw [State.channel, h.air]
  exact channel_modifyChannel c d f s

theorem Changed.quiet {c : Fin 32} {f : Channel → Channel} {s t : State} (h : Changed c f s t)
    (hoff : SetupIsQuiet s → s.hpt.phase = .setup → (f (s.channel c)).real = .off) (hs : SetupIsQuiet s) : SetupIsQuiet t := by
  intro hp
  rw [h.phase] at hp
  obtain ⟨hmode, hsweep, hall, hreal⟩ := hs hp
  have hall' : ∀ d, (t.channel d).real = .off := by
    intro d
    rw [h.channel]
    split
    · exact hoff hs hp
    · exact hall d
  refine ⟨by rw [h.air]; exact hmode, by rw [h.air]; exact hsweep, hall', fun z => ?_⟩
  rcases h.real z with hz | hz
  · rw [hz]; exact hreal z
  · rw [hz]; exact realAir_ne_trip hall' z

theorem Changed.enables {c : Fin 32} {f : Channel → Channel} {s t : State} (h : Changed c f s t)
    (hoff : SetupIsQuiet s → s.hpt.phase = .setup → (f (s.channel c)).real = .off)
    (hen : EnablesHold s → (f (s.channel c)).real ≠ .off ∨ c ∈ s.air.confirmList ∨ s.air.sweep = .confirm c →
      (f (s.channel c)).enabled = true) (hs : EnablesHold s) : EnablesHold t := by
  have hen := hen hs
  obtain ⟨hquiet, hlist, hall⟩ := hs
  refine ⟨h.quiet hoff hquiet, fun hp => ?_, fun d hd => ?_⟩
  · rw [h.air]; exact hlist (h.phase ▸ hp)
  · rw [h.channel] at hd ⊢
    rw [h.air] at hd
    split
    · next he =>
      subst he
      rw [if_pos rfl] at hd
      exact hen hd
    · next he =>
      rw [if_neg he] at hd
      exact hall d hd

/-- A channel changed keeps the laws where its real state stays OFF in SETUP, it is enabled where L9 needs that, and TRIP
stays. -/
theorem Changed.lawful {c : Fin 32} {f : Channel → Channel} {s t : State} (h : Changed c f s t)
    (hoff : SetupIsQuiet s → s.hpt.phase = .setup → (f (s.channel c)).real = .off)
    (hen : EnablesHold s → (f (s.channel c)).real ≠ .off ∨ c ∈ s.air.confirmList ∨ s.air.sweep = .confirm c →
      (f (s.channel c)).enabled = true)
    (htrip : EnablesHold s → (s.channel c).real = .trip → (f (s.channel c)).real = .trip) : Lawful s t where
  roll := h.roll
  quiet := h.quiet hoff
  lines _ := h.lines
  air := h.agrees
  enables := h.enables hoff hen
  trips hs d hd := by
    rw [h.channel]
    split
    · next he => exact htrip hs (he ▸ hd)
    · exact hd

/-- A change of a channel that keeps its zone, whether it is enabled and its real state. -/
theorem Changed.lawful_of_same {c : Fin 32} {f : Channel → Channel} {s t : State} (h : Changed c f s t)
    (hreal : (f (s.channel c)).real = (s.channel c).real) (hen : (f (s.channel c)).enabled = (s.channel c).enabled) :
    Lawful s t := by
  refine h.lawful (fun hs hp => ?_) (fun hs hc => ?_) fun _ hc => hreal.trans hc
  · exact hreal.trans ((hs hp).2.2.1 c)
  · rw [hen]
    rw [hreal] at hc
    exact hs.2.2 c hc

/-- A change of a channel that is not OFF, and stays in TRIP where it is. -/
theorem Changed.lawful_of_on {c : Fin 32} {f : Channel → Channel} {s t : State} (h : Changed c f s t)
    (hon : (s.channel c).real ≠ .off) (htrip : (s.channel c).real = .trip → (f (s.channel c)).real = .trip)
    (hen : (f (s.channel c)).enabled = (s.channel c).enabled) : Lawful s t := by
  refine h.lawful (fun hs hp => absurd ((hs hp).2.2.1 c) hon) (fun hs _ => ?_) fun _ => htrip
  rw [hen]
  exact hs.2.2 c (.inl hon)

end Sys2Proof.Machine
end

section
/-! What the judgement of readings, the sweeps and the channel requests do to the laws. -/

namespace Sys2Proof.Machine

open Sys2Proof.Safety

/-- A change of the sequencer that leaves the channel records. -/
theorem Lawful.of_air {s : State} {a : AirSequencer} (hch : a.channels = s.air.channels)
    (hquiet : SetupIsQuiet s → s.hpt.phase = .setup → a.mode = .idle ∧ a.sweep = .noSweep)
    (hlist : EnablesHold s → s.hpt.phase = .setup → a.confirmList = [])
    (hen : EnablesHold s → ∀ c, c ∈ a.confirmList ∨ a.sweep = .confirm c → (s.channel c).enabled = true) :
    Lawful s { s with air := a } := by
  have hchannel : ∀ c, State.channel { s with air := a } c = s.channel c := fun c => by simp only [State.channel, hch]
  have hq : SetupIsQuiet s → SetupIsQuiet { s with air := a } := by
    intro hs hp
    obtain ⟨hmode, hsweep⟩ := hquiet hs hp
    exact ⟨hmode, hsweep, fun c => by rw [hchannel]; exact (hs hp).2.2.1 c, (hs hp).2.2.2⟩
  have hderived : ∀ f z, State.derivedAir { s with air := a } f z = s.derivedAir f z :=
    fun f z => derivedAir_congr fun c => by rw [hchannel]
  refine ⟨RollStays.keeps (.of_eq rfl rfl rfl rfl rfl rfl), hq, fun _ => id, fun hs z => ?_, fun hs => ⟨hq hs.1, hlist hs, fun c hc => ?_⟩,
    fun _ c hc => by rw [hchannel]; exact hc⟩
  · exact airAgreesAt_of (s := s) rfl rfl rfl (hderived ..) (hderived ..) (hs z)
  · rw [hchannel] at hc ⊢
    rcases hc with hc | hc
    · exact hs.2.2 c (.inl hc)
    · exact hen hs c hc

/-- A change of the sequencer that leaves its mode, its sweep, its confirm list and the channel records. -/
theorem Lawful.of_air_same {s : State} {a : AirSequencer} (hch : a.channels = s.air.channels := by rfl)
    (hmode : a.mode = s.air.mode := by rfl) (hsweep : a.sweep = s.air.sweep := by rfl)
    (hlist : a.confirmList = s.air.confirmList := by rfl) : Lawful s { s with air := a } := by
  refine .of_air hch (fun hs hp => ?_) (fun hs hp => ?_) fun hs c hc => ?_
  · rw [hmode, hsweep]; exact ⟨(hs hp).1, (hs hp).2.1⟩
  · rw [hlist]; exact hs.2.1 hp
  · rw [hlist, hsweep] at hc; exact hs.2.2 c (.inr hc)

/-! ## Readings (R99 to R105) -/

theorem Channel.ranOut_same (r : Channel) : r.ranOut.zone = r.zone ∧ r.ranOut.enabled = r.enabled := by
  unfold Channel.ranOut
  split <;> exact ⟨rfl, rfl⟩

theorem isJudged_iff (x : ChannelState) : x.isJudged = true ↔ x = .normal ∨ x = .caution ∨ x = .danger := by
  cases x <;> simp [ChannelState.isJudged]

theorem Lawful.judgeRun (c : Fin 32) (s : State) : Lawful s (judgeRun c s) := by
  unfold Machine.judgeRun
  dsimp only
  split
  · next h =>
    obtain ⟨hz, he⟩ := (s.channel c).ranOut_same
    rcases (isJudged_iff _).1 h.1 with hj | hj | hj
    all_goals exact (Changed.changeChannel hz).lawful_of_on (by rw [hj]; simp) (by rw [hj]; simp) he
  · exact .refl s

theorem Lawful.judgeWarmup (c : Fin 32) (s : State) : Lawful s (judgeWarmup c s) := by
  unfold Machine.judgeWarmup
  dsimp only
  split
  · next h => exact (Changed.changeChannel rfl).lawful_of_on (by rw [h.1]; simp) (by rw [h.1]; simp) rfl
  · exact .refl s

theorem Lawful.judgeFaultClear (c : Fin 32) (s : State) : Lawful s (judgeFaultClear c s) := by
  have hcleared : Lawful s (changeChannel c Channel.faultCleared s) := by
    by_cases hf : (s.channel c).real = .fault
    · have he : (s.channel c).faultCleared =
          { (s.channel c).runCleared with real := .normal, faultFlag := false, goodCount := 0 } := if_pos hf
      exact (Changed.changeChannel (by rw [he]; rfl)).lawful_of_on (by rw [hf]; simp) (by rw [hf]; simp) (by rw [he]; rfl)
    · have he : (s.channel c).faultCleared = { s.channel c with faultFlag := false, goodCount := 0 } := if_neg hf
      exact (Changed.changeChannel (by rw [he])).lawful_of_same (by rw [he]) (by rw [he])
  exact .ite (hcleared.trans (Aside.endItem ..).tame.lawful) (.refl s)

/-- A change of a channel's counts, runs, readings and flags: what the laws do not see of it. -/
theorem Lawful.modifyChannel {c : Fin 32} {f : Channel → Channel} {s : State}
    (hzone : (f (s.channel c)).zone = (s.channel c).zone) (hrep : (f (s.channel c)).reported = (s.channel c).reported)
    (hreal : (f (s.channel c)).real = (s.channel c).real) (hen : (f (s.channel c)).enabled = (s.channel c).enabled) :
    Lawful s (s.modifyChannel c f) := (Changed.modifyChannel hzone hrep hreal).lawful_of_same hreal hen

theorem Lawful.takeRail {c : Fin 32} {s : State} (hon : (s.channel c).real ≠ .off) : Lawful s (takeRail c s) := by
  refine .ite (.modifyChannel rfl rfl rfl rfl) (.trans (t := changeChannel c Channel.faulted s) ?_ (Aside.raiseItem ..).tame.lawful)
  refine (Changed.changeChannel rfl).lawful_of_on hon (fun h => ?_) rfl
  show (if (s.channel c).real = .trip then ChannelState.trip else .fault) = _
  rw [if_pos h]

theorem Lawful.appendConfirm {c : Fin 32} {s : State} (hon : (s.channel c).real ≠ .off) : Lawful s (appendConfirm c s) := by
  have hpending : Lawful s (s.modifyChannel c (fun r => { r with confirmPending := true })) := .modifyChannel rfl rfl rfl rfl
  refine .ite hpending (hpending.trans ?_)
  have hreal : ((s.modifyChannel c (fun r => { r with confirmPending := true })).channel c).real ≠ .off := by
    rw [channel_modifyChannel_self]; exact hon
  generalize s.modifyChannel c (fun r => { r with confirmPending := true }) = t at hreal
  refine .of_air rfl (fun hs hp => ⟨(hs hp).1, (hs hp).2.1⟩) (fun hs hp => absurd ((hs.1 hp).2.2.1 c) hreal) fun hs d hd => ?_
  rcases hd with hd | hd
  · rcases List.mem_append.1 hd with hd | hd
    · exact hs.2.2 d (.inr (.inl hd))
    · rw [List.mem_singleton.1 hd]; exact hs.2.2 c (.inl hreal)
  · exact hs.2.2 d (.inr (.inr hd))

/-- A run judged keeps the channel's zone, test, real state and whether it is enabled. -/
theorem Channel.runJudged_same (r : Channel) (v : Byte) : (r.runJudged v).zone = r.zone
    ∧ (r.runJudged v).reported = r.reported ∧ (r.runJudged v).real = r.real ∧ (r.runJudged v).enabled = r.enabled := by
  unfold Channel.runJudged
  split
  · split <;> exact ⟨rfl, rfl, rfl, rfl⟩
  · split
    · split <;> exact ⟨rfl, rfl, rfl, rfl⟩
    · exact ⟨rfl, rfl, rfl, rfl⟩

theorem Lawful.takeGood (inGroup : Bool) (c : Fin 32) (v : Byte) (s : State) : Lawful s (takeGood inGroup c v s) := by
  have hgood : Lawful s (Machine.judgeFaultClear c
      (s.modifyChannel c (fun r => { r.withReading v with goodCount := r.goodCount + 1 }))) :=
    (Lawful.modifyChannel rfl rfl rfl rfl).trans (.judgeFaultClear c _)
  have hjudged : (s.channel c).real ≠ .off → Lawful s
      (if inGroup = true ∧ (s.channel c).gas = .methane ∧ (s.channel c).isAtTrip v = true then
        Machine.appendConfirm c (s.modifyChannel c (fun r => r.withReading v))
      else Machine.judgeRun c (s.modifyChannel c (fun r => (r.withReading v).runJudged v))) := by
    intro hon
    obtain ⟨hz, hrep, hreal, hen⟩ := ((s.channel c).withReading v).runJudged_same v
    refine .ite (.trans (.modifyChannel (f := fun r => r.withReading v) rfl rfl rfl rfl) (.appendConfirm ?_))
      (.trans (.modifyChannel (f := fun r => (r.withReading v).runJudged v) hz hrep hreal hen) (.judgeRun c _))
    rw [channel_modifyChannel_self]
    exact hon
  unfold Machine.takeGood
  dsimp only
  split
  · exact .refl s
  · exact (Lawful.modifyChannel rfl rfl rfl rfl).trans (.judgeWarmup c _)
  · exact hgood
  · exact .ite hgood (.modifyChannel rfl rfl rfl rfl)
  all_goals next h => exact hjudged (by rw [h]; simp)

theorem Lawful.takeReading (inGroup : Bool) (c : Fin 32) (v : Byte) (s : State) : Lawful s (takeReading inGroup c v s) := by
  unfold Machine.takeReading
  split
  · exact .refl s
  · next hon => exact .ite (.takeRail hon) (.takeGood inGroup c v s)

theorem Lawful.judgeTest (c : Fin 32) (s : State) : Lawful s (judgeTest c s) := by
  unfold Machine.judgeTest
  split
  · exact .ite ((Changed.changeChannel rfl).lawful_of_same rfl rfl) (.refl s)
  · exact .refl s

theorem Lawful.countTest (c : Fin 32) (s : State) : Lawful s (countTest c s) := by
  refine .trans (.modifyChannel rfl ?_ rfl rfl) (.judgeTest c _)
  simp only [Channel.reported]
  cases (s.channel c).test <;> rfl

/-! ## Sweeps (R92 to R95) -/

theorem Lawful.beginTurn (s : State) : Lawful s (beginTurn s) := by
  unfold Machine.beginTurn
  split
  · exact .of_air_same
  · exact .refl s

theorem Channel.withLevelsApplied_same (r : Channel) : r.withLevelsApplied.zone = r.zone
    ∧ r.withLevelsApplied.reported = r.reported ∧ r.withLevelsApplied.real = r.real
    ∧ r.withLevelsApplied.enabled = r.enabled := by
  unfold Channel.withLevelsApplied
  split <;> exact ⟨rfl, rfl, rfl, rfl⟩

theorem Lawful.startSweep {w : Sweep} {s : State} (hmode : s.air.mode ≠ .idle) (hw : ∀ c, w = .confirm c → c ∈ s.air.confirmList) :
    Lawful s (startSweep w s) := by
  refine .trans (.trans (.of_air (a := { s.air with sweep := w, buffer := Vector.replicate 4 none, turnsDone := 0 }) rfl
    (fun hs hp => absurd (hs hp).1 hmode) (fun hs hp => hs.2.1 hp) fun hs c hc => ?_)
    (.forEach (fun c u => ?_) _ _)) (.beginTurn _)
  · rcases hc with hc | hc
    · exact hs.2.2 c (.inr (.inl hc))
    · exact hs.2.2 c (.inr (.inl (hw c hc)))
  · obtain ⟨hz, hrep, hreal, hen⟩ := (u.channel c).withLevelsApplied_same
    exact .modifyChannel hz hrep hreal hen

theorem Lawful.startGroup {groups : BitVec 8} {s : State} (hmode : s.air.mode ≠ .idle) : Lawful s (startGroup groups s) := by
  have hclear : Lawful s { s with air := { s.air with resume := none } } := .of_air_same
  unfold Machine.startGroup
  dsimp only
  split
  · exact hclear.trans (.startSweep hmode fun c hc => by cases hc)
  · exact hclear

theorem Lawful.sweepAtSlotStart (s : State) : Lawful s (sweepAtSlotStart s) := by
  unfold Machine.sweepAtSlotStart
  split
  · next h =>
    split
    · next c l hl => exact .startSweep h.2 fun d hd => by cases hd; rw [hl]; exact List.mem_cons_self
    · split
      · exact .startGroup h.2
      · exact .startGroup h.2
      all_goals exact .refl s
  · exact .refl s

theorem Lawful.takeSweep (s : State) : Lawful s (takeSweep s) := by
  unfold Machine.takeSweep
  split
  · exact .trans (t := { s with handed := { s.handed with sweep := false } }) (Tame.of_eq).lawful (.sweepAtSlotStart _)
  · exact .refl s

theorem Lawful.takeGroupReading (g : Fin 8) (k : Fin 4) (s : State) : Lawful s (takeGroupReading g k s) := by
  unfold Machine.takeGroupReading
  dsimp only
  split
  · exact .ite ((Lawful.takeReading true _ _ s).trans (.countTest _ _)) (.refl s)
  · exact .refl s

theorem Lawful.advanceSchedule (g : Fin 8) (s : State) : Lawful s (advanceSchedule g s) := by
  have hsame : Lawful s { s with air := { s.air with lastGroup := g, sweep := .noSweep } } :=
    .of_air rfl (fun hs hp => ⟨(hs hp).1, rfl⟩) (fun hs hp => hs.2.1 hp) fun hs c hc => hs.2.2 c (.inr (hc.imp_right (by simp)))
  unfold Machine.advanceSchedule
  dsimp only
  split
  · next hm =>
    exact .of_air rfl (fun hs hp => absurd (hs hp).1 (by rw [hm]; simp)) (fun hs hp => hs.2.1 hp)
      fun hs c hc => hs.2.2 c (.inr (hc.imp_right (by simp)))
  all_goals exact hsame

theorem Lawful.leaveConfirmList (c : Fin 32) (s : State) : Lawful s (leaveConfirmList c s) := by
  refine .trans (.of_air (a := { s.air with confirmList := s.air.confirmList.filter (fun d => d != c) }) rfl
    (fun hs hp => ⟨(hs hp).1, (hs hp).2.1⟩) (fun hs hp => by simp [hs.2.1 hp]) fun hs d hd => ?_) (.modifyChannel rfl rfl rfl rfl)
  exact hs.2.2 d (.inr (hd.imp_left fun h => (List.mem_filter.1 h).1))

theorem sweep_leaveConfirmList (c : Fin 32) (s : State) : (leaveConfirmList c s).air.sweep = s.air.sweep := rfl

theorem Lawful.confirmTrip {c : Fin 32} {l : List Byte} {s : State} (hs : s.air.sweep = .confirm c) :
    Lawful s (confirmTrip c l s) := by
  have hch : Changed c (fun r => r.tripped (lastGood l)) s (changeChannel c (fun r => r.tripped (lastGood l)) s) :=
    .changeChannel rfl
  have htrip : Lawful s (changeChannel c (fun r => r.tripped (lastGood l)) s) := by
    refine hch.lawful (fun hq hp => absurd ((hq hp).2.1.symm.trans hs) (by simp)) (fun he _ => ?_) fun _ _ => rfl
    exact he.2.2 c (.inr (.inr hs))
  refine .ite (htrip.trans (.takeRail ?_)) htrip
  rw [hch.channel, if_pos rfl]
  simp [Channel.tripped]

theorem Lawful.endConfirmSweep {c : Fin 32} {s : State} (hs : s.air.sweep = .confirm c) : Lawful s (endConfirmSweep c s) := by
  have hleft := Lawful.leaveConfirmList c s
  have hsweep : (Machine.leaveConfirmList c s).air.sweep = .confirm c := hs
  have hend : ∀ u : State, Lawful u { u with air := { u.air with sweep := .noSweep } } := fun u =>
    .of_air rfl (fun hs hp => ⟨(hs hp).1, rfl⟩) (fun hs hp => hs.2.1 hp) fun hs c hc => hs.2.2 c (.inr (hc.imp_right (by simp)))
  exact (hleft.trans (.ite (.confirmTrip hsweep)
    ((Lawful.forEach (fun v u => .takeReading false c v u) _ _).trans (.countTest c _)))).trans (hend _)

theorem Lawful.completeTurn (count : Byte) (s : State) : Lawful s (completeTurn count s) := by
  have hstore : Lawful s (storeResult count s) := .of_air_same
  have hend : ∀ u, Lawful u (endSweep u) := by
    intro u
    unfold endSweep
    split
    · exact .refl u
    · exact (Lawful.forEach (Lawful.takeGroupReading _) _ u).trans (.advanceSchedule _ _)
    · next c hc => exact .endConfirmSweep hc
  exact .ite (.refl s) (.ite (hstore.trans (.beginTurn _)) (hstore.trans (hend _)))

theorem Lawful.abortSweep (s : State) : Lawful s (abortSweep s) := by
  unfold Machine.abortSweep
  split
  · exact .refl s
  all_goals
    exact .of_air rfl (fun hs hp => ⟨(hs hp).1, rfl⟩) (fun hs hp => hs.2.1 hp)
      fun hs c hc => hs.2.2 c (.inr (hc.imp_right (by simp)))

/-! ## Requests of the sequencer and the channels (R91, R95, R106 to R112) -/

theorem Lawful.reply (status : ReplyStatus) (data : List Byte) (s : State) : Lawful s (s.reply status data) :=
  (Tame.reply status data s).lawful

theorem Lawful.replied {s t : State} (h : Lawful s t) (status : ReplyStatus) (data : List Byte) :
    Lawful s (t.reply status data) := h.trans (.reply ..)

theorem Lawful.writeMode {mode : SequencerMode} {groups : BitVec 8} {s : State} (hrun : s.hpt.phase = .running) :
    Lawful s (writeMode mode groups s) := by
  unfold Machine.writeMode
  split
  all_goals
    exact .of_air rfl (fun _ hp => absurd hp (by rw [hrun]; simp)) (fun hs hp => hs.2.1 hp)
      fun hs c hc => hs.2.2 c (.inr hc)

theorem phase_abortSweep (s : State) : (abortSweep s).hpt.phase = s.hpt.phase := by
  unfold abortSweep
  split <;> rfl

theorem Lawful.reqAirControl {mode groups : Byte} {s : State} (hrun : s.hpt.phase = .running) :
    Lawful s (reqAirControl mode groups s) := by
  have hwrite : ∀ m, Lawful s (Machine.writeMode m groups (Machine.abortSweep s)) := fun m =>
    (Lawful.abortSweep s).trans (.writeMode ((phase_abortSweep s).trans hrun))
  unfold Machine.reqAirControl
  split
  · exact (hwrite _).replied ..
  · exact (hwrite _).replied ..
  · exact (hwrite _).replied ..
  all_goals exact .reply ..

theorem Lawful.withChannel {channel : Byte} {f : Fin 32 → Channel → State → State} {s : State}
    (h : ∀ c, Lawful s (f c (s.channel c) s)) : Lawful s (withChannel channel f s) := by
  unfold Machine.withChannel
  split
  · exact .reply ..
  · exact h _

theorem Lawful.reqTestChannel (channel forced sweeps : Byte) (s : State) : Lawful s (reqTestChannel channel forced sweeps s) := by
  unfold Machine.reqTestChannel
  split
  · exact .reply ..
  · refine .ite (.reply ..) (.withChannel fun c => .ite (.reply ..) (.replied ?_ ..))
    exact (Changed.changeChannel rfl).lawful_of_same rfl rfl

theorem Lawful.reqCancelTest (channel : Byte) (s : State) : Lawful s (reqCancelTest channel s) := by
  refine .withChannel fun c => ?_
  split
  · exact .reply ..
  · exact Lawful.replied ((Changed.changeChannel rfl).lawful_of_same rfl rfl) ..

theorem Lawful.reqSetLevels (channel caution danger : Byte) (s : State) : Lawful s (reqSetLevels channel caution danger s) := by
  refine .withChannel fun c => .ite ?_ (.reply ..)
  split
  all_goals exact Lawful.replied (.modifyChannel rfl rfl rfl rfl) ..

theorem Lawful.reqSetChannel {channel gas zone caution danger trip persistence hysteresis enabled : Byte} {s : State}
    (hsetup : s.hpt.phase = .setup) :
    Lawful s (reqSetChannel channel gas zone caution danger trip persistence hysteresis enabled s) := by
  unfold Machine.reqSetChannel
  split
  · split
    · exact .reply ..
    · refine .ite (.replied ?_ ..) (.reply ..)
      refine (Changed.setupChannel rfl rfl).lawful (fun hs hp => (hs hp).2.2.1 _) (fun hs hc => ?_) fun _ h => h
      obtain ⟨-, hsweep, hoff, -⟩ := hs.1 hsetup
      rcases hc with hc | hc | hc
      · exact absurd (hoff _) hc
      · rw [hs.2.1 hsetup] at hc; cases hc
      · rw [hsweep] at hc; cases hc
  · exact .reply ..

theorem Lawful.reqChannelOn (channel : Byte) (s : State) : Lawful s (reqChannelOn channel s) := by
  refine .withChannel fun c => .ite (.reply ..) ?_
  split
  · exact .reply ..
  · next hen =>
    split
    · refine Lawful.replied ((Changed.modifyChannel rfl rfl rfl).lawful (fun hs hp => (hs hp).2.2.1 c) (fun _ _ => rfl)
        fun _ h => h) ..
    · next hrun =>
      refine Lawful.replied ((Changed.changeChannel rfl).lawful (fun _ hp => absurd hp (by rw [hrun]; simp)) (fun _ _ => rfl)
        fun hs h => ?_) ..
      exact absurd (hs.2.2 c (.inl (by rw [h]; simp))) hen

theorem Lawful.dropReading (c : Fin 32) (s : State) : Lawful s (dropReading c s) := by
  unfold Machine.dropReading
  split
  · exact .ite .of_air_same (.refl s)
  all_goals exact .refl s

theorem Lawful.abortConfirm (c : Fin 32) (s : State) : Lawful s (abortConfirm c s) :=
  .ite (.of_air rfl (fun hs hp => ⟨(hs hp).1, rfl⟩) (fun hs hp => hs.2.1 hp)
    fun hs c hc => hs.2.2 c (.inr (hc.imp_right (by simp)))) (.refl s)

/-- The sequencer as the steps before the change of a channel turned off leave it: no confirm sweep of the channel, the channel
off the confirm list, and its real state as it was (R111). -/
theorem beforeTurnOff (c : Fin 32) (s : State) :
    (dropReading c (leaveConfirmList c (abortConfirm c s))).air.sweep ≠ .confirm c
      ∧ c ∉ (dropReading c (leaveConfirmList c (abortConfirm c s))).air.confirmList
      ∧ ((dropReading c (leaveConfirmList c (abortConfirm c s))).channel c).real = (s.channel c).real := by
  have habort : (abortConfirm c s).air.sweep ≠ .confirm c ∧ ((abortConfirm c s).channel c).real = (s.channel c).real := by
    unfold abortConfirm
    split
    · exact ⟨by simp, rfl⟩
    · next h => exact ⟨h, rfl⟩
  have hleave : c ∉ (leaveConfirmList c (abortConfirm c s)).air.confirmList
      ∧ ((leaveConfirmList c (abortConfirm c s)).channel c).real = (s.channel c).real := by
    refine ⟨?_, ?_⟩
    · show c ∉ List.filter _ _
      simp
    · rw [leaveConfirmList, channel_modifyChannel_self]
      exact habort.2
  have hsweep : (leaveConfirmList c (abortConfirm c s)).air.sweep ≠ .confirm c := habort.1
  generalize leaveConfirmList c (abortConfirm c s) = t at hleave hsweep ⊢
  unfold dropReading
  split
  · split
    · exact ⟨hsweep, hleave.1, hleave.2⟩
    · exact ⟨hsweep, hleave.1, hleave.2⟩
  all_goals exact ⟨hsweep, hleave.1, hleave.2⟩

theorem Lawful.turnOff {c : Fin 32} {s : State} (htrip : (s.channel c).real ≠ .trip) : Lawful s (turnOff c s) := by
  obtain ⟨hsweep, hlist, hreal⟩ := beforeTurnOff c s
  have hbefore := ((Lawful.abortConfirm c s).trans (.leaveConfirmList c _)).trans (.dropReading c _)
  unfold Machine.turnOff
  dsimp only
  generalize Machine.dropReading c (Machine.leaveConfirmList c (Machine.abortConfirm c s)) = t at hsweep hlist hreal hbefore ⊢
  have hoff : Lawful t (changeChannel c Channel.turnedOff t) := by
    refine (Changed.changeChannel rfl).lawful (fun _ _ => rfl) (fun _ hc => ?_) fun _ h => absurd (hreal.symm.trans h) htrip
    rcases hc with hc | hc | hc
    · exact absurd rfl hc
    · exact absurd hc hlist
    · exact absurd hc hsweep
  exact .ite ((hbefore.trans hoff).trans (.trans (.modifyChannel rfl rfl rfl rfl) (Aside.endItem ..).tame.lawful))
    (hbefore.trans hoff)

theorem Lawful.reqChannelOff (channel : Byte) (s : State) : Lawful s (reqChannelOff channel s) := by
  refine .withChannel fun c => ?_
  split
  · exact .reply ..
  · next h => exact .ite ((Lawful.turnOff h).replied ..) (.reply ..)

/-! ## SET_ZONE and START (R33, R180) -/

theorem Lawful.reqSetZone {zone kind limit level refuge line : Byte} {s : State} (hsetup : s.hpt.phase = .setup) :
    Lawful s (reqSetZone zone kind limit level refuge line s) := by
  unfold Machine.reqSetZone
  split
  · next z k l r t _ _ _ _ _ =>
    refine .ite (.replied ?_ ..) (.reply ..)
    have hsame : ∀ f : Zone → Zone, (∀ x : Zone, (f x).persons = x.persons ∧ (f x).grants = x.grants ∧ (f x).evac = x.evac
        ∧ (f x).monitored = x.monitored ∧ (f x).reported = x.reported ∧ (f x).real = x.real) → Lawful s (s.modifyZone z f) := by
      intro f hf
      have hz : ∀ w, ((s.modifyZone z f).zone w).persons = (s.zone w).persons ∧ ((s.modifyZone z f).zone w).grants = (s.zone w).grants
          ∧ ((s.modifyZone z f).zone w).evac = (s.zone w).evac ∧ ((s.modifyZone z f).zone w).monitored = (s.zone w).monitored
          ∧ ((s.modifyZone z f).zone w).reported = (s.zone w).reported ∧ ((s.modifyZone z f).zone w).real = (s.zone w).real := by
        intro w
        rw [zone_modifyZone]
        split
        · next h => rw [h]; exact hf _
        · exact ⟨rfl, rfl, rfl, rfl, rfl, rfl⟩
      have hquiet : SetupIsQuiet s → SetupIsQuiet (s.modifyZone z f) := by
        intro hs hp
        obtain ⟨hmode, hsweep, hoff, hreal⟩ := hs hp
        exact ⟨hmode, hsweep, hoff, fun w => by rw [(hz w).2.2.2.2.2]; exact hreal w⟩
      refine ⟨RollStays.keeps ⟨id, fun _ => rfl, fun _ => .refl _, fun w => (hz w).1, fun w => (hz w).2.1, fun w => (hz w).2.2.1,
        fun _ => rfl, fun _ => rfl, rfl⟩, hquiet, fun hq hs l => ?_, fun hs w => ?_, fun hs => ⟨hquiet hs.1, hs.2⟩, fun _ _ h => h⟩
      · have hnone : ∀ u : State, (∀ w, (u.zone w).real ≠ .trip) → u.isTripped l = false := by
          intro u hu
          rw [Bool.eq_false_iff, Ne, isTripped_iff]
          rintro ⟨w, -, h⟩
          exact hu w h
        have hl := hs l
        rw [hnone s (hq hsetup).2.2.2] at hl
        rw [hnone _ (hquiet hq hsetup).2.2.2]
        exact hl
      · exact airAgreesAt_of (s := s) (hz w).2.2.2.2.1 (hz w).2.2.2.2.2 (hz w).2.2.2.1 (derivedAir_of_air rfl ..)
          (derivedAir_of_air rfl ..) (hs w)
    exact hsame _ fun x => ⟨rfl, rfl, rfl, rfl, rfl, rfl⟩
  · exact .reply ..

theorem phase_changeChannel (c : Fin 32) (f : Channel → Channel) (s : State) :
    (changeChannel c f s).hpt.phase = s.hpt.phase := by
  unfold changeChannel
  dsimp only
  split
  · rfl
  · exact (Rejudged.recomputeZone? _ _).phase

/-- A START channel goes to WARMUP where it is enabled (R91). -/
theorem Lawful.warm {c : Fin 32} {s : State} (hrun : s.hpt.phase = .running) (hen : (s.channel c).enabled = true)
    (hoff : (s.channel c).real = .off) : Lawful s (changeChannel c Channel.warming s) :=
  (Changed.changeChannel rfl).lawful (fun _ hp => absurd hp (by rw [hrun]; simp)) (fun _ _ => hen)
    fun _ h => by rw [hoff] at h; cases h

theorem Lawful.warmAll {l : List (Fin 32)} (hl : l.Nodup) {s : State} (hrun : s.hpt.phase = .running)
    (hs : ∀ c ∈ l, (s.channel c).enabled = true ∧ (s.channel c).real = .off) :
    Lawful s (Machine.forEach l (fun c => changeChannel c Channel.warming) s) := by
  induction l generalizing s with
  | nil => exact .refl s
  | cons c l ih =>
    obtain ⟨hc, hl⟩ := List.nodup_cons.1 hl
    obtain ⟨hen, hoff⟩ := hs c List.mem_cons_self
    refine (Lawful.warm hrun hen hoff).trans (ih hl ((phase_changeChannel ..).trans hrun) fun d hd => ?_)
    have hch : Changed c Channel.warming s (changeChannel c Channel.warming s) := .changeChannel rfl
    rw [hch.channel, if_neg (ne_of_mem_of_not_mem hd hc)]
    exact hs d (List.mem_cons_of_mem _ hd)

theorem phase_armTimer (s : State) : (armTimer s).hpt.phase = s.hpt.phase := by
  unfold armTimer setLock
  dsimp only
  split
  · split <;> rfl
  · rfl

theorem Lawful.reqStart (s : State) : Lawful s (reqStart s) := by
  have hphase : Lawful s { s with hpt := { s.hpt with phase := .running } } := by
    refine ⟨RollStays.keeps (.of_eq rfl rfl rfl rfl rfl rfl), fun _ hp => (nomatch hp), fun _ => id, id,
      fun hs => ⟨fun hp => (nomatch hp), fun hp => (nomatch hp), hs.2.2⟩, fun _ _ h => h⟩
  unfold Machine.reqStart
  split
  · exact .reply ..
  · refine .replied (hphase.trans ((Tame.armTimer _).lawful.trans ?_)) ..
    have hrun : (Machine.armTimer { s with hpt := { s.hpt with phase := .running } }).hpt.phase = .running := phase_armTimer _
    generalize Machine.armTimer { s with hpt := { s.hpt with phase := .running } } = t at hrun ⊢
    refine Lawful.trans (t := { t with air := { t.air with
      mode := .scan, enableSet := 0xff, lastGroup := 7, resume := none, onceSet := 0 } })
      (.of_air rfl (fun _ hp => absurd hp (by rw [hrun]; simp)) (fun hs hp => hs.2.1 hp) fun hs c hc => hs.2.2 c (.inr hc)) ?_
    refine .warmAll ((List.nodup_finRange 32).filter _) hrun fun c hc => ?_
    have hc := (List.mem_filter.1 hc).2
    rw [Bool.and_eq_true, beq_iff_eq] at hc
    exact hc

end Sys2Proof.Machine
end

section
/-! Every step keeps the laws: requests, events, and the two ways in which a channel leaves TRIP. -/

namespace Sys2Proof.Machine

open Sys2Proof.Safety

/-- A state as part reset leaves it, but for its pins and the commands that wait. -/
def IsReset (t : State) : Prop := t = { State.reset with resetLow := t.resetLow, hostOut := t.hostOut, pending := t.pending }

/-- A RESET_TRIP that is carried out: the laws but L9 are kept, and the one channel that leaves TRIP is free to (R106). -/
structure Releases (c : Fin 32) (s t : State) : Prop where
  roll : KeepsRoll s t
  quiet : SetupIsQuiet s → SetupIsQuiet t
  lines : LinesAgree s → LinesAgree t
  air : AirAgrees s → AirAgrees t
  enables : EnablesHold s → EnablesHold t
  others : ∀ d, d ≠ c → (t.channel d).real = (s.channel d).real
  normal : (t.channel c).real = .normal
  free : (s.channel c).faultFlag = false ∧ ∃ v, (s.channel c).reading = some v ∧ v < (s.channel c).levels.caution

/-- What a command does to the laws: it keeps them, resets the part, or carries out a RESET_TRIP of a channel in `P`. -/
def Outcome (P : Fin 32 → Prop) (s t : State) : Prop := Lawful s t ∨ IsReset t ∨ ∃ c, P c ∧ Releases c s t

theorem Outcome.mono {P Q : Fin 32 → Prop} {s t : State} (hPQ : ∀ c, P c → Q c) (h : Outcome P s t) : Outcome Q s t :=
  h.imp_right (.imp_right fun ⟨c, hc, h⟩ => ⟨c, hPQ c hc, h⟩)

/-- A change that only the port sees, before an outcome. -/
theorem Outcome.after {P : Fin 32 → Prop} {s u t : State} (hsu : Tame s u) (hair : u.air = s.air) (h : Outcome P u t) :
    Outcome P s t := by
  have hch : ∀ c, u.channel c = s.channel c := fun c => by simp only [State.channel, hair]
  rcases h with h | h | ⟨c, hc, h⟩
  · exact .inl (hsu.lawful.trans h)
  · exact .inr (.inl h)
  · refine .inr (.inr ⟨c, hc, hsu.roll.trans h.roll, h.quiet ∘ hsu.lawful.quiet, fun hs => h.lines ?_, h.air ∘ hsu.lawful.air,
      h.enables ∘ hsu.lawful.enables, fun d hd => ?_, h.normal, ?_⟩)
    · intro line
      rw [hsu.air.lines, hsu.air.isTripped]
      exact hs line
    · rw [h.others d hd, hch]
    · have hfree := h.free
      rwa [hch] at hfree

/-- A pin driven after an outcome. -/
theorem Outcome.driven {P : Fin 32 → Prop} {s t : State} (o : Option Byte) (h : Outcome P s t) :
    Outcome P s { t with hostOut := o } := by
  rcases h with h | h | ⟨c, hc, h⟩
  · exact .inl (h.trans (Tame.of_eq).lawful)
  · refine .inr (.inl ?_)
    unfold IsReset at h ⊢
    rw [h]
  · exact .inr (.inr ⟨c, hc, { h with roll := h.roll.trans (Tame.of_eq).roll }⟩)

/-! ## Requests -/

/-- A phase admits the request: the row of its code says so (R178). -/
def IsAdmitted (i : Instr) (p : Phase) : Prop :=
  ∀ code args row, encodeRequest i = some (code, args) → requestRow? code = some row → admits row.phases p = true

theorem IsAdmitted.phase {i : Instr} {p q : Phase} {code : Byte} {args : List Byte} {n k : Nat} {a : Config.Admission}
    (h : IsAdmitted i p) (he : encodeRequest i = some (code, args)) (hrow : requestRow? code = some ⟨n, k, a⟩)
    (ha : admits a p = (p == q)) : p = q := by
  have := h code args _ he hrow
  rw [ha] at this
  simpa using this

theorem Outcome.reqResetTrip (channel : Byte) (s : State) :
    Outcome (fun c => c.val = channel.toNat) s (reqResetTrip channel s) := by
  unfold Machine.reqResetTrip withChannel
  split
  · exact .inl (.reply ..)
  · next c hc =>
    have hval : c.val = channel.toNat := by
      unfold key? at hc
      split at hc
      · cases hc; rfl
      · cases hc
    dsimp only
    split
    · exact .inl (.reply ..)
    · next hfree =>
      simp only [not_or, not_not, Bool.not_eq_true] at hfree
      obtain ⟨htrip, hflag, hholds⟩ := hfree
      have hch : Changed c (fun r => { r.runCleared with real := .normal, goodCount := 0 }) s
          (changeChannel c (fun r => { r.runCleared with real := .normal, goodCount := 0 }) s) := .changeChannel rfl
      have hoff : SetupIsQuiet s → s.hpt.phase = .setup → ChannelState.normal = .off := fun hs hp => by
        have := (hs hp).2.2.1 c
        rw [htrip] at this
        cases this
      have hdone := Tame.reply .done [] (changeChannel c (fun r => { r.runCleared with real := .normal, goodCount := 0 }) s)
      refine .inr (.inr ⟨c, hval, hch.roll.trans hdone.roll, fun hs => hch.quiet hoff hs, fun hs => hch.lines hs,
        fun hs => hch.agrees hs, fun hs => hch.enables hoff (fun he _ => he.2.2 c (.inl (by rw [htrip]; simp))) hs,
        fun d hd => ?_, ?_, hflag, ?_⟩)
      · show (State.channel (changeChannel c _ s) d).real = _
        rw [hch.channel, if_neg hd]
      · show (State.channel (changeChannel c _ s) c).real = _
        rw [hch.channel, if_pos rfl]
      · unfold Channel.holdsTrip at hholds
        split at hholds
        · next v hv => exact ⟨v, hv, by simpa using hholds⟩
        · cases hholds

/-- A request that is admitted and is not RESET_PART or RESET_TRIP keeps the laws. -/
theorem lawful_carryOut {i : Instr} {s : State} (hadm : IsAdmitted i s.hpt.phase) (hreset : i ≠ .resetPart)
    (htrip : ∀ channel, i ≠ .resetTrip channel) : Lawful s (carryOut i s) := by
  cases i
  case setFrame => exact (Tame.reqSetFrame ..).lawful
  case setWindows => exact (Tame.reqSetWindows ..).lawful
  case setMark => exact (Tame.reqSetMark ..).lawful
  case setCadence => exact (Tame.reqSetCadence ..).lawful
  case readFrame => exact .reply ..
  case setZone => exact .reqSetZone (hadm.phase rfl rfl rfl)
  case setVehicleLimit => exact (Tame.reqSetVehicleLimit ..).lawful
  case readZone => exact (Tame.reqReadZone ..).lawful
  case nextItem => exact (Tame.reqNextItem s).lawful
  case ackItem => exact (Tame.reqAckItem ..).lawful
  case enrol => exact (Tame.reqEnrol ..).lawful
  case retire => exact (Tame.reqRetire ..).lawful
  case setEscort => exact (Tame.reqSetEscort ..).lawful
  case findTag => exact (Tame.reqFindTag ..).lawful
  case readPerson => exact (Tame.reqReadPerson ..).lawful
  case setWalk => exact (Tame.reqSetWalk ..).lawful
  case clearExposure => exact (Tame.reqClearExposure ..).lawful
  case setChannel => exact .reqSetChannel (hadm.phase rfl rfl rfl)
  case setLevels => exact .reqSetLevels ..
  case channelOn => exact .reqChannelOn ..
  case channelOff => exact .reqChannelOff ..
  case airControl => exact .reqAirControl (hadm.phase rfl rfl rfl)
  case testChannel => exact .reqTestChannel ..
  case cancelTest => exact .reqCancelTest ..
  case resetTrip channel => exact absurd rfl (htrip channel)
  case readChannel => exact (Tame.reqReadChannel ..).lawful
  case registerTruck => exact (Tame.reqRegisterTruck ..).lawful
  case retireTruck => exact (Tame.reqRetireTruck ..).lawful
  case forceOrder => exact (Tame.reqForceOrder ..).lawful
  case releaseOrder => exact (Tame.reqReleaseOrder ..).lawful
  case readTruck => exact (Tame.reqReadTruck ..).lawful
  case resume => exact (Tame.of_eq).lawful
  case setRefuge => exact (Tame.reqSetRefuge ..).lawful
  case evacuate => exact (Tame.reqEvacuate ..).lawful
  case lift => exact (Tame.reqLift ..).lawful
  case readRefuge => exact (Tame.reqReadRefuge ..).lawful
  case answer => exact (Tame.reqAnswer ..).lawful
  case endCall => exact (Tame.reqEndCall ..).lawful
  case page => exact (Tame.reqPage ..).lawful
  case cancelPage => exact (Tame.reqCancelPage ..).lawful
  case setDistrict => exact (Tame.reqSetDistrict ..).lawful
  case start => exact .reqStart s
  case resetPart => exact absurd rfl hreset
  case status => exact .reply ..
  case setCursor => exact (Tame.reqSetCursor ..).lawful
  case readNext => exact (Tame.reqReadNext s).lawful
  case clearNotice => exact (Tame.reqClearNotice ..).lawful
  case setNoticeMask => exact (Tame.reqSetNoticeMask ..).lawful
  case readNotice => exact .reply ..
  all_goals exact .refl s

/-- The RESET_TRIP that a decoded request is, of a channel. -/
def IsResetTrip (i : Option Instr) (c : Fin 32) : Prop := ∃ key : Byte, i = some (.resetTrip key) ∧ key.toNat = c.val

theorem outcome_carryOut {i : Instr} {s : State} (hadm : IsAdmitted i s.hpt.phase) :
    Outcome (IsResetTrip (some i)) s (carryOut i s) := by
  by_cases hreset : i = .resetPart
  · subst hreset
    exact .inr (.inl rfl)
  · by_cases htrip : ∃ channel, i = .resetTrip channel
    · obtain ⟨channel, rfl⟩ := htrip
      exact (Outcome.reqResetTrip channel s).mono fun c hc => ⟨channel, rfl, hc.symm⟩
    · exact .inl (lawful_carryOut hadm hreset fun channel h => htrip ⟨channel, h⟩)

/-- A request taken, which is one of its code's (R176 to R178). -/
theorem outcome_takeRequest {code : Byte} {i : Option Instr} {s : State}
    (hi : ∀ j, i = some j → ∃ args, encodeRequest j = some (code, args)) : Outcome (IsResetTrip i) s (takeRequest code i s) := by
  refine Outcome.after (u := heardHost (setRequest .empty s)) .of_eq rfl ?_
  unfold takeRequest
  dsimp only
  split
  · next row j hrow =>
    split
    · next hadm =>
      obtain ⟨args, he⟩ := hi j rfl
      refine outcome_carryOut fun code' args' row' he' hrow' => ?_
      rw [he] at he'
      cases he'
      rw [hrow] at hrow'
      cases hrow'
      exact hadm
    · exact .inl (.reply ..)
  · exact .inl (.reply ..)

/-- A COMPLETE request settled. -/
theorem outcome_settleRequest (s : State) : Outcome (fun c => s.hpt.reply = []
    ∧ ∃ key : Byte, s.hpt.request = .complete 25 [key] ∧ key.toNat = c.val) s (settleRequest s) := by
  unfold settleRequest
  split
  · next code args hb hr =>
    refine (outcome_takeRequest fun j hj => ⟨args, encode_of_decode hj⟩).mono ?_
    rintro c ⟨key, hkey, hc⟩
    have he := encode_of_decode hkey
    cases he
    exact ⟨hr, key, hb, hc⟩
  · exact .inl (.refl s)

theorem outcome_submit {i : Instr} {s : State} : Outcome (fun c => s.hpt.request.isComplete = false ∧ s.hpt.reply = []
    ∧ ∃ key : Byte, i = .resetTrip key ∧ key.toNat = c.val) s (submit i s) := by
  unfold submit
  split
  · exact .inl (.refl s)
  · next code args he =>
    split
    · exact .inl (Tame.of_eq).lawful
    · next hb =>
      split
      · next hr =>
        refine (outcome_takeRequest fun j hj => by cases hj; exact ⟨args, he⟩).mono ?_
        rintro c ⟨key, hkey, hc⟩
        cases hkey
        exact ⟨by simpa using hb, List.isEmpty_iff.1 hr, key, rfl, hc⟩
      · exact .inl (Tame.of_eq).lawful

/-- A buffer of one code with its argument bytes that is a COMPLETE RESET_TRIP. -/
theorem bufferOf_resetTrip {code key : Byte} {args : List Byte} (h : bufferOf code args = .complete 25 [key]) :
    code = 25 ∧ args = [key] := by
  unfold bufferOf at h
  split at h
  · cases h; exact ⟨rfl, rfl⟩
  · cases h

theorem outcome_hostWrite (isCode : Bool) (byte : Byte) (s : State) :
    Outcome (fun c => isCode = false ∧ s.hpt.request = .incomplete 25 [] ∧ s.hpt.reply = [] ∧ byte.toNat = c.val) s
      (hostWrite isCode byte s) := by
  have hcode : ∀ P, Outcome P s (settleRequest (setRequest (bufferOf byte []) s)) := by
    intro P
    refine Outcome.after (u := setRequest (bufferOf byte []) s) .of_eq rfl ((outcome_settleRequest _).mono ?_)
    rintro c ⟨-, key, hkey, -⟩
    obtain ⟨-, h⟩ := bufferOf_resetTrip hkey
    cases h
  unfold hostWrite
  split
  · exact .inl (Tame.of_eq).lawful
  · split
    · exact hcode _
    · exact .inl (Tame.of_eq).lawful
  · next code args hb =>
    split
    · exact hcode _
    · next hc =>
      refine Outcome.after (u := setRequest (bufferOf code (args ++ [byte])) s) .of_eq rfl ((outcome_settleRequest _).mono ?_)
      rintro c ⟨hr, key, hkey, hval⟩
      obtain ⟨rfl, h⟩ := bufferOf_resetTrip hkey
      obtain ⟨rfl, h'⟩ : args = [] ∧ byte = key := by
        cases args with
        | nil => simpa using h
        | cons a l => simp at h
      exact ⟨by simpa using hc, hb, hr, h' ▸ hval⟩

theorem outcome_readReply (s : State) : Outcome (fun c => s.hpt.reply ≠ [] ∧ s.hpt.reply.length ≤ s.hpt.readPos + 1
    ∧ ∃ key : Byte, s.hpt.request = .complete 25 [key] ∧ key.toNat = c.val) s (readReply s) := by
  refine .driven _ ?_
  unfold advanceReply
  split
  · exact .inl (.refl s)
  · next hne =>
    split
    · exact .inl (Tame.of_eq).lawful
    · next hlast =>
      refine Outcome.after (u := { s with hpt := { s.hpt with reply := [], readPos := 0 } }) .of_eq rfl
        ((outcome_settleRequest _).mono ?_)
      rintro c ⟨-, hkey⟩
      exact ⟨fun h => hne (by rw [h]; rfl), by omega, hkey⟩

/-! ## Commands -/

/-- The events of the last slot strobe taken keep the laws. -/
theorem Lawful.takeHanded (s : State) : Lawful s (takeHanded s) := by
  unfold Machine.takeHanded
  have hbefore := (((((((((Tame.takeWalk s).trans (.takeEscort _)).trans (.takeExposure _)).trans (.takePanel _)).trans
    (.takeRound _)).trans (.takeUsable _)).trans (.takeCallWait _)).trans (.takePollFlags _)).trans (.takeSilence _)).trans
    (.takeLimits _)
  exact (hbefore.lawful.trans (.takeSweep _)).trans (((Tame.takePoll _).trans (.takeHold _)).trans (.takeCheck _)).lawful

theorem Lawful.strobe (s : State) : Lawful s (strobe s) := by
  unfold Machine.strobe
  split
  · exact .refl s
  · exact (Tame.strobeArmed s).lawful
  · exact (Lawful.takeHanded s).trans (Tame.strobeCounting _).lawful

/-- The RESET_TRIP that a command takes at a port whose reset line is high. -/
def Takes (i : Instr) (s : State) (c : Fin 32) : Prop :=
  s.resetLow = false ∧ ∃ key : Byte, key.toNat = c.val
    ∧ ((i = .resetTrip key ∧ s.hpt.request.isComplete = false ∧ s.hpt.reply = [])
      ∨ (i = .hostPortWrite false key ∧ s.hpt.request = .incomplete 25 [] ∧ s.hpt.reply = [])
      ∨ (i = .replyRead ∧ s.hpt.request = .complete 25 [key] ∧ s.hpt.reply ≠ [] ∧ s.hpt.reply.length ≤ s.hpt.readPos + 1))

/-- A command's effect that does not come about while the reset line is low. -/
theorem outcome_unlessReset {P Q : Fin 32 → Prop} {f : State → State} {s : State} (h : Outcome P s (f s))
    (hPQ : s.resetLow = false → ∀ c, P c → Q c) : Outcome Q s (unlessReset f s) := by
  unfold unlessReset
  split
  · exact .inl (.refl s)
  · next hs => exact h.mono (hPQ (by simpa using hs))

theorem lawful_unlessReset {f : State → State} {s : State} (h : Lawful s (f s)) : Lawful s (unlessReset f s) :=
  .ite (.refl s) h

theorem isReset_partReset (s : State) (b : Bool) : IsReset { partReset s with resetLow := b } := rfl

/-- Every command keeps the laws, resets the part, or takes a RESET_TRIP. -/
theorem outcome_exec {i : Instr} {s t : State} (h : exec i s = .next t) : Outcome (Takes i s) s t := by
  by_cases hrequest : ∃ code args, encodeRequest i = some (code, args)
  · obtain ⟨code, args, he⟩ := hrequest
    rw [exec_request he] at h
    cases h
    exact outcome_unlessReset outcome_submit fun hs c ⟨hb, hr, key, hi, hc⟩ => ⟨hs, key, hc, .inl ⟨hi, hb, hr⟩⟩
  · have hevent : ∀ f : State → State, exec i s = .next (unlessReset f s) → Lawful s (f s) → Outcome (Takes i s) s t := by
      intro f hf hl
      rw [hf] at h
      cases h
      exact .inl (lawful_unlessReset hl)
    cases i
    case powerOn => cases h; exact .inr (.inl rfl)
    case resetLine => cases h; exact .inr (.inl rfl)
    case resetRelease => cases h; exact .inl (Tame.of_eq).lawful
    case hostPortWrite isCode byte =>
      cases h
      refine outcome_unlessReset (outcome_hostWrite isCode byte s) fun hs c ⟨hc, hb, hr, hval⟩ => ?_
      subst hc
      exact ⟨hs, byte, hval, .inr (.inl ⟨rfl, hb, hr⟩)⟩
    case unknownRequestCode code =>
      cases h
      refine outcome_unlessReset (outcome_hostWrite true code s) fun hs c ⟨hc, _⟩ => ?_
      cases hc
    case replyRead =>
      cases h
      exact outcome_unlessReset (outcome_readReply s)
        fun hs c ⟨hr, hlast, key, hb, hval⟩ => ⟨hs, key, hval, .inr (.inr ⟨rfl, hb, hr, hlast⟩)⟩
    case statusByteRead => exact hevent readStatus rfl (Tame.of_eq).lawful
    case slotStrobe => exact hevent strobe rfl (.strobe s)
    case framePulse => exact hevent pulse rfl (Tame.pulse s).lawful
    case agingWalk => exact hevent takeWalk rfl (Tame.takeWalk s).lawful
    case agingStateChange j => exact hevent (judgeAging j) rfl (Tame.judgeAging j s).lawful
    case escortLimitJudgement => exact hevent takeEscort rfl (Tame.takeEscort s).lawful
    case exposureCount => exact hevent takeExposure rfl (Tame.takeExposure s).lawful
    case exposureLimitReached j => exact hevent (judgeExposure j) rfl (Aside.judgeExposure j s).tame.lawful
    case panelSilence => exact hevent takePanel rfl (Tame.takePanel s).lawful
    case alertRoundStart => exact hevent takeRound rfl (Tame.takeRound s).lawful
    case callWaitJudgement => exact hevent takeCallWait rfl (Tame.takeCallWait s).lawful
    case pollFlagRenewal => exact hevent takePollFlags rfl (Tame.takePollFlags s).lawful
    case silenceCount => exact hevent takeSilence rfl (Tame.takeSilence s).lawful
    case enterAlone => exact hevent judgeAlone rfl (Tame.judgeAlone s).lawful
    case vehicleLimitApply => exact hevent takeLimits rfl (Tame.takeLimits s).lawful
    case usableChannelCount => exact hevent takeUsable rfl (Tame.takeUsable s).lawful
    case sweepStart => exact hevent takeSweep rfl (.takeSweep s)
    case conversionCompletion count abandoned =>
      exact hevent (fun s => if abandoned then s else completeTurn count s) rfl (.ite (.refl s) (.completeTurn count s))
    case warmupEnd c => exact hevent (judgeWarmup c) rfl (.judgeWarmup c s)
    case faultClear c => exact hevent (judgeFaultClear c) rfl (.judgeFaultClear c s)
    case runStateChange c => exact hevent (judgeRun c) rfl (.judgeRun c s)
    case testExpiry c => exact hevent (judgeTest c) rfl (.judgeTest c s)
    case fieldArrival bytes => exact hevent (arriveMessage bytes) rfl (Tame.arriveMessage bytes s).lawful
    case messageTaking => exact hevent takeMessage rfl (Tame.takeMessage s).lawful
    case poll => exact hevent takePoll rfl (Tame.takePoll s).lawful
    case linkLapse number => exact hevent (judgeLapse number.toNat) rfl (Aside.judgeLapse _ s).tame.lawful
    case channelHold => exact hevent takeHold rfl (Tame.takeHold s).lawful
    case holdingSlotCheck => exact hevent takeCheck rfl (Tame.takeCheck s).lawful
    case fetch => exact hevent fetchHeld rfl (Tame.fetchHeld s).lawful
    all_goals exact absurd ⟨_, _, rfl⟩ hrequest

/-- Every step keeps the laws, resets the part, or takes a RESET_TRIP. -/
theorem outcome_step {s t : State} (h : step s = .next t) : Outcome (fun c => TakesResetTrip c s) s t := by
  unfold step at h
  split at h
  · cases h; exact .inl (.refl s)
  · next i rest hp =>
    refine Outcome.after (u := { s with pending := rest }) .of_eq rfl ((outcome_exec h).mono ?_)
    rintro c ⟨hlow, key, hval, hcases⟩
    exact ⟨hlow, i, rest, key, hp, hval, hcases⟩

/-! ## The laws at reset -/

/-- The laws hold in a state as part reset leaves it. -/
theorem laws_of_isReset {t : State} (h : IsReset t) : QueueHolds t.atq ∧ LinesAgree t ∧ SetupIsQuiet t ∧ ChannelsAgree t
    ∧ CountsAgree t ∧ OccupanciesAgree t ∧ GrantsHold t ∧ AirAgrees t ∧ EnablesHold t ∧ AlertsHold t := by
  unfold IsReset at h
  have hzone : ∀ z, t.zone z = Zone.reset := fun z => by
    rw [h, State.zone]; exact Vector.getElem_replicate z.isLt
  have hline : ∀ l : Fin 8, t.znt.lines[l] = false := fun l => by
    rw [h]; exact Vector.getElem_replicate l.isLt
  have hslot : ∀ i, t.person i = none := fun i => by
    rw [h]; exact congrArg Slot.person (Vector.getElem_replicate i.isLt)
  have hchannel : ∀ c, t.channel c = Channel.reset := fun c => by
    rw [h]; exact Vector.getElem_replicate c.isLt
  have htruck : ∀ p, t.truckAt p = none := fun p => by
    rw [h]; exact Vector.getElem_replicate p.isLt
  have hrefuge : ∀ r, t.refuge r = Refuge.reset := fun r => by
    rw [h]; exact Vector.getElem_replicate r.isLt
  have hcall : ∀ c : Fin 4, t.cal.channels[c] = none := fun c => by
    rw [h]; exact Vector.getElem_replicate c.isLt
  have hair : t.air = AirSequencer.reset := by rw [h]; rfl
  have hatq : t.atq = AttentionQueue.reset := by rw [h]; rfl
  have hquiet : SetupIsQuiet t := fun _ => by
    refine ⟨by rw [hair]; rfl, by rw [hair]; rfl, fun c => by rw [hchannel]; rfl, fun z => by rw [hzone]; simp [Zone.reset]⟩
  refine ⟨?_, fun l => ?_, hquiet, ⟨fun c k hk => ?_, fun i p hp => ?_⟩, fun z => ?_, fun r => ?_, ⟨?_, ?_, ?_, ?_, ?_⟩,
    fun z => ?_, ⟨hquiet, fun _ => by rw [hair]; rfl, fun c hc => ?_⟩, fun i p hp => ?_⟩
  · rw [hatq]
    exact ⟨Nat.zero_le _, List.Pairwise.nil, by simp [AttentionQueue.reset]⟩
  · rw [hline, eq_comm, Bool.eq_false_iff, Ne, isTripped_iff]
    rintro ⟨z, -, hz⟩
    rw [hzone] at hz
    cases hz
  · rw [hcall] at hk; cases hk
  · rw [hslot] at hp; cases hp
  · have hnone : ∀ i ∈ allSlots, ¬ t.isCountedIn z i = true := fun i _ => by simp [State.isCountedIn, hslot]
    rw [hzone, List.filter_eq_nil_iff.mpr hnone]
    rfl
  · have hnone : ∀ i ∈ allSlots, ¬ isMusteredAt t r i = true := fun i _ => by simp [isMusteredAt, hslot]
    rw [hrefuge, List.filter_eq_nil_iff.mpr hnone]
    rfl
  · intro p q a b ha; rw [htruck] at ha; cases ha
  · intro p a ha; rw [htruck] at ha; cases ha
  · intro z; rw [hzone]; exact List.Pairwise.nil
  · intro z n hn; rw [hzone] at hn; cases hn
  · intro p a z ha; rw [htruck] at ha; cases ha
  · rw [State.reportedAir, State.realAir, hzone]
    exact ⟨rfl, rfl⟩
  · rw [hchannel, hair] at hc
    rcases hc with hc | hc | hc
    · exact absurd rfl hc
    · cases hc
    · cases hc
  · rw [hslot] at hp; cases hp

/-! ## The four laws of the steps -/

theorem keepsRoll_of_outcome {P : Fin 32 → Prop} {s t : State} (h : Outcome P s t) : KeepsRoll s t := by
  rcases h with h | h | ⟨c, -, h⟩
  · exact h.roll
  · obtain ⟨hqueue, -, -, hcalls, hcounts, hocc, hgrants, -, -, halerts⟩ := laws_of_isReset h
    exact ⟨fun _ => hqueue, fun _ => hcounts, fun _ => hocc, fun _ => hgrants, fun _ => hcalls, fun _ => halerts⟩
  · exact h.roll

/-- Settles O31: no step breaks L7. -/
theorem attentionLawIsKept : Obligations.AttentionLawIsKept := fun _ _ hs h => (keepsRoll_of_outcome (outcome_step h)).queue hs

/-- Settles O54: no step breaks L11. -/
theorem callLawIsKept : Obligations.CallLawIsKept := fun _ _ hs h => (keepsRoll_of_outcome (outcome_step h)).calls hs

/-- Settles O44: no step breaks L12 or the quiet of SETUP. -/
theorem tripLineLawIsKept : Obligations.TripLineLawIsKept := by
  intro s t hlines hquiet h
  rcases outcome_step h with h | h | ⟨c, -, h⟩
  · exact ⟨h.lines hquiet hlines, h.quiet hquiet⟩
  · obtain ⟨-, hl, hq, -⟩ := laws_of_isReset h
    exact ⟨hl, hq⟩
  · exact ⟨h.lines hlines, h.quiet hquiet⟩

/-- A step from a state that has what L9 needs leaves a channel in TRIP there, but for a reset and a RESET_TRIP. -/
theorem tripsStay_step {s t : State} (h : step s = .next t) (hs : EnablesHold s) : TripsStay s t := by
  intro c hc
  rcases outcome_step h with h | h | ⟨d, htakes, h⟩
  · exact .inl (h.trips hs c hc)
  · exact .inr (.inl h)
  · by_cases hcd : c = d
    · subst hcd
      exact .inr (.inr ⟨htakes, h.normal, h.free⟩)
    · exact .inl ((h.others c hcd).trans hc)

/-- Settles O32: the laws hold at reset, and every step keeps them. -/
theorem lawsHoldAtReset : Obligations.LawsHoldAtReset := by
  obtain ⟨hqueue, hlines, hquiet, hcalls, hcounts, hocc, hgrants, hair, henables, halerts⟩ :=
    laws_of_isReset (t := State.reset) rfl
  refine ⟨hqueue, hlines, hquiet, hcalls, hcounts, hocc, hgrants, hair, henables, halerts, fun s t h => ?_⟩
  have hroll := keepsRoll_of_outcome (outcome_step h)
  refine ⟨hroll.counts, hroll.occupancies, hroll.grants, fun hs => ?_, fun hs => ⟨?_, tripsStay_step h hs⟩, hroll.alerts⟩
  · rcases outcome_step h with h | h | ⟨c, -, h⟩
    · exact h.air hs
    · exact (laws_of_isReset h).2.2.2.2.2.2.2.1
    · exact h.air hs
  · rcases outcome_step h with h | h | ⟨c, -, h⟩
    · exact h.enables hs
    · exact (laws_of_isReset h).2.2.2.2.2.2.2.2.1
    · exact h.enables hs

end Sys2Proof.Machine
end

section
/-! Operands as the requests send them (R185, R186): which byte names which value, and the requests that write one setting. -/

namespace Sys2Proof.Machine

open Sys2Proof.Safety (Ready answered taken)

/-! ## Bytes and values -/

/-- A byte is the byte of a number exactly where it has its value. -/
theorem eq_byteOf_iff {b : Byte} {n : Nat} (hn : n < 256) : byteOf n = b ↔ b.toNat = n := by
  rw [byteOf, ← BitVec.toNat_inj, BitVec.toNat_ofNat, Nat.mod_eq_of_lt hn, eq_comm]

theorem byteOf_toNat (b : Byte) : byteOf b.toNat = b := (eq_byteOf_iff b.isLt).2 rfl

theorem key?_eq_some_iff {n : Nat} {b : Byte} {k : Fin n} : key? n b = some k ↔ k.val = b.toNat := by
  unfold key?
  split
  · rw [Option.some_inj, Fin.ext_iff, eq_comm]
  · next h =>
    have : k.val ≠ b.toNat := fun hk => h (hk ▸ k.isLt)
    simpa using this

theorem key?_eq_none_iff {n : Nat} {b : Byte} : key? n b = none ↔ n ≤ b.toNat := by
  unfold key?
  split <;> simp <;> omega

/-- An optional key of a table of fewer than 256 members is sent as its byte, and 255 stands for its absence. -/
theorem optionalKey?_eq_some_iff {n : Nat} (hn : n < 256) {b : Byte} {o : Option (Fin n)} :
    optionalKey? n b = some o ↔ optionalKey o = b := by
  unfold optionalKey?
  cases o with
  | none =>
    have habsent : optionalKey (none : Option (Fin n)) = 255 := rfl
    rw [habsent]
    split
    · next h => exact ⟨fun _ => h.symm, fun _ => rfl⟩
    · next h => exact ⟨fun hk => (by simp at hk), fun hb => absurd hb.symm h⟩
  | some k =>
    have hsent : optionalKey (some k) = byteOf k.val := rfl
    rw [hsent, eq_byteOf_iff (by omega)]
    split
    · next h =>
      subst h
      have : (255 : Byte).toNat ≠ k.val := by show 255 ≠ k.val; omega
      exact ⟨fun hk => (by cases hk), fun hk => absurd hk this⟩
    · rw [Option.map_eq_some_iff]
      simp only [Option.some_inj, exists_eq_right, key?_eq_some_iff]
      exact eq_comm

theorem optionalKey?_eq_none_iff {n : Nat} {b : Byte} : optionalKey? n b = none ↔ b ≠ 255 ∧ n ≤ b.toNat := by
  unfold optionalKey?
  split
  · next h => exact ⟨fun hb => (by cases hb), fun hb => absurd h hb.1⟩
  · next h => rw [Option.map_eq_none_iff, key?_eq_none_iff, and_iff_right h]

theorem within_eq_true_iff {lo hi n : Nat} : within lo hi n = true ↔ lo ≤ n ∧ n ≤ hi := decide_eq_true_iff

theorem SyncMode.ofByte?_eq_some_iff {b : Byte} {x : SyncMode} : SyncMode.ofByte? b = some x ↔ x.code = b := by
  constructor
  · intro h
    unfold SyncMode.ofByte? at h
    split at h
    all_goals cases h
    all_goals next hb => exact (code_eq hb).symm
  · rintro rfl
    cases x <;> rfl

theorem SyncMode.ofByte?_eq_none_iff {b : Byte} : SyncMode.ofByte? b = none ↔ 2 ≤ b.toNat := by
  unfold SyncMode.ofByte?
  split
  all_goals simp only [reduceCtorEq, false_iff, true_iff, imp_false] at *
  all_goals omega

theorem ZoneKind.ofByte?_eq_some_iff {b : Byte} {x : ZoneKind} : ZoneKind.ofByte? b = some x ↔ x.code = b := by
  constructor
  · intro h
    unfold ZoneKind.ofByte? at h
    split at h
    all_goals cases h
    all_goals next hb => exact (code_eq hb).symm
  · rintro rfl
    cases x <;> rfl

theorem ZoneKind.ofByte?_eq_none_iff {b : Byte} : ZoneKind.ofByte? b = none ↔ 4 ≤ b.toNat := by
  unfold ZoneKind.ofByte?
  split
  all_goals simp only [reduceCtorEq, false_iff, true_iff, imp_false] at *
  all_goals omega

theorem ExposureMode.ofByte?_eq_some_iff {b : Byte} {x : ExposureMode} : ExposureMode.ofByte? b = some x ↔ x.code = b := by
  constructor
  · intro h
    unfold ExposureMode.ofByte? at h
    split at h
    all_goals cases h
    all_goals next hb => exact (code_eq hb).symm
  · rintro rfl
    cases x <;> rfl

theorem ExposureMode.ofByte?_eq_none_iff {b : Byte} : ExposureMode.ofByte? b = none ↔ 2 ≤ b.toNat := by
  unfold ExposureMode.ofByte?
  split
  all_goals simp only [reduceCtorEq, false_iff, true_iff, imp_false] at *
  all_goals omega

theorem AirState.ofByte?_eq_some_iff {b : Byte} {x : AirState} : AirState.ofByte? b = some x ↔ x.code = b := by
  constructor
  · intro h
    unfold AirState.ofByte? at h
    split at h
    all_goals cases h
    all_goals next hb => exact (code_eq hb).symm
  · rintro rfl
    cases x <;> rfl

theorem AirState.ofByte?_eq_none_iff {b : Byte} : AirState.ofByte? b = none ↔ 5 ≤ b.toNat := by
  unfold AirState.ofByte?
  split
  all_goals simp only [reduceCtorEq, false_iff, true_iff, imp_false] at *
  all_goals omega


end Sys2Proof.Machine
end

section
/-! The requests that write settings: the frame's shape, windows, mark, cadence, walk, cursor, notices, vehicle limits, and the
setup of zones, refuges and the district. -/

namespace Sys2Proof.Machine

open Sys2Proof.Safety (Ready answered taken)

/-! ## SET_FRAME and SET_WINDOWS (R10, R11) -/

/-- The arguments of SET_FRAME are in range (R10). -/
def FrameFits (total : Nat) (w : Windows) (sync : Byte) (s : State) : Prop :=
  (64 ≤ total ∧ total ≤ 1024) ∧ w.areInRange = true ∧ s.markFits total = true ∧ sync.toNat ≤ 1

theorem markFits_eq_true_iff (s : State) (total : Nat) :
    s.markFits total = true ↔ ∀ m, s.frt.markSlot = some m → m < total := by
  unfold State.markFits
  cases s.frt.markSlot <;> simp

theorem areInRange_eq_true_iff (w : Windows) : w.areInRange = true ↔ w.tagEnd ≤ 1024 ∧ w.haulStart ≤ 1024 ∧ w.haulEnd ≤ 1024
    ∧ w.callStart ≤ 1024 ∧ w.callEnd ≤ 1024 := decide_eq_true_iff

theorem frameFits_iff {total : Nat} {w : Windows} {sync : Byte} {s : State} : FrameFits total w sync s ↔
    ¬ (total < 64 ∨ 1024 < total ∨ 1024 < w.tagEnd ∨ 1024 < w.haulStart ∨ 1024 < w.haulEnd ∨ 1024 < w.callStart
      ∨ 1024 < w.callEnd ∨ 1 < sync.toNat ∨ ∃ m, s.frt.markSlot = some m ∧ total ≤ m) := by
  unfold FrameFits
  rw [markFits_eq_true_iff, areInRange_eq_true_iff]
  simp only [not_or, not_exists, not_and, Nat.not_lt, Nat.not_le]
  tauto

theorem reqSetFrame_refused {total tagEnd haulStart haulEnd callStart callEnd : Word16} {sync : Byte} {s : State}
    (h : ¬ FrameFits total.toNat (windowsOf tagEnd haulStart haulEnd callStart callEnd) sync s) :
    reqSetFrame total tagEnd haulStart haulEnd callStart callEnd sync s = s.refuse .badArgument := by
  unfold reqSetFrame
  dsimp only
  split
  · rfl
  · next m hm =>
    have hsync : sync.toNat ≤ 1 := by
      have hsome : SyncMode.ofByte? sync ≠ none := by rw [hm]; exact Option.some_ne_none m
      rw [Ne, SyncMode.ofByte?_eq_none_iff] at hsome
      omega
    refine if_neg fun hin => h ?_
    simp only [Bool.and_eq_true, within_eq_true_iff] at hin
    obtain ⟨⟨htotal, hrange⟩, hmark⟩ := hin
    exact ⟨htotal, hrange, hmark, hsync⟩

theorem reqSetFrame_written {total tagEnd haulStart haulEnd callStart callEnd : Word16} {sync : Byte} {s : State}
    (h : FrameFits total.toNat (windowsOf tagEnd haulStart haulEnd callStart callEnd) sync s) :
    reqSetFrame total tagEnd haulStart haulEnd callStart callEnd sync s =
      (writeWindows (windowsOf tagEnd haulStart haulEnd callStart callEnd) { s with frt := { s.frt with
        total := total.toNat, sync := if sync = 0 then .free else .pulsed } }).done := by
  obtain ⟨htotal, hrange, hmark, hsync⟩ := h
  have hmode : SyncMode.ofByte? sync = some (if sync = 0 then .free else .pulsed) := by
    rw [SyncMode.ofByte?_eq_some_iff]
    split
    · next h0 => exact h0.symm
    · next h0 =>
      have hne : sync.toNat ≠ 0 := fun h => h0 (BitVec.eq_of_toNat_eq h)
      exact (code_eq (by omega : sync.toNat = 1)).symm
  have hin : (within 64 1024 total.toNat && (windowsOf tagEnd haulStart haulEnd callStart callEnd).areInRange
      && s.markFits total.toNat) = true := by
    rw [hrange, hmark, within_eq_true_iff.2 htotal]; rfl
  simp only [reqSetFrame, hmode, hin, if_true]

theorem reqSetWindows_refused {tagEnd haulStart haulEnd callStart callEnd : Word16} {s : State}
    (h : ¬ (windowsOf tagEnd haulStart haulEnd callStart callEnd).areOrdered s.frt.total = true) :
    reqSetWindows tagEnd haulStart haulEnd callStart callEnd s = s.refuse .badArgument := if_neg h

/-- Settles O11: each request writes exactly where its bounds hold. -/
theorem frameRequestsWriteTheWindows : Obligations.FrameRequestsWriteTheWindows := by
  intro total tagEnd haulStart haulEnd callStart callEnd sync s hr w badFrame ordered
  have hwindows : exec (.setWindows tagEnd haulStart haulEnd callStart callEnd) s =
      .next (reqSetWindows tagEnd haulStart haulEnd callStart callEnd (taken s)) := exec_admitted hr rfl rfl rfl
  have hordered : ordered ↔ (windowsOf tagEnd haulStart haulEnd callStart callEnd).areOrdered (taken s).frt.total = true :=
    decide_eq_true_iff.symm
  refine ⟨fun hsetup => ?_, fun h => ?_, fun h ht => ?_, fun h ht => ?_⟩
  · have hframe : exec (.setFrame total tagEnd haulStart haulEnd callStart callEnd sync) s =
        .next (reqSetFrame total tagEnd haulStart haulEnd callStart callEnd sync (taken s)) :=
      exec_admitted hr rfl rfl (by rw [hsetup]; rfl)
    rw [hframe]
    refine ⟨fun hbad => ?_, fun hgood => ?_⟩
    · rw [reqSetFrame_refused (s := taken s) fun hfits => frameFits_iff.1 hfits hbad, refuse_taken]
    · rw [reqSetFrame_written (s := taken s) (frameFits_iff.2 hgood)]
      rfl
  · rw [hwindows, reqSetWindows_refused (mt hordered.2 h), refuse_taken]
  · have hstopped : (taken s).frt.timer = .stopped := ht
    rw [hwindows, reqSetWindows]
    dsimp only
    rw [if_pos (hordered.1 h), hstopped]
    rfl
  · rw [hwindows, reqSetWindows]
    dsimp only
    rw [if_pos (hordered.1 h)]
    split
    · next hstopped => exact absurd hstopped ht
    · rfl
    · rfl

/-! ## A notice byte with bit 7 (R182, R185) -/

/-- The part after a reset, with its reply read. -/
def readyPart : State := { State.reset with hpt := { State.reset.hpt with reply := [] } }

theorem ready_readyPart : Ready readyPart := ⟨rfl, rfl, rfl⟩

/-- A byte with a bit for no member names the empty notice set: in `NoticeSet.ofByte?` the word `none` is `NoticeSet.none`. -/
theorem noticeSet_ofByte?_bit7 : NoticeSet.ofByte? 0x80 = some NoticeSet.none := rfl

/-- CLEAR_NOTICE of a byte with bit 7 is carried out, as the clearing of no notice. -/
theorem exec_clearNotice_bit7 : exec (.clearNotice 0x80) readyPart = .next (answered .done [] readyPart) := by
  rw [exec_admitted ready_readyPart rfl rfl rfl]
  rfl

/-- Refutes O12: CLEAR_NOTICE of the byte 0x80, whose bit 7 is no notice, answers DONE and not BAD_ARGUMENT. -/
theorem not_settingRequestsWriteTheirSettings : ¬ Obligations.SettingRequestsWriteTheirSettings := by
  intro h
  obtain ⟨-, -, -, -, -, -, -, -, -, -, hbit7, -⟩ := h 0 0 0 0 0 0 0 0x80 readyPart ready_readyPart
  obtain ⟨hclear, -⟩ := hbit7 rfl
  rw [exec_clearNotice_bit7] at hclear
  exact absurd (congrArg (fun o => match o with | .next t => t.hpt.reply | _ => []) hclear) (by decide)

/-! ## Vehicle limits (R31, R32) -/

theorem zone_applyLimits (z : Fin 32) (s : State) : (applyLimits s).zone z = (s.zone z).withLimitApplied :=
  Vector.getElem_map ..

theorem withLimitApplied_eq (r : Zone) :
    r.withLimitApplied = { r with limit := r.pendingLimit.getD r.limit, pendingLimit := none } := by
  unfold Zone.withLimitApplied
  split
  · next n hn => rw [hn]; rfl
  · next hn => rw [hn, Option.getD_none, ← hn]

theorem reqSetVehicleLimit_refused {zone limit : Byte} {s : State} (h : 32 ≤ zone.toNat ∨ 4 < limit.toNat) :
    reqSetVehicleLimit zone limit s = s.refuse .badArgument := by
  unfold reqSetVehicleLimit
  split
  · rfl
  · next z hz =>
    have hzone : z.val = zone.toNat := key?_eq_some_iff.1 hz
    exact if_neg fun hin => by have := within_eq_true_iff.1 hin; omega

/-- Settles O34: the request by its checks, and the frame start record by record. -/
theorem vehicleLimitWaitsForTheFrameStart : Obligations.VehicleLimitWaitsForTheFrameStart := by
  intro zone limit s
  have hreq : Ready s → exec (.setVehicleLimit zone limit) s = .next (reqSetVehicleLimit zone limit (taken s)) :=
    fun hr => exec_admitted hr rfl rfl rfl
  have happly : s.resetLow = false → exec .vehicleLimitApply s = .next (takeLimits s) :=
    fun hs => congrArg _ (unlessReset_high hs _)
  refine ⟨fun hr h => ?_, fun hr z hz hl => ?_, fun hs hh => ?_, fun hs hh => ?_⟩
  · rw [hreq hr, reqSetVehicleLimit_refused h, refuse_taken]
  · have hkey : key? 32 zone = some z := key?_eq_some_iff.2 hz
    have hin : within 0 4 limit.toNat = true := within_eq_true_iff.2 ⟨Nat.zero_le _, hl⟩
    refine ⟨fun hp => ?_, fun hp => ?_⟩
    all_goals
      have hphase : (taken s).hpt.phase = _ := hp
      simp only [hreq hr, reqSetVehicleLimit, hkey, hin, if_true, hphase]
      rfl
  · rw [happly hs, takeLimits, hh, if_neg Bool.false_ne_true]
  · refine ⟨_, happly hs, ?_⟩
    rw [takeLimits, if_pos hh]
    exact ⟨rfl, fun z => (zone_applyLimits z _).trans (withLimitApplied_eq _)⟩

/-! ## Setup (R33, R148, R179) -/

theorem autoLevel?_some {b : Byte} {l : AirState} (h : autoLevel? b = some l) : b = 2 ∨ b = 3 := by
  unfold autoLevel? at h
  split at h
  · next hb => exact .inl (AirState.ofByte?_eq_some_iff.1 hb).symm
  · next hb => exact .inr (AirState.ofByte?_eq_some_iff.1 hb).symm
  all_goals cases h

/-- The auto-evacuation level of one of its two bytes. -/
theorem autoLevel?_of {b : Byte} (h : b = 2 ∨ b = 3) : autoLevel? b = some (if b = 2 then .danger else .trip) := by
  rcases h with rfl | rfl <;> rfl

theorem optionalKey?_fits {n : Nat} {b : Byte} {o : Option (Fin n)} (h : optionalKey? n b = some o) : b.toNat < n ∨ b = 255 := by
  by_contra hout
  have hnone : optionalKey? n b = none := optionalKey?_eq_none_iff.2 ⟨fun h => hout (.inr h), by omega⟩
  rw [hnone] at h
  cases h

theorem reqSetZone_refused {zone kind limit level refuge line : Byte} {s : State}
    (h : ¬ (zone.toNat < 32 ∧ kind.toNat < 4 ∧ limit.toNat ≤ 4 ∧ (level = 2 ∨ level = 3)
      ∧ (refuge.toNat < 8 ∨ refuge = 255) ∧ (line.toNat < 8 ∨ line = 255))) :
    reqSetZone zone kind limit level refuge line s = s.refuse .badArgument := by
  unfold reqSetZone
  split
  · next z k l r t hz hk hl hr ht =>
    refine if_neg fun hin => h ⟨?_, ?_, (within_eq_true_iff.1 hin).2, autoLevel?_some hl, optionalKey?_fits hr,
      optionalKey?_fits ht⟩
    · exact key?_eq_some_iff.1 hz ▸ z.isLt
    · by_contra hout
      rw [ZoneKind.ofByte?_eq_none_iff.2 (by omega)] at hk
      cases hk
  · rfl

theorem reqSetZone_written {zone kind limit level refuge line : Byte} {s : State} {z : Fin 32} {k : ZoneKind}
    {r t : Option (Fin 8)} (hz : z.val = zone.toNat) (hk : k.code = kind) (hlimit : limit.toNat ≤ 4)
    (hlevel : level = 2 ∨ level = 3) (hr : optionalKey r = refuge) (ht : optionalKey t = line) :
    reqSetZone zone kind limit level refuge line s = (s.modifyZone z (fun x => { x with
      configured := true, kind := k, limit := limit.toNat, pendingLimit := none,
      autoLevel := if level = 2 then .danger else .trip, refuge := r, tripLine := t })).done := by
  simp only [reqSetZone, key?_eq_some_iff.2 hz, ZoneKind.ofByte?_eq_some_iff.2 hk, autoLevel?_of hlevel,
    (optionalKey?_eq_some_iff (by decide)).2 hr, (optionalKey?_eq_some_iff (by decide)).2 ht,
    within_eq_true_iff.2 ⟨Nat.zero_le _, hlimit⟩, if_true]

theorem reqSetRefuge_refused {refuge zone capacity : Byte} {s : State}
    (h : ¬ (refuge.toNat < 8 ∧ zone.toNat < 32 ∧ 1 ≤ capacity.toNat ∧ capacity.toNat ≤ 64)) :
    reqSetRefuge refuge zone capacity s = s.refuse .badArgument := by
  unfold reqSetRefuge
  split
  · next r z hr hz =>
    exact if_neg fun hin => h ⟨key?_eq_some_iff.1 hr ▸ r.isLt, key?_eq_some_iff.1 hz ▸ z.isLt, within_eq_true_iff.1 hin⟩
  · rfl

theorem reqSetRefuge_written {refuge zone capacity : Byte} {s : State} {r : Fin 8} {z : Fin 32} (hr : r.val = refuge.toNat)
    (hz : z.val = zone.toNat) (hc : 1 ≤ capacity.toNat ∧ capacity.toNat ≤ 64) :
    reqSetRefuge refuge zone capacity s = (s.modifyRefuge r (fun x =>
      { x with configured := true, zone := some z, capacity := capacity.toNat })).done := by
  simp only [reqSetRefuge, key?_eq_some_iff.2 hr, key?_eq_some_iff.2 hz, within_eq_true_iff.2 hc, if_true]

/-- The portal enrolment of a byte of at most 1 (R179). -/
theorem portalEnrolment?_of {b : Byte} (h : b.toNat ≤ 1) : portalEnrolment? b = some (decide (b = 0)) := by
  have hzero : b = 0 ↔ b.toNat = 0 := BitVec.toNat_inj.symm
  unfold portalEnrolment?
  split
  · next hb => rw [decide_eq_true (hzero.2 hb)]
  · next hb => rw [decide_eq_false fun h0 => by rw [hzero.1 h0] at hb; cases hb]
  · next h0 h1 =>
    rcases (by omega : b.toNat = 0 ∨ b.toNat = 1) with hb | hb
    · exact (h0 hb).elim
    · exact (h1 hb).elim

theorem portalEnrolment?_some {b : Byte} {on : Bool} (h : portalEnrolment? b = some on) : b.toNat ≤ 1 := by
  unfold portalEnrolment? at h
  split at h
  · next hb => omega
  · next hb => omega
  · cases h

/-- The exposure mode of a byte of at most 1 (R179). -/
theorem exposureMode_ofByte? {b : Byte} (h : b.toNat ≤ 1) : ExposureMode.ofByte? b = some (if b = 0 then .time else .entries) := by
  rw [ExposureMode.ofByte?_eq_some_iff]
  split
  · next h0 => exact h0.symm
  · next h0 =>
    have hne : b.toNat ≠ 0 := fun h => h0 (BitVec.eq_of_toNat_eq h)
    exact (code_eq (by omega : b.toNat = 1)).symm

theorem reqSetDistrict_refused {quiet missing outHold portal mode : Byte} {exposure : Word16}
    {lapse close silence escort refugeSilence routineWait emergencyWait : Byte} {s : State}
    (h : ¬ (1 ≤ quiet.toNat ∧ quiet.toNat ≤ 7 ∧ quiet.toNat < missing.toNat ∧ missing.toNat ≤ 15
      ∧ quiet.toNat < outHold.toNat ∧ outHold.toNat ≤ 15 ∧ portal.toNat ≤ 1 ∧ mode.toNat ≤ 1 ∧ 1 ≤ exposure.toNat
      ∧ 1 ≤ lapse.toNat ∧ lapse.toNat ≤ 15 ∧ close.toNat ≤ 15 ∧ 1 ≤ escort.toNat ∧ 1 ≤ refugeSilence.toNat
      ∧ 1 ≤ routineWait.toNat ∧ 1 ≤ emergencyWait.toNat)) :
    reqSetDistrict quiet missing outHold portal mode exposure lapse close silence escort refugeSilence routineWait
      emergencyWait s = s.refuse .badArgument := by
  unfold reqSetDistrict
  split
  · next on m hon hm =>
    have hportal := portalEnrolment?_some hon
    have hmode : ¬ 2 ≤ mode.toNat := by rw [← ExposureMode.ofByte?_eq_none_iff, hm]; simp
    refine if_neg fun hin => h ?_
    simp only [Bool.and_eq_true, within_eq_true_iff, decide_eq_true_eq] at hin
    omega
  · rfl

/-- Settles O33: each request by its checks. -/
theorem setupRequestsWriteTheirRecords : Obligations.SetupRequestsWriteTheirRecords := by
  intro zone kind limit level refuge line capacity quiet missing outHold portal mode exposure lapse close silence escort
    refugeSilence routineWait emergencyWait s hr hsetup goodZone goodRefuge goodDistrict setDistrict
  have hadmits : admits .setupOnly s.hpt.phase = true := by rw [hsetup]; rfl
  have hzone : exec (.setZone zone kind limit level refuge line) s =
      .next (reqSetZone zone kind limit level refuge line (taken s)) := exec_admitted hr rfl rfl hadmits
  have hrefuge : exec (.setRefuge refuge zone capacity) s = .next (reqSetRefuge refuge zone capacity (taken s)) :=
    exec_admitted hr rfl rfl hadmits
  have hdistrict : exec setDistrict s = .next (reqSetDistrict quiet missing outHold portal mode exposure lapse close silence
      escort refugeSilence routineWait emergencyWait (taken s)) := exec_admitted hr rfl rfl hadmits
  refine ⟨fun h => ?_, fun ⟨_, _, hlimit, hlevel, _⟩ z k r t hz hk hrk ht => ?_, fun h => ?_,
    fun ⟨_, _, hcapacity⟩ r z hrk hz => ?_, fun h => ?_, fun h => ?_⟩
  · rw [hzone, reqSetZone_refused h, refuse_taken]
  · rw [hzone, reqSetZone_written hz hk hlimit hlevel hrk ht]
    rfl
  · rw [hrefuge, reqSetRefuge_refused h, refuse_taken]
  · rw [hrefuge, reqSetRefuge_written hrk hz hcapacity]
    rfl
  · rw [hdistrict, reqSetDistrict_refused h, refuse_taken]
  · obtain ⟨hq1, hq2, hm1, hm2, ho1, ho2, hp, hmode, he, hl1, hl2, hc, hes, hrs, hrw, hew⟩ := h
    rw [hdistrict]
    simp only [reqSetDistrict, portalEnrolment?_of hp, exposureMode_ofByte? hmode, within_eq_true_iff.2 ⟨hq1, hq2⟩,
      within_eq_true_iff.2 ⟨hm1, hm2⟩, within_eq_true_iff.2 ⟨ho1, ho2⟩, within_eq_true_iff.2 ⟨hl1, hl2⟩,
      within_eq_true_iff.2 ⟨Nat.zero_le _, hc⟩, decide_eq_true he, decide_eq_true hes, decide_eq_true hrs,
      decide_eq_true hrw, decide_eq_true hew, Bool.and_self, if_true]
    rfl

end Sys2Proof.Machine
end

section
/-! The values of a reset, and the requests that only read: STATUS, READ_NEXT and the reads of one record. -/

namespace Sys2Proof.Machine

open Sys2Proof.Safety (Ready answered taken Names NamesTruck)

/-! ## Reset values -/

/-- Settles O2: the values are those of `State.reset`, and the laws hold in every state as part reset leaves it. -/
theorem resetHoldsTheManualsValues : Obligations.ResetHoldsTheManualsValues := by
  obtain ⟨hqueue, hlines, hquiet, hcalls, -⟩ := laws_of_isReset (t := State.reset) rfl
  have hzone : ∀ z : Fin 32, State.reset.zone z = Zone.reset := fun z => Vector.getElem_replicate z.isLt
  have hline : ∀ l : Fin 8, State.reset.znt.lines[l] = false := fun l => Vector.getElem_replicate l.isLt
  have hslot : ∀ i : Fin 240, State.reset.slot i = { gen := 0, person := none } := fun i => Vector.getElem_replicate i.isLt
  have hbuffer : ∀ k : Fin 4, State.reset.air.buffer[k] = none := fun k => Vector.getElem_replicate k.isLt
  have hchannel : ∀ c : Fin 32, State.reset.channel c = Channel.reset := fun c => Vector.getElem_replicate c.isLt
  have htruck : ∀ p : Fin 24, State.reset.truckAt p = none := fun p => Vector.getElem_replicate p.isLt
  have hrefuge : ∀ r : Fin 8, State.reset.refuge r = Refuge.reset := fun r => Vector.getElem_replicate r.isLt
  have hcall : ∀ c : Fin 4, State.reset.cal.channels[c] = none := fun c => Vector.getElem_replicate c.isLt
  exact ⟨rfl, hzone, hline, rfl, hslot, ⟨rfl, rfl, rfl, rfl, rfl, rfl, rfl, rfl, rfl, rfl, rfl⟩,
    ⟨rfl, rfl, rfl, rfl, rfl, rfl, rfl, hbuffer, rfl, rfl⟩, hchannel, htruck, ⟨rfl, rfl, rfl, rfl, rfl, rfl, rfl⟩, hrefuge,
    ⟨rfl, rfl, rfl, rfl⟩, hcall, ⟨rfl, rfl, rfl⟩, rfl, ⟨rfl, rfl, rfl, rfl, rfl, rfl, rfl, rfl, rfl⟩, hqueue, hcalls, hlines,
    hquiet⟩

/-! ## The roster as a list -/

theorem slots_toList (s : State) : s.rst.slots.toList = allSlots.map s.slot := by
  apply List.ext_getElem
  · simp [allSlots]
  · intro i _ _
    simp [allSlots, State.slot]

theorem holds_eq_any (f : Person → Bool) (v : Slot) : v.holds f = v.person.any f := by
  unfold Slot.holds
  cases v.person <;> rfl

/-- The slot of a tag is the first slot whose record has it. -/
theorem slotOfTag_eq_find (s : State) (t : Tag) :
    s.slotOfTag t = allSlots.find? (fun i => (s.person i).any (fun p => p.tag == t)) := by
  rw [State.slotOfTag, indexedSlots_eq, List.find?_map, Option.map_map]
  simp only [Function.comp_def, holds_eq_any, State.person]
  exact Option.map_id' ..

theorem slotOfTag_none {s : State} {t : Tag} : s.slotOfTag t = none ↔ ∀ i p, s.person i = some p → p.tag ≠ t := by
  rw [slotOfTag_eq_find, List.find?_eq_none]
  constructor
  · intro h i p hp htag
    exact h i (List.mem_finRange i) (by rw [hp]; simp [htag])
  · intro h i _ hany
    cases hp : s.person i with
    | none => rw [hp] at hany; cases hany
    | some p => exact h i p hp (by simpa [hp] using hany)

theorem slotOfTag_some {s : State} {t : Tag} {i : Fin 240} {p : Person} (hp : s.person i = some p) (htag : p.tag = t)
    (honly : ∀ j q, s.person j = some q → q.tag = t → j = i) : s.slotOfTag t = some i := by
  cases h : s.slotOfTag t with
  | none => exact absurd htag (slotOfTag_none.1 h i p hp)
  | some j =>
    obtain ⟨q, hq, hqtag⟩ := person_of_slotOfTag h
    rw [honly j q hq hqtag]

/-! ## STATUS (R184) -/

theorem countPersons_eq (s : State) (f : Person → Bool) :
    s.countPersons f = (allSlots.filter (fun i => (s.person i).any f)).length := by
  rw [State.countPersons, slots_toList, List.countP_map, List.countP_eq_length_filter]
  simp only [Function.comp_def, holds_eq_any, State.person]

theorem lines_toList (s : State) : s.znt.lines.toList = (List.finRange 8).map (fun l => s.znt.lines[l]) := by
  apply List.ext_getElem
  · simp
  · intro i _ _
    simp

/-- Settles O19: the counts over the roster are counts over the slots, and the lines are read one by one. -/
theorem statusRepliesThePartsState : Obligations.StatusRepliesThePartsState := by
  intro s hr count
  have hstatus : exec .status s = .next (reqStatus (taken s)) := exec_admitted hr rfl rfl rfl
  rw [hstatus, reqStatus, reply_taken, statusBytes, lines_toList, List.map_map]
  simp only [countPersons_eq]
  rfl

/-! ## READ_NEXT (R183) -/

theorem range_eq_append {n k : Nat} (h : k < n) : ∃ rest, List.range n = List.range k ++ k :: rest := by
  obtain ⟨m, rfl⟩ := Nat.exists_eq_add_of_lt h
  refine ⟨(List.range m).map (k + 1 + ·), ?_⟩
  rw [show k + m + 1 = k + 1 + m by omega, List.range_add, List.range_succ, List.append_assoc]
  rfl

/-- The first key from an index upward at which something is found, wrapping after the last. -/
theorem findSome?_keysFrom {β : Type} {n index k : Nat} [NeZero n] {i : Fin n} {f : Fin n → Option β} {b : β} (hk : k < n)
    (hi : i.val = (index + k) % n) (hf : f i = some b)
    (hbefore : ∀ (j : Nat) (l : Fin n), j < k → l.val = (index + j) % n → f l = none) :
    (keysFrom n index).findSome? f = some b := by
  obtain ⟨rest, hrest⟩ := range_eq_append hk
  rw [keysFrom, List.findSome?_map, hrest, List.findSome?_append, List.findSome?_eq_none_iff.2, Option.none_or,
    List.findSome?_cons]
  · rw [Function.comp_apply, show Fin.ofNat n (index + k) = i from Fin.ext hi.symm, hf]
  · intro j hj
    exact hbefore j _ (List.mem_range.1 hj) rfl

theorem ofNat_val {n index : Nat} [NeZero n] {k : Fin n} (h : k.val = index) : Fin.ofNat n index = k :=
  Fin.ext (by rw [Fin.val_ofNat, ← h, Nat.mod_eq_of_lt k.isLt])

/-- READ_NEXT gives the entry at the cursor and moves the cursor past it (R183). -/
theorem reqReadNext_some {s : State} {index wrap : Nat} {bytes : List Byte} (h : cursorEntry s = some (index, bytes, wrap)) :
    reqReadNext s = State.reply .done (byteOf index :: bytes)
      { s with hpt := { s.hpt with cursorIndex := (index + 1) % wrap } } := by
  simp only [reqReadNext, h]

theorem reqReadNext_none {s : State} (h : cursorEntry s = none) : reqReadNext s = s.refuse .noRecord := by
  simp only [reqReadNext, h]

/-- Settles O60: the entry at the cursor, table by table. -/
theorem readNextWalksItsTable : Obligations.ReadNextWalksItsTable := by
  intro s hr n given
  have hnext : exec .readNext s = .next (reqReadNext (taken s)) := exec_admitted hr rfl rfl rfl
  have hgiven : ∀ {index wrap : Nat} {bytes : List Byte}, cursorEntry (taken s) = some (index, bytes, wrap) →
      given index bytes ((index + 1) % wrap) := by
    intro index wrap bytes h
    show exec .readNext s = _
    rw [hnext, reqReadNext_some h]
    rfl
  have hnone : cursorEntry (taken s) = none → exec .readNext s = .next (answered .noRecord [] s) := by
    intro h
    rw [hnext, reqReadNext_none h, refuse_taken]
  have htable : ∀ {t : ListTable}, s.hpt.cursorTable = t → (taken s).hpt.cursorTable = t := fun h => h
  refine ⟨fun ht z hz => ?_, fun ht c hc => ?_, fun ht r hrk => ?_, fun ht hfree => ?_, fun ht k i p hk hi hp hbefore => ?_,
    fun ht hfree => ?_, fun ht k q u hk hq hu hbefore => ?_, fun ht hempty => ?_, fun ht before it rest hitems hlen => ?_⟩
  · have hentry : cursorEntry (taken s) = some (n, zoneBytes (Fin.ofNat 32 n) s, 32) := by
      simp only [cursorEntry, htable ht]; rfl
    rw [ofNat_val hz] at hentry
    exact hgiven hentry
  · have hentry : cursorEntry (taken s) = some (n, channelBytes (Fin.ofNat 32 n) s, 32) := by
      simp only [cursorEntry, htable ht]; rfl
    rw [ofNat_val hc] at hentry
    exact hgiven hentry
  · have hentry : cursorEntry (taken s) = some (n, refugeBytes (Fin.ofNat 8 n) s, 8) := by
      simp only [cursorEntry, htable ht]; rfl
    rw [ofNat_val hrk] at hentry
    exact hgiven hentry
  · refine hnone ?_
    simp only [cursorEntry, htable ht]
    refine List.findSome?_eq_none_iff.2 fun i _ => ?_
    rw [show (taken s).person i = none from hfree i, Option.map_none]
  · refine hgiven ?_
    simp only [cursorEntry, htable ht]
    refine findSome?_keysFrom hk hi ?_ fun j l hj hl => ?_
    · rw [show (taken s).person i = some p from hp, Option.map_some]
      rfl
    · rw [show (taken s).person l = none from hbefore j l hj hl, Option.map_none]
  · refine hnone ?_
    simp only [cursorEntry, htable ht]
    refine List.findSome?_eq_none_iff.2 fun i _ => ?_
    rw [show (taken s).truckAt i = none from hfree i, Option.map_none]
  · refine hgiven ?_
    simp only [cursorEntry, htable ht]
    refine findSome?_keysFrom hk hq ?_ fun j l hj hl => ?_
    · rw [show (taken s).truckAt q = some u from hu, Option.map_some]
      rfl
    · rw [show (taken s).truckAt l = none from hbefore j l hj hl, Option.map_none]
  · refine hnone ?_
    simp only [cursorEntry, htable ht]
    rw [taken_atq, hempty]
    rfl
  · have hlength : (taken s).atq.items.length = s.atq.items.length := rfl
    refine hgiven ?_
    simp only [cursorEntry, htable ht]
    rw [show (taken s).hpt.cursorIndex = n from rfl, taken_atq, ← hlen, hitems]
    simp

end Sys2Proof.Machine
end

section
/-! The read requests (R16, R34, R74, R113, R136, R154, R182): what each record's bytes are, and the refusals. -/

namespace Sys2Proof.Machine

open Sys2Proof.Safety (Ready answered taken Names NamesTruck)

/-! ## Records as they are sent -/

/-- A zone's bytes (R34): the assertion of its trip line is sent as 0 where it has none. -/
theorem zoneBytes_eq (z : Fin 32) (s : State) : zoneBytes z s =
    [yesNo (s.zone z).configured, (s.zone z).kind.code, yesNo (s.zone z).monitored, (s.zone z).reported.code,
        (s.zone z).real.code, byteOf (s.zone z).persons] ++ [byteOf (s.zone z).grants.length]
      ++ (s.zone z).grants.flatMap twoBytes
      ++ [byteOf (s.zone z).limit, optionalByte ((s.zone z).pendingLimit.map byteOf), (s.zone z).autoLevel.code,
          optionalKey (s.zone z).refuge, optionalKey (s.zone z).tripLine,
          (match (s.zone z).tripLine with | some line => yesNo s.znt.lines[line] | none => 0),
          (s.zone z).evac.code, (s.zone z).causes.toByte]
      ++ optionalStamp (s.zone z).orderedStamp ++ dueBytes .zoneCaution (.zone z) s ++ dueBytes .zoneDanger (.zone z) s
      ++ dueBytes .zoneTrip (.zone z) s := by
  unfold zoneBytes
  dsimp only
  cases (s.zone z).tripLine <;> rfl

theorem placeByte_eq {α : Type} [DecidableEq α] (a : α) (l : List α) :
    placeByte a l = if a ∈ l then byteOf (l.idxOf a) else 255 := by
  simp only [placeByte, List.contains_eq_mem, decide_eq_true_eq]

theorem converts_eq (w : Sweep) (c : Fin 32) : w.converts c = (match w with
    | .noSweep => false
    | .group g => decide (c.val % 8 = g.val)
    | .confirm d => decide (c = d)) := by
  cases w <;> rfl

theorem reported_code (r : Channel) : r.reported.code = (match r.test with | some x => x.forced.code | none => r.real.code) := by
  unfold Channel.reported
  cases r.test <;> rfl

theorem byteOf_getD (o : Option Nat) : byteOf (o.getD 0) = (match o with | some v => byteOf v | none => 0) := by
  cases o <;> rfl

theorem personMarks_flatMap {β : Type} (f : ItemKind → List β) : personMarks.flatMap f =
    f .manDown ++ f .emergencyCall ++ f .missing ++ f .urgentCall ++ f .escortLost ++ f .exposure ++ f .routineCall
      ++ f .pageAnswered := by
  simp only [personMarks, List.flatMap_cons, List.flatMap_nil, List.append_nil, List.append_assoc]

/-! ## The refusals and the lookups -/

theorem withChannel_of {key : Byte} {c : Fin 32} (h : key.toNat = c.val) (f : Fin 32 → Channel → State → State) (s : State) :
    withChannel key f s = f c (s.channel c) s := by
  simp only [withChannel, key?_eq_some_iff.2 h.symm]

theorem withChannel_refused {key : Byte} (h : 32 ≤ key.toNat) (f : Fin 32 → Channel → State → State) (s : State) :
    withChannel key f s = s.refuse .badArgument := by
  simp only [withChannel, key?_eq_none_iff.2 h]

theorem withNamed_of_names {s : State} {slot gen : Byte} {i : Fin 240} {p : Person} (h : Names s slot gen i p)
    (f : Fin 240 → Person → State → State) : withNamed slot gen f s = f i p s := by
  obtain ⟨-, -, hp⟩ := id h
  exact withNamed_live slot gen f s (s.handle i) p (handle?_of_names h) hp rfl

theorem validTruckNumber_iff (n : Word16) : validTruckNumber n = true ↔ 1 ≤ n.toNat ∧ n.toNat ≤ 4095 := decide_eq_true_iff

theorem withTruck_refused {number : Word16} (h : ¬ (1 ≤ number.toNat ∧ number.toNat ≤ 4095))
    (f : Fin 24 → Truck → State → State) (s : State) : withTruck number f s = s.refuse .badArgument :=
  if_neg (mt (validTruckNumber_iff number).1 h)

theorem withTruck_noRecord {number : Word16} {s : State} (h : 1 ≤ number.toNat ∧ number.toNat ≤ 4095)
    (hnone : ∀ q t, s.truckAt q = some t → t.number ≠ number.toNat) (f : Fin 24 → Truck → State → State) :
    withTruck number f s = s.refuse .noRecord := by
  rw [withTruck, if_pos ((validTruckNumber_iff number).2 h), positionOf_none.2 hnone]

theorem positionOf_of_names {s : State} {number : Word16} {q : Fin 24} {t : Truck} (h : NamesTruck s number q t) :
    s.positionOf number.toNat = some q := by
  obtain ⟨-, -, hq, hn, honly⟩ := h
  cases hp : s.positionOf number.toNat with
  | none => exact absurd hn (positionOf_none.1 hp q t hq)
  | some r =>
    obtain ⟨u, hu, hun⟩ := truckAt_of_positionOf hp
    rw [honly r u hu hun]

theorem withTruck_of_names {s : State} {number : Word16} {q : Fin 24} {t : Truck} (h : NamesTruck s number q t)
    (f : Fin 24 → Truck → State → State) : withTruck number f s = f q t s := by
  have hpos := positionOf_of_names h
  obtain ⟨hlo, hhi, hq, -⟩ := h
  simp only [withTruck, if_pos ((validTruckNumber_iff number).2 ⟨hlo, hhi⟩), hpos, hq]

theorem validTag_iff (t : Tag) : validTag t = true ↔ t ≠ 0 ∧ t ≠ 0xffffff := by
  simp [validTag]

/-- Settles O18: the bytes of each record, and each request by its lookup. -/
theorem readRequestsChangeNothingElse : Obligations.ReadRequestsChangeNothingElse := by
  intro key slot gen number tag s hr byte stamp mark windows
  have hbyte : ∀ o, byte o = optionalByte o := fun o => by cases o <;> rfl
  have hstamp : ∀ o, stamp o = optionalStamp o := fun o => by cases o <;> rfl
  have hmark : ∀ k x, mark k x = dueBytes k x s := fun k x => hstamp _
  have hzone : exec (.readZone key) s = .next (reqReadZone key (taken s)) := exec_admitted hr rfl rfl rfl
  have hchannel : exec (.readChannel key) s = .next (reqReadChannel key (taken s)) := exec_admitted hr rfl rfl rfl
  have hrefuge : exec (.readRefuge key) s = .next (reqReadRefuge key (taken s)) := exec_admitted hr rfl rfl rfl
  have htruck : exec (.readTruck number) s = .next (reqReadTruck number (taken s)) := exec_admitted hr rfl rfl rfl
  have htag : exec (.findTag tag) s = .next (reqFindTag tag (taken s)) := exec_admitted hr rfl rfl rfl
  refine ⟨exec_admitted hr rfl rfl rfl, exec_admitted hr rfl rfl rfl, fun z hz => ?_, fun c hc => ?_, fun r hrk => ?_,
    fun i p hn => ?_, fun q t hn => ?_, fun h => ⟨?_, ?_⟩, fun h => ?_, fun h => ?_, fun hlo hhi hnone => ?_, fun h => ?_,
    fun h0 h1 hnone => ?_, fun i p h0 h1 hp htg honly => ?_, fun n => bits_byteOfBits .., fun c => bits_byteOfBits ..,
    fun r => bits_byteOfBits ..⟩
  · rw [hzone, reqReadZone, key?_eq_some_iff.2 hz.symm]
    simp only [hbyte, hstamp, hmark]
    exact congrArg (fun b => Host.Outcome.next (answered .done b s)) (zoneBytes_eq z s)
  · rw [hchannel, reqReadChannel, withChannel_of hc, reply_taken, channelBytes, reported_code, converts_eq, placeByte_eq,
      byteOf_getD]
    simp only [hbyte, hmark, List.append_assoc, List.cons_append, List.nil_append]
    rfl
  · rw [hrefuge, reqReadRefuge, key?_eq_some_iff.2 hrk.symm]
    rfl
  · rw [exec_readPerson hr, reqReadPerson, withNamed_of_names (s := taken s) hn, reply_taken, personBytes, personMarks_flatMap]
    simp only [hbyte, hstamp, hmark, List.append_assoc, List.cons_append, List.nil_append]
    rfl
  · rw [htruck, reqReadTruck, withTruck_of_names (s := taken s) hn, reply_taken, truckBytes, placeByte_eq,
      beq_eq_decide]
    simp only [hbyte, hmark, counted, List.append_assoc, List.cons_append, List.nil_append]
    rfl
  · rw [hzone, reqReadZone, key?_eq_none_iff.2 h, refuse_taken]
  · rw [hchannel, reqReadChannel, withChannel_refused h, refuse_taken]
  · rw [hrefuge, reqReadRefuge, key?_eq_none_iff.2 h, refuse_taken]
  · rw [htruck, reqReadTruck, withTruck_refused (by omega), refuse_taken]
  · rw [htruck, reqReadTruck, withTruck_noRecord (s := taken s) ⟨hlo, hhi⟩ hnone, refuse_taken]
  · rw [htag, reqFindTag, if_neg (by rw [validTag_iff]; tauto), refuse_taken]
  · rw [htag, reqFindTag, if_pos ((validTag_iff tag).2 ⟨h0, h1⟩), slotOfTag_none (s := taken s) |>.2 hnone,
      refuse_taken]
  · rw [htag, reqFindTag, if_pos ((validTag_iff tag).2 ⟨h0, h1⟩), slotOfTag_some (s := taken s) hp htg honly]
    rfl

end Sys2Proof.Machine
end

section
/-! The events of the last slot strobe leave the frame timer and its two notices, MARK and LOCK, as they are. -/

namespace Sys2Proof.Machine

/-- A change that leaves the frame timer and the notices it raises, MARK and LOCK, as they are. -/
structure TimerStays (s t : State) : Prop where
  frt : t.frt = s.frt
  mark : t.hpt.flags.mark = s.hpt.flags.mark
  lock : t.hpt.flags.lock = s.hpt.flags.lock

theorem TimerStays.refl (s : State) : TimerStays s s := ⟨rfl, rfl, rfl⟩

theorem TimerStays.trans {s t u : State} (h : TimerStays s t) (k : TimerStays t u) : TimerStays s u :=
  ⟨k.frt.trans h.frt, k.mark.trans h.mark, k.lock.trans h.lock⟩

theorem TimerStays.of_eq {s t : State} (hfrt : t.frt = s.frt := by rfl) (hhpt : t.hpt = s.hpt := by rfl) : TimerStays s t :=
  ⟨hfrt, by rw [hhpt], by rw [hhpt]⟩

theorem TimerStays.ite {c : Prop} [Decidable c] {s t u : State} (ht : TimerStays s t) (hu : TimerStays s u) :
    TimerStays s (if c then t else u) := by
  split
  · exact ht
  · exact hu

theorem TimerStays.forEach {α : Type} {f : α → State → State} (h : ∀ a s, TimerStays s (f a s)) (l : List α) (s : State) :
    TimerStays s (forEach l f s) :=
  forEach_keeps (TimerStays s) f (fun a _ hs => hs.trans (h a _)) l s (.refl s)

theorem TimerStays.notify {n : Notice} (hm : n ≠ .mark) (hl : n ≠ .lock) (s : State) : TimerStays s (s.notify n) := by
  cases n
  case mark => exact absurd rfl hm
  case lock => exact absurd rfl hl
  all_goals exact ⟨rfl, rfl, rfl⟩

/-! ## The queue -/

theorem TimerStays.enterItem (k : ItemKind) (x : Subject) (f : Frame) (b : Bool) (d : Detail) (s : State) :
    TimerStays s (enterItem k x f b d s) := ⟨rfl, rfl, rfl⟩

theorem TimerStays.reinsert (s : State) : TimerStays s (reinsert s) := by
  unfold Machine.reinsert
  split
  · split
    · exact ⟨rfl, rfl, rfl⟩
    · exact .refl s
  · exact .refl s

theorem TimerStays.removeItem (k : ItemKind) (x : Subject) (s : State) : TimerStays s (removeItem k x s) :=
  TimerStays.trans (t := s.eraseItem k x) .of_eq (.reinsert _)

theorem TimerStays.meetFullQueue (k : ItemKind) (x : Subject) (b : Bool) (d : Detail) (s : State) :
    TimerStays s (meetFullQueue k x b d s) := by
  unfold Machine.meetFullQueue
  split
  · exact .refl s
  · split
    · exact .trans (.ite (t := State.setDue _ _ _ _) .of_eq .of_eq) (.enterItem ..)
    · exact .ite (.refl s) .of_eq

theorem TimerStays.insertItem (k : ItemKind) (x : Subject) (b : Bool) (d : Detail) (r : Bool) (s : State) :
    TimerStays s (insertItem k x b d r s) := by
  unfold Machine.insertItem
  split
  · dsimp only
    split
    · exact .ite ⟨rfl, rfl, rfl⟩ .of_eq
    · exact ⟨rfl, rfl, rfl⟩
  · split
    · exact .refl s
    · exact .ite (.enterItem ..) (.meetFullQueue ..)

theorem TimerStays.raiseItem (k : ItemKind) (x : Subject) (s : State) : TimerStays s (raiseItem k x s) := .insertItem ..

theorem TimerStays.endItem (k : ItemKind) (x : Subject) (s : State) : TimerStays s (endItem k x s) := by
  unfold Machine.endItem
  split
  · exact .ite (.ite (.removeItem ..) .of_eq) (.refl s)
  · exact .of_eq

theorem TimerStays.endCallItem (k : ItemKind) (x : Subject) (s : State) : TimerStays s (endCallItem k x s) := by
  unfold Machine.endCallItem
  split
  · exact .removeItem ..
  · exact .of_eq

theorem TimerStays.retireSubject (x : Subject) (s : State) : TimerStays s (retireSubject x s) :=
  TimerStays.trans (t := { s with atq := { s.atq with due := s.atq.due.filter (fun d => d.subject != x) } }) .of_eq
    (.forEach (fun k u => .removeItem k x u) _ _)

/-! ## Claims, calls and escorts -/

theorem TimerStays.countClaim (a b : Option (Fin 32)) (s : State) : TimerStays s (countClaim a b s) := by
  unfold Machine.countClaim
  split
  · exact .refl s
  · exact .of_eq
  · exact .of_eq
  · exact .ite (.refl s) .of_eq

theorem TimerStays.insertCall (i : Fin 240) (r : Bool) (s : State) : TimerStays s (insertCall i r s) := by
  unfold Machine.insertCall
  split
  · split
    · exact .insertItem ..
    · exact .refl s
  · exact .refl s

theorem TimerStays.upgradeCall (i : Fin 240) (p : Precedence) (s : State) : TimerStays s (upgradeCall i p s) := by
  have hend : TimerStays s (endCallKind i s) := by
    unfold endCallKind
    split
    · split
      · exact .endCallItem ..
      · exact .refl s
    · exact .refl s
  exact hend.trans (.trans (t := State.modifyPerson i (fun q => q.waitingAt p (endCallKind i s).frt.frame) _) .of_eq
    (.insertCall ..))

theorem TimerStays.judgeCallWait (i : Fin 240) (s : State) : TimerStays s (judgeCallWait i s) := by
  have hoverdue : TimerStays s (s.modifyPerson i (fun q => { q with overdue := true })) := .of_eq
  unfold Machine.judgeCallWait
  split
  · exact .refl s
  · dsimp only
    split
    · split
      · exact .refl s
      · exact .ite (.upgradeCall ..) (.refl s)
      · exact .ite (hoverdue.trans (.insertCall ..)) (.refl s)
      · exact .ite ((hoverdue.trans (.insertCall ..)).trans (.raiseItem ..)) (.refl s)
    · exact .refl s

theorem TimerStays.endConnected (i : Fin 240) (s : State) : TimerStays s (endConnected i s) := by
  unfold Machine.endConnected
  split
  · exact .refl s
  · split
    · next p _ _ _ =>
      have hfree : TimerStays s (freeCallChannel p.callChannel s) := by
        unfold freeCallChannel
        split
        · exact .of_eq
        · exact .refl s
      exact hfree.trans .of_eq
    · exact .refl s
    · exact .refl s

theorem TimerStays.narrowCalls (n : Nat) (s : State) : TimerStays s (narrowCalls n s) := by
  refine TimerStays.trans (t := { s with cal := { s.cal with usable := n } }) .of_eq (.forEach (fun c u => ?_) _ _)
  split
  · exact .endConnected ..
  · exact .refl u

theorem TimerStays.judgeSeparation (i : Fin 240) (s : State) : TimerStays s (judgeSeparation i s) := by
  unfold Machine.judgeSeparation
  split
  · exact .refl s
  · dsimp only
    split
    · split
      · split
        · exact .refl s
        · exact .of_eq
      · split
        · exact .refl s
        · exact .ite (.trans (t := s.modifyPerson i (fun q => { q with separation := none, escortLost := false })) .of_eq
            (.endItem ..)) .of_eq
    · exact .refl s

theorem TimerStays.judgeEscorts (i : Fin 240) (s : State) : TimerStays s (judgeEscorts i s) :=
  (TimerStays.judgeSeparation i s).trans (.forEach .judgeSeparation _ _)

theorem TimerStays.judgeEscortLimit (i : Fin 240) (s : State) : TimerStays s (judgeEscortLimit i s) := by
  unfold Machine.judgeEscortLimit
  split
  · exact .refl s
  · split
    · exact .refl s
    · exact .ite (.trans (t := s.modifyPerson i (fun q => { q with escortLost := true })) .of_eq (.raiseItem ..)) (.refl s)

theorem TimerStays.withdrawEscort (i : Fin 240) (s : State) : TimerStays s (withdrawEscort i s) :=
  ((TimerStays.trans (t := s.modifyPerson i (fun p => { p with escort := none })) .of_eq (.judgeSeparation ..)).trans
    ((TimerStays.endItem ..).trans (.raiseItem ..))).trans .of_eq

/-! ## Exposure, refuges and aging -/

theorem TimerStays.raiseExposure (i : Fin 240) (s : State) : TimerStays s (raiseExposure i s) := by
  have hjudge : ∀ u, TimerStays u (judgeExposure i u) := by
    intro u
    unfold judgeExposure
    split
    · exact .ite (.raiseItem ..) (.refl u)
    · exact .refl u
  unfold Machine.raiseExposure
  split
  · exact .ite (.trans (t := s.modifyPerson i Person.raised) .of_eq (hjudge _)) (.refl s)
  · exact .refl s

theorem TimerStays.deriveReasons (r : Fin 8) (s : State) : TimerStays s (deriveReasons r s) := by
  have hhand : ∀ old new u, TimerStays u (handReasons r old new u) :=
    fun _ _ u => .ite (.refl u) (.ite (.endItem ..) (.insertItem ..))
  unfold Machine.deriveReasons
  dsimp only
  split
  · exact .trans (t := State.modifyRefuge r _ s) .of_eq (hhand ..)
  · exact .refl s

theorem TimerStays.judgePanel (r : Fin 8) (s : State) : TimerStays s (judgePanel r s) :=
  .ite (.trans (t := s.modifyRefuge r (fun x => { x with panel := .silent })) .of_eq (.deriveReasons ..)) (.refl s)

theorem TimerStays.occupancyClaim (r : Option (Fin 8)) (s : State) : TimerStays s (occupancyClaim r s) := by
  unfold Machine.occupancyClaim
  split
  · exact .trans (t := State.modifyRefuge _ (fun x => { x with occupancy := x.occupancy - 1 }) s) .of_eq (.deriveReasons ..)
  · exact .refl s

theorem TimerStays.retirePerson (i : Fin 240) (s : State) : TimerStays s (retirePerson i s) := by
  unfold Machine.retirePerson
  split
  · exact .refl s
  · next p _ =>
    dsimp only
    have hclaims : TimerStays s (if p.state = .mustered then Machine.occupancyClaim p.refuge (Machine.countClaim p.countedZone none s)
        else Machine.countClaim p.countedZone none s) :=
      .ite ((TimerStays.countClaim ..).trans (.occupancyClaim ..)) (.countClaim ..)
    have hitems := hclaims.trans ((TimerStays.endConnected i _).trans (.retireSubject (s.personSubject i) _))
    exact (TimerStays.ite (hitems.trans (.forEach .withdrawEscort _ _)) hitems).trans .of_eq

theorem TimerStays.ageTo (i : Fin 240) (p : Person) (x : PersonState) (s : State) : TimerStays s (ageTo i p x s) := by
  unfold Machine.ageTo
  dsimp only
  have hcount : TimerStays s (Machine.countClaim p.countedZone { p with state := x }.countedZone
      (s.modifyPerson i (fun _ => { p with state := x }))) :=
    .trans (t := s.modifyPerson i (fun _ => { p with state := x })) .of_eq (.countClaim ..)
  exact ((TimerStays.ite (hcount.trans (.raiseItem ..)) hcount).trans (.endConnected ..)).trans (.judgeEscorts ..)

theorem TimerStays.judgeAging (i : Fin 240) (s : State) : TimerStays s (judgeAging i s) := by
  unfold Machine.judgeAging
  split
  · exact .refl s
  · split
    · exact .ite (.ageTo ..) (.refl s)
    · exact .ite (.ageTo ..) (.refl s)
    · exact .ite (.retirePerson ..) (.refl s)
    all_goals exact .refl s

theorem TimerStays.visit (i : Fin 240) (s : State) : TimerStays s (visit i s) := by
  unfold Machine.visit
  split
  · exact .refl s
  · exact .ite (.trans (t := s.modifyPerson i Person.visited) .of_eq (.judgeAging ..)) (.refl s)

theorem TimerStays.walkAtFrameStart (s : State) : TimerStays s (walkAtFrameStart s) := by
  have happly : TimerStays s (applyWalk s) := by
    unfold applyWalk
    split
    · exact .of_eq
    · exact .refl s
  exact .ite (happly.trans ((TimerStays.forEach .visit _ _).trans .of_eq)) happly

/-! ## The haul link, the field link and the sequencer -/

theorem TimerStays.modifyTruck (n : Nat) (f : Truck → Truck) (s : State) : TimerStays s (s.modifyTruck n f) := by
  unfold State.modifyTruck
  split
  · exact .of_eq
  · exact .refl s

theorem TimerStays.withdrawEntry (only : Option (Fin 32)) (n : Nat) (s : State) : TimerStays s (withdrawEntry only n s) := by
  unfold Machine.withdrawEntry
  split
  · exact .refl s
  · exact .ite (.trans (t := removeClaim n _ s) .of_eq (.modifyTruck ..)) (.refl s)

theorem TimerStays.judgeAlone (s : State) : TimerStays s (judgeAlone s) := by
  refine .ite (.trans (t := State.notify .alone { s with hlk := { s.hlk with alone := true } }) ?_ (.forEach
    (fun n u => .withdrawEntry none n u) _ _)) (.refl s)
  exact .trans (t := { s with hlk := { s.hlk with alone := true } }) .of_eq (.notify (by decide) (by decide) _)

theorem TimerStays.writeHolding (m : Outbound) (s : State) : TimerStays s (writeHolding m s) :=
  .trans (.ite (.notify (n := .txLate) (by decide) (by decide) s) (.refl s)) .of_eq

theorem TimerStays.judgePreviousPoll (n : Nat) (s : State) : TimerStays s (judgePreviousPoll n s) := by
  have hlapse : ∀ u, TimerStays u (judgeLapse n u) := by
    intro u
    unfold judgeLapse
    split
    · exact .refl u
    · exact .ite ((TimerStays.modifyTruck ..).trans (.raiseItem ..)) (.refl u)
  unfold Machine.judgePreviousPoll
  split
  · exact .refl s
  · exact .ite ((TimerStays.modifyTruck ..).trans (hlapse _)) (.refl s)

theorem TimerStays.pollSlot (s : State) : TimerStays s (pollSlot s) := by
  have hsend : ∀ n u, TimerStays u (sendPoll n u) := by
    intro n u
    unfold sendPoll
    split
    · exact .refl u
    · exact (TimerStays.writeHolding ..).trans (.modifyTruck ..)
  unfold Machine.pollSlot
  split
  · split
    · exact .refl s
    · split
      · exact .refl s
      · exact .ite (.refl s) (((TimerStays.judgePreviousPoll ..).trans (hsend ..)).trans .of_eq)
  · exact .refl s

theorem TimerStays.holdChannel (s : State) : TimerStays s (holdChannel s) := by
  unfold Machine.holdChannel
  split
  · split
    · exact .refl s
    · split
      · exact .refl s
      · split
        · exact .writeHolding ..
        · exact .refl s
  · exact .refl s

theorem TimerStays.checkHoldingSlot (s : State) : TimerStays s (checkHoldingSlot s) :=
  .ite (.trans (t := { s with flk := { s.flk with holding := none } }) .of_eq (.notify (by decide) (by decide) _)) (.refl s)

theorem TimerStays.startSweep (w : Sweep) (s : State) : TimerStays s (startSweep w s) := by
  have hturn : ∀ u, TimerStays u (beginTurn u) := by
    intro u
    unfold beginTurn
    split
    · exact .of_eq
    · exact .refl u
  exact .trans (t := Machine.forEach (allChannels.filter w.converts) (fun c => State.modifyChannel c Channel.withLevelsApplied)
      { s with air := { s.air with sweep := w, buffer := Vector.replicate 4 none, turnsDone := 0 } })
    (.trans (t := { s with air := { s.air with sweep := w, buffer := Vector.replicate 4 none, turnsDone := 0 } }) .of_eq
      (.forEach (fun _ _ => .of_eq) _ _)) (hturn _)

theorem TimerStays.sweepAtSlotStart (s : State) : TimerStays s (sweepAtSlotStart s) := by
  have hgroup : ∀ groups, TimerStays s (startGroup groups s) := by
    intro groups
    unfold startGroup
    dsimp only
    split
    · exact .trans (t := { s with air := { s.air with resume := none } }) .of_eq (.startSweep ..)
    · exact .of_eq
  unfold Machine.sweepAtSlotStart
  split
  · split
    · exact .startSweep ..
    · split
      · exact hgroup _
      · exact hgroup _
      all_goals exact .refl s
  · exact .refl s

/-! ## The events that a strobe hands -/

/-- An event that waits as a flag, taken or not. -/
theorem TimerStays.event {c : Prop} [Decidable c] {s u v : State} (hflag : TimerStays s u) (h : TimerStays u v) :
    TimerStays s (if c then v else s) := .ite (hflag.trans h) (.refl s)

theorem TimerStays.takeHanded (s : State) : TimerStays s (takeHanded s) := by
  have hwalk : ∀ u, TimerStays u (takeWalk u) := fun u => .event .of_eq (.walkAtFrameStart _)
  have hescort : ∀ u, TimerStays u (takeEscort u) := fun u => .event .of_eq (.forEach .judgeEscortLimit _ _)
  have hcount : ∀ u, TimerStays u (countExposure u) := by
    intro u
    unfold countExposure
    split
    · refine .forEach (fun i v => ?_) _ _
      split
      · exact .raiseExposure ..
      · exact .refl v
    · exact .refl u
  have hexposure : ∀ u, TimerStays u (takeExposure u) := fun u => .event .of_eq (hcount _)
  have hpanel : ∀ u, TimerStays u (takePanel u) := fun u => .event .of_eq (.forEach .judgePanel _ _)
  have hround : ∀ u, TimerStays u (takeRound u) := fun u => .event .of_eq (.ite .of_eq (.refl _))
  have husable : ∀ u, TimerStays u (takeUsable u) := fun u => .event .of_eq (.narrowCalls ..)
  have hwait : ∀ u, TimerStays u (takeCallWait u) := fun u => .event .of_eq (.forEach .judgeCallWait _ _)
  have hflags : ∀ u, TimerStays u (takePollFlags u) := fun u => .event .of_eq .of_eq
  have hsilence : ∀ u, TimerStays u (takeSilence u) := fun u =>
    .event .of_eq (.trans (t := { u with
      handed := { u.handed with silence := false }
      hlk := { u.hlk with silenceCount := min Config.silenceCeiling (u.hlk.silenceCount + 1) } }) .of_eq (.judgeAlone _))
  have hlimits : ∀ u, TimerStays u (takeLimits u) := fun u => .event .of_eq .of_eq
  have hsweep : ∀ u, TimerStays u (takeSweep u) := fun u => .event .of_eq (.sweepAtSlotStart _)
  have hpoll : ∀ u, TimerStays u (takePoll u) := fun u => .event .of_eq (.pollSlot _)
  have hhold : ∀ u, TimerStays u (takeHold u) := fun u => .event .of_eq (.holdChannel _)
  have hcheck : ∀ u, TimerStays u (takeCheck u) := fun u => .event .of_eq (.checkHoldingSlot _)
  unfold Machine.takeHanded
  exact (((((((((((((hwalk s).trans (hescort _)).trans (hexposure _)).trans (hpanel _)).trans (hround _)).trans
    (husable _)).trans (hwait _)).trans (hflags _)).trans (hsilence _)).trans (hlimits _)).trans (hsweep _)).trans
    (hpoll _)).trans (hhold _)).trans (hcheck _)

end Sys2Proof.Machine
end

section
/-! The frame timer's strobes (R2 to R9, R12, R13): what a slot start and a frame start write, and the frame pulse. -/

namespace Sys2Proof.Machine

/-! ## Slot classes (R8) -/

theorem slotClass_haul_iff (w : Windows) (n : Nat) :
    slotClass w n = .haul ↔ n ≠ 0 ∧ w.tagEnd ≤ n ∧ w.haulStart ≤ n ∧ n < w.haulEnd := by
  unfold slotClass
  repeat' split
  all_goals simp only [reduceCtorEq, false_iff, true_iff]
  all_goals omega

theorem slotClass_voice_iff (w : Windows) (n : Nat) : slotClass w n = .voice ↔
    n ≠ 0 ∧ w.tagEnd ≤ n ∧ w.callStart ≤ n ∧ n < w.callEnd ∧ ¬ (w.haulStart ≤ n ∧ n < w.haulEnd) := by
  unfold slotClass
  repeat' split
  all_goals simp only [reduceCtorEq, false_iff, true_iff]
  all_goals omega

theorem slotClass_zero (w : Windows) : slotClass w 0 = .beacon := rfl

theorem slotClass_tag {w : Windows} {n : Nat} (h0 : n ≠ 0) (h : n < w.tagEnd) : slotClass w n = .tag := by
  rw [slotClass, if_neg h0, if_pos h]

theorem slotClass_guard {w : Windows} {n : Nat} (h0 : n ≠ 0) (htag : ¬ n < w.tagEnd)
    (hhaul : ¬ (w.haulStart ≤ n ∧ n < w.haulEnd)) (hvoice : ¬ (w.callStart ≤ n ∧ n < w.callEnd)) : slotClass w n = .guard := by
  rw [slotClass, if_neg h0, if_neg htag, if_neg hhaul, if_neg hvoice]

/-! ## The slot start -/

/-- The lock state and the count run that a slot start leaves (R6). -/
def lockAtSlot (t : FrameTimer) : LockState × Nat :=
  if t.slot = 1 ∧ t.sync = .pulsed then
    if t.pulseSeen then (.locked, 0)
    else
      match t.beginKind with
      | .count => (lockOfRun (min 4 (t.countRun + 1)), min 4 (t.countRun + 1))
      | .start | .pulse => (t.lock, t.countRun)
  else (t.lock, t.countRun)

theorem setLock_frt (x : LockState) (s : State) : (setLock x s).frt = { s.frt with lock := x } := by
  unfold setLock
  split
  · next h => rw [← h]
  · rfl

theorem setLock_flag (x : LockState) (s : State) :
    (setLock x s).hpt.flags = { s.hpt.flags with lock := s.hpt.flags.lock || decide (x ≠ s.frt.lock) } := by
  unfold setLock
  split
  · next h => simp [h]
  · next h => simp [State.notify, NoticeSet.insert, Ne.symm h]

theorem setLock_handed (x : LockState) (s : State) : (setLock x s).handed = s.handed := by
  unfold setLock
  split <;> rfl

/-- The judgement of lock writes the lock state and the count run, and raises LOCK at a change (R6). -/
theorem judgeLockAtSlot_eq (s : State) :
    (judgeLockAtSlot s).frt = { s.frt with lock := (lockAtSlot s.frt).1, countRun := (lockAtSlot s.frt).2 }
      ∧ (judgeLockAtSlot s).hpt.flags =
          { s.hpt.flags with lock := s.hpt.flags.lock || decide ((lockAtSlot s.frt).1 ≠ s.frt.lock) }
      ∧ (judgeLockAtSlot s).handed = s.handed := by
  unfold judgeLockAtSlot lockAtSlot
  split
  · unfold judgeLock
    split
    · exact ⟨setLock_frt .., setLock_flag .., setLock_handed ..⟩
    · cases s.frt.beginKind
      case count => exact ⟨setLock_frt .., setLock_flag .., setLock_handed ..⟩
      all_goals exact ⟨rfl, by simp, rfl⟩
  · simp

/-- The timer after a slot start (R6, R12). -/
theorem slotStart_frt (s : State) :
    (slotStart s).frt = { s.frt with lock := (lockAtSlot s.frt).1, countRun := (lockAtSlot s.frt).2 } := by
  have hmark : (markSlotStart s).frt = s.frt := by unfold markSlotStart; split <;> rfl
  show (judgeLockAtSlot (markSlotStart s)).frt = _
  rw [(judgeLockAtSlot_eq _).1, hmark]

theorem slotStart_mark (s : State) :
    (slotStart s).hpt.flags.mark = (s.hpt.flags.mark || decide (s.frt.markSlot = some s.frt.slot)) := by
  show (judgeLockAtSlot (markSlotStart s)).hpt.flags.mark = _
  rw [(judgeLockAtSlot_eq _).2.1]
  unfold markSlotStart
  split
  · next h => simp [State.notify, NoticeSet.insert, h]
  · next h => simp [h]

theorem slotStart_lock (s : State) :
    (slotStart s).hpt.flags.lock = (s.hpt.flags.lock || decide ((slotStart s).frt.lock ≠ s.frt.lock)) := by
  have hmark : (markSlotStart s).frt = s.frt ∧ (markSlotStart s).hpt.flags.lock = s.hpt.flags.lock := by
    unfold markSlotStart; split <;> exact ⟨rfl, rfl⟩
  rw [slotStart_frt]
  show (judgeLockAtSlot (markSlotStart s)).hpt.flags.lock = _
  rw [(judgeLockAtSlot_eq _).2.1, hmark.1, hmark.2]

/-- A slot start is handed on by the class of its slot (R8). -/
theorem slotStart_handed (s : State) : (slotStart s).handed =
    { s.handed with sweep := true, poll := s.slotClass == .haul, hold := s.slotClass == .voice, check := true } := by
  have hmark : (markSlotStart s).handed = s.handed ∧ (markSlotStart s).frt = s.frt := by
    unfold markSlotStart; split <;> exact ⟨rfl, rfl⟩
  obtain ⟨hfrt, -, hhanded⟩ := judgeLockAtSlot_eq (markSlotStart s)
  have hclass : (judgeLockAtSlot (markSlotStart s)).slotClass = s.slotClass := by
    unfold State.slotClass
    rw [hfrt, hmark.2]
  unfold slotStart handSlotStart
  dsimp only
  rw [hclass, hhanded, hmark.1]

/-! ## The frame start -/

theorem advanceRound_same (s : State) : (advanceRound s).frt = s.frt ∧ (advanceRound s).hpt = s.hpt
    ∧ (advanceRound s).handed = s.handed ∧ (advanceRound s).flk = s.flk := by
  unfold advanceRound
  split
  · split <;> exact ⟨rfl, rfl, rfl, rfl⟩
  · exact ⟨rfl, rfl, rfl, rfl⟩

/-- Pending windows made active, and the usable channel count handed with them (R9). -/
theorem applyWindows_eq (s : State) : applyWindows s = { s with
    frt := { s.frt with active := s.frt.pendingWindows.getD s.frt.active, pendingWindows := none }
    handed := { s.handed with usable := s.handed.usable || s.frt.pendingWindows.isSome } } := by
  unfold applyWindows
  split
  · next w hw => rw [hw]; simp
  · next hw => rw [hw, Option.getD_none, Option.isSome_none, Bool.or_false, ← hw]

theorem buildBeacon_same (s : State) : (buildBeacon s).frt = s.frt ∧ (buildBeacon s).handed = s.handed
    ∧ (buildBeacon s).hpt.flags.mark = s.hpt.flags.mark ∧ (buildBeacon s).hpt.flags.lock = s.hpt.flags.lock := by
  obtain ⟨hfrt, hhpt, hhanded, -⟩ := advanceRound_same (writeHolding (.beacon (beaconOf s)) s)
  have hwrite := TimerStays.writeHolding (.beacon (beaconOf s)) s
  have hkeep : (writeHolding (.beacon (beaconOf s)) s).handed = s.handed := by simp
  exact ⟨hfrt.trans hwrite.frt, hhanded.trans hkeep, (congrArg (·.flags.mark) hhpt).trans hwrite.mark,
    (congrArg (·.flags.lock) hhpt).trans hwrite.lock⟩

theorem frameStart_frt (first : Bool) (s : State) : (frameStart first s).frt =
    { s.frt with active := s.frt.pendingWindows.getD s.frt.active, pendingWindows := none } := by
  show (buildBeacon (applyWindows s)).frt = _
  rw [(buildBeacon_same _).1, applyWindows_eq]

theorem frameStart_handed (first : Bool) (s : State) : (frameStart first s).handed =
    { s.handed with
      walk := true, escort := true, exposure := true, panel := true, round := !first && isCadence s.frt s.frt.frame,
      callWait := true, usable := s.handed.usable || s.frt.pendingWindows.isSome, pollFlags := true, silence := true,
      limits := true } := by
  unfold frameStart handFrameStart
  dsimp only
  rw [(buildBeacon_same _).1, (buildBeacon_same _).2.1, applyWindows_eq]
  rfl

theorem frameStart_flags (first : Bool) (s : State) : (frameStart first s).hpt.flags.mark = s.hpt.flags.mark
    ∧ (frameStart first s).hpt.flags.lock = s.hpt.flags.lock := by
  have h := (buildBeacon_same (applyWindows s)).2.2
  rw [applyWindows_eq] at h
  show (buildBeacon (applyWindows s)).hpt.flags.mark = _ ∧ (buildBeacon (applyWindows s)).hpt.flags.lock = _
  rw [applyWindows_eq]
  exact h

/-! ## A new frame -/

/-- Slot 0 of a frame begun, with its frame start and its slot start (R2, R3, R5). -/
def newFrame (first : Bool) (frame : Frame) (kind : BeginKind) (s : State) : State :=
  slotStart (frameStart first (beginFrame frame kind s))

theorem newFrame_frt (first : Bool) (frame : Frame) (kind : BeginKind) (s : State) : (newFrame first frame kind s).frt =
    { s.frt with
      timer := .counting, slot := 0, frame := frame, beginKind := kind, pulseSeen := kind == .pulse, restartPending := false
      active := s.frt.pendingWindows.getD s.frt.active, pendingWindows := none } := by
  unfold newFrame
  rw [slotStart_frt, frameStart_frt]
  rfl

theorem newFrame_handed (first : Bool) (frame : Frame) (kind : BeginKind) (s : State) : (newFrame first frame kind s).handed =
    { walk := true, escort := true, exposure := true, panel := true, round := !first && isCadence s.frt frame,
      callWait := true, usable := s.handed.usable || s.frt.pendingWindows.isSome, pollFlags := true, silence := true,
      limits := true, sweep := true, poll := false, hold := false, check := true } := by
  unfold newFrame
  rw [slotStart_handed, frameStart_handed]
  unfold State.slotClass
  rw [frameStart_frt]
  rfl

theorem newFrame_flags (first : Bool) (frame : Frame) (kind : BeginKind) (s : State) :
    (newFrame first frame kind s).hpt.flags.mark = (s.hpt.flags.mark || decide (s.frt.markSlot = some 0))
      ∧ (newFrame first frame kind s).hpt.flags.lock = s.hpt.flags.lock := by
  have hflags := frameStart_flags first (beginFrame frame kind s)
  have hsame : (newFrame first frame kind s).frt.lock = (frameStart first (beginFrame frame kind s)).frt.lock := by
    rw [newFrame_frt, frameStart_frt]
    rfl
  refine ⟨?_, ?_⟩
  · unfold newFrame
    rw [slotStart_mark, hflags.1, frameStart_frt]
    rfl
  · unfold newFrame at hsame ⊢
    rw [slotStart_lock, hsame, hflags.2]
    simp [beginFrame]

/-! ## The events handed at a strobe, taken -/

theorem sweepAtSlotStart_handed (s : State) : (sweepAtSlotStart s).handed = s.handed := by
  have hturn : ∀ u : State, (beginTurn u).handed = u.handed := by intro u; unfold beginTurn; split <;> rfl
  have hstart : ∀ w (u : State), (startSweep w u).handed = u.handed := by
    intro w u
    unfold startSweep
    rw [hturn]
    exact forEach_same State.handed (fun c => State.modifyChannel c Channel.withLevelsApplied) (fun _ _ => rfl) _ _
  have hgroup : ∀ groups (u : State), (startGroup groups u).handed = u.handed := by
    intro groups u
    unfold startGroup
    dsimp only
    split
    · exact hstart ..
    · rfl
  unfold sweepAtSlotStart
  split
  · split
    · exact hstart ..
    · split
      · exact hgroup ..
      · exact hgroup ..
      · rfl
      · rfl
  · rfl

theorem walkAtFrameStart_handed (s : State) : (walkAtFrameStart s).handed = s.handed := by
  unfold walkAtFrameStart
  dsimp only
  split
  · exact (walk_handed _).trans (applyWalk_handed s)
  · exact applyWalk_handed s

theorem narrowCalls_handed (n : Nat) (s : State) : (narrowCalls n s).handed = s.handed := by
  refine forEach_same State.handed _ (fun c u => ?_) _ _
  split
  · simp
  · rfl

/-- An event that waits as a flag, taken: the flag is cleared, and the block's own work leaves the flags as they are. -/
theorem handed_event {f : State → State} (hf : ∀ u, (f u).handed = u.handed) {b : Bool} {s : State} {h : Handed}
    (hclear : b = false → h = s.handed) : (if b then f { s with handed := h } else s).handed = h := by
  split
  · exact hf _
  · next hb => exact (hclear (by simpa using hb)).symm

/-- Every event handed at the last strobe is taken before the next one (log 4). -/
theorem takeHanded_handed (s : State) : (takeHanded s).handed = Handed.none := by
  have hwalk : ∀ u, (takeWalk u).handed = { u.handed with walk := false } :=
    fun u => handed_event walkAtFrameStart_handed fun h => by rw [← h]
  have hescort : ∀ u, (takeEscort u).handed = { u.handed with escort := false } :=
    fun u => handed_event judgeEscortLimits_handed fun h => by rw [← h]
  have hexposure : ∀ u, (takeExposure u).handed = { u.handed with exposure := false } :=
    fun u => handed_event countExposure_handed fun h => by rw [← h]
  have hpanel : ∀ u, (takePanel u).handed = { u.handed with panel := false } :=
    fun u => handed_event judgePanels_handed fun h => by rw [← h]
  have hround : ∀ u, (takeRound u).handed = { u.handed with round := false } :=
    fun u => handed_event startRound_handed fun h => by rw [← h]
  have husable : ∀ u, (takeUsable u).handed = { u.handed with usable := false } :=
    fun u => handed_event (narrowCalls_handed _) fun h => by rw [← h]
  have hwait : ∀ u, (takeCallWait u).handed = { u.handed with callWait := false } :=
    fun u => handed_event judgeCallWaits_handed fun h => by rw [← h]
  have hflags : ∀ u, (takePollFlags u).handed = { u.handed with pollFlags := false } :=
    fun u => handed_event renewPollFlags_handed fun h => by rw [← h]
  have hsilence : ∀ u, (takeSilence u).handed = { u.handed with silence := false } :=
    fun u => handed_event countSilence_handed fun h => by rw [← h]
  have hlimits : ∀ u, (takeLimits u).handed = { u.handed with limits := false } :=
    fun u => handed_event applyLimits_handed fun h => by rw [← h]
  have hsweep : ∀ u, (takeSweep u).handed = { u.handed with sweep := false } :=
    fun u => handed_event sweepAtSlotStart_handed fun h => by rw [← h]
  have hpoll : ∀ u, (takePoll u).handed = { u.handed with poll := false } :=
    fun u => handed_event pollSlot_handed fun h => by rw [← h]
  have hhold : ∀ u, (takeHold u).handed = { u.handed with hold := false } :=
    fun u => handed_event holdChannel_handed fun h => by rw [← h]
  have hcheckSlot : ∀ u, (checkHoldingSlot u).handed = u.handed := fun u => by unfold checkHoldingSlot; split <;> rfl
  have hcheck : ∀ u, (takeCheck u).handed = { u.handed with check := false } :=
    fun u => handed_event hcheckSlot fun h => by rw [← h]
  rw [takeHanded, hcheck, hhold, hpoll, hsweep, hlimits, hsilence, hflags, hwait, husable, hround, hpanel, hexposure,
    hescort, hwalk]
  rfl

end Sys2Proof.Machine
end

section
/-! Slot strobes and frame pulses as the statements give them: frames and slots, handed events, MARK and lock. -/

namespace Sys2Proof.Machine

/-! ## The strobe by the timer's state -/

theorem exec_slotStrobe {s : State} (hs : s.resetLow = false) : exec .slotStrobe s = .next (strobe s) :=
  congrArg _ (unlessReset_high hs strobe)

theorem exec_framePulse {s : State} (hs : s.resetLow = false) : exec .framePulse s = .next (pulse s) :=
  congrArg _ (unlessReset_high hs pulse)

theorem strobe_stopped {s : State} (h : s.frt.timer = .stopped) : strobe s = s := by
  simp only [strobe, h]

theorem strobe_armed {s : State} (h : s.frt.timer = .armed) :
    strobe s = newFrame true 0 (if s.frt.restartPending then .pulse else .start) s := by
  simp only [strobe, h]
  rfl

/-- A strobe that ends a frame begins the next one, after the events of the last strobe (R3; log 4). -/
theorem strobe_newFrame {s : State} (h : s.frt.timer = .counting)
    (hend : s.frt.restartPending = true ∨ s.frt.slot + 1 = s.frt.total) :
    strobe s = newFrame false (s.frt.frame + 1) (if s.frt.restartPending then .pulse else .count) (takeHanded s) := by
  have hframe : ∀ kind, strobeNewFrame kind (takeHanded s) = newFrame false (s.frt.frame + 1) kind (takeHanded s) := by
    intro kind
    unfold strobeNewFrame newFrame
    rw [(TimerStays.takeHanded s).frt]
  simp only [strobe, h, strobeCounting, hframe, (TimerStays.takeHanded s).frt]
  split
  · rfl
  · next hrestart =>
    rw [if_pos (hend.resolve_left hrestart)]

/-- A state with the next slot of its frame. -/
def nextSlot (s : State) : State := { s with frt := { s.frt with slot := s.frt.slot + 1 } }

theorem strobe_within {s : State} (h : s.frt.timer = .counting) (hrestart : s.frt.restartPending = false)
    (hend : s.frt.slot + 1 ≠ s.frt.total) : strobe s = slotStart (nextSlot (takeHanded s)) := by
  simp only [strobe, h, strobeCounting, (TimerStays.takeHanded s).frt, hrestart, if_neg hend]
  rfl

/-- While COUNTING, a strobe begins a frame or counts one slot. -/
theorem strobe_counting_cases (s : State) : (s.frt.restartPending = true ∨ s.frt.slot + 1 = s.frt.total)
    ∨ (s.frt.restartPending = false ∧ s.frt.slot + 1 ≠ s.frt.total) := by
  cases s.frt.restartPending <;> simp [Classical.em]

theorem nextSlot_frt (s : State) : (nextSlot (takeHanded s)).frt = { s.frt with slot := s.frt.slot + 1 } := by
  unfold nextSlot
  rw [(TimerStays.takeHanded s).frt]

/-! ## Frames and slots -/

/-- The slot start of a strobe is handed by the class of the slot that the strobe begins. -/
theorem strobe_slotStart {s : State} (h : s.frt.timer = .counting) : (strobe s).handed.sweep = true
    ∧ (strobe s).handed.check = true ∧ (strobe s).handed.poll = ((strobe s).slotClass == .haul)
    ∧ (strobe s).handed.hold = ((strobe s).slotClass == .voice) := by
  rcases strobe_counting_cases s with hend | ⟨hrestart, hslot⟩
  · rw [strobe_newFrame h hend, newFrame_handed]
    unfold State.slotClass
    rw [newFrame_frt]
    exact ⟨rfl, rfl, rfl, rfl⟩
  · rw [strobe_within h hrestart hslot, slotStart_handed]
    unfold State.slotClass
    rw [slotStart_frt]
    exact ⟨rfl, rfl, rfl, rfl⟩

/-- What no strobe while COUNTING changes: the timer counts on, with its total, its mode and its mark slot. -/
theorem strobe_settings {s : State} (h : s.frt.timer = .counting) : (strobe s).frt.timer = .counting
    ∧ (strobe s).frt.restartPending = false ∧ (strobe s).frt.total = s.frt.total ∧ (strobe s).frt.sync = s.frt.sync
    ∧ (strobe s).frt.markSlot = s.frt.markSlot := by
  rcases strobe_counting_cases s with hend | ⟨hrestart, hslot⟩
  · rw [strobe_newFrame h hend, newFrame_frt, (TimerStays.takeHanded s).frt]
    exact ⟨rfl, rfl, rfl, rfl, rfl⟩
  · rw [strobe_within h hrestart hslot, slotStart_frt, nextSlot_frt]
    exact ⟨h, hrestart, rfl, rfl, rfl⟩

/-- The cadence event of a new frame, by the edge of the cadence bit (R13). -/
theorem isCadence_succ (t : FrameTimer) : isCadence t (t.frame + 1) =
    t.cadenceEdge.isMade (t.frame.getLsbD t.cadenceBit) ((t.frame + 1).getLsbD t.cadenceBit) := by
  rw [isCadence, BitVec.add_sub_cancel]

theorem isMade_rising {before after : Bool} : CadenceEdge.rising.isMade before after = true ↔ before = false ∧ after = true := by
  simp [CadenceEdge.isMade]

theorem isMade_falling {before after : Bool} :
    CadenceEdge.falling.isMade before after = true ↔ before = true ∧ after = false := by
  simp [CadenceEdge.isMade]

theorem isMade_both {before after : Bool} : CadenceEdge.both.isMade before after = true ↔ before ≠ after := by
  simp [CadenceEdge.isMade]

/-- Settles O13: the classes by their bounds, and the strobe by the timer's state. -/
theorem slotStrobeCountsSlotsAndFrames : Obligations.SlotStrobeCountsSlotsAndFrames := by
  intro s w n tag haul voice
  refine ⟨⟨fun h => ?_, fun h => slotClass_tag h.1 h.2, fun h => (slotClass_haul_iff ..).2 h, fun h => ?_,
    fun h0 htag hhaul hvoice => ?_⟩, fun hs => ?_⟩
  · exact congrArg (slotClass w) h
  · obtain ⟨h0, htag, hlo, hhi, hhaul⟩ := h
    exact (slotClass_voice_iff ..).2 ⟨h0, htag, hlo, hhi, fun hin => hhaul ⟨h0, htag, hin⟩⟩
  · have hpast : ¬ n < w.tagEnd := fun h => htag ⟨h0, h⟩
    have hnotHaul : ¬ (w.haulStart ≤ n ∧ n < w.haulEnd) := fun h => hhaul ⟨h0, Nat.le_of_not_lt hpast, h⟩
    exact slotClass_guard h0 hpast hnotHaul fun h => hvoice ⟨h0, Nat.le_of_not_lt hpast, h.1, h.2, hhaul⟩
  refine ⟨fun h => ?_, fun h => ⟨_, exec_slotStrobe hs, ?_⟩, fun h => ⟨_, exec_slotStrobe hs, ?_⟩⟩
  · rw [exec_slotStrobe hs, strobe_stopped h]
  · rw [strobe_armed h, newFrame_frt, newFrame_handed]
    refine ⟨rfl, rfl, rfl, rfl, ?_, rfl, rfl, rfl, rfl, rfl, rfl, fun hw => ?_, rfl, rfl, rfl, rfl, rfl, rfl, rfl, rfl, rfl,
      rfl, rfl, rfl, rfl⟩
    · cases s.frt.restartPending <;> rfl
    · show (s.handed.usable || s.frt.pendingWindows.isSome) = true
      rw [Option.isSome_iff_ne_none.2 hw, Bool.or_true]
  · obtain ⟨htimer, hrestart, htotal, hsync, hmark⟩ := strobe_settings h
    obtain ⟨hsweep, hcheck, hpoll, hhold⟩ := strobe_slotStart h
    refine ⟨htimer, hrestart, htotal, hsync, hmark, hsweep, hcheck, ?_, ?_, fun hno hslot => ?_, fun hend => ?_⟩
    · rw [hpoll, beq_iff_eq]
      exact slotClass_haul_iff ..
    · rw [hhold, beq_iff_eq]
      exact slotClass_voice_iff ..
    · rw [strobe_within h hno hslot, slotStart_frt, nextSlot_frt, slotStart_handed]
      refine ⟨rfl, rfl, rfl, rfl, rfl, rfl, ?_⟩
      show (takeHanded s).handed.walk = false
      rw [takeHanded_handed]
      rfl
    · rw [strobe_newFrame h hend, newFrame_frt, newFrame_handed, (TimerStays.takeHanded s).frt, takeHanded_handed,
        isCadence_succ]
      refine ⟨rfl, rfl, rfl, ?_, rfl, rfl, rfl, rfl, rfl, rfl, rfl, rfl, rfl, rfl, rfl, ?_⟩
      · cases s.frt.restartPending <;> rfl
      · rintro before after rfl rfl
        refine ⟨fun he => ?_, fun he => ?_, fun he => ?_⟩
        all_goals rw [he]
        · exact isMade_rising
        · exact isMade_falling
        · exact isMade_both

/-! ## MARK and lock -/

/-- Lock is judged in PULSED mode at slot 1 only. -/
theorem lockAtSlot_other {t : FrameTimer} (h : t.sync = .free ∨ t.slot ≠ 1) : lockAtSlot t = (t.lock, t.countRun) := by
  refine if_neg fun ⟨hslot, hsync⟩ => ?_
  rcases h with h | h
  · rw [h] at hsync; cases hsync
  · exact h hslot

/-- The count run and the lock state of a frame that the count began (R6). -/
theorem lockOfRun_min (run : Nat) : lockOfRun (min 4 (run + 1)) = if run + 1 < 4 then .seeking else .lost := by
  unfold lockOfRun
  have : min 4 (run + 1) < 4 ↔ run + 1 < 4 := by omega
  simp only [this]

/-- Settles O14: MARK, the LOCK notice and lock at slot 1. -/
theorem slotStartRaisesMarkAndJudgesLock : Obligations.SlotStartRaisesMarkAndJudgesLock := by
  intro s hs
  refine ⟨fun h => ⟨_, exec_slotStrobe hs, ?_⟩, fun h => ⟨_, exec_slotStrobe hs, ?_⟩⟩
  · obtain ⟨hmark, hlock⟩ := newFrame_flags true 0 (if s.frt.restartPending then .pulse else .start) s
    rw [strobe_armed h, newFrame_frt, hmark, hlock]
    simp
  · have hstays := TimerStays.takeHanded s
    rcases strobe_counting_cases s with hend | ⟨hrestart, hslot⟩
    · obtain ⟨hmark, hlock⟩ :=
        newFrame_flags false (s.frt.frame + 1) (if s.frt.restartPending then .pulse else .count) (takeHanded s)
      rw [strobe_newFrame h hend, newFrame_frt, hmark, hlock, hstays.mark, hstays.lock, hstays.frt]
      simp
    · have hfrt := slotStart_frt (nextSlot (takeHanded s))
      rw [nextSlot_frt] at hfrt
      have hmark : (nextSlot (takeHanded s)).hpt.flags.mark = s.hpt.flags.mark := hstays.mark
      have hlock : (nextSlot (takeHanded s)).hpt.flags.lock = s.hpt.flags.lock := hstays.lock
      rw [strobe_within h hrestart hslot, slotStart_mark, slotStart_lock, hfrt, nextSlot_frt, hmark, hlock]
      refine ⟨by simp, by simp, fun hother => ?_, fun hsync hone => ⟨fun hpulse => ?_, fun hpulse hkind => ?_,
        fun hpulse hkind => ?_⟩⟩
      · rw [lockAtSlot_other (t := { s.frt with slot := s.frt.slot + 1 }) hother]
        exact ⟨rfl, rfl⟩
      all_goals
        have hjudged : s.frt.slot + 1 = 1 ∧ s.frt.sync = .pulsed := ⟨hone, hsync⟩
        dsimp only at hpulse
        simp only [lockAtSlot, if_pos hjudged, hpulse]
      · exact ⟨rfl, rfl⟩
      · dsimp only at hkind
        simp only [hkind, lockOfRun_min]
        exact ⟨rfl, rfl⟩
      · dsimp only at hkind
        simp only [hkind]
        exact ⟨rfl, rfl⟩

/-! ## Frame pulses -/

/-- A strobe after a pulse begins a frame whose begin kind is PULSE, with pulse seen (R2, R3). -/
theorem newFrame_pulse (first : Bool) (frame : Frame) (s : State) : (newFrame first frame .pulse s).frt.timer = .counting
    ∧ (newFrame first frame .pulse s).frt.slot = 0 ∧ (newFrame first frame .pulse s).frt.frame = frame
    ∧ (newFrame first frame .pulse s).frt.beginKind = .pulse ∧ (newFrame first frame .pulse s).frt.pulseSeen = true
    ∧ (newFrame first frame .pulse s).frt.restartPending = false := by
  rw [newFrame_frt]
  exact ⟨rfl, rfl, rfl, rfl, rfl, rfl⟩

theorem pulse_ignored {s : State} (h : s.frt.timer = .stopped ∨ s.frt.sync = .free) : pulse s = s := by
  unfold pulse
  split
  · rfl
  · rfl
  all_goals
    next hsync htimer =>
      rcases h with h | h
      · rw [htimer] at h; cases h
      · rw [hsync] at h; cases h

/-- Settles O15: the pulse by mode, timer state and slot, and the strobe that follows it. -/
theorem framePulseIsTreatedBySlot : Obligations.FramePulseIsTreatedBySlot := by
  intro s hs
  rw [exec_framePulse hs]
  refine ⟨fun h => by rw [pulse_ignored h], fun h hsync => ⟨?_, _, exec_slotStrobe hs, ?_⟩,
    fun h => ⟨fun hsync => by rw [pulse_ignored (.inr hsync)], fun hsync h0 => ?_, fun hsync h0 =>
      ⟨?_, _, exec_slotStrobe hs, ?_⟩⟩⟩
  · simp only [pulse, h, hsync]
  · rw [strobe_armed (s := { s with frt := { s.frt with restartPending := true } }) h]
    exact newFrame_pulse ..
  · simp only [pulse, h, hsync, if_pos h0]
  · simp only [pulse, h, hsync, if_neg h0]
  · rw [strobe_newFrame (s := { s with frt := { s.frt with restartPending := true } }) h (.inl rfl)]
    exact (newFrame_pulse ..).2

end Sys2Proof.Machine
end

section
/-! The beacon of a new frame (R15) and the lists of the alert round in progress (R145). -/

namespace Sys2Proof.Machine

/-! ## The beacon -/

/-- With no event handed, a strobe has none to take. -/
theorem takeHanded_none {s : State} (h : s.handed = Handed.none) : takeHanded s = s := by
  simp only [takeHanded, takeWalk, takeEscort, takeExposure, takePanel, takeRound, takeUsable, takeCallWait, takePollFlags,
    takeSilence, takeLimits, takeSweep, takePoll, takeHold, takeCheck, h, Handed.none, Bool.false_eq_true, if_false]

theorem slotStart_same (s : State) : (slotStart s).flk = s.flk ∧ (slotStart s).rev = s.rev
    ∧ (slotStart s).hpt.flags.txLate = s.hpt.flags.txLate := by
  have hmark : (markSlotStart s).flk = s.flk ∧ (markSlotStart s).rev = s.rev
      ∧ (markSlotStart s).hpt.flags.txLate = s.hpt.flags.txLate := by
    unfold markSlotStart; split <;> exact ⟨rfl, rfl, rfl⟩
  have hset : ∀ x (u : State), (setLock x u).flk = u.flk ∧ (setLock x u).rev = u.rev
      ∧ (setLock x u).hpt.flags.txLate = u.hpt.flags.txLate := by
    intro x u; unfold setLock; split <;> exact ⟨rfl, rfl, rfl⟩
  have hlock : ∀ u : State, (judgeLockAtSlot u).flk = u.flk ∧ (judgeLockAtSlot u).rev = u.rev
      ∧ (judgeLockAtSlot u).hpt.flags.txLate = u.hpt.flags.txLate := by
    intro u
    unfold judgeLockAtSlot judgeLock
    split
    · split
      · exact hset ..
      · split
        · exact hset ..
        all_goals exact ⟨rfl, rfl, rfl⟩
    · exact ⟨rfl, rfl, rfl⟩
  obtain ⟨hflk, hrev, htx⟩ := hlock (markSlotStart s)
  exact ⟨hflk.trans hmark.1, hrev.trans hmark.2.1, htx.trans hmark.2.2⟩

/-- The state in which the beacon of a new frame is built: the frame begun, its windows active. -/
def atFrameStart (frame : Frame) (kind : BeginKind) (s : State) : State := applyWindows (beginFrame frame kind s)

theorem atFrameStart_eq (frame : Frame) (kind : BeginKind) (s : State) :
    atFrameStart frame kind s = { s with
      frt := (newFrame true frame kind s).frt
      handed := { s.handed with usable := s.handed.usable || s.frt.pendingWindows.isSome } } := by
  rw [atFrameStart, applyWindows_eq, newFrame_frt]
  rfl

/-- A new frame leaves the field link, the round and TX_LATE as the beacon has left them. -/
theorem newFrame_beacon (first : Bool) (frame : Frame) (kind : BeginKind) (s : State) :
    (newFrame first frame kind s).flk = (buildBeacon (atFrameStart frame kind s)).flk
      ∧ (newFrame first frame kind s).rev = (buildBeacon (atFrameStart frame kind s)).rev
      ∧ (newFrame first frame kind s).hpt.flags.txLate = (buildBeacon (atFrameStart frame kind s)).hpt.flags.txLate :=
  slotStart_same _

theorem writeHolding_holding (m : Outbound) (s : State) :
    (writeHolding m s).flk.holding = some { message := m, stamp := s.stamp } := by
  unfold writeHolding
  dsimp only
  split <;> rfl

theorem holdsLate_iff (s : State) : holdsLate s = true ↔ ∃ h, s.flk.holding = some h ∧ h.stamp ≠ s.stamp := by
  unfold holdsLate
  split
  · next h hh => simp [hh]
  · next hn => simp [hn]

theorem writeHolding_txLate (m : Outbound) (s : State) : (writeHolding m s).hpt.flags.txLate = true ↔
    s.hpt.flags.txLate = true ∨ ∃ h, s.flk.holding = some h ∧ h.stamp ≠ s.stamp := by
  rw [← holdsLate_iff]
  unfold writeHolding
  dsimp only
  split
  · next h => simp [State.notify, NoticeSet.insert, h]
  · next h => simp [h]

/-- The beacon is held with the stamp of its slot, and TX_LATE tells of a message of an earlier slot (R15, R173). -/
theorem buildBeacon_held (s : State) :
    (buildBeacon s).flk.holding = some { message := .beacon (beaconOf s), stamp := s.stamp }
      ∧ ((buildBeacon s).hpt.flags.txLate = true ↔
          s.hpt.flags.txLate = true ∨ ∃ h, s.flk.holding = some h ∧ h.stamp ≠ s.stamp) := by
  obtain ⟨-, hhpt, -, hflk⟩ := advanceRound_same (writeHolding (.beacon (beaconOf s)) s)
  refine ⟨?_, ?_⟩
  · rw [buildBeacon, hflk, writeHolding_holding]
  · rw [buildBeacon, hhpt]
    exact writeHolding_txLate ..

/-- The evacuation list has an entry for each ORDERED zone and its refuge, in ascending order (R15). -/
theorem mem_evacuationList (s : State) (z : Fin 32) (r : Option (Fin 8)) :
    (z, r) ∈ s.evacuationList ↔ (s.zone z).evac = .ordered ∧ (s.zone z).refuge = r := by
  simp only [State.evacuationList, List.mem_map, List.mem_filter, allZones, List.mem_finRange, true_and, beq_iff_eq,
    Prod.mk.injEq]
  constructor
  · rintro ⟨w, hw, rfl, rfl⟩
    exact ⟨hw, rfl⟩
  · rintro ⟨hz, hr⟩
    exact ⟨z, hz, rfl, hr⟩

theorem evacuationList_ascending (s : State) : (s.evacuationList.map (fun e => e.1.val)).Pairwise (· < ·) := by
  rw [State.evacuationList, List.map_map]
  exact List.Pairwise.map _ (fun _ _ h => h) ((List.pairwise_lt_finRange 32).filter _)

/-- The frame that a strobe begins, with the state that it begins it in: at frame 0 while ARMED, at the next frame while
COUNTING with no event handed. -/
theorem strobe_begins {s : State} {frame : Frame} (h : (s.frt.timer = .armed ∧ frame = 0)
      ∨ (s.frt.timer = .counting ∧ s.handed = Handed.none ∧ frame = s.frt.frame + 1
        ∧ (s.frt.restartPending = true ∨ s.frt.slot + 1 = s.frt.total))) :
    ∃ first kind, strobe s = newFrame first frame kind s := by
  rcases h with ⟨harmed, rfl⟩ | ⟨hcounting, hnone, rfl, hend⟩
  · exact ⟨_, _, strobe_armed harmed⟩
  · exact ⟨false, if s.frt.restartPending then .pulse else .count, by
      rw [strobe_newFrame hcounting hend, takeHanded_none hnone]⟩

theorem advanceRound_off {s : State} (h : s.rev.roundOn = false) : advanceRound s = s :=
  if_neg (by rw [h]; exact Bool.false_ne_true)

/-- Settles O16: the beacon of the frame that the strobe begins. -/
theorem frameStartBuildsTheBeacon : Obligations.FrameStartBuildsTheBeacon := by
  intro s frame hs hcase
  obtain ⟨first, kind, hstrobe⟩ := strobe_begins hcase
  obtain ⟨hflk, hrev, htx⟩ := newFrame_beacon first frame kind s
  obtain ⟨hheld, hlate⟩ := buildBeacon_held (atFrameStart frame kind s)
  have hfrt : (atFrameStart frame kind s).frt = (newFrame true frame kind s).frt := by rw [atFrameStart_eq]
  have hstamp : (atFrameStart frame kind s).stamp = { frame := frame, slot := 0 } := by
    rw [State.stamp, hfrt, newFrame_frt]
  have hzone : ∀ z, (atFrameStart frame kind s).zone z = s.zone z := fun z => by rw [atFrameStart_eq]; rfl
  refine ⟨_, beaconOf (atFrameStart frame kind s), exec_slotStrobe hs, ?_, ?_, ?_, ?_, fun z r => ?_,
    evacuationList_ascending _, fun hoff => ?_, ?_⟩
  · rw [hstrobe, hflk, hheld, hstamp]
  · rw [beaconOf, hfrt, newFrame_frt]
  · rw [beaconOf, hfrt, newFrame_frt]
  · rw [beaconOf, atFrameStart_eq]
  · rw [← hzone z]
    exact mem_evacuationList ..
  · have hround : (atFrameStart frame kind s).rev.roundOn = false := by rw [atFrameStart_eq]; exact hoff
    have hlists : roundLists (atFrameStart frame kind s) = ([], [], none) :=
      if_neg (by rw [hround]; exact Bool.false_ne_true)
    refine ⟨by rw [beaconOf, hlists], by rw [beaconOf, hlists], ?_⟩
    have hsame : ∀ m, (writeHolding m (atFrameStart frame kind s)).rev = (atFrameStart frame kind s).rev := by simp
    rw [hstrobe, hrev, buildBeacon, advanceRound_off (by rw [hsame]; exact hround), hsame, atFrameStart_eq]
  · rw [hstrobe, htx, hlate, hstamp, atFrameStart_eq]

/-! ## The alert round -/

/-- The slots of the roster from a place upward, live or free, as a round scans them. -/
theorem slotsWhere_eq (s : State) (f : Person → Bool) :
    s.slotsWhere f = allSlots.filter (fun i => (s.person i).any f) := by
  rw [State.slotsWhere, indexedSlots_eq, List.filter_map, List.map_map]
  simp only [Function.comp_def, holds_eq_any, State.person]
  exact List.map_id' _

/-- A scan passes free slots by. -/
theorem scanSlots_live (s : State) (l : List (Fin 240)) (alerts pages : List Tag) :
    scanSlots s alerts pages (l.filter (fun i => (s.person i).isSome)) = scanSlots s alerts pages l := by
  induction l generalizing alerts pages with
  | nil => rfl
  | cons i l ih =>
    cases hp : s.person i with
    | none => simp only [List.filter_cons, hp, Option.isSome_none, Bool.false_eq_true, if_false, ih, scanSlots]
    | some p =>
      simp only [List.filter_cons, hp, Option.isSome_some, if_true, scanSlots, ih]

/-- The alert tags of a slot. -/
def State.alertTagsAt (s : State) (i : Fin 240) : List Tag := (s.person i).elim [] Person.alertTags

/-- The page tags of a slot. -/
def State.pageTagsAt (s : State) (i : Fin 240) : List Tag := (s.person i).elim [] Person.pageTags

/-- What a scan gives: the slots before its stop, each whole, within the two limits, and the slot at which it stopped, which
would pass one of them (R145). -/
structure Scanned (s : State) (alerts pages : List Tag) (before rest : List (Fin 240))
    (out : List Tag × List Tag × Option (Fin 240)) : Prop where
  alerts : out.1 = alerts ++ before.flatMap s.alertTagsAt
  pages : out.2.1 = pages ++ before.flatMap s.pageTagsAt
  stop : out.2.2 = rest.head?
  alertLimit : out.1.length ≤ 8
  pageLimit : out.2.1.length ≤ 4
  full : ∀ i later, rest = i :: later → 8 < out.1.length + (s.alertTagsAt i).length
    ∨ 4 < out.2.1.length + (s.pageTagsAt i).length

theorem Scanned.cons {s : State} {alerts pages : List Tag} {before rest : List (Fin 240)} {i : Fin 240}
    {out : List Tag × List Tag × Option (Fin 240)}
    (h : Scanned s (alerts ++ s.alertTagsAt i) (pages ++ s.pageTagsAt i) before rest out) :
    Scanned s alerts pages (i :: before) rest out :=
  { h with
    alerts := by rw [h.alerts, List.flatMap_cons, List.append_assoc]
    pages := by rw [h.pages, List.flatMap_cons, List.append_assoc] }

theorem scanSlots_spec (s : State) (l : List (Fin 240)) {alerts pages : List Tag} (ha : alerts.length ≤ 8)
    (hp : pages.length ≤ 4) :
    ∃ before rest, l = before ++ rest ∧ Scanned s alerts pages before rest (scanSlots s alerts pages l) := by
  induction l generalizing alerts pages with
  | nil =>
    exact ⟨[], [], rfl, (List.append_nil _).symm, (List.append_nil _).symm, rfl, ha, hp, fun _ _ h => nomatch h⟩
  | cons i l ih =>
    unfold scanSlots
    split
    · next hfree =>
      obtain ⟨before, rest, rfl, h⟩ := ih ha hp
      have halert : s.alertTagsAt i = [] := by rw [State.alertTagsAt, hfree]; rfl
      have hpage : s.pageTagsAt i = [] := by rw [State.pageTagsAt, hfree]; rfl
      refine ⟨i :: before, rest, rfl, .cons ?_⟩
      rw [halert, hpage, List.append_nil, List.append_nil]
      exact h
    · next p hlive =>
      have halert : s.alertTagsAt i = p.alertTags := by rw [State.alertTagsAt, hlive]; rfl
      have hpage : s.pageTagsAt i = p.pageTags := by rw [State.pageTagsAt, hlive]; rfl
      split
      · next hfull =>
        refine ⟨[], i :: l, rfl, (List.append_nil _).symm, (List.append_nil _).symm, rfl, ha, hp, fun j later hj => ?_⟩
        obtain ⟨rfl, -⟩ := List.cons.inj hj
        rw [halert, hpage]
        simpa only [List.length_append] using hfull
      · next hroom =>
        simp only [not_or, Nat.not_lt] at hroom
        obtain ⟨before, rest, rfl, h⟩ := ih hroom.1 hroom.2
        refine ⟨i :: before, rest, rfl, .cons ?_⟩
        rw [halert, hpage]
        exact h

/-- The lists of a round in progress are a scan from its cursor over every slot (R145). -/
theorem roundLists_on {s : State} (h : s.rev.roundOn = true) : roundLists s =
    scanSlots s [] [] (allSlots.filter (fun i => decide (s.rev.roundCursor ≤ i.val))) := by
  have hlive : s.liveSlots.filter (fun i => decide (s.rev.roundCursor ≤ i.val)) =
      (allSlots.filter (fun i => decide (s.rev.roundCursor ≤ i.val))).filter (fun i => (s.person i).isSome) := by
    rw [State.liveSlots, slotsWhere_eq, List.filter_filter, List.filter_filter]
    refine List.filter_congr fun i _ => ?_
    rw [Bool.and_comm]
    cases s.person i <;> rfl
  rw [roundLists, if_pos h, hlive, scanSlots_live]

theorem scanSlots_congr {s t : State} (h : ∀ i, t.person i = s.person i) (l : List (Fin 240)) (alerts pages : List Tag) :
    scanSlots t alerts pages l = scanSlots s alerts pages l := by
  induction l generalizing alerts pages with
  | nil => rfl
  | cons i l ih => simp only [scanSlots, h, ih]

/-- A round in progress moves its cursor to the stop of its scan, or ends (R144, R145). -/
theorem buildBeacon_rev {s : State} (h : s.rev.roundOn = true) : (buildBeacon s).rev =
    match (roundLists s).2.2 with
    | some i => { s.rev with roundCursor := i.val }
    | none => { s.rev with roundOn := false, roundStart := none, roundCursor := 240 } := by
  have hwrite : (writeHolding (.beacon (beaconOf s)) s).rev = s.rev := by simp
  have hperson : ∀ i, (writeHolding (.beacon (beaconOf s)) s).person i = s.person i := fun i => by
    rw [writeHolding_only]; rfl
  have hlists : roundLists (writeHolding (.beacon (beaconOf s)) s) = roundLists s := by
    rw [roundLists_on (by rw [hwrite]; exact h), roundLists_on h, hwrite, scanSlots_congr hperson]
  unfold buildBeacon advanceRound
  rw [hwrite, if_pos h, hlists]
  cases (roundLists s).2.2 <;> rfl

/-- Settles O17: the beacon's lists are a scan from the cursor, and the round goes on where it stopped. -/
theorem alertRoundFillsTheBeaconLists : Obligations.AlertRoundFillsTheBeaconLists := by
  intro s hs hcounting hnone hend hon alertsOf pagesOf
  obtain ⟨first, kind, hstrobe⟩ := strobe_begins (s := s) (.inr ⟨hcounting, hnone, rfl, hend⟩)
  obtain ⟨hflk, hrev, -⟩ := newFrame_beacon first (s.frt.frame + 1) kind s
  obtain ⟨hheld, -⟩ := buildBeacon_held (atFrameStart (s.frt.frame + 1) kind s)
  generalize hu : atFrameStart (s.frt.frame + 1) kind s = u at hflk hrev hheld
  have hurev : u.rev = s.rev := by rw [← hu, atFrameStart_eq]
  have huperson : ∀ i, u.person i = s.person i := fun i => by rw [← hu, atFrameStart_eq]; rfl
  have huon : u.rev.roundOn = true := by rw [hurev, hon]
  have halerts : u.alertTagsAt = alertsOf := funext fun i => by
    show (u.person i).elim _ _ = _
    rw [huperson]
    show _ = (match s.person i with | some p => if p.alert = Alert.sent then [p.tag] else [] | none => [])
    cases s.person i <;> rfl
  have hpages : u.pageTagsAt = pagesOf := funext fun i => by
    show (u.person i).elim _ _ = _
    rw [huperson]
    show _ = (match s.person i with | some p => if p.page then [p.tag] else [] | none => [])
    cases s.person i <;> rfl
  obtain ⟨before, rest, hsplit, hscan⟩ := scanSlots_spec u (allSlots.filter (fun i => decide (u.rev.roundCursor ≤ i.val)))
    (alerts := []) (pages := []) (Nat.zero_le _) (Nat.zero_le _)
  rw [← roundLists_on huon] at hscan
  refine ⟨_, beaconOf u, before, rest, exec_slotStrobe hs, ?_, ?_, ?_, ?_, hscan.alertLimit, hscan.pageLimit, fun hrest => ?_,
    fun i later hrest => ?_⟩
  · rw [hstrobe, hflk, hheld]
    rfl
  · rw [← hurev]
    exact hsplit
  · rw [← halerts]
    exact hscan.alerts
  · rw [← hpages]
    exact hscan.pages
  · have hstop : (roundLists u).2.2 = none := by rw [hscan.stop, hrest]; rfl
    rw [hstrobe, hrev, buildBeacon_rev huon, hstop]
    exact ⟨rfl, rfl, rfl⟩
  · have hstop : (roundLists u).2.2 = some i := by rw [hscan.stop, hrest]; rfl
    rw [hstrobe, hrev, buildBeacon_rev huon, hstop, hurev]
    refine ⟨hon, rfl, rfl, ?_⟩
    have hfull := hscan.full i later hrest
    rw [halerts, hpages] at hfull
    exact hfull

end Sys2Proof.Machine
end

section
/-! Requests of the sequencer's mode, of forced orders and of enrolment, and the field link's arrivals and fetches. -/

namespace Sys2Proof.Machine

open Sys2Proof.Safety (Ready answered taken Names NamesTruck)

/-! ## AIR_CONTROL (R95) -/

theorem SequencerMode.ofByte?_eq_some_iff {b : Byte} {x : SequencerMode} : SequencerMode.ofByte? b = some x ↔ x.code = b := by
  constructor
  · intro h
    unfold SequencerMode.ofByte? at h
    split at h
    all_goals cases h
    all_goals next hb => exact (code_eq hb).symm
  · rintro rfl
    cases x <;> rfl

/-- A sweep aborted: its buffer cleared, and an aborted group the resume group (R95). -/
theorem abortSweep_eq (s : State) : abortSweep s = { s with air := { s.air with
    sweep := .noSweep, buffer := (abortSweep s).air.buffer, turnLive := (abortSweep s).air.turnLive,
    resume := (abortSweep s).air.resume } } := by
  unfold abortSweep
  split
  · next h => rw [← h]
  · rfl
  · rfl

theorem writeMode_eq {m : SequencerMode} (hm : m ≠ .idle) (groups : Byte) (s : State) : writeMode m groups s =
    { s with air := { s.air with
      mode := if m = .once ∧ groups = 0 then .paused else m, enableSet := groups,
      onceSet := if m = .once then groups else 0 } } := by
  cases m with
  | idle => exact absurd rfl hm
  | scan => rfl
  | paused => rfl
  | once => simp [writeMode]

theorem reqAirControl_written {mode groups : Byte} {m : SequencerMode} (hm : m ≠ .idle) (hcode : m.code = mode) (s : State) :
    reqAirControl mode groups s = (writeMode m groups (abortSweep s)).done := by
  unfold reqAirControl
  rw [SequencerMode.ofByte?_eq_some_iff.2 hcode]
  cases m with
  | idle => exact absurd rfl hm
  | scan => rfl
  | once => rfl
  | paused => rfl

theorem reqAirControl_refused {mode groups : Byte} (h : mode.toNat = 0 ∨ 3 < mode.toNat) (s : State) :
    reqAirControl mode groups s = s.refuse .badArgument := by
  have hnone : ∀ m, SequencerMode.ofByte? mode = some m → m = .idle := by
    intro m hm
    have hcode := SequencerMode.ofByte?_eq_some_iff.1 hm
    subst hcode
    cases m with
    | idle => rfl
    | _ => exact absurd h (by decide)
  unfold reqAirControl
  split
  · next hm => cases hnone _ hm
  · next hm => cases hnone _ hm
  · next hm => cases hnone _ hm
  · rfl
  · rfl

/-- Settles O40: the abort by the kind of sweep in flight, then the mode. -/
theorem airControlAbortsAndWritesTheMode : Obligations.AirControlAbortsAndWritesTheMode := by
  intro mode groups s hr
  have hrun : s.hpt.phase = .running → exec (.airControl mode groups) s = .next (reqAirControl mode groups (taken s)) :=
    fun hp => exec_admitted_running hr hp rfl rfl rfl
  refine ⟨fun hp => exec_wrongPhase hr rfl rfl (by rw [hp]; rfl), fun hp h => ?_, fun hp m hm hcode => ⟨_, hrun hp, ?_⟩,
    fun count => ?_⟩
  · rw [hrun hp, reqAirControl_refused h, refuse_taken]
  · rw [reqAirControl_written hm hcode, writeMode_eq hm, abortSweep_eq]
    refine ⟨rfl, fun h => ?_, fun h k => ?_, fun g hg => ?_, fun c hc => ?_⟩
    · show (abortSweep (taken s)).air.buffer = _ ∧ (abortSweep (taken s)).air.resume = _
      simp only [abortSweep, taken_air, h, and_self]
    · show (abortSweep (taken s)).air.buffer[k] = none
      unfold abortSweep
      split
      · next h' => exact absurd h' h
      all_goals exact Vector.getElem_replicate k.isLt
    · show (abortSweep (taken s)).air.resume = _
      simp only [abortSweep, taken_air, hg]
    · show (abortSweep (taken s)).air.resume = _
      simp only [abortSweep, taken_air, hc]
  · have hexec : exec (.conversionCompletion count true) s =
        .next (unlessReset (fun u => if true = true then u else completeTurn count u) s) := rfl
    rw [hexec, unlessReset]
    split <;> rfl

/-! ## Forced orders (R132, R134) -/

theorem Order.ofByte?_eq_some_iff {b : Byte} {x : Order} : Order.ofByte? b = some x ↔ x.code = b := by
  constructor
  · intro h
    unfold Order.ofByte? at h
    split at h
    all_goals cases h
    all_goals next hb => exact (code_eq hb).symm
  · rintro rfl
    cases x <;> rfl

theorem Order.ofByte?_eq_none_iff {b : Byte} : Order.ofByte? b = none ↔ 3 ≤ b.toNat := by
  unfold Order.ofByte?
  split
  all_goals simp only [reduceCtorEq, false_iff, true_iff, imp_false] at *
  all_goals omega

theorem reqForceOrder_refused {number : Word16} {order : Byte}
    (h : ¬ (1 ≤ number.toNat ∧ number.toNat ≤ 4095) ∨ 2 < order.toNat) (s : State) :
    reqForceOrder number order s = s.refuse .badArgument := by
  unfold reqForceOrder
  split
  · rfl
  · next o ho =>
    have horder : ¬ 3 ≤ order.toNat := by rw [← Order.ofByte?_eq_none_iff, ho]; simp
    exact withTruck_refused (h.resolve_right (by omega)) _ s

/-- Settles O46: each request by its number, its order and its phase. -/
theorem ordersAreForcedAndReleased : Obligations.OrdersAreForcedAndReleased := by
  intro number order s hr inRange unheld
  have hrelease : exec (.releaseOrder number) s = .next (reqReleaseOrder number (taken s)) := exec_admitted hr rfl rfl rfl
  refine ⟨fun h => ?_, fun h hu => ?_, fun q u hn => ?_, fun hp => ?_⟩
  · rw [hrelease, reqReleaseOrder, withTruck_refused h, refuse_taken]
  · rw [hrelease, reqReleaseOrder, withTruck_noRecord (s := taken s) h hu, refuse_taken]
  · rw [hrelease, reqReleaseOrder, withTruck_of_names (s := taken s) hn]
    rfl
  have hforce : exec (.forceOrder number order) s = .next (reqForceOrder number order (taken s)) :=
    exec_admitted_running hr hp rfl rfl rfl
  refine ⟨fun h => ?_, fun h ho hu => ?_, fun q u o hn ho => ?_, ?_⟩
  · rw [hforce, reqForceOrder_refused h, refuse_taken]
  · have hsome : Order.ofByte? order ≠ none := by rw [Ne, Order.ofByte?_eq_none_iff]; omega
    obtain ⟨o, ho⟩ := Option.ne_none_iff_exists'.1 hsome
    simp only [hforce, reqForceOrder, ho, withTruck_noRecord (s := taken s) h hu, refuse_taken]
  · simp only [hforce, reqForceOrder, Order.ofByte?_eq_some_iff.2 ho, withTruck_of_names (s := taken s) hn]
    rfl
  · exact exec_admitted_running hr hp rfl rfl rfl

/-! ## Arrivals (R168) -/

/-- The length that a delivery's kind requires (R168, R190). -/
def Required (bytes : List Byte) (n : Nat) : Prop :=
  (bytes[0]? = some 1 ∧ n = 8)
    ∨ (bytes[0]? = some 2 ∧ ∃ k, bytes[5]? = some k ∧ n = 6 + 4 * k.toNat)
    ∨ (bytes[0]? = some 3 ∧ ∃ i o, bytes[4]? = some i ∧ bytes[5]? = some o ∧ n = 6 + 3 * i.toNat + 3 * o.toNat)

/-- A delivery brings the message of its required length, where it reaches it. -/
theorem completeMessage_of_required {bytes : List Byte} {n : Nat} (h : Required bytes n) :
    completeMessage bytes = if n ≤ bytes.length then some (bytes.take n) else none := by
  unfold completeMessage
  cases bytes with
  | nil => rcases h with ⟨h, -⟩ | ⟨h, -⟩ | ⟨h, -⟩ <;> cases h
  | cons kind rest =>
    rcases h with ⟨hk, rfl⟩ | ⟨hk, k, hlen, rfl⟩ | ⟨hk, i, o, hi, ho, rfl⟩
    · obtain rfl : kind = 1 := Option.some.inj hk
      rfl
    · obtain rfl : kind = 2 := Option.some.inj hk
      have hlen' : rest[4]? = some k := hlen
      show (match rest[4]? with | some n => _ | none => none) = _
      rw [hlen', show 6 + 4 * k.toNat = 5 + 4 * k.toNat + 1 by omega]
    · obtain rfl : kind = 3 := Option.some.inj hk
      have hi' : rest[3]? = some i := hi
      have ho' : rest[4]? = some o := ho
      show (match rest[3]?, rest[4]? with | some i, some o => _ | _, _ => none) = _
      rw [hi', ho']
      rw [show 6 + 3 * i.toNat + 3 * o.toNat = 5 + 3 * i.toNat + 3 * o.toNat + 1 by omega]

/-- A delivery brings no message where it requires no length, or ends before the length it requires. -/
theorem completeMessage_none {bytes : List Byte} (h : ∀ n, Required bytes n → bytes.length < n) :
    completeMessage bytes = none := by
  unfold completeMessage
  cases bytes with
  | nil => rfl
  | cons kind rest =>
    dsimp only
    split
    · next hk => exact if_neg (Nat.not_le.2 (h 8 (.inl ⟨congrArg some (code_eq hk), rfl⟩)))
    · next hk =>
      split
      · next k hlen =>
        have := h _ (.inr (.inl ⟨congrArg some (code_eq hk), k, hlen, rfl⟩))
        exact if_neg (by omega)
      · rfl
    · next hk =>
      split
      · next i o hi ho =>
        have := h _ (.inr (.inr ⟨congrArg some (code_eq hk), i, o, hi, ho, rfl⟩))
        exact if_neg (by omega)
      · rfl
    · rfl

/-- Settles O55: the arrival by the timer, the delivery's length and the room in the queue. -/
theorem arrivalIsQueuedWithItsStamp : Obligations.ArrivalIsQueuedWithItsStamp := by
  intro bytes s hs required
  have hexec : exec (.fieldArrival bytes) s = .next (arriveMessage bytes s) := congrArg _ (unlessReset_high hs _)
  refine ⟨fun h => ?_, fun h => ?_, fun n hc hreq hlen => ?_⟩
  · rw [hexec, arriveMessage, if_neg h]
  · rw [hexec, arriveMessage, completeMessage_none h]
    split <;> rfl
  · have hmessage : completeMessage bytes = some (bytes.take n) := by
      rw [completeMessage_of_required hreq, if_pos hlen]
    simp only [hexec, arriveMessage, if_pos hc, hmessage]
    refine ⟨fun hfull => ?_, fun hroom => ?_⟩
    · rw [if_neg (Nat.not_lt.2 hfull)]
      rfl
    · rw [if_pos hroom]
      rfl

/-! ## The holding slot (R173, R174) -/

theorem fetchHeld_of {s : State} {m : Outbound} {stamp : SlotStamp}
    (h : s.flk.holding = some { message := m, stamp := stamp }) :
    fetchHeld s = { s with flk := { s.flk with holding := none },
                           fieldOut := m.kind :: (bytes16 stamp.frame ++ twoBytes stamp.slot ++ m.body) } := by
  simp only [fetchHeld, h]
  rfl

/-- Settles O58: the slot start's check, and the fetch by the kind of message held. -/
theorem heldMessageIsFetchedOrDropped : Obligations.HeldMessageIsFetchedOrDropped := by
  intro s hs s0 fetched
  have hcheck : exec .holdingSlotCheck s = .next (takeCheck s) := congrArg _ (unlessReset_high hs _)
  have hfetch : exec .fetch s = .next (fetchHeld s) := congrArg _ (unlessReset_high hs _)
  have hlate : holdsLate s0 = holdsLate s := rfl
  refine ⟨fun h => ?_, fun h hh => ?_, fun h hh => ?_, fun h => ?_, fun m stamp h => ?_⟩
  · rw [hcheck, takeCheck, h, if_neg Bool.false_ne_true]
  · have hnot : ¬ holdsLate s0 = true := by
      rw [hlate, holdsLate_iff]
      rintro ⟨m, hm, hne⟩
      exact hne (hh m hm)
    rw [hcheck, takeCheck, if_pos h]
    exact congrArg _ (if_neg hnot)
  · rw [hcheck, takeCheck, if_pos h]
    exact congrArg _ (if_pos (hlate.trans ((holdsLate_iff s).2 hh)))
  · simp only [hfetch, fetchHeld, h]
  · rw [hfetch, fetchHeld_of h]
    refine ⟨?_, ?_, ?_⟩
    · rintro n order z intrusion rfl
      rfl
    · rintro c tag rfl
      rfl
    · rintro b rfl
      show _ = Host.Outcome.next { s with flk := _, fieldOut := _ }
      simp only [Outbound.kind, Outbound.body, Beacon.bytes, counted, List.append_assoc, List.cons_append, List.nil_append]

/-! ## Enrolment (R56) -/

theorem Role.ofByte?_eq_some_iff {b : Byte} {x : Role} : Role.ofByte? b = some x ↔ x.code = b := by
  constructor
  · intro h
    unfold Role.ofByte? at h
    split at h
    all_goals cases h
    all_goals next hb => exact (code_eq hb).symm
  · rintro rfl
    cases x <;> rfl

/-- Two bytes that a handle of a live OFFICIAL record spells (R56). -/
def SpellsOfficial (s : State) (slot gen : Byte) (h : Handle) : Prop :=
  slot.toNat = h.slot.val ∧ gen.toNat = h.gen.toNat
    ∧ ∃ e, s.person h.slot = some e ∧ (s.slot h.slot).gen = h.gen ∧ e.role = .official

theorem handle?_eq_some_iff {slot gen : Byte} {h : Handle} :
    handle? slot gen = some h ↔ slot.toNat = h.slot.val ∧ gen.toNat = h.gen.toNat := by
  constructor
  · intro hh
    unfold handle? at hh
    split at hh
    · split at hh
      · next hg =>
        obtain rfl := Option.some.inj hh
        exact ⟨rfl, by rw [BitVec.toNat_ofNat, Nat.mod_eq_of_lt hg]⟩
      · cases hh
    · cases hh
  · rintro ⟨hslot, hgen⟩
    have hg : gen.toNat < 16 := hgen ▸ h.gen.isLt
    rw [handle?_inRange hslot hg, hgen, BitVec.ofNat_toNat, BitVec.setWidth_eq]

theorem official?_eq_some_iff {s : State} {slot gen : Byte} {h : Handle} :
    s.official? slot gen = some h ↔ SpellsOfficial s slot gen h := by
  unfold State.official? SpellsOfficial
  constructor
  · intro hh
    split at hh
    · cases hh
    · next h' hspell =>
      split at hh
      · next e he =>
        split at hh
        · next hrole =>
          obtain rfl := Option.some.inj hh
          obtain ⟨hslot, hgen⟩ := handle?_eq_some_iff.1 hspell
          unfold State.named at he
          split at he
          · next hg => exact ⟨hslot, hgen, e, he, hg, hrole⟩
          · cases he
        · cases hh
      · cases hh
  · rintro ⟨hslot, hgen, e, he, hg, hrole⟩
    have hnamed : s.named h = some e := by rw [State.named, if_pos hg, he]
    simp only [handle?_eq_some_iff.2 ⟨hslot, hgen⟩, hnamed, if_pos hrole]

/-- The lowest free slot. -/
theorem freeSlot_eq_find (s : State) : s.freeSlot = allSlots.find? (fun i => (s.person i).isNone) := by
  rw [State.freeSlot, indexedSlots_eq, List.find?_map, Option.map_map]
  simp only [Function.comp_def, State.person]
  exact Option.map_id' ..

theorem freeSlot_none {s : State} : s.freeSlot = none ↔ ∀ i, (s.person i).isSome = true := by
  rw [freeSlot_eq_find, List.find?_eq_none]
  simp [allSlots, Option.isSome_iff_ne_none]

/-- The first member of a table that passes a test. -/
theorem find?_finRange {n : Nat} {p : Fin n → Bool} {i : Fin n} (hi : p i = true) (hbefore : ∀ j < i, p j = false) :
    (List.finRange n).find? p = some i := by
  refine List.find?_eq_some_iff_getElem.2 ⟨hi, i.val, by simp, by simp, fun j hj => ?_⟩
  rw [List.getElem_finRange, hbefore _ hj]
  rfl

theorem freeSlot_some {s : State} {i : Fin 240} (hfree : s.person i = none) (hbefore : ∀ j < i, (s.person j).isSome = true) :
    s.freeSlot = some i := by
  rw [freeSlot_eq_find]
  refine find?_finRange (by rw [hfree]; rfl) fun j hj => ?_
  obtain ⟨p, hp⟩ := Option.isSome_iff_exists.1 (hbefore j hj)
  rw [hp]
  rfl

/-- The escort that ENROL's arguments give a role (R56): an absent one for CREW and OFFICIAL, a live OFFICIAL for VISITOR. -/
theorem enrolEscort?_eq_some_iff {s : State} {r : Role} {slot gen : Byte} {escort : Option Handle} :
    s.enrolEscort? r slot gen = some escort ↔ (r ≠ .visitor ∧ slot = 255 ∧ escort = none)
      ∨ (r = .visitor ∧ ∃ h, escort = some h ∧ SpellsOfficial s slot gen h) := by
  have habsent : ∀ h, SpellsOfficial s 255 gen h → False := by
    rintro h ⟨hslot, -⟩
    have hlt := h.slot.isLt
    rw [← hslot] at hlt
    exact absurd hlt (by decide)
  unfold State.enrolEscort?
  cases r with
  | visitor =>
    simp only [ne_eq, not_true_eq_false, false_and, true_and, false_or]
    split
    · next h => simp only [reduceCtorEq, false_iff, not_exists, not_and, h]; exact fun h' _ => habsent h'
    · simp only [Option.map_eq_some_iff, official?_eq_some_iff]
      exact ⟨fun ⟨h, hs, he⟩ => ⟨h, he.symm, hs⟩, fun ⟨h, he, hs⟩ => ⟨h, hs, he.symm⟩⟩
  | _ =>
    simp only [ne_eq, reduceCtorEq, not_false_eq_true, true_and, false_and, or_false]
    split
    · next h => simp [h, eq_comm]
    · next h => exact ⟨fun hn => (by cases hn), fun hn => absurd hn.1 h⟩

/-- The arguments of ENROL are good (R56). -/
def EnrolFits (tag : Tag) (role escortSlot escortGen : Byte) (s : State) (r : Role) (escort : Option Handle) : Prop :=
  r.code = role ∧ s.enrolEscort? r escortSlot escortGen = some escort ∧ validTag tag = true ∧ s.slotOfTag tag = none

theorem reqEnrol_fits {tag : Tag} {role escortSlot escortGen : Byte} {s : State} {r : Role} {escort : Option Handle}
    (h : EnrolFits tag role escortSlot escortGen s r escort) : reqEnrol tag role escortSlot escortGen s =
      match s.freeSlot with
      | none => s.refuse .noRoom
      | some i => (makeRecord i (Person.enrolled tag r escort) s).reply .done (s.handle i).bytes := by
  obtain ⟨hrole, hescort, htag, hheld⟩ := h
  simp only [reqEnrol, Role.ofByte?_eq_some_iff.2 hrole, hescort, htag, hheld]
  rfl

theorem reqEnrol_refused {tag : Tag} {role escortSlot escortGen : Byte} {s : State}
    (h : ∀ r escort, ¬ EnrolFits tag role escortSlot escortGen s r escort) :
    reqEnrol tag role escortSlot escortGen s = s.refuse .badArgument := by
  unfold reqEnrol
  split
  · rfl
  · next r hr =>
    split
    · rfl
    · next escort hescort =>
      refine if_pos ?_
      by_contra hok
      simp only [not_or, Bool.not_eq_true, Option.isSome_eq_false_iff, Option.isNone_iff_eq_none] at hok
      exact h r escort ⟨Role.ofByte?_eq_some_iff.1 hr, hescort, Bool.not_eq_false _ ▸ hok.1, hok.2⟩

/-- Settles O25: the checks of the arguments, and the lowest free slot. -/
theorem enrolMakesARecord : Obligations.EnrolMakesARecord := by
  intro tag role escortSlot escortGen s hr held official good
  have hheld : ¬ held ↔ (taken s).slotOfTag tag = none := by
    rw [slotOfTag_none]
    show (¬ ∃ i p, s.person i = some p ∧ p.tag = tag) ↔ ∀ i p, s.person i = some p → p.tag ≠ tag
    simp only [not_exists, not_and, ne_eq]
  have hvisitor : ∀ r : Role, r.code = role → (r = .visitor ↔ role = 2) := by
    rintro r rfl
    cases r <;> decide
  have hfits : ∀ r escort, r.code = role → (role = 2 → ∃ h, escort = some h ∧ official h) → (role ≠ 2 → escort = none) →
      good → EnrolFits tag role escortSlot escortGen (taken s) r escort := by
    rintro r escort hrole hv hn ⟨h0, h1, hnot, hcase⟩
    refine ⟨hrole, enrolEscort?_eq_some_iff.2 ?_, (validTag_iff tag).2 ⟨h0, h1⟩, hheld.1 hnot⟩
    rcases hcase with ⟨hlt, habsent⟩ | ⟨h2, -⟩
    · have hne : role ≠ 2 := fun h => by rw [h] at hlt; exact absurd hlt (by decide)
      exact .inl ⟨mt (hvisitor r hrole).1 hne, habsent, hn hne⟩
    · exact .inr ⟨(hvisitor r hrole).2 h2, hv h2⟩
  have hgood : ∀ r escort, EnrolFits tag role escortSlot escortGen (taken s) r escort → good := by
    rintro r escort ⟨hrole, hescort, htag, hfree⟩
    obtain ⟨h0, h1⟩ := (validTag_iff tag).1 htag
    refine ⟨h0, h1, hheld.2 hfree, ?_⟩
    rcases enrolEscort?_eq_some_iff.1 hescort with ⟨hne, habsent, -⟩ | ⟨hv, h, -, hoff⟩
    · subst hrole
      cases r with
      | visitor => exact absurd rfl hne
      | crew => exact .inl ⟨by decide, habsent⟩
      | official => exact .inl ⟨by decide, habsent⟩
    · exact .inr ⟨(hvisitor r hrole).1 hv, h, hoff⟩
  refine ⟨fun hbad => ?_, fun hok hfull => ?_, fun i hok hfree hbefore r escort hrole hv hn => ?_⟩
  · rw [exec_enrol hr, reqEnrol_refused fun r escort h => hbad (hgood r escort h), refuse_taken]
  · have hsome : ∃ r escort, EnrolFits tag role escortSlot escortGen (taken s) r escort := by
      obtain ⟨-, -, -, hcase⟩ := id hok
      rcases hcase with ⟨hlt, -⟩ | ⟨h2, h, hoff⟩
      · have hne : role ≠ 2 := fun h => by rw [h] at hlt; exact absurd hlt (by decide)
        rcases (by omega : role.toNat = 0 ∨ role.toNat = 1) with h | h
        · exact ⟨.crew, none, hfits _ _ (code_eq h).symm (fun h2 => absurd h2 hne) (fun _ => rfl) hok⟩
        · exact ⟨.official, none, hfits _ _ (code_eq h).symm (fun h2 => absurd h2 hne) (fun _ => rfl) hok⟩
      · exact ⟨.visitor, some h, hfits _ _ h2.symm (fun _ => ⟨h, rfl, hoff⟩) (fun hne => absurd h2 hne) hok⟩
    obtain ⟨r, escort, hf⟩ := hsome
    rw [exec_enrol hr, reqEnrol_fits hf, freeSlot_none (s := taken s) |>.2 hfull, refuse_taken]
  · rw [exec_enrol hr, reqEnrol_fits (hfits r escort hrole hv hn hok), freeSlot_some (s := taken s) hfree hbefore]
    rfl

end Sys2Proof.Machine
end

section
/-! A matter of the attention queue (R41 to R46): whether it waits, with an ACTIVE item or as a due mark, and what each
operation of the queue does to it and to the other matters. -/

namespace Sys2Proof.Machine

open Sys2Proof.Safety (QueueHolds Raised NotRaised)

/-! ## A matter that waits -/

/-- A matter has an ACTIVE item in the queue, or a due mark. -/
def Waits (k : ItemKind) (x : Subject) (q : AttentionQueue) : Prop :=
  (∃ it ∈ q.items, it.kind = k ∧ it.subject = x ∧ it.condition = .active) ∨ ∃ d ∈ q.due, d.kind = k ∧ d.subject = x

/-- The queue's search finds an ACTIVE item of a matter, or it finds none and the matter has a due mark. -/
def Stands (k : ItemKind) (x : Subject) (s : State) : Prop :=
  (∃ it, s.item k x = some it ∧ it.condition = .active) ∨ (s.item k x = none ∧ ∃ d ∈ s.atq.due, d.kind = k ∧ d.subject = x)

theorem dueMark_isSome_iff {k : ItemKind} {x : Subject} {s : State} :
    (∃ f, s.dueMark k x = some f) ↔ ∃ d ∈ s.atq.due, d.kind = k ∧ d.subject = x := by
  rw [← Option.ne_none_iff_exists', Ne, dueMark_none]
  simp only [not_forall, not_not, exists_prop]

theorem condition_ended_iff (it : Item) : it.condition = .ended ↔ ¬ it.condition = .active := by
  cases it.condition <;> simp

/-- A matter that is not raised does not wait, and conversely. -/
theorem notRaised_iff {k : ItemKind} {x : Subject} {s : State} : NotRaised k x s ↔ ¬ Waits k x s.atq := by
  simp only [NotRaised, Waits, dueMark_none, condition_ended_iff, not_or, not_exists, not_and]

/-- Where L7 holds, an item of a matter is the one that the queue's search finds. -/
theorem item_eq_some {k : ItemKind} {x : Subject} {s : State} {it : Item} (h : QueueHolds s.atq) (hm : it ∈ s.atq.items)
    (hk : it.kind = k) (hx : it.subject = x) : s.item k x = some it := by
  cases hf : s.item k x with
  | none => exact absurd ⟨hk, hx⟩ ((item_none ..).1 hf it hm)
  | some a =>
    obtain ⟨ham, hak, hax⟩ := item_some hf
    by_contra hne
    have hsymm : Std.Symm fun b c : Item => ¬ (b.kind = c.kind ∧ b.subject = c.subject) :=
      ⟨fun _ _ hbc hcb => hbc ⟨hcb.1.symm, hcb.2.symm⟩⟩
    exact h.2.1.forall ham hm (fun e => hne (congrArg some e)) ⟨hak.trans hk.symm, hax.trans hx.symm⟩

theorem Stands.raised {k : ItemKind} {x : Subject} {s : State} (h : Stands k x s) : Raised k x s := by
  rcases h with h | ⟨-, h⟩
  · exact .inl h
  · exact .inr (dueMark_isSome_iff.2 h)

/-- A matter that is raised waits. -/
theorem waits_of_raised {k : ItemKind} {x : Subject} {s : State} (h : Raised k x s) : Waits k x s.atq := by
  rcases h with ⟨it, hit, hc⟩ | h
  · obtain ⟨hm, hk, hx⟩ := item_some hit
    exact .inl ⟨it, hm, hk, hx, hc⟩
  · exact .inr (dueMark_isSome_iff.1 h)

/-- Where L7 holds, the search finds what waits. -/
theorem stands_of_waits {k : ItemKind} {x : Subject} {s : State} (h : QueueHolds s.atq) (hw : Waits k x s.atq) :
    Stands k x s := by
  rcases hw with ⟨it, hm, hk, hx, hc⟩ | ⟨d, hd, hk, hx⟩
  · exact .inl ⟨it, item_eq_some h hm hk hx, hc⟩
  · exact .inr ⟨(item_none ..).2 fun it hm hi => h.2.2 d hd it hm ⟨hi.1.trans hk.symm, hi.2.trans hx.symm⟩, d, hd, hk, hx⟩

/-- Where L7 holds, a matter that waits is raised. -/
theorem raised_of_waits {k : ItemKind} {x : Subject} {s : State} (h : QueueHolds s.atq) (hw : Waits k x s.atq) :
    Raised k x s := (stands_of_waits h hw).raised

/-! ## The operations on another matter -/

/-- A matter is not the one of a kind and subject. -/
def Other (k : ItemKind) (x : Subject) (k' : ItemKind) (x' : Subject) : Prop := ¬ (k' = k ∧ x' = x)

theorem Other.of_kind {k k' : ItemKind} {x x' : Subject} (h : k' ≠ k) : Other k x k' x' := fun e => h e.1

theorem Other.of_subject {k k' : ItemKind} {x x' : Subject} (h : x' ≠ x) : Other k x k' x' := fun e => h e.2

section Other

variable {k : ItemKind} {x : Subject} {k' : ItemKind} {x' : Subject}

theorem Other.not_item (ho : Other k x k' x') {it : Item} (hk : it.kind = k) (hx : it.subject = x) :
    ¬ (it.kind = k' ∧ it.subject = x') := fun h => ho ⟨h.1.symm.trans hk, h.2.symm.trans hx⟩

theorem Other.not_due (ho : Other k x k' x') {d : DueMark} (hk : d.kind = k) (hx : d.subject = x) :
    ¬ (d.kind = k' ∧ d.subject = x') := fun h => ho ⟨h.1.symm.trans hk, h.2.symm.trans hx⟩

theorem Other.isFor_eq_false (ho : Other k x k' x') {it : Item} (hk : it.kind = k) (hx : it.subject = x) :
    it.isFor k' x' = false := Bool.eq_false_iff.2 fun h => ho.not_item hk hx ((isFor_iff ..).1 h)

theorem mem_changeItem {f : Item → Item} {s : State} {a : Item} :
    a ∈ (s.changeItem k' x' f).atq.items
      ↔ ∃ b ∈ s.atq.items, (if b.isFor k' x' = true then f b else b) = a := by
  simp only [State.changeItem, List.mem_map]

/-- A change in place of another matter's item keeps a matter's items. -/
theorem mem_changeItem_other (ho : Other k x k' x') {f : Item → Item} (hf : ∀ a, (f a).kind = a.kind ∧ (f a).subject = a.subject)
    {s : State} {a : Item} (hk : a.kind = k) (hx : a.subject = x) :
    a ∈ (s.changeItem k' x' f).atq.items ↔ a ∈ s.atq.items := by
  rw [mem_changeItem]
  constructor
  · rintro ⟨b, hb, rfl⟩
    split at hk
    next h => exact absurd ((isFor_iff ..).1 h) (ho.not_item ((hf b).1 ▸ hk) (by rw [if_pos h] at hx; exact (hf b).2 ▸ hx))
    next h => rwa [if_neg h]
  · exact fun ha => ⟨a, ha, if_neg (by rw [ho.isFor_eq_false hk hx]; exact Bool.false_ne_true)⟩

theorem mem_eraseItem_other (ho : Other k x k' x') {s : State} {a : Item} (hk : a.kind = k) (hx : a.subject = x) :
    a ∈ (s.eraseItem k' x').atq.items ↔ a ∈ s.atq.items :=
  (mem_eraseItem ..).trans (and_iff_left (ho.not_item hk hx))

theorem mem_enterItem {f : Frame} {b : Bool} {d : Detail} {s : State} {a : Item} :
    a ∈ (enterItem k' x' f b d s).atq.items
      ↔ a = { kind := k', subject := x', raised := f, insertion := s.atq.counter, state := .new, condition := .active,
              test := b, detail := d } ∨ a ∈ s.atq.items := mem_placeItem ..

theorem mem_enterItem_other (ho : Other k x k' x') {f : Frame} {b : Bool} {d : Detail} {s : State} {a : Item}
    (hk : a.kind = k) (hx : a.subject = x) : a ∈ (enterItem k' x' f b d s).atq.items ↔ a ∈ s.atq.items := by
  rw [mem_enterItem]
  refine or_iff_right fun h => ho ?_
  rw [h] at hk hx
  exact ⟨hk, hx⟩

theorem mem_due_setDue {f : Frame} {s : State} {d : DueMark} :
    d ∈ (s.setDue k' x' f).atq.due
      ↔ d = { kind := k', subject := x', stamp := f } ∨ (d ∈ s.atq.due ∧ ¬ (d.kind = k' ∧ d.subject = x')) :=
  (mem_insertDue ..).trans (or_congr .rfl (mem_clearDueIn ..))

theorem mem_due_clearDue {s : State} {d : DueMark} :
    d ∈ (s.clearDue k' x').atq.due ↔ d ∈ s.atq.due ∧ ¬ (d.kind = k' ∧ d.subject = x') := mem_clearDueIn ..

theorem waits_changeItem (ho : Other k x k' x') {f : Item → Item} (s : State)
    (hf : ∀ a, (f a).kind = a.kind ∧ (f a).subject = a.subject := by exact fun _ => ⟨rfl, rfl⟩) :
    Waits k x (s.changeItem k' x' f).atq ↔ Waits k x s.atq := by
  refine or_congr (exists_congr fun a => ?_) .rfl
  refine ⟨fun ⟨hm, h⟩ => ⟨(mem_changeItem_other ho hf h.1 h.2.1).1 hm, h⟩, fun ⟨hm, h⟩ =>
    ⟨(mem_changeItem_other ho hf h.1 h.2.1).2 hm, h⟩⟩

theorem waits_eraseItem (ho : Other k x k' x') (s : State) : Waits k x (s.eraseItem k' x').atq ↔ Waits k x s.atq :=
  or_congr (exists_congr fun _ => and_congr_left fun h => mem_eraseItem_other ho h.1 h.2.1) .rfl

theorem waits_enterItem (ho : Other k x k' x') (f : Frame) (b : Bool) (d : Detail) (s : State) :
    Waits k x (enterItem k' x' f b d s).atq ↔ Waits k x s.atq :=
  or_congr (exists_congr fun _ => and_congr_left fun h => mem_enterItem_other ho h.1 h.2.1) .rfl

theorem waits_setDue (ho : Other k x k' x') (f : Frame) (s : State) :
    Waits k x (s.setDue k' x' f).atq ↔ Waits k x s.atq := by
  refine or_congr .rfl (exists_congr fun d => and_congr_left fun h => ?_)
  rw [mem_due_setDue, and_iff_left (ho.not_due h.1 h.2)]
  refine or_iff_right fun e => ho ?_
  rw [e] at h
  exact h

theorem waits_clearDue (ho : Other k x k' x') (s : State) : Waits k x (s.clearDue k' x').atq ↔ Waits k x s.atq :=
  or_congr .rfl (exists_congr fun _ => and_congr_left fun h =>
    mem_due_clearDue.trans (and_iff_left (ho.not_due h.1 h.2)))

theorem waits_of_enterItem (k : ItemKind) (x : Subject) (f : Frame) (b : Bool) (d : Detail) (s : State) :
    Waits k x (enterItem k x f b d s).atq := .inl ⟨_, mem_enterItem.2 (.inl rfl), rfl, rfl, rfl⟩

/-- Reinsertion makes a due mark an ACTIVE item: what waits goes on waiting. -/
theorem waits_reinsert (k : ItemKind) (x : Subject) (s : State) : Waits k x (reinsert s).atq ↔ Waits k x s.atq := by
  unfold reinsert
  split
  · split
    next d hd =>
      by_cases hdk : d.kind = k ∧ d.subject = x
      · obtain ⟨rfl, rfl⟩ := hdk
        exact iff_of_true (waits_of_enterItem ..) (.inr ⟨d, mem_chosenDue _ _ _ hd, rfl, rfl⟩)
      · exact (waits_enterItem hdk ..).trans (waits_clearDue hdk s)
    next => rfl
  · rfl

theorem waits_removeItem (ho : Other k x k' x') (s : State) : Waits k x (removeItem k' x' s).atq ↔ Waits k x s.atq :=
  (waits_reinsert ..).trans (waits_eraseItem ho s)

/-- Where L7 holds, a matter waits exactly where its item is ACTIVE. -/
theorem waits_iff_of_mem {s : State} {it : Item} (h : QueueHolds s.atq) (hm : it ∈ s.atq.items) :
    Waits it.kind it.subject s.atq ↔ it.condition = .active := by
  refine ⟨fun hw => ?_, fun hc => .inl ⟨it, hm, rfl, rfl, hc⟩⟩
  have hi := item_eq_some h hm rfl rfl
  rcases stands_of_waits h hw with ⟨a, ha, hc⟩ | ⟨hn, -⟩
  · rw [hi] at ha
    injection ha with ha
    rwa [ha]
  · rw [hi] at hn
    cases hn

/-- An insert that meets a full queue keeps another matter waiting: an ACTIVE item that it displaces becomes a due mark (R40). -/
theorem waits_meetFullQueue (hk : k ≠ .stranger) (ho : Other k x k' x') (b : Bool) (e : Detail) (s : State)
    (h : QueueHolds s.atq) : Waits k x (meetFullQueue k' x' b e s).atq ↔ Waits k x s.atq := by
  unfold meetFullQueue
  split
  next => rfl
  next old hold =>
    split
    · refine (waits_enterItem ho ..).trans ?_
      by_cases hx : old.kind = k ∧ old.subject = x
      · obtain ⟨rfl, rfl⟩ := hx
        rw [waits_iff_of_mem h (mem_candidate _ _ hold)]
        by_cases hc : old.condition = .active
        · rw [if_pos ⟨hc, hk⟩]
          exact iff_of_true (.inr ⟨_, mem_due_setDue.2 (.inl rfl), rfl, rfl⟩) hc
        · rw [if_neg fun hn => hc hn.1]
          refine iff_of_false (fun hw => hc ?_) hc
          rw [← waits_iff_of_mem h (mem_candidate _ _ hold)]
          rcases hw with ⟨it, hm, hi⟩ | hd
          · exact .inl ⟨it, ((mem_eraseItem ..).1 hm).1, hi⟩
          · exact .inr hd
      · split
        · exact (waits_setDue hx ..).trans (waits_eraseItem hx s)
        · exact waits_eraseItem hx s
    · split
      · rfl
      · exact waits_setDue ho _ s

theorem waits_insertItem (hk : k ≠ .stranger) (ho : Other k x k' x') (b : Bool) (e : Detail) (r : Bool) (s : State)
    (h : QueueHolds s.atq) : Waits k x (insertItem k' x' b e r s).atq ↔ Waits k x s.atq := by
  unfold insertItem
  split
  next it hit =>
    split
    · simp only
      split <;> exact waits_changeItem ho s
    · exact (waits_enterItem ho ..).trans (waits_eraseItem ho s)
  next =>
    split
    · rfl
    · split
      · exact waits_enterItem ho ..
      · exact waits_meetFullQueue hk ho b e s h

theorem waits_endItem (ho : Other k x k' x') (s : State) : Waits k x (endItem k' x' s).atq ↔ Waits k x s.atq := by
  unfold endItem
  split
  · split
    · split
      · exact waits_removeItem ho s
      · exact waits_changeItem ho s
    · rfl
  · exact waits_clearDue ho s

theorem waits_endCallItem (ho : Other k x k' x') (s : State) : Waits k x (endCallItem k' x' s).atq ↔ Waits k x s.atq := by
  unfold endCallItem
  split
  · exact waits_removeItem ho s
  · exact waits_clearDue ho s

theorem waits_retireSubject (hx : x' ≠ x) (s : State) : Waits k x (retireSubject x' s).atq ↔ Waits k x s.atq := by
  unfold retireSubject
  refine (forEach_keeps (fun t => Waits k x t.atq ↔ Waits k x s.atq) _
    (fun k' t ht => (waits_removeItem (.of_subject hx) t).trans ht) _ _ ?_)
  refine or_congr .rfl (exists_congr fun d => and_congr_left fun h => ?_)
  rw [List.mem_filter, and_iff_left]
  rw [h.2]
  exact bne_iff_ne.2 (Ne.symm hx)

end Other

/-! ## A change that spares a matter -/

/-- A change under which L7 stays, and a matter waits, or does not wait, as before. -/
def Spares (k : ItemKind) (x : Subject) (s t : State) : Prop :=
  QueueHolds s.atq → QueueHolds t.atq ∧ (Waits k x t.atq ↔ Waits k x s.atq)

namespace Spares

variable {k : ItemKind} {x : Subject} {k' : ItemKind} {x' : Subject}

theorem refl (s : State) : Spares k x s s := fun h => ⟨h, .rfl⟩

theorem trans {s t u : State} (h : Spares k x s t) (g : Spares k x t u) : Spares k x s u :=
  fun hs => ⟨(g (h hs).1).1, (g (h hs).1).2.trans (h hs).2⟩

theorem of_eq {s t : State} (h : t.atq = s.atq := by rfl) : Spares k x s t := fun hs => by
  rw [h]
  exact ⟨hs, .rfl⟩

theorem ite {c : Prop} [Decidable c] {s t u : State} (ht : Spares k x s t) (hu : Spares k x s u) :
    Spares k x s (if c then t else u) := by
  split
  · exact ht
  · exact hu

theorem forEach {α : Type} {f : α → State → State} {l : List α} (h : ∀ a ∈ l, ∀ s, Spares k x s (f a s)) (s : State) :
    Spares k x s (forEach l f s) := by
  induction l generalizing s with
  | nil => exact Spares.refl s
  | cons a l ih => exact (h a List.mem_cons_self s).trans (ih (fun b hb => h b (List.mem_cons_of_mem _ hb)) _)

theorem raised {s t : State} (h : Spares k x s t) (hs : QueueHolds s.atq) (hr : Raised k x s) : Raised k x t :=
  raised_of_waits (h hs).1 ((h hs).2.2 (waits_of_raised hr))

theorem notRaised {s t : State} (h : Spares k x s t) (hs : QueueHolds s.atq) (hr : NotRaised k x s) : NotRaised k x t :=
  notRaised_iff.2 fun hw => notRaised_iff.1 hr ((h hs).2.1 hw)

theorem insertItem (hk : k ≠ .stranger) (ho : Other k x k' x') (b : Bool) (e : Detail) (r : Bool) (s : State) :
    Spares k x s (insertItem k' x' b e r s) := fun h => ⟨insertItem_holds _ _ _ _ _ _ h, waits_insertItem hk ho b e r s h⟩

theorem raiseItem (hk : k ≠ .stranger) (ho : Other k x k' x') (s : State) : Spares k x s (raiseItem k' x' s) :=
  insertItem hk ho false .absent false s

theorem endItem (ho : Other k x k' x') (s : State) : Spares k x s (endItem k' x' s) :=
  fun h => ⟨endItem_holds _ _ _ h, waits_endItem ho s⟩

theorem endCallItem (ho : Other k x k' x') (s : State) : Spares k x s (endCallItem k' x' s) :=
  fun h => ⟨endCallItem_holds _ _ _ h, waits_endCallItem ho s⟩

theorem retireSubject (hx : x' ≠ x) (s : State) : Spares k x s (retireSubject x' s) :=
  fun h => ⟨retireSubject_holds _ _ h, waits_retireSubject hx s⟩

end Spares

/-! ## The operations on the matter itself -/

section Own

variable {k : ItemKind} {x : Subject}

theorem item_changeItem {f : Item → Item} {s : State}
    (hf : ∀ a, (f a).kind = a.kind ∧ (f a).subject = a.subject := by exact fun _ => ⟨rfl, rfl⟩) :
    (s.changeItem k x f).item k x = (s.item k x).map f := by
  have hisFor : ∀ a : Item, (f a).isFor k x = a.isFor k x := fun a => by rw [Item.isFor, Item.isFor, (hf a).1, (hf a).2]
  simp only [State.item, State.changeItem]
  induction s.atq.items with
  | nil => rfl
  | cons a l ih =>
    simp only [List.map_cons, List.find?_cons]
    cases ha : a.isFor k x with
    | true => simp only [if_true, hisFor, ha, Option.map_some]
    | false => simpa only [Bool.false_eq_true, if_false, ha] using ih

theorem item_eraseItem (s : State) : (s.eraseItem k x).item k x = none :=
  (item_none ..).2 fun a ha => ((mem_eraseItem k x s a).1 ha).2

theorem item_enterItem {f : Frame} {b : Bool} {d : Detail} {s : State} (h : s.item k x = none) :
    (enterItem k x f b d s).item k x = some
      { kind := k, subject := x, raised := f, insertion := s.atq.counter, state := .new, condition := .active, test := b,
        detail := d } := by
  cases hi : (enterItem k x f b d s).item k x with
  | none => exact absurd ⟨rfl, rfl⟩ ((item_none ..).1 hi _ (mem_enterItem.2 (.inl rfl)))
  | some a =>
    obtain ⟨hm, hk, hx⟩ := item_some hi
    rcases mem_enterItem.1 hm with rfl | hm
    · rfl
    · exact absurd ⟨hk, hx⟩ ((item_none ..).1 h a hm)

theorem stands_enterItem {f : Frame} {b : Bool} {d : Detail} {s : State} (h : s.item k x = none) :
    Stands k x (enterItem k x f b d s) := .inl ⟨_, item_enterItem h, rfl⟩

theorem candidate_of_full {l : List Item} (h : ¬ l.length < Config.queueCapacity) : candidate l ≠ none := by
  unfold candidate
  split
  · exact Option.some_ne_none _
  · intro hl
    rw [List.getLast?_eq_none_iff] at hl
    rw [hl] at h
    exact h (by decide)

/-- An insert leaves its matter standing, save one of kind STRANGER that meets a full queue (R38 to R40). -/
theorem stands_insertItem {s : State} (hk : k ≠ .stranger ∨ s.atq.items.length < Config.queueCapacity) (b : Bool)
    (d : Detail) (r : Bool) : Stands k x (insertItem k x b d r s) := by
  unfold insertItem
  cases hi : s.item k x with
  | some it =>
    simp only
    split
    next hc =>
      have hs : Stands k x (s.changeItem k x fun i => { i with test := b, detail := d, state := if r then .new else i.state })  := by
        refine .inl ⟨_, (item_changeItem).trans (congrArg (Option.map _) hi), ?_⟩
        exact hc
      split
      · exact hs
      · exact hs
    · exact stands_enterItem (item_eraseItem s)
  | none =>
    cases hd : s.dueMark k x with
    | some f => exact .inr ⟨hi, dueMark_isSome_iff.1 ⟨f, hd⟩⟩
    | none =>
      simp only
      split
      · exact stands_enterItem hi
      next hfull =>
        unfold meetFullQueue
        split
        next hc => exact absurd hc (candidate_of_full hfull)
        next old hold =>
          split
          · refine stands_enterItem ((item_none ..).2 fun a ha => (item_none ..).1 hi a ?_)
            split at ha <;> exact ((mem_eraseItem ..).1 ha).1
          · rw [if_neg (hk.resolve_right hfull)]
            exact .inr ⟨hi, _, mem_due_setDue.2 (.inl rfl), rfl, rfl⟩

theorem raised_insertItem (hk : k ≠ .stranger) (b : Bool) (d : Detail) (r : Bool) (s : State) :
    Raised k x (insertItem k x b d r s) := (stands_insertItem (.inl hk) b d r).raised

theorem raised_raiseItem (hk : k ≠ .stranger) (s : State) : Raised k x (raiseItem k x s) := raised_insertItem hk ..

/-- An end leaves its matter not waiting (R42). -/
theorem not_waits_endItem {s : State} (h : QueueHolds s.atq) : ¬ Waits k x (endItem k x s).atq := by
  have hnone : ∀ q : AttentionQueue, (∀ a ∈ q.items, a.kind = k → a.subject = x → a.condition ≠ .active) →
      (∀ d ∈ q.due, ¬ (d.kind = k ∧ d.subject = x)) → ¬ Waits k x q := by
    rintro q hi hd (⟨a, ha, hk, hx, hc⟩ | ⟨d, hm, hkx⟩)
    · exact hi a ha hk hx hc
    · exact hd d hm hkx
  unfold endItem
  cases hi : s.item k x with
  | some it =>
    obtain ⟨hm, hk, hx⟩ := item_some hi
    have hdue : ∀ d ∈ s.atq.due, ¬ (d.kind = k ∧ d.subject = x) := fun d hd hkx =>
      h.2.2 d hd it hm ⟨hk.trans hkx.1.symm, hx.trans hkx.2.symm⟩
    simp only
    split
    next hc =>
      split
      · unfold removeItem
        rw [waits_reinsert]
        exact hnone _ (fun a ha hk hx _ => ((mem_eraseItem ..).1 ha).2 ⟨hk, hx⟩) hdue
      · refine hnone _ (fun a ha hak hax => ?_) hdue
        obtain ⟨b, -, rfl⟩ := mem_changeItem.1 ha
        split at hak
        next hb => rw [if_pos hb]; exact nofun
        next hb => rw [if_neg hb] at hax; exact absurd ((isFor_iff ..).2 ⟨hak, hax⟩) hb
    next hc =>
      obtain ⟨rfl, rfl⟩ := And.intro hk hx
      exact fun hw => hc ((waits_iff_of_mem h hm).1 hw)
  | none =>
    refine hnone _ (fun a ha hk hx _ => (item_none ..).1 hi a ha ⟨hk, hx⟩) fun d hd hkx => ?_
    exact (mem_due_clearDue.1 hd).2 hkx

theorem notRaised_endItem {s : State} (h : QueueHolds s.atq) : NotRaised k x (endItem k x s) :=
  notRaised_iff.2 (not_waits_endItem h)

end Own

end Sys2Proof.Machine
end

section
/-! Changes of one record and of the queue, and the roster's sweeps of the live slots: the escort limit (R70), the exposure
count (R85, R87), the ACK key, pages and CLEAR_EXPOSURE (R88, R143, R166). -/

namespace Sys2Proof.Machine

open Sys2Proof.Safety (QueueHolds Raised NotRaised Ready answered taken Names)

/-! ## One record changed -/

theorem modifyPerson_eq {i : Fin 240} {p : Person} {s : State} (h : s.person i = some p) (f : Person → Person) :
    s.modifyPerson i f = s.setSlot i { gen := (s.slot i).gen, person := some (f p) } := by
  rw [State.modifyPerson, h, Option.map_some]

theorem slot_modifyPerson_of_ne {i j : Fin 240} (h : j ≠ i) (f : Person → Person) (s : State) :
    (s.modifyPerson i f).slot j = s.slot j := (slot_setSlot ..).trans (if_neg h)

theorem slot_modifyPerson_self {i : Fin 240} {p : Person} {s : State} (h : s.person i = some p) (f : Person → Person) :
    (s.modifyPerson i f).slot i = { gen := (s.slot i).gen, person := some (f p) } := by
  rw [modifyPerson_eq h, slot_setSlot, if_pos rfl]

theorem setSlot_setSlot (i : Fin 240) (v w : Slot) (s : State) : (s.setSlot i v).setSlot i w = s.setSlot i w := by
  simp only [State.setSlot, Vector.set_set]

theorem modifyPerson_modifyPerson (i : Fin 240) (f g : Person → Person) (s : State) :
    (s.modifyPerson i f).modifyPerson i g = s.modifyPerson i (fun p => g (f p)) := by
  simp only [State.modifyPerson, State.person, slot_setSlot, if_pos, setSlot_setSlot, Option.map_map, Function.comp_def]

theorem personSubject_of_slot_eq {i : Fin 240} {v : Option Person} {s t : State}
    (h : t.slot i = { gen := (s.slot i).gen, person := v }) : t.personSubject i = s.personSubject i := by
  rw [State.personSubject, h]
  rfl

theorem person_eq_of_slot {i : Fin 240} {s t : State} (h : t.slot i = s.slot i) : t.person i = s.person i :=
  congrArg Slot.person h

theorem personSubject_eq_of_gen {i : Fin 240} {s t : State} (h : (t.slot i).gen = (s.slot i).gen) :
    t.personSubject i = s.personSubject i := congrArg (Subject.person i) h

theorem personSubject_eq_of_slot {i : Fin 240} {s t : State} (h : t.slot i = s.slot i) :
    t.personSubject i = s.personSubject i := personSubject_eq_of_gen (congrArg Slot.gen h)

theorem slot_of_person_none {i : Fin 240} {s : State} (h : s.person i = none) :
    s.slot i = { gen := (s.slot i).gen, person := none } := by
  rw [← h]
  rfl

theorem slot_of_person {i : Fin 240} {p : Person} {s : State} (h : s.person i = some p) :
    s.slot i = { gen := (s.slot i).gen, person := some p } := by
  rw [← h]
  rfl

/-- The matters of two records in different slots differ. -/
theorem other_of_slot {i j : Fin 240} (h : j ≠ i) (k k' : ItemKind) (s t : State) :
    Other k (s.personSubject i) k' (t.personSubject j) := .of_subject fun e => h (Subject.person.inj e).1

/-- A taken request whose effect ends in the queue, as it is answered. -/
theorem done_of_queueOnly {s u : State} (h : QueueOnly (taken s) u) :
    u.done = answered .done [] { s with atq := u.atq, hpt := { s.hpt with flags := u.hpt.flags } } := by
  unfold QueueOnly at h
  rw [h]
  rfl

/-! ## Changes of records and of the queue -/

/-- Two states differ at most in the roster's slots, the attention queue and the notice flags. -/
def RosterOnly (s t : State) : Prop :=
  t = { s with rst := { s.rst with slots := t.rst.slots }, atq := t.atq, hpt := { s.hpt with flags := t.hpt.flags } }

theorem RosterOnly.refl (s : State) : RosterOnly s s := rfl

theorem RosterOnly.trans {s t u : State} (h : RosterOnly s t) (k : RosterOnly t u) : RosterOnly s u := by
  unfold RosterOnly at *
  rw [k, h]

theorem QueueOnly.rosterOnly {s t : State} (h : QueueOnly s t) : RosterOnly s t := by
  unfold QueueOnly at h
  unfold RosterOnly
  rw [h]

theorem RosterOnly.modifyPerson (i : Fin 240) (f : Person → Person) (s : State) : RosterOnly s (s.modifyPerson i f) := rfl

theorem QueueOnly.slot_eq {s t : State} (h : QueueOnly s t) (i : Fin 240) : t.slot i = s.slot i := by
  obtain ⟨-, -, hrst, -⟩ := h.same
  rw [State.slot, hrst]
  rfl

/-- A change of the roster's other slots and of the queue: the slot stays, and so does whether its matters wait. -/
structure Elsewhere (i : Fin 240) (s t : State) : Prop where
  only : RosterOnly s t
  slot : t.slot i = s.slot i
  spares : ∀ k, k ≠ .stranger → Spares k (s.personSubject i) s t

namespace Elsewhere

variable {i j : Fin 240}

theorem refl (s : State) : Elsewhere i s s := ⟨.refl s, rfl, fun _ _ => .refl s⟩

theorem trans {s t u : State} (h : Elsewhere i s t) (g : Elsewhere i t u) : Elsewhere i s u :=
  ⟨h.only.trans g.only, g.slot.trans h.slot, fun k hk =>
    (h.spares k hk).trans (personSubject_eq_of_slot h.slot ▸ g.spares k hk)⟩

theorem modifyPerson (h : j ≠ i) (f : Person → Person) (s : State) : Elsewhere i s (s.modifyPerson j f) :=
  ⟨.modifyPerson j f s, slot_modifyPerson_of_ne h.symm f s, fun _ _ => .of_eq⟩

theorem insertItem (h : j ≠ i) (k : ItemKind) (b : Bool) (d : Detail) (r : Bool) (s t : State) :
    Elsewhere i s (insertItem k (t.personSubject j) b d r s) :=
  ⟨(insertItem_only ..).rosterOnly, (insertItem_only ..).slot_eq i, fun k' hk' =>
    .insertItem hk' (other_of_slot h k' k s t) b d r s⟩

theorem raiseItem (h : j ≠ i) (k : ItemKind) (s t : State) : Elsewhere i s (raiseItem k (t.personSubject j) s) :=
  insertItem h k false .absent false s t

theorem endItem (h : j ≠ i) (k : ItemKind) (s t : State) : Elsewhere i s (endItem k (t.personSubject j) s) :=
  ⟨(endItem_only ..).rosterOnly, (endItem_only ..).slot_eq i, fun k' _ => .endItem (other_of_slot h k' k s t) s⟩

theorem endCallItem (h : j ≠ i) (k : ItemKind) (s t : State) : Elsewhere i s (endCallItem k (t.personSubject j) s) :=
  ⟨(endCallItem_only ..).rosterOnly, (endCallItem_only ..).slot_eq i, fun k' _ =>
    .endCallItem (other_of_slot h k' k s t) s⟩

theorem person {s t : State} (h : Elsewhere i s t) : t.person i = s.person i := person_eq_of_slot h.slot

theorem subject {s t : State} (h : Elsewhere i s t) : t.personSubject i = s.personSubject i := personSubject_eq_of_slot h.slot

theorem raised {k : ItemKind} {s t : State} (h : Elsewhere i s t) (hk : k ≠ .stranger) (hs : QueueHolds s.atq)
    (hr : Raised k (s.personSubject i) s) : Raised k (s.personSubject i) t := (h.spares k hk).raised hs hr

theorem notRaised {k : ItemKind} {s t : State} (h : Elsewhere i s t) (hk : k ≠ .stranger) (hs : QueueHolds s.atq)
    (hr : NotRaised k (s.personSubject i) s) : NotRaised k (s.personSubject i) t := (h.spares k hk).notRaised hs hr

theorem holds {s t : State} (h : Elsewhere i s t) (hs : QueueHolds s.atq) : QueueHolds t.atq :=
  (h.spares .exposure nofun hs).1

end Elsewhere

/-! ## Sweeps -/

theorem forEach_append {α : Type} (f : α → State → State) (l m : List α) (s : State) :
    forEach (l ++ m) f s = forEach m f (forEach l f s) := by
  induction l generalizing s with
  | nil => rfl
  | cons a l ih => exact ih (f a s)

theorem slotsWhere_nodup (s : State) (f : Person → Bool) : (s.slotsWhere f).Nodup := by
  rw [slotsWhere_eq]
  exact (List.nodup_finRange 240).filter _

theorem liveSlots_nodup (s : State) : s.liveSlots.Nodup := slotsWhere_nodup s _

section Related

variable {α : Type} {R : State → State → Prop} {f : α → State → State} {i : α} {l : List α}

theorem forEach_related (hrefl : ∀ s, R s s) (htrans : ∀ s t u, R s t → R t u → R s u) (hi : i ∉ l)
    (h : ∀ j, j ≠ i → ∀ s, R s (f j s)) (s : State) : R s (forEach l f s) := by
  induction l generalizing s with
  | nil => exact hrefl s
  | cons j l ih =>
    rw [List.mem_cons, not_or] at hi
    exact htrans _ _ _ (h j (Ne.symm hi.1) s) (ih hi.2 _)

/-- A sweep that visits each place once visits a place of its list, and works elsewhere before and after. -/
theorem forEach_visits (hrefl : ∀ s, R s s) (htrans : ∀ s t u, R s t → R t u → R s u) (hl : l.Nodup) (hi : i ∈ l)
    (h : ∀ j, j ≠ i → ∀ s, R s (f j s)) (s : State) : ∃ u, R s u ∧ R (f i u) (forEach l f s) := by
  obtain ⟨before, after, rfl⟩ := List.append_of_mem hi
  rw [List.nodup_append, List.nodup_cons] at hl
  obtain ⟨-, ⟨hafter, -⟩, hdisjoint⟩ := hl
  have hbefore : i ∉ before := fun hm => hdisjoint i hm i List.mem_cons_self rfl
  refine ⟨forEach before f s, forEach_related hrefl htrans hbefore h s, ?_⟩
  rw [forEach_append, forEach_cons]
  exact forEach_related hrefl htrans hafter h _

end Related

theorem Elsewhere.forEach {f : Fin 240 → State → State} {i : Fin 240} {l : List (Fin 240)} (hi : i ∉ l)
    (h : ∀ j, j ≠ i → ∀ s, Elsewhere i s (f j s)) (s : State) : Elsewhere i s (forEach l f s) :=
  forEach_related Elsewhere.refl (fun _ _ _ => Elsewhere.trans) hi h s

/-- A sweep of the live slots visits the slot of a record. -/
theorem Elsewhere.visits {f : Fin 240 → State → State} {i : Fin 240} {p : Person} {s : State} (hp : s.person i = some p)
    (h : ∀ j, j ≠ i → ∀ s, Elsewhere i s (f j s)) :
    ∃ u, Elsewhere i s u ∧ Elsewhere i (f i u) (Machine.forEach s.liveSlots f s) :=
  forEach_visits Elsewhere.refl (fun _ _ _ => Elsewhere.trans) (liveSlots_nodup s) ((mem_liveSlots s i).2 ⟨p, hp⟩) h s

/-- A sweep of the live slots leaves a free slot. -/
theorem Elsewhere.free {f : Fin 240 → State → State} {i : Fin 240} {s : State} (hi : s.person i = none)
    (h : ∀ j, j ≠ i → ∀ s, Elsewhere i s (f j s)) : Elsewhere i s (Machine.forEach s.liveSlots f s) := by
  refine Elsewhere.forEach (fun hm => ?_) h s
  obtain ⟨p, hp⟩ := (mem_liveSlots s i).1 hm
  rw [hi] at hp
  cases hp

theorem forEach_rosterOnly {f : Fin 240 → State → State} (h : ∀ j s, RosterOnly s (f j s)) (l : List (Fin 240)) (s : State) :
    RosterOnly s (forEach l f s) := by
  induction l generalizing s with
  | nil => exact .refl s
  | cons j l ih => exact (h j s).trans (ih _)

/-! ## The escort limit (R70) -/

/-- A visitor's escort limit is reached: it is separated, its escort not yet lost, and its stamp as old as the limit (R70). -/
def IsLimitReached (p : Person) (s : State) : Prop :=
  p.role = .visitor ∧ p.escortLost = false ∧ ∃ f, p.separation = some f ∧ s.rst.escortLimit ≤ framesSince s.frt.frame f

theorem judgeEscortLimit_none {i : Fin 240} {s : State} (h : s.person i = none) : judgeEscortLimit i s = s := by
  simp only [judgeEscortLimit, h]

theorem judgeEscortLimit_reached {i : Fin 240} {p : Person} {s : State} (hp : s.person i = some p) (h : IsLimitReached p s) :
    judgeEscortLimit i s =
      raiseItem .escortLost (s.personSubject i) (s.modifyPerson i (fun q => { q with escortLost := true })) := by
  obtain ⟨hrole, hlost, f, hf, hlimit⟩ := h
  simp only [judgeEscortLimit, hp, hf]
  exact if_pos ⟨hrole, hlost, hlimit⟩

theorem judgeEscortLimit_waits {i : Fin 240} {p : Person} {s : State} (hp : s.person i = some p) (h : ¬ IsLimitReached p s) :
    judgeEscortLimit i s = s := by
  simp only [judgeEscortLimit, hp]
  cases hf : p.separation with
  | none => rfl
  | some f => exact if_neg fun ⟨hrole, hlost, hlimit⟩ => h ⟨hrole, hlost, f, hf, hlimit⟩

theorem judgeEscortLimit_only (i : Fin 240) (s : State) : RosterOnly s (judgeEscortLimit i s) := by
  cases hp : s.person i with
  | none =>
    rw [judgeEscortLimit_none hp]
    exact .refl s
  | some p =>
    by_cases h : IsLimitReached p s
    · rw [judgeEscortLimit_reached hp h]
      exact (RosterOnly.modifyPerson ..).trans (raiseItem_only ..).rosterOnly
    · rw [judgeEscortLimit_waits hp h]
      exact .refl s

theorem judgeEscortLimit_elsewhere {i j : Fin 240} (hj : j ≠ i) (s : State) : Elsewhere i s (judgeEscortLimit j s) := by
  cases hp : s.person j with
  | none =>
    rw [judgeEscortLimit_none hp]
    exact .refl s
  | some p =>
    by_cases h : IsLimitReached p s
    · rw [judgeEscortLimit_reached hp h]
      exact (Elsewhere.modifyPerson hj _ s).trans (.raiseItem hj ..)
    · rw [judgeEscortLimit_waits hp h]
      exact .refl s

theorem IsLimitReached.congr {p : Person} {s t : State} (h : RosterOnly s t) : IsLimitReached p t ↔ IsLimitReached p s := by
  unfold RosterOnly at h
  rw [h]
  rfl

/-- What the sweep leaves of a record: escort lost yes and its item raised where the limit is reached, and else the record as
it was (R70). -/
theorem judgeEscortLimits_slot {i : Fin 240} {p : Person} {s : State} (hp : s.person i = some p) (hs : QueueHolds s.atq) :
    (IsLimitReached p s →
      (judgeEscortLimits s).slot i = { gen := (s.slot i).gen, person := some { p with escortLost := true } }
        ∧ Raised .escortLost (s.personSubject i) (judgeEscortLimits s))
      ∧ (¬ IsLimitReached p s → (judgeEscortLimits s).slot i = s.slot i) := by
  obtain ⟨u, hu, ht⟩ := Elsewhere.visits hp fun _ hj => judgeEscortLimit_elsewhere hj
  have hpu : u.person i = some p := hu.person.trans hp
  refine ⟨fun h => ?_, fun h => ?_⟩
  · rw [judgeEscortLimit_reached hpu ((IsLimitReached.congr hu.only).2 h)] at ht
    have hslot : (raiseItem .escortLost (u.personSubject i) (u.modifyPerson i fun q => { q with escortLost := true })).slot i =
        { gen := (s.slot i).gen, person := some { p with escortLost := true } } := by
      rw [(raiseItem_only ..).slot_eq, slot_modifyPerson_self hpu, hu.slot]
    refine ⟨ht.slot.trans hslot, ?_⟩
    have hsubject := personSubject_of_slot_eq hslot
    rw [← hsubject]
    refine ht.raised nofun (raiseItem_holds _ _ _ (hu.holds hs)) ?_
    rw [hsubject, hu.subject]
    exact raised_raiseItem (by decide) _
  · rw [judgeEscortLimit_waits hpu (mt (IsLimitReached.congr hu.only).1 h)] at ht
    exact (hu.trans ht).slot

theorem judgeEscortLimits_free {i : Fin 240} {s : State} (h : s.person i = none) : (judgeEscortLimits s).slot i = s.slot i :=
  (Elsewhere.free h fun _ hj => judgeEscortLimit_elsewhere hj).slot

/-- Settles O22: the sweep visits each live slot once, and its work on the other slots leaves a record and its item. -/
theorem escortLimitRaisesEscortLost : Obligations.EscortLimitRaisesEscortLost := by
  intro s hs
  have hexec : exec .escortLimitJudgement s = .next (takeEscort s) := congrArg _ (unlessReset_high hs _)
  refine ⟨fun h => ?_, fun h hq => ?_⟩
  · rw [hexec, takeEscort, if_neg (by rw [h]; exact Bool.false_ne_true)]
  · rw [hexec, takeEscort, if_pos h]
    refine ⟨_, rfl, forEach_rosterOnly judgeEscortLimit_only _ _, fun i hi => judgeEscortLimits_free hi, fun i p hp => ?_⟩
    exact judgeEscortLimits_slot (s := { s with handed := { s.handed with escort := false } }) hp hq

/-! ## Exposure (R85, R87) -/

theorem judgeExposure_reached {i : Fin 240} {p : Person} {s : State} (hp : s.person i = some p)
    (h : p.exposure = s.rst.exposureLimit) : judgeExposure i s = raiseItem .exposure (s.personSubject i) s := by
  simp only [judgeExposure, hp, if_pos h]

theorem judgeExposure_waits {i : Fin 240} {s : State} (h : ∀ p, s.person i = some p → p.exposure ≠ s.rst.exposureLimit) :
    judgeExposure i s = s := by
  unfold judgeExposure
  split
  next p hp => exact if_neg (h p hp)
  next => rfl

theorem judgeExposure_only (i : Fin 240) (s : State) : QueueOnly s (judgeExposure i s) := by
  unfold judgeExposure
  split
  · split
    · exact raiseItem_only ..
    · exact .refl s
  · exact .refl s

theorem judgeExposure_elsewhere {i j : Fin 240} (hj : j ≠ i) (s : State) : Elsewhere i s (judgeExposure j s) := by
  unfold judgeExposure
  split
  · split
    · exact .raiseItem hj ..
    · exact .refl s
  · exact .refl s

theorem judgeExposure_holds (i : Fin 240) {s : State} (h : QueueHolds s.atq) : QueueHolds (judgeExposure i s).atq := by
  unfold judgeExposure
  split
  · split
    · exact raiseItem_holds _ _ _ h
    · exact h
  · exact h

theorem raiseExposure_of {i : Fin 240} {p : Person} {s : State} (hp : s.person i = some p) (h : p.exposure < 65535) :
    raiseExposure i s = judgeExposure i (s.modifyPerson i Person.raised) := by
  simp only [raiseExposure, hp]
  exact if_pos h

theorem raiseExposure_full {i : Fin 240} {p : Person} {s : State} (hp : s.person i = some p) (h : ¬ p.exposure < 65535) :
    raiseExposure i s = s := by
  simp only [raiseExposure, hp]
  exact if_neg h

/-- A raise of a record's exposure: the record, and the item where the raise reaches the limit (R87). -/
theorem raiseExposure_slot {i : Fin 240} {p : Person} {s : State} (hp : s.person i = some p) (h : p.exposure < 65535) :
    (raiseExposure i s).slot i = { gen := (s.slot i).gen, person := some p.raised }
      ∧ (p.exposure + 1 = s.rst.exposureLimit → Raised .exposure (s.personSubject i) (raiseExposure i s)) := by
  have hraised : (s.modifyPerson i Person.raised).person i = some p.raised := by rw [person_modifyPerson_self, hp, Option.map_some]
  rw [raiseExposure_of hp h]
  refine ⟨?_, fun hlimit => ?_⟩
  · rw [(judgeExposure_only ..).slot_eq, slot_modifyPerson_self hp]
  · rw [judgeExposure_reached hraised hlimit, personSubject_modifyPerson]
    exact raised_raiseItem (by decide) _

theorem raiseExposure_only (i : Fin 240) (s : State) : RosterOnly s (raiseExposure i s) := by
  unfold raiseExposure
  split
  · split
    · exact (RosterOnly.modifyPerson ..).trans (judgeExposure_only ..).rosterOnly
    · exact .refl s
  · exact .refl s

theorem raiseExposure_elsewhere {i j : Fin 240} (hj : j ≠ i) (s : State) : Elsewhere i s (raiseExposure j s) := by
  unfold raiseExposure
  split
  · split
    · exact (Elsewhere.modifyPerson hj ..).trans (judgeExposure_elsewhere hj _)
    · exact .refl s
  · exact .refl s

theorem raiseExposure_holds (i : Fin 240) {s : State} (h : QueueHolds s.atq) : QueueHolds (raiseExposure i s).atq := by
  unfold raiseExposure
  split
  · split
    · exact judgeExposure_holds i h
    · exact h
  · exact h

/-- A raise of the exposure of each live record of a kind, in ascending slot order (R85, R86). -/
def raiseExposures (exposed : Fin 240 → State → Bool) (s : State) : State :=
  forEach s.liveSlots (fun i s => if exposed i s then raiseExposure i s else s) s

section RaiseExposures

variable {exposed : Fin 240 → State → Bool}

theorem raiseWhere_only (i : Fin 240) (s : State) : RosterOnly s (if exposed i s then raiseExposure i s else s) := by
  split
  · exact raiseExposure_only i s
  · exact .refl s

theorem raiseWhere_elsewhere {i j : Fin 240} (hj : j ≠ i) (s : State) :
    Elsewhere i s (if exposed j s then raiseExposure j s else s) := by
  split
  · exact raiseExposure_elsewhere hj s
  · exact .refl s

theorem raiseExposures_only (s : State) : RosterOnly s (raiseExposures exposed s) := forEach_rosterOnly raiseWhere_only _ _

theorem raiseExposures_free {i : Fin 240} {s : State} (h : s.person i = none) :
    (raiseExposures exposed s).slot i = s.slot i :=
  (Elsewhere.free h fun _ hj => raiseWhere_elsewhere hj).slot

/-- What the sweep leaves of a record: raised where it is of the kind and below 65535, and else as it was. -/
theorem raiseExposures_slot {i : Fin 240} {p : Person} {s : State}
    (hexposed : ∀ t, RosterOnly s t → t.slot i = s.slot i → exposed i t = exposed i s) (hp : s.person i = some p) :
    (exposed i s = true → p.exposure < 65535 →
      (raiseExposures exposed s).slot i = { gen := (s.slot i).gen, person := some p.raised }
        ∧ (p.exposure + 1 = s.rst.exposureLimit → QueueHolds s.atq →
            Raised .exposure (s.personSubject i) (raiseExposures exposed s)))
      ∧ (¬ (exposed i s = true ∧ p.exposure < 65535) → (raiseExposures exposed s).slot i = s.slot i) := by
  obtain ⟨u, hu, ht⟩ := Elsewhere.visits hp fun _ hj => raiseWhere_elsewhere (exposed := exposed) hj
  have hpu : u.person i = some p := hu.person.trans hp
  rw [hexposed u hu.only hu.slot] at ht
  refine ⟨fun hx hlt => ?_, fun hnot => ?_⟩
  · rw [if_pos hx] at ht
    obtain ⟨hslot, hraised⟩ := raiseExposure_slot hpu hlt
    rw [hu.slot] at hslot
    have hsubject := personSubject_of_slot_eq hslot
    refine ⟨ht.slot.trans hslot, fun hlimit hq => hsubject ▸ ht.raised (by decide) (raiseExposure_holds i (hu.holds hq)) ?_⟩
    rw [hsubject, ← hu.subject]
    refine hraised ?_
    have honly := hu.only
    unfold RosterOnly at honly
    rw [honly]
    exact hlimit
  · refine ht.slot.trans ?_
    split
    next hx => rw [raiseExposure_full hpu (fun hlt => hnot ⟨hx, hlt⟩), hu.slot]
    next => exact hu.slot

end RaiseExposures

/-- A record is counted in a zone whose real air state is CAUTION or worse (R84, R85). -/
def IsExposed (p : Person) (s : State) : Prop :=
  (p.state = .present ∨ p.state = .quiet)
    ∧ ∃ z, p.zone = some z ∧ ((s.zone z).real = .caution ∨ (s.zone z).real = .danger ∨ (s.zone z).real = .trip)

theorem AirState.isBad_iff (a : AirState) : a.isBad = true ↔ a = .caution ∨ a = .danger ∨ a = .trip := by
  cases a <;> simp [AirState.isBad]

theorem isBadAir_iff (z : Option (Fin 32)) (s : State) :
    s.isBadAir z = true ↔ ∃ w, z = some w ∧ ((s.zone w).real = .caution ∨ (s.zone w).real = .danger ∨ (s.zone w).real = .trip) := by
  cases z with
  | none => simp [State.isBadAir]
  | some w => simp [State.isBadAir, AirState.isBad_iff]

theorem countedZone_eq (p : Person) : p.countedZone = if p.state = .present ∨ p.state = .quiet then p.zone else none := by
  unfold Person.countedZone
  cases p.state <;> rfl

theorem isExposed_iff {i : Fin 240} {p : Person} {s : State} (hp : s.person i = some p) :
    s.isExposed i = true ↔ IsExposed p s := by
  simp only [State.isExposed, hp, isBadAir_iff, countedZone_eq, IsExposed]
  split <;> simp [*]

theorem isExposed_congr {i : Fin 240} {s : State} (t : State) (h : RosterOnly s t) (hslot : t.slot i = s.slot i) :
    t.isExposed i = s.isExposed i := by
  have hzone : ∀ z, t.isBadAir z = s.isBadAir z := by
    unfold RosterOnly at h
    rw [h]
    exact fun _ => rfl
  simp only [State.isExposed, person_eq_of_slot hslot, hzone]

/-- Settles O23: each record is visited once by the count, which is a sweep of raises in TIME mode. -/
theorem exposureCountRaisesExposedRecords : Obligations.ExposureCountRaisesExposedRecords := by
  intro s hs
  have hexec : exec .exposureCount s = .next (takeExposure s) := congrArg _ (unlessReset_high hs _)
  have hjudge : ∀ i, exec (.exposureLimitReached i) s = .next (judgeExposure i s) := fun i =>
    congrArg _ (unlessReset_high hs _)
  refine ⟨fun h => ?_, fun i h => ?_, fun i p hp h => ?_, fun h hmode => ?_, fun h hmode hq => ?_⟩
  · rw [hexec, takeExposure, if_neg (by rw [h]; exact Bool.false_ne_true)]
  · rw [hjudge, judgeExposure_waits h]
  · rw [hjudge, judgeExposure_reached hp h]
    exact ⟨_, rfl, raiseItem_only .., raised_raiseItem (by decide) s⟩
  · rw [hexec, takeExposure, if_pos h]
    simp only [countExposure, hmode]
  · have hcount : takeExposure s = raiseExposures (fun i s => s.isExposed i)
        { s with handed := { s.handed with exposure := false } } := by
      rw [takeExposure, if_pos h]
      simp only [countExposure, hmode]
      rfl
    rw [hexec, hcount]
    refine ⟨_, rfl, raiseExposures_only _, fun i hi => raiseExposures_free hi, fun i p hp => ?_⟩
    obtain ⟨hraises, hstays⟩ := raiseExposures_slot (exposed := fun i s => s.isExposed i)
      (s := { s with handed := { s.handed with exposure := false } }) isExposed_congr hp
    have hiff := isExposed_iff (s := { s with handed := { s.handed with exposure := false } }) hp
    refine ⟨fun ⟨hstate, hlt, hzone⟩ => ?_, fun hnot => hstays fun ⟨hx, hlt⟩ => ?_⟩
    · obtain ⟨hslot, hraised⟩ := hraises (hiff.2 ⟨hstate, hzone⟩) hlt
      exact ⟨hslot, fun hlimit => hraised hlimit hq⟩
    · obtain ⟨hstate, hzone⟩ := hiff.1 hx
      exact hnot ⟨hstate, hlt, hzone⟩

/-! ## The ACK key, CLEAR_EXPOSURE and pages (R88, R143, R166) -/

theorem ackKey_page {i : Fin 240} {p : Person} {s : State} (hp : s.person i = some p) (h : p.page = true) :
    ackKey i s = raiseItem .pageAnswered (s.personSubject i) (s.setSlot i { gen := (s.slot i).gen, person := some (
      { p with alert := if p.alert = .sent then .acked else p.alert, page := false }) }) := by
  simp only [ackKey, hp, h, if_true, modifyPerson_modifyPerson]
  rw [modifyPerson_eq hp]

theorem ackKey_noPage {i : Fin 240} {p : Person} {s : State} (hp : s.person i = some p) (h : p.page = false) :
    ackKey i s = s.setSlot i { gen := (s.slot i).gen, person := some (
      { p with alert := if p.alert = .sent then .acked else p.alert, page := false }) } := by
  simp only [ackKey, hp, h, Bool.false_eq_true, if_false, modifyPerson_eq hp]

/-- Settles O24: the three requests and the key write one record, and only CLEAR_EXPOSURE and an answered page reach the
queue. -/
theorem exposureIsClearedAndPagesAreSet : Obligations.ExposureIsClearedAndPagesAreSet := by
  refine ⟨fun s i p hp => ?_, fun slot gen s i p hr hn => ⟨fun hq => ?_, fun hrun => ?_, ?_⟩⟩
  · simp only [actOnKey]
    cases hpage : p.page with
    | true =>
      rw [ackKey_page hp hpage]
      exact ⟨raiseItem_only .., fun _ _ => raised_raiseItem (by decide) _, nofun⟩
    | false =>
      rw [ackKey_noPage hp hpage]
      exact ⟨rfl, nofun, fun _ => ⟨rfl, rfl⟩⟩
  · rw [exec_clearExposure hr, reqClearExposure, withNamed_of_names (s := taken s) hn]
    refine ⟨_, rfl, done_of_queueOnly (s := s.modifyPerson i _) (endItem_only ..), ?_⟩
    exact notRaised_endItem (s := (taken s).modifyPerson i _) hq
  · rw [exec_page hr hrun, reqPage, withNamed_of_names (s := taken s) hn]
    rfl
  · rw [exec_cancelPage hr, reqCancelPage, withNamed_of_names (s := taken s) hn]
    rfl

end Sys2Proof.Machine
end

section
/-! Escorts: what the judgement of a visitor's separation leaves of its record and its item (R68, R69), and that the escort
judgement after a change reaches the record itself and the visitors whose escort it is, and no other. -/

namespace Sys2Proof.Machine

open Sys2Proof.Safety (QueueHolds Raised NotRaised Ready answered taken Names IsWithEscort IsSeparated SeparationJudged
  EscortsJudged)

/-! ## Separation (R68) -/

theorem setSlot_slot (i : Fin 240) (s : State) : s.setSlot i (s.slot i) = s := by
  have h : s.rst.slots.set i s.rst.slots[i.val] = s.rst.slots := Vector.set_getElem_self _
  exact congrArg (fun slots => { s with rst := { s.rst with slots := slots } }) h

theorem named_eq_some_iff {h : Handle} {e : Person} {s : State} :
    s.named h = some e ↔ s.person h.slot = some e ∧ (s.slot h.slot).gen = h.gen := by
  unfold State.named
  split
  next hg => exact (and_iff_left hg).symm
  next hg => exact iff_of_false nofun fun hn => hg hn.2

/-- The states and zones of the live records, and the generations of the slots, are the same. -/
def SamePlaces (s t : State) : Prop :=
  ∀ j, (t.slot j).gen = (s.slot j).gen
    ∧ (t.person j).map (fun p => (p.state, p.zone)) = (s.person j).map (fun p => (p.state, p.zone))

theorem SamePlaces.refl (s : State) : SamePlaces s s := fun _ => ⟨rfl, rfl⟩

theorem SamePlaces.trans {s t u : State} (h : SamePlaces s t) (g : SamePlaces t u) : SamePlaces s u :=
  fun j => ⟨(g j).1.trans (h j).1, (g j).2.trans (h j).2⟩

theorem SamePlaces.of_slot {s t : State} (h : ∀ j, t.slot j = s.slot j) : SamePlaces s t :=
  fun j => by rw [State.person, State.person, h j]; exact ⟨rfl, rfl⟩

theorem QueueOnly.samePlaces {s t : State} (h : QueueOnly s t) : SamePlaces s t := .of_slot h.slot_eq

theorem SamePlaces.modifyPerson {i : Fin 240} {f : Person → Person} (h : ∀ p, (f p).state = p.state ∧ (f p).zone = p.zone)
    (s : State) : SamePlaces s (s.modifyPerson i f) := fun j => by
  refine ⟨gen_modifyPerson .., ?_⟩
  rw [person_modifyPerson]
  split
  next hj =>
    subst hj
    cases s.person j with
    | none => rfl
    | some p => simp only [Option.map_some, (h p).1, (h p).2]
  next => rfl

theorem isWithEscort_iff {w : Person} {s : State} : IsWithEscort w s ↔
    ∃ h, w.escort = some h ∧ (s.slot h.slot).gen = h.gen
      ∧ (s.person h.slot).map (fun e => (e.state, e.zone)) = some (.present, w.zone) := by
  simp only [IsWithEscort, Option.map_eq_some_iff, Prod.mk.injEq]
  constructor
  · rintro ⟨h, e, hh, he, hg, hs, hz⟩
    exact ⟨h, hh, hg, e, he, hs, hz⟩
  · rintro ⟨h, hh, hg, e, he, hs, hz⟩
    exact ⟨h, e, hh, he, hg, hs, hz⟩

theorem SamePlaces.isSeparated_iff {s t : State} (h : SamePlaces s t) (w : Person) : IsSeparated w t ↔ IsSeparated w s := by
  have hwith : IsWithEscort w t ↔ IsWithEscort w s := by
    simp only [isWithEscort_iff, (h _).1, (h _).2]
  simp only [IsSeparated, hwith]

theorem isSeparated_iff {s : State} {p : Person} : s.isSeparated p = true ↔ IsSeparated p s := by
  unfold State.isSeparated IsSeparated
  cases hescort : p.escort with
  | none => simp
  | some h =>
    simp only [isApart, Bool.and_eq_true, Bool.or_eq_true, beq_iff_eq, reduceCtorEq, false_or, IsWithEscort, hescort]
    refine and_congr_right fun _ => ?_
    cases hn : s.named h with
    | none =>
      refine iff_of_true rfl fun ⟨h', e, hh, he, hg, _⟩ => ?_
      obtain rfl := Option.some.inj hh
      rw [named_eq_some_iff.2 ⟨he, hg⟩] at hn
      cases hn
    | some e =>
      simp only [Bool.or_eq_true, bne_iff_ne]
      constructor
      · rintro hapart ⟨h', e', hh, he, hg, hs, hz⟩
        obtain rfl := Option.some.inj hh
        obtain rfl := Option.some.inj ((named_eq_some_iff.2 ⟨he, hg⟩).symm.trans hn)
        exact hapart.elim (· hs) (· hz)
      · intro hnot
        obtain ⟨he, hg⟩ := named_eq_some_iff.1 hn
        by_contra hapart
        rw [not_or, not_not, not_not] at hapart
        exact hnot ⟨h, e, rfl, he, hg, hapart⟩

/-! ## The judgement of one visitor (R69) -/

/-- A visitor's record when its separation has been judged. -/
def Person.judged (separated : Bool) (now : Frame) (p : Person) : Person :=
  if separated then { p with separation := some (p.separation.getD now) }
  else if p.separation = none then p else { p with separation := none, escortLost := false }

/-- The judgement of a visitor writes its record, and ends its item where a separation with escort lost ends. -/
theorem judgeSeparation_visitor {i : Fin 240} {p : Person} {s : State} (hp : s.person i = some p) (hrole : p.role = .visitor) :
    judgeSeparation i s =
      let t := s.setSlot i { gen := (s.slot i).gen, person := some (p.judged (s.isSeparated p) s.frt.frame) }
      if s.isSeparated p = false ∧ p.separation ≠ none ∧ p.escortLost = true then endItem .escortLost (s.personSubject i) t
      else t := by
  have hself : s.setSlot i { gen := (s.slot i).gen, person := some p } = s := by
    rw [← slot_of_person hp]
    exact setSlot_slot i s
  simp only [judgeSeparation, hp, if_pos hrole, Person.judged]
  cases hsep : s.isSeparated p with
  | true =>
    cases hstamp : p.separation with
    | none => simp [modifyPerson_eq hp]
    | some f =>
      simp only [if_true, Option.getD_some, Bool.true_eq_false, false_and, if_false]
      rw [← hstamp]
      exact hself.symm
  | false =>
    cases hstamp : p.separation with
    | none => simp [hself]
    | some f => simp [modifyPerson_eq hp]

theorem judgeSeparation_idle {i : Fin 240} {s : State} (h : ∀ p, s.person i = some p → p.role ≠ .visitor) :
    judgeSeparation i s = s := by
  unfold judgeSeparation
  split
  next => rfl
  next p hp => exact if_neg (h p hp)

theorem judgeSeparation_only (i : Fin 240) (s : State) : RosterOnly s (judgeSeparation i s) := by
  by_cases h : ∃ p, s.person i = some p ∧ p.role = .visitor
  · obtain ⟨p, hp, hrole⟩ := h
    rw [judgeSeparation_visitor hp hrole]
    simp only
    split
    · exact RosterOnly.trans (t := s.setSlot i _) rfl (endItem_only ..).rosterOnly
    · rfl
  · rw [judgeSeparation_idle fun p hp hrole => h ⟨p, hp, hrole⟩]
    exact .refl s

theorem judgeSeparation_elsewhere {i j : Fin 240} (hj : j ≠ i) (s : State) : Elsewhere i s (judgeSeparation j s) := by
  by_cases h : ∃ p, s.person j = some p ∧ p.role = .visitor
  · obtain ⟨p, hp, hrole⟩ := h
    rw [judgeSeparation_visitor hp hrole, ← modifyPerson_eq hp fun q => q.judged (s.isSeparated p) s.frt.frame]
    simp only
    split
    · exact (Elsewhere.modifyPerson hj ..).trans (.endItem hj ..)
    · exact .modifyPerson hj ..
  · rw [judgeSeparation_idle fun p hp hrole => h ⟨p, hp, hrole⟩]
    exact .refl s

theorem Person.judged_place (b : Bool) (now : Frame) (p : Person) :
    (p.judged b now).state = p.state ∧ (p.judged b now).zone = p.zone := by
  unfold Person.judged
  split
  · exact ⟨rfl, rfl⟩
  · split <;> exact ⟨rfl, rfl⟩

theorem judgeSeparation_samePlaces (i : Fin 240) (s : State) : SamePlaces s (judgeSeparation i s) := by
  by_cases h : ∃ p, s.person i = some p ∧ p.role = .visitor
  · obtain ⟨p, hp, hrole⟩ := h
    rw [judgeSeparation_visitor hp hrole, ← modifyPerson_eq hp fun q => q.judged (s.isSeparated p) s.frt.frame]
    simp only
    split
    · exact (SamePlaces.modifyPerson (fun q => q.judged_place ..) s).trans (endItem_only ..).samePlaces
    · exact .modifyPerson (fun q => q.judged_place ..) s
  · rw [judgeSeparation_idle fun p hp hrole => h ⟨p, hp, hrole⟩]
    exact .refl s

theorem judgeSeparation_holds (i : Fin 240) {s : State} (h : QueueHolds s.atq) : QueueHolds (judgeSeparation i s).atq := by
  by_cases hv : ∃ p, s.person i = some p ∧ p.role = .visitor
  · obtain ⟨p, hp, hrole⟩ := hv
    rw [judgeSeparation_visitor hp hrole]
    simp only
    split
    · exact endItem_holds _ _ _ h
    · exact h
  · rw [judgeSeparation_idle fun p hp hrole => hv ⟨p, hp, hrole⟩]
    exact h

theorem judgeSeparation_slot {i : Fin 240} {p : Person} {s : State} (hp : s.person i = some p) (hrole : p.role = .visitor) :
    (judgeSeparation i s).slot i =
      { gen := (s.slot i).gen, person := some (p.judged (s.isSeparated p) s.frt.frame) } := by
  rw [judgeSeparation_visitor hp hrole]
  simp only
  split
  · rw [(endItem_only ..).slot_eq, slot_setSlot, if_pos rfl]
  · rw [slot_setSlot, if_pos rfl]

/-- Escort lost ends with the separation: its item is not raised (R69). -/
theorem judgeSeparation_notRaised {i : Fin 240} {p : Person} {s : State} (hp : s.person i = some p) (hrole : p.role = .visitor)
    (hsep : s.isSeparated p = false) (hstamp : p.separation ≠ none) (hlost : p.escortLost = true) (hq : QueueHolds s.atq) :
    NotRaised .escortLost (s.personSubject i) (judgeSeparation i s) := by
  rw [judgeSeparation_visitor hp hrole]
  simp only
  rw [if_pos ⟨hsep, hstamp, hlost⟩]
  exact notRaised_endItem (s := s.setSlot i _) hq

theorem Person.judged_escort (b : Bool) (now : Frame) (p : Person) :
    (p.judged b now).role = p.role ∧ (p.judged b now).escort = p.escort := by
  unfold Person.judged
  split
  · exact ⟨rfl, rfl⟩
  · split <;> exact ⟨rfl, rfl⟩

theorem isSeparated_judged (b : Bool) (now : Frame) (p : Person) (s : State) :
    IsSeparated (p.judged b now) s ↔ IsSeparated p s := by
  obtain ⟨hstate, hzone⟩ := p.judged_place b now
  obtain ⟨-, hescort⟩ := p.judged_escort b now
  simp only [IsSeparated, IsWithEscort, hstate, hzone, hescort]

theorem Person.judged_judged (b : Bool) (now : Frame) (p : Person) : (p.judged b now).judged b now = p.judged b now := by
  cases b with
  | true => simp [Person.judged]
  | false =>
    cases h : p.separation <;> simp [Person.judged, h]

/-! ## The judgement after a change (R63, R80, R150, R151) -/

/-- The change of a visitor's record that a judgement makes of it, where it is separated as the states `s` and `t` say. -/
theorem separationJudged_of_judged {j : Fin 240} {v p : Person} {s u t : State} (hp : p.separation = v.separation)
    (hlost : p.escortLost = v.escortLost) (hframe : u.frt.frame = s.frt.frame)
    (hsep : IsSeparated (p.judged (u.isSeparated p) u.frt.frame) t ↔ IsSeparated p u)
    (hitem : u.isSeparated p = false → p.separation ≠ none → p.escortLost = true → QueueHolds s.atq →
      NotRaised .escortLost (s.personSubject j) t) :
    SeparationJudged j v (p.judged (u.isSeparated p) u.frt.frame) s t := by
  refine ⟨fun h => ?_, fun h => ?_⟩
  · have hb := isSeparated_iff.2 (hsep.1 h)
    simp only [Person.judged, hb, if_true, hp, hlost, hframe, and_self]
  · have hb : u.isSeparated p = false := Bool.eq_false_iff.2 fun hb => h (hsep.2 (isSeparated_iff.1 hb))
    rw [hb]
    cases hstamp : v.separation with
    | none =>
      have hnone : p.separation = none := hp.trans hstamp
      simp only [Person.judged, Bool.false_eq_true, if_false, hnone, if_true, ne_eq, not_true_eq_false, false_implies, and_true,
        true_and, true_implies]
      exact hlost
    | some f =>
      have hsome : p.separation ≠ none := by
        rw [hp, hstamp]
        exact Option.some_ne_none f
      simp only [Person.judged, Bool.false_eq_true, if_false, if_neg hsome, true_and, reduceCtorEq, false_implies, ne_eq,
        not_false_eq_true, true_implies]
      exact fun hv hq => hitem hb hsome (hlost.trans hv) hq

/-- A record that a change of the record in a slot concerns: that record where it is a VISITOR, and its visitors. -/
def Concerns (i j : Fin 240) (v : Person) (s : State) : Prop := v.role = .visitor ∧ (j = i ∨ v.escort = some (s.handle i))

/-- A slot, the roster's other slots, and every place stay but for the work on other slots. -/
def Away (j : Fin 240) (s t : State) : Prop := Elsewhere j s t ∧ SamePlaces s t

theorem Away.refl (j : Fin 240) (s : State) : Away j s s := ⟨.refl s, .refl s⟩

theorem Away.trans {j : Fin 240} {s t u : State} (h : Away j s t) (g : Away j t u) : Away j s u :=
  ⟨h.1.trans g.1, h.2.trans g.2⟩

theorem judgeSeparation_away {i j : Fin 240} (hj : j ≠ i) (s : State) : Away i s (judgeSeparation j s) :=
  ⟨judgeSeparation_elsewhere hj s, judgeSeparation_samePlaces j s⟩

theorem mem_visitorsOf {h : Handle} {j : Fin 240} {s : State} :
    j ∈ s.visitorsOf h ↔ ∃ v, s.person j = some v ∧ v.role = .visitor ∧ v.escort = some h := by
  simp only [State.visitorsOf, mem_slotsWhere, Bool.and_eq_true, beq_iff_eq]

theorem RosterOnly.frame {s t : State} (h : RosterOnly s t) : t.frt = s.frt := by
  unfold RosterOnly at h
  rw [h]

/-- A judgement made again in a state of the same places changes nothing. -/
theorem judgeSeparation_again {i : Fin 240} {v : Person} {s t : State} (hrole : v.role = .visitor)
    (hp : t.person i = some (v.judged (s.isSeparated v) s.frt.frame)) (hplaces : SamePlaces s t) (hframe : t.frt = s.frt) :
    judgeSeparation i t = t := by
  have hsep : t.isSeparated (v.judged (s.isSeparated v) s.frt.frame) = s.isSeparated v := by
    rw [Bool.eq_iff_iff, isSeparated_iff, isSeparated_iff, isSeparated_judged, hplaces.isSeparated_iff]
  rw [judgeSeparation_visitor hp ((v.judged_escort ..).1.trans hrole), hsep, hframe, v.judged_judged, ← slot_of_person hp,
    setSlot_slot]
  refine if_neg fun ⟨hfalse, hstamp, _⟩ => hstamp ?_
  rw [hfalse]
  cases h : v.separation <;> simp [Person.judged, h]

/-- What the escort judgement leaves of a record that it concerns. -/
def IsJudged (j : Fin 240) (v : Person) (s t : State) : Prop :=
  t.slot j = { gen := (s.slot j).gen, person := some (v.judged (s.isSeparated v) s.frt.frame) }
    ∧ (s.isSeparated v = false → v.separation ≠ none → v.escortLost = true → QueueHolds s.atq →
        NotRaised .escortLost (s.personSubject j) t)

theorem IsJudged.judgeSeparation {j : Fin 240} {v : Person} {s t : State} (hv : s.person j = some v) (hrole : v.role = .visitor)
    (h : Away j s t) : IsJudged j v s (judgeSeparation j t) := by
  obtain ⟨helse, hplaces⟩ := h
  have hvt : t.person j = some v := helse.person.trans hv
  have hsep : t.isSeparated v = s.isSeparated v := by
    rw [Bool.eq_iff_iff, isSeparated_iff, isSeparated_iff, hplaces.isSeparated_iff]
  refine ⟨?_, fun hfalse hstamp hlost hq => ?_⟩
  · rw [judgeSeparation_slot hvt hrole, hsep, helse.slot, helse.only.frame]
  · rw [← helse.subject]
    exact judgeSeparation_notRaised hvt hrole (hsep.trans hfalse) hstamp hlost (helse.holds hq)

theorem IsJudged.away {j : Fin 240} {v : Person} {s t u : State} (hq : QueueHolds s.atq → QueueHolds t.atq)
    (h : IsJudged j v s t) (ha : Elsewhere j t u) : IsJudged j v s u := by
  obtain ⟨hslot, hitem⟩ := h
  refine ⟨ha.slot.trans hslot, fun hfalse hstamp hlost hs => ?_⟩
  have hsubject := personSubject_of_slot_eq hslot
  have := hitem hfalse hstamp hlost hs
  rw [← hsubject] at this ⊢
  exact ha.notRaised (by decide) (hq hs) this

theorem judgeEscorts_concerned {i j : Fin 240} {v : Person} {s : State} (hv : s.person j = some v) (hc : Concerns i j v s) :
    IsJudged j v s (judgeEscorts i s) := by
  obtain ⟨hrole, hc⟩ := hc
  have hnodup : (s.visitorsOf (s.handle i)).Nodup := slotsWhere_nodup s _
  have hvisits := forEach_visits (R := Away j) (i := j) (f := judgeSeparation) (Away.refl j) (fun _ _ _ => Away.trans) hnodup
  have hskips := forEach_related (R := Away j) (i := j) (f := judgeSeparation) (l := s.visitorsOf (s.handle i)) (Away.refl j)
    (fun _ _ _ => Away.trans)
  unfold judgeEscorts
  by_cases hj : j = i
  · subst hj
    have hfirst := IsJudged.judgeSeparation hv hrole (.refl j s)
    by_cases hm : j ∈ s.visitorsOf (s.handle j)
    · obtain ⟨u, hu, ht⟩ := hvisits hm (fun _ hk => judgeSeparation_away hk) (judgeSeparation j s)
      have hpu : u.person j = some (v.judged (s.isSeparated v) s.frt.frame) :=
        hu.1.person.trans (congrArg Slot.person hfirst.1)
      rw [judgeSeparation_again hrole hpu ((judgeSeparation_samePlaces j s).trans hu.2)
        (hu.1.only.frame.trans (judgeSeparation_only j s).frame)] at ht
      exact hfirst.away (judgeSeparation_holds j) (hu.trans ht).1
    · exact hfirst.away (judgeSeparation_holds j) (hskips hm (fun _ hk => judgeSeparation_away hk) _).1
  · have hm : j ∈ s.visitorsOf (s.handle i) := mem_visitorsOf.2 ⟨v, hv, hrole, hc.resolve_left hj⟩
    have hfirst : Away j s (judgeSeparation i s) := judgeSeparation_away (Ne.symm hj) s
    obtain ⟨u, hu, ht⟩ := hvisits hm (fun _ hk => judgeSeparation_away hk) (judgeSeparation i s)
    refine (IsJudged.judgeSeparation hv hrole (hfirst.trans hu)).away (fun hq => ?_) ht.1
    exact judgeSeparation_holds j (hu.1.holds (hfirst.1.holds hq))

theorem judgeEscorts_other {i j : Fin 240} {s : State} (h : ∀ v, s.person j = some v → ¬ Concerns i j v s) :
    (judgeEscorts i s).slot j = s.slot j := by
  have hm : j ∉ s.visitorsOf (s.handle i) := fun hm => by
    obtain ⟨v, hv, hrole, hescort⟩ := mem_visitorsOf.1 hm
    exact h v hv ⟨hrole, .inr hescort⟩
  have hfirst : (judgeSeparation i s).slot j = s.slot j := by
    by_cases hj : i = j
    · subst hj
      rw [judgeSeparation_idle fun p hp hrole => h p hp ⟨hrole, .inl rfl⟩]
    · exact (judgeSeparation_elsewhere hj s).slot
  exact (Elsewhere.forEach hm (fun _ hk => judgeSeparation_elsewhere hk) _).slot.trans hfirst

theorem judgeEscorts_only (i : Fin 240) (s : State) : RosterOnly s (judgeEscorts i s) :=
  (judgeSeparation_only i s).trans (forEach_rosterOnly judgeSeparation_only _ _)

theorem judgeEscorts_samePlaces (i : Fin 240) (s : State) : SamePlaces s (judgeEscorts i s) :=
  (judgeSeparation_samePlaces i s).trans (forEach_keeps (SamePlaces (judgeSeparation i s)) _
    (fun j _ ht => ht.trans (judgeSeparation_samePlaces j _)) _ _ (.refl _))

/-- The record in a slot before and after a change that the escort judgement has not yet seen: its handle stays, and its role,
escort, separation and escort lost, and the other slots. -/
structure Unjudged (i : Fin 240) (s u : State) : Prop where
  others : ∀ j, j ≠ i → u.slot j = s.slot j
  gen : (u.slot i).gen = (s.slot i).gen
  own : ∀ p, s.person i = some p → ∃ q, u.person i = some q ∧ q.role = p.role ∧ q.escort = p.escort
    ∧ q.separation = p.separation ∧ q.escortLost = p.escortLost
  frame : u.frt = s.frt
  holds : QueueHolds s.atq → QueueHolds u.atq

/-- A change of a record handed to the escort judgement is judged for the record and its visitors, and for no other. -/
theorem Unjudged.escortsJudged {i : Fin 240} {s u : State} (h : Unjudged i s u) : EscortsJudged i s (judgeEscorts i u) := by
  have hhandle : u.handle i = s.handle i := congrArg (Handle.mk i) h.gen
  have hgen : ∀ j, (u.slot j).gen = (s.slot j).gen := fun j => by
    by_cases hj : j = i
    · subst hj
      exact h.gen
    · rw [h.others j hj]
  refine ⟨fun j hj hnone => ?_, fun j v hv => ?_⟩
  · rw [judgeEscorts_other fun v hv => ?_, h.others j hj]
    rw [person_eq_of_slot (h.others j hj), hnone] at hv
    cases hv
  · obtain ⟨p, hp, hrole, hescort, hstamp, hlost, hrest⟩ : ∃ p, u.person j = some p ∧ p.role = v.role ∧ p.escort = v.escort
        ∧ p.separation = v.separation ∧ p.escortLost = v.escortLost ∧ (j ≠ i → p = v) := by
      by_cases hj : j = i
      · subst hj
        obtain ⟨q, hq, hrole, hescort, hstamp, hlost⟩ := h.own v hv
        exact ⟨q, hq, hrole, hescort, hstamp, hlost, fun hne => absurd rfl hne⟩
      · exact ⟨v, (person_eq_of_slot (h.others j hj)).trans hv, rfl, rfl, rfl, rfl, fun _ => rfl⟩
    have hconcerns : Concerns i j p u ↔ v.role = .visitor ∧ (j = i ∨ v.escort = some (s.handle i)) := by
      rw [Concerns, hrole, hescort, hhandle]
    by_cases hc : Concerns i j p u
    · obtain ⟨hslot, hitem⟩ := judgeEscorts_concerned hp hc
      refine ⟨_, congrArg Slot.person hslot, fun _ => ?_, fun hnot => absurd (hconcerns.1 hc) hnot, fun hj => ?_⟩
      · refine separationJudged_of_judged hstamp hlost (by rw [h.frame]) ?_ fun hfalse hp hlost hq => ?_
        · rw [(judgeEscorts_samePlaces i u).isSeparated_iff, isSeparated_judged]
        · rw [← personSubject_eq_of_gen (hgen j)]
          exact hitem hfalse hp hlost (h.holds hq)
      · rw [hslot, hgen, hrest hj]
        congr 2
        unfold Person.judged
        split
        · rfl
        · split <;> rfl
    · have hslot := judgeEscorts_other (i := i) (j := j) (s := u) fun v' hv' => by
        rw [hp] at hv'
        exact Option.some.inj hv' ▸ hc
      refine ⟨p, (person_eq_of_slot hslot).trans hp, fun hcon => absurd (hconcerns.2 hcon) hc, fun _ => ⟨hstamp, hlost⟩,
        fun hj => ?_⟩
      rw [hslot, slot_of_person hp, hgen, hrest hj]

/-! ## SET_ESCORT (R72) -/

/-- A visitor and an escort are apart: the visitor is PRESENT or QUIET, and the escort is not PRESENT in its zone (R68). -/
def Apart (p e : Person) : Prop := (p.state = .present ∨ p.state = .quiet) ∧ (e.state ≠ .present ∨ e.zone ≠ p.zone)

theorem isSeparated_withEscort {s : State} {h : Handle} {p e : Person} (hescort : p.escort = some h)
    (he : s.person h.slot = some e) (hg : (s.slot h.slot).gen = h.gen) : IsSeparated p s ↔ Apart p e := by
  rw [← isSeparated_iff]
  simp [State.isSeparated, hescort, named_eq_some_iff.2 ⟨he, hg⟩, isApart, Apart]

theorem reqSetEscort_refused {slot gen escortSlot escortGen : Byte} {s : State} {i j : Fin 240} {p e : Person}
    (hn : Names s slot gen i p) (he : Names s escortSlot escortGen j e) (h : p.role ≠ .visitor ∨ e.role ≠ .official) :
    reqSetEscort slot gen escortSlot escortGen s = s.refuse .badArgument := by
  rw [reqSetEscort, withNamed_of_names hn]
  split
  next hrole =>
    have hnone : s.official? escortSlot escortGen = none := Option.eq_none_iff_forall_ne_some.2 fun h' hh => by
      obtain ⟨hslot, -, e', he', -, hofficial⟩ := official?_eq_some_iff.1 hh
      obtain ⟨hj, -, hej⟩ := he
      obtain rfl : h'.slot = j := Fin.ext (hslot.symm.trans hj)
      rw [hej] at he'
      exact h.elim (· hrole) (· (Option.some.inj he' ▸ hofficial))
    simp only [hnone]
  next => rfl

theorem reqSetEscort_taken {slot gen escortSlot escortGen : Byte} {s : State} {i j : Fin 240} {p e : Person}
    (hn : Names s slot gen i p) (he : Names s escortSlot escortGen j e) (hp : p.role = .visitor) (ho : e.role = .official) :
    reqSetEscort slot gen escortSlot escortGen s =
      (judgeSeparation i (s.modifyPerson i (fun q => { q with escort := some (s.handle j) }))).done := by
  obtain ⟨hslot, hgen, hej⟩ := he
  have hsome : s.official? escortSlot escortGen = some (s.handle j) :=
    official?_eq_some_iff.2 ⟨hslot, hgen, e, hej, rfl, ho⟩
  rw [reqSetEscort, withNamed_of_names hn]
  simp only [if_pos hp, hsome]

/-- The judgement that SET_ESCORT makes: the visitor is separated exactly where the two are apart. -/
theorem isSeparated_setEscort {s : State} {i j : Fin 240} {p e : Person} (hj : j ≠ i) (he : s.person j = some e) :
    (s.modifyPerson i (fun q => { q with escort := some (s.handle j) })).isSeparated { p with escort := some (s.handle j) }
      = true ↔ Apart p e := by
  rw [isSeparated_iff]
  refine isSeparated_withEscort (h := s.handle j) (e := e) rfl ?_ ?_
  · rw [person_modifyPerson, State.handle, if_neg hj, he]
  · rw [gen_modifyPerson]
    rfl

section SetEscort

variable {s : State} {i j : Fin 240} {p e : Person} (hp : s.person i = some p) (hrole : p.role = .visitor) (hj : j ≠ i)
  (he : s.person j = some e)

/-- A visitor's record when SET_ESCORT has given it an escort and its separation has been judged. -/
def Person.withEscort (h : Handle) (separated : Bool) (now : Frame) (p : Person) : Person :=
  { p with escort := some h }.judged separated now

include hp hrole

theorem judgeSeparation_withEscort (h : Handle) :
    judgeSeparation i (s.modifyPerson i (fun q => { q with escort := some h })) =
      let b := (s.modifyPerson i (fun q => { q with escort := some h })).isSeparated { p with escort := some h }
      let t := s.modifyPerson i (Person.withEscort h b s.frt.frame)
      if b = false ∧ p.separation ≠ none ∧ p.escortLost = true then endItem .escortLost (s.personSubject i) t else t := by
  have hset : (s.modifyPerson i (fun q => { q with escort := some h })).person i = some { p with escort := some h } := by
    rw [person_modifyPerson_self, hp, Option.map_some]
  rw [judgeSeparation_visitor hset hrole]
  generalize (s.modifyPerson i _).isSeparated _ = b
  rw [State.modifyPerson_frt, ← modifyPerson_eq hset fun q => q.judged b s.frt.frame, modifyPerson_modifyPerson, personSubject_modifyPerson]
  rfl

include hj he

theorem judgeSeparation_apart (h : Apart p e) :
    judgeSeparation i (s.modifyPerson i (fun q => { q with escort := some (s.handle j) })) =
      s.modifyPerson i (fun q =>
        { q with escort := some (s.handle j), separation := some (p.separation.getD s.frt.frame) }) := by
  rw [judgeSeparation_withEscort hp hrole, (isSeparated_setEscort hj he).2 h]
  simp only [Bool.true_eq_false, false_and, if_false]
  rw [modifyPerson_eq hp, modifyPerson_eq hp]
  rfl

theorem judgeSeparation_together (h : ¬ Apart p e) :
    judgeSeparation i (s.modifyPerson i (fun q => { q with escort := some (s.handle j) })) =
      let t := s.modifyPerson i (Person.withEscort (s.handle j) false s.frt.frame)
      if p.separation ≠ none ∧ p.escortLost = true then endItem .escortLost (s.personSubject i) t else t := by
  have hb := Bool.eq_false_iff.2 (mt (isSeparated_setEscort (p := p) hj he).1 h)
  rw [judgeSeparation_withEscort hp hrole, hb]
  simp only [true_and]

end SetEscort

/-- Settles O27: an escort that SET_ESCORT takes is another record than the visitor, and the judgement of the visitor's
separation against it does the rest. -/
theorem setEscortJudgesSeparation : Obligations.SetEscortJudgesSeparation := by
  intro slot gen escortSlot escortGen s i j p e hr hn he apart
  have hrefused := reqSetEscort_refused (s := taken s) hn he
  have htaken := reqSetEscort_taken (s := taken s) hn he
  obtain ⟨-, -, hp⟩ := hn
  obtain ⟨-, -, hej⟩ := he
  have hne : p.role = .visitor → e.role = .official → j ≠ i := by
    rintro hv ho rfl
    rw [hp] at hej
    rw [← Option.some.inj hej, hv] at ho
    cases ho
  have htogether := fun hv ho => judgeSeparation_together (s := taken s) hp hv (hne hv ho) hej
  refine ⟨fun h => ?_, fun hv ho ha => ?_, fun hv ho ha hstamp => ?_, fun hv ho ha hstamp hq => ?_⟩
  · rw [exec_setEscort hr, hrefused h, refuse_taken]
  · rw [exec_setEscort hr, htaken hv ho, judgeSeparation_apart (s := taken s) hp hv (hne hv ho) hej ha]
    rfl
  · rw [exec_setEscort hr, htaken hv ho, htogether hv ho ha, if_neg fun h => h.1 hstamp, modifyPerson_eq (s := taken s) hp,
      modifyPerson_eq hp]
    simp only [Person.withEscort, Person.judged, Bool.false_eq_true, if_false, if_pos hstamp]
    rfl
  · have hrecord : (taken s).modifyPerson i (Person.withEscort (s.handle j) false s.frt.frame) =
        taken (s.modifyPerson i (fun q => { q with escort := some (s.handle j), separation := none, escortLost := false })) := by
      rw [modifyPerson_eq (s := taken s) hp, modifyPerson_eq hp]
      simp only [Person.withEscort, Person.judged, Bool.false_eq_true, if_false, if_neg hstamp]
      rfl
    have hjudged := htogether hv ho ha
    simp only at hjudged
    rw [exec_setEscort hr, htaken hv ho, hjudged]
    refine ⟨_, rfl, ?_, fun hlost => ?_, fun hlost => ?_⟩
    · have honly : QueueOnly ((taken s).modifyPerson i (Person.withEscort (s.handle j) false s.frt.frame))
          (if p.separation ≠ none ∧ p.escortLost = true then endItem .escortLost (s.personSubject i)
            ((taken s).modifyPerson i (Person.withEscort (s.handle j) false s.frt.frame))
          else (taken s).modifyPerson i (Person.withEscort (s.handle j) false s.frt.frame)) := by
        split
        · exact endItem_only ..
        · exact .refl _
      exact done_of_queueOnly (Eq.subst (motive := fun v => QueueOnly v _) hrecord honly)
    · rw [if_pos ⟨hstamp, hlost⟩]
      exact notRaised_endItem (s := (taken s).modifyPerson i _) hq
    · rw [if_neg fun h => Bool.false_ne_true (hlost.symm.trans h.2)]
      rfl

end Sys2Proof.Machine
end

section
/-! The retirement of a record (R65, R66): its subject leaves the queue for good, its call ends, and the visitors whose escort it
was lose it. -/

namespace Sys2Proof.Machine

open Sys2Proof.Safety (QueueHolds Raised NotRaised Ready answered taken Names IsSeparated)

/-! ## A subject that has left the queue (R45) -/

/-- No item and no due mark of a queue is about a matter. -/
def Gone (k : ItemKind) (x : Subject) (q : AttentionQueue) : Prop :=
  (∀ it ∈ q.items, ¬ (it.kind = k ∧ it.subject = x)) ∧ ∀ d ∈ q.due, ¬ (d.kind = k ∧ d.subject = x)

section Gone

variable {k : ItemKind} {x : Subject} {k' : ItemKind} {x' : Subject}

theorem Gone.changeItem (ho : Other k x k' x') {f : Item → Item} {s : State} (h : Gone k x s.atq)
    (hf : ∀ a, (f a).kind = a.kind ∧ (f a).subject = a.subject := by exact fun _ => ⟨rfl, rfl⟩) :
    Gone k x (s.changeItem k' x' f).atq :=
  ⟨fun a ha hkx => h.1 a ((mem_changeItem_other ho hf hkx.1 hkx.2).1 ha) hkx, h.2⟩

theorem Gone.eraseItem {s : State} (h : Gone k x s.atq) : Gone k x (s.eraseItem k' x').atq :=
  ⟨fun a ha => h.1 a ((mem_eraseItem ..).1 ha).1, h.2⟩

theorem Gone.enterItem (ho : Other k x k' x') {f : Frame} {b : Bool} {d : Detail} {s : State} (h : Gone k x s.atq) :
    Gone k x (enterItem k' x' f b d s).atq :=
  ⟨fun a ha hkx => h.1 a ((mem_enterItem_other ho hkx.1 hkx.2).1 ha) hkx, h.2⟩

theorem Gone.setDue (ho : Other k x k' x') {f : Frame} {s : State} (h : Gone k x s.atq) : Gone k x (s.setDue k' x' f).atq := by
  refine ⟨h.1, fun d hd hkx => ?_⟩
  rcases mem_due_setDue.1 hd with rfl | hd
  · exact ho hkx
  · exact h.2 d hd.1 hkx

theorem Gone.clearDue {s : State} (h : Gone k x s.atq) : Gone k x (s.clearDue k' x').atq :=
  ⟨h.1, fun d hd => h.2 d (mem_due_clearDue.1 hd).1⟩

theorem Gone.reinsert {s : State} (h : Gone k x s.atq) : Gone k x (reinsert s).atq := by
  unfold Machine.reinsert
  split
  · split
    next d hd => exact Gone.enterItem (h.2 d (mem_chosenDue _ _ _ hd)) h.clearDue
    next => exact h
  · exact h

theorem Gone.removeItem {s : State} (h : Gone k x s.atq) : Gone k x (removeItem k' x' s).atq := h.eraseItem.reinsert

theorem Gone.meetFullQueue (ho : Other k x k' x') {b : Bool} {d : Detail} {s : State} (h : Gone k x s.atq) :
    Gone k x (meetFullQueue k' x' b d s).atq := by
  unfold Machine.meetFullQueue
  split
  next => exact h
  next old hold =>
    split
    · refine Gone.enterItem ho ?_
      split
      · exact Gone.setDue (h.1 old (mem_candidate _ _ hold)) h.eraseItem
      · exact h.eraseItem
    · split
      · exact h
      · exact h.setDue ho

theorem Gone.insertItem (ho : Other k x k' x') {b : Bool} {d : Detail} {r : Bool} {s : State} (h : Gone k x s.atq) :
    Gone k x (insertItem k' x' b d r s).atq := by
  unfold Machine.insertItem
  split
  · split
    · simp only
      split <;> exact h.changeItem ho
    · exact h.eraseItem.enterItem ho
  · split
    · exact h
    · split
      · exact h.enterItem ho
      · exact h.meetFullQueue ho

theorem Gone.endItem (ho : Other k x k' x') {s : State} (h : Gone k x s.atq) : Gone k x (endItem k' x' s).atq := by
  unfold Machine.endItem
  split
  · split
    · split
      · exact h.removeItem
      · exact h.changeItem ho
    · exact h
  · exact h.clearDue

/-- A matter that has left the queue is not raised. -/
theorem Gone.notRaised {s : State} (h : Gone k x s.atq) : NotRaised k x s :=
  ⟨fun it hm hk hx => absurd ⟨hk, hx⟩ (h.1 it hm), (dueMark_none ..).2 h.2⟩

end Gone

/-- Where L7 holds, an end of a call's matter takes it out of the queue (R43). -/
theorem gone_endCallItem {k : ItemKind} {x : Subject} {s : State} (h : QueueHolds s.atq) : Gone k x (endCallItem k x s).atq := by
  unfold Machine.endCallItem
  cases hi : s.item k x with
  | some it =>
    obtain ⟨hm, hk, hx⟩ := item_some hi
    refine Gone.reinsert ⟨fun a ha => ((mem_eraseItem ..).1 ha).2, fun d hd hkx => ?_⟩
    exact h.2.2 d hd it hm ⟨hk.trans hkx.1.symm, hx.trans hkx.2.symm⟩
  | none => exact ⟨(item_none ..).1 hi, fun d hd => (mem_due_clearDue.1 hd).2⟩

/-- Items of a subject are only of the kinds of a list, and it has no due mark. -/
def OnlyKinds (x : Subject) (l : List ItemKind) (q : AttentionQueue) : Prop :=
  (∀ it ∈ q.items, it.subject = x → it.kind ∈ l) ∧ ∀ d ∈ q.due, d.subject ≠ x

theorem OnlyKinds.removeItem {x : Subject} {k : ItemKind} {l : List ItemKind} {s : State} (h : OnlyKinds x (k :: l) s.atq) :
    OnlyKinds x l (removeItem k x s).atq := by
  have herased : OnlyKinds x l (s.eraseItem k x).atq := by
    refine ⟨fun a ha hx => ?_, h.2⟩
    obtain ⟨hm, hne⟩ := (mem_eraseItem ..).1 ha
    exact (List.mem_cons.1 (h.1 a hm hx)).resolve_left fun hk => hne ⟨hk, hx⟩
  unfold Machine.removeItem reinsert
  split
  · split
    next d hd =>
      refine ⟨fun a ha hx => ?_, fun e he => herased.2 e (mem_due_clearDue.1 he).1⟩
      rcases mem_enterItem.1 ha with rfl | hm
      · exact absurd hx (herased.2 d (mem_chosenDue _ _ _ hd))
      · exact herased.1 a hm hx
    next => exact herased
  · exact herased

/-- A retired subject leaves the queue for good (R45). -/
theorem gone_retireSubject (k : ItemKind) (x : Subject) (s : State) : Gone k x (retireSubject x s).atq := by
  have hsweep : ∀ (l : List ItemKind) (t : State), OnlyKinds x l t.atq →
      OnlyKinds x [] (forEach l (fun k => removeItem k x) t).atq := by
    intro l
    induction l with
    | nil => exact fun _ h => h
    | cons k l ih => exact fun t h => ih _ h.removeItem
  obtain ⟨hitems, hdue⟩ := hsweep ((s.atq.items.filter (fun it => it.subject == x)).map Item.kind)
    { s with atq := { s.atq with due := s.atq.due.filter (fun d => d.subject != x) } } (by
      refine ⟨fun it hm hx => List.mem_map.2 ⟨it, List.mem_filter.2 ⟨hm, beq_iff_eq.2 hx⟩, rfl⟩, fun d hd => ?_⟩
      exact bne_iff_ne.1 (List.mem_filter.1 hd).2)
  exact ⟨fun it hm hkx => absurd (hitems it hm hkx.2) List.not_mem_nil, fun d hd hkx => hdue d hd hkx.2⟩

/-! ## The end of a CONNECTED call (R163) -/

theorem freeCallChannel_slot (c : Option (Fin 4)) (s : State) (j : Fin 240) : (freeCallChannel c s).slot j = s.slot j := by
  cases c <;> rfl

theorem slot_endConnected_self {i : Fin 240} {p : Person} {s : State} (hp : s.person i = some p) :
    (endConnected i s).slot i = { gen := (s.slot i).gen, person := some p.disconnected } := by
  simp only [endConnected, hp]
  unfold Person.disconnected
  split
  next hc =>
    have hfreed : (freeCallChannel p.callChannel s).person i = some p :=
      (person_eq_of_slot (freeCallChannel_slot ..)).trans hp
    rw [slot_modifyPerson_self hfreed, freeCallChannel_slot, if_pos hc]
  all_goals
    next hc =>
    rw [if_neg (by rw [hc]; exact nofun)]
    exact slot_of_person hp

theorem slot_endConnected_of_ne {i j : Fin 240} (hj : j ≠ i) (s : State) : (endConnected i s).slot j = s.slot j := by
  unfold endConnected
  split
  · rfl
  · split
    · rw [slot_modifyPerson_of_ne hj, freeCallChannel_slot]
    all_goals rfl

theorem Person.disconnected_eq (p : Person) : p.disconnected.role = p.role ∧ p.disconnected.escort = p.escort
    ∧ p.disconnected.separation = p.separation ∧ p.disconnected.escortLost = p.escortLost
    ∧ p.disconnected.misses = p.misses ∧ p.disconnected.page = p.page ∧ p.disconnected.callState ≠ .connected := by
  unfold Person.disconnected
  split
  next => exact ⟨rfl, rfl, rfl, rfl, rfl, rfl, nofun⟩
  next h => exact ⟨rfl, rfl, rfl, rfl, rfl, rfl, h⟩

/-! ## The withdrawal of an escort (R71) -/

/-- A visitor's record when its escort has been withdrawn. -/
def Person.unescorted (now : Frame) (p : Person) : Person :=
  { p with escort := none, separation := some (p.separation.getD now), escortLost := true }

theorem judgeSeparation_unescorted {i : Fin 240} {v : Person} {s : State} (hv : s.person i = some v) (hrole : v.role = .visitor)
    (hescort : v.escort = none) : judgeSeparation i s =
      s.modifyPerson i (fun q => { q with separation := some (v.separation.getD s.frt.frame) }) := by
  have hsep : s.isSeparated v = true := isSeparated_iff.2 (.inl hescort)
  rw [judgeSeparation_visitor hv hrole, hsep, modifyPerson_eq hv]
  rfl

theorem withdrawEscort_eq {i : Fin 240} {v : Person} {s : State} (hv : s.person i = some v) (hrole : v.role = .visitor) :
    withdrawEscort i s =
      (raiseItem .escortLost (s.personSubject i) (endItem .escortLost (s.personSubject i)
        (s.modifyPerson i (fun q => { q with escort := none, separation := some (v.separation.getD s.frt.frame) })))).modifyPerson
        i (fun p => { p with escortLost := true }) := by
  have hset : (s.modifyPerson i (fun q => { q with escort := none })).person i = some { v with escort := none } := by
    rw [person_modifyPerson_self, hv, Option.map_some]
  simp only [withdrawEscort]
  rw [judgeSeparation_unescorted hset hrole rfl, modifyPerson_modifyPerson]
  rfl

theorem withdrawEscort_slot {i : Fin 240} {v : Person} {s : State} (hv : s.person i = some v) (hrole : v.role = .visitor) :
    (withdrawEscort i s).slot i = { gen := (s.slot i).gen, person := some (v.unescorted s.frt.frame) }
      ∧ Raised .escortLost (s.personSubject i) (withdrawEscort i s) := by
  rw [withdrawEscort_eq hv hrole]
  refine ⟨?_, raised_raiseItem (s := endItem _ _ _) (by decide)⟩
  have hslot : ∀ t : State, QueueOnly (s.modifyPerson i (fun q =>
      { q with escort := none, separation := some (v.separation.getD s.frt.frame) })) t →
      t.slot i = { gen := (s.slot i).gen, person := some (
        { v with escort := none, separation := some (v.separation.getD s.frt.frame) }) } := fun t ht => by
    rw [ht.slot_eq, slot_modifyPerson_self hv]
  have hboth := hslot _ ((endItem_only .escortLost (s.personSubject i) _).trans (raiseItem_only .escortLost (s.personSubject i) _))
  rw [slot_modifyPerson_self (congrArg Slot.person hboth), hboth]
  rfl

theorem withdrawEscort_elsewhere {i j : Fin 240} (hj : j ≠ i) (s : State) : Elsewhere i s (withdrawEscort j s) :=
  ((((Elsewhere.modifyPerson hj _ s).trans (judgeSeparation_elsewhere hj _)).trans (.endItem hj ..)).trans
    (.raiseItem hj ..)).trans (.modifyPerson hj ..)

theorem withdrawEscort_holds (i : Fin 240) {s : State} (h : QueueHolds s.atq) : QueueHolds (withdrawEscort i s).atq :=
  (Aside.withdrawEscort i s).roll.queue h

theorem raised_congr {k : ItemKind} {x : Subject} {s t : State} (h : t.atq = s.atq) (hr : Raised k x s) : Raised k x t := by
  unfold Raised State.item State.dueMark at *
  rwa [h]

theorem notRaised_congr {k : ItemKind} {x : Subject} {s t : State} (h : t.atq = s.atq) (hr : NotRaised k x s) :
    NotRaised k x t := by
  unfold NotRaised State.dueMark at *
  rwa [h]

/-! ## The retirement of a record (R65, R66) -/

/-- The claims of a record that retires, the end of its call and the retirement of its subject: all of R66 but the visitors and
the slot. -/
def leaveRoll (i : Fin 240) (p : Person) (s : State) : State :=
  let t := countClaim p.countedZone none s
  retireSubject (s.personSubject i) (endConnected i (if p.state = .mustered then occupancyClaim p.refuge t else t))

theorem retirePerson_eq {i : Fin 240} {p : Person} {s : State} (hp : s.person i = some p) :
    retirePerson i s = freeTheSlot i (if p.role = .official then
      forEach ((leaveRoll i p s).visitorsOf (s.handle i)) withdrawEscort (leaveRoll i p s) else leaveRoll i p s) := by
  simp only [retirePerson, hp]
  rfl

theorem moved_leaveRoll {i : Fin 240} {p : Person} {s : State} (hp : s.person i = some p) :
    Moved i (some p.disconnected) p.countedZone none p.musterPlace none p.connection.join s (leaveRoll i p s) := by
  have hcount := (Moved.refl i s).countClaim p.countedZone none
  have hoccupied : Moved i (s.person i) p.countedZone none p.musterPlace none none s
      (if p.state = .mustered then occupancyClaim p.refuge (countClaim p.countedZone none s)
        else countClaim p.countedZone none s) := by
    unfold Person.musterPlace
    split
    · exact hcount.occupancyClaim p.refuge
    · exact hcount
  have hleft := hoccupied.endConnected.aside (.retireSubject (s.personSubject i) _)
  rw [hp] at hleft
  exact hleft

theorem slot_claims (p : Person) (a : Option (Fin 32)) (s : State) (j : Fin 240) :
    (if p.state = .mustered then occupancyClaim p.refuge (countClaim p.countedZone a s)
      else countClaim p.countedZone a s).slot j = s.slot j := by
  split <;> simp only [State.slot, occupancyClaim_rst, countClaim_rst]

theorem slot_leaveRoll_self {i : Fin 240} {p : Person} {s : State} (hp : s.person i = some p) :
    (leaveRoll i p s).slot i = { gen := (s.slot i).gen, person := some p.disconnected } := by
  have hclaims := slot_claims p none s i
  rw [leaveRoll, (retireSubject_only ..).slot_eq, slot_endConnected_self ((person_eq_of_slot hclaims).trans hp), hclaims]

theorem slot_leaveRoll_of_ne {i j : Fin 240} (hj : j ≠ i) (p : Person) (s : State) :
    (leaveRoll i p s).slot j = s.slot j := by
  rw [leaveRoll, (retireSubject_only ..).slot_eq, slot_endConnected_of_ne hj, slot_claims]

theorem frt_leaveRoll (i : Fin 240) (p : Person) (s : State) : (leaveRoll i p s).frt = s.frt := by
  unfold leaveRoll
  obtain ⟨hfrt, -⟩ := (retireSubject_only (s.personSubject i) (endConnected i (if p.state = .mustered then
    occupancyClaim p.refuge (countClaim p.countedZone none s) else countClaim p.countedZone none s))).same
  rw [hfrt, endConnected_frt]
  split <;> simp only [occupancyClaim_frt, countClaim_frt]

theorem moved_retirePerson {i : Fin 240} {p : Person} {s : State} (hp : s.person i = some p) :
    Moved i none p.countedZone none p.musterPlace none p.connection.join s (retirePerson i s) := by
  rw [retirePerson_eq hp]
  have hfree : ∀ v, Aside (leaveRoll i p s) v →
      Moved i none p.countedZone none p.musterPlace none p.connection.join s (freeTheSlot i v) := fun v hv =>
    ((moved_leaveRoll hp).aside hv).setSlot (v := { gen := (v.slot i).gen + 1, person := none }) (.inl rfl)
  split
  · exact hfree _ (.forEach (fun j s => .withdrawEscort j s) _ _)
  · exact hfree _ (.refl _)

/-- A visitor whose escort retires: another record, and a visitor still when the escort has left the roll. -/
theorem mem_visitorsOf_leaveRoll {i j : Fin 240} {p : Person} {s : State} (hp : s.person i = some p)
    (hofficial : p.role = .official) : j ∈ (leaveRoll i p s).visitorsOf (s.handle i)
      ↔ j ≠ i ∧ ∃ v, s.person j = some v ∧ v.role = .visitor ∧ v.escort = some (s.handle i) := by
  rw [mem_visitorsOf]
  by_cases hj : j = i
  · subst hj
    obtain ⟨hrole, -⟩ := p.disconnected_eq
    rw [show (leaveRoll j p s).person j = some p.disconnected from congrArg Slot.person (slot_leaveRoll_self hp)]
    refine iff_of_false (fun ⟨v, hv, hvisitor, _⟩ => ?_) fun h => h.1 rfl
    obtain rfl := Option.some.inj hv
    rw [hrole, hofficial] at hvisitor
    cases hvisitor
  · rw [person_eq_of_slot (slot_leaveRoll_of_ne hj p s)]
    exact (and_iff_right hj).symm

theorem slot_freeTheSlot_of_ne {i j : Fin 240} (hj : j ≠ i) (s : State) : (freeTheSlot i s).slot j = s.slot j :=
  (slot_setSlot ..).trans (if_neg hj)

theorem slot_retirePerson_self {i : Fin 240} {p : Person} {s : State} (hp : s.person i = some p) :
    (retirePerson i s).slot i = { gen := (s.slot i).gen + 1, person := none } := by
  rw [retirePerson_eq hp, freeTheSlot, slot_setSlot, if_pos rfl]
  have hgen : ((leaveRoll i p s).slot i).gen = (s.slot i).gen := by rw [slot_leaveRoll_self hp]
  split
  · rw [(Aside.forEach (fun j s => .withdrawEscort j s) _ (leaveRoll i p s)).roll.gens i, hgen]
  · rw [hgen]

theorem slot_retirePerson_other {i j : Fin 240} {p : Person} {s : State} (hp : s.person i = some p) (hj : j ≠ i)
    (h : ¬ (p.role = .official ∧ ∃ v, s.person j = some v ∧ v.role = .visitor ∧ v.escort = some (s.handle i))) :
    (retirePerson i s).slot j = s.slot j := by
  rw [retirePerson_eq hp, slot_freeTheSlot_of_ne hj]
  split
  next ho =>
    have hm : j ∉ (leaveRoll i p s).visitorsOf (s.handle i) := fun hm =>
      h ⟨ho, ((mem_visitorsOf_leaveRoll hp ho).1 hm).2⟩
    rw [(Elsewhere.forEach hm (fun k hk s => withdrawEscort_elsewhere hk s) _).slot, slot_leaveRoll_of_ne hj]
  next => exact slot_leaveRoll_of_ne hj p s

theorem slot_retirePerson_visitor {i j : Fin 240} {p v : Person} {s : State} (hp : s.person i = some p)
    (hofficial : p.role = .official) (hv : s.person j = some v) (hj : j ≠ i) (hrole : v.role = .visitor)
    (hescort : v.escort = some (s.handle i)) (hq : QueueHolds s.atq) :
    (retirePerson i s).slot j = { gen := (s.slot j).gen, person := some (v.unescorted s.frt.frame) }
      ∧ Raised .escortLost (s.personSubject j) (retirePerson i s) := by
  have hleft := slot_leaveRoll_of_ne hj p s
  have hm := (mem_visitorsOf_leaveRoll hp hofficial).2 ⟨hj, v, hv, hrole, hescort⟩
  obtain ⟨u, hu, ht⟩ := forEach_visits (R := Elsewhere j) Elsewhere.refl (fun _ _ _ => Elsewhere.trans) (slotsWhere_nodup _ _) hm
    (fun k hk s => withdrawEscort_elsewhere hk s) (leaveRoll i p s)
  obtain ⟨hslot, hraised⟩ := withdrawEscort_slot (hu.person.trans ((person_eq_of_slot hleft).trans hv)) hrole
  have hsubject : u.personSubject j = s.personSubject j := hu.subject.trans (personSubject_eq_of_slot hleft)
  rw [hu.slot, hleft, hu.only.frame, frt_leaveRoll] at hslot
  rw [retirePerson_eq hp, if_pos hofficial, slot_freeTheSlot_of_ne hj]
  refine ⟨ht.slot.trans hslot, raised_congr (freeTheSlot_atq ..) ?_⟩
  have hholds := withdrawEscort_holds j (hu.holds ((moved_leaveRoll hp).queue hq))
  rw [hsubject] at hraised
  rw [← personSubject_of_slot_eq hslot] at hraised ⊢
  exact ht.raised (by decide) hholds hraised

theorem gone_withdrawEscort {i j : Fin 240} (hj : j ≠ i) (k : ItemKind) {s t : State} (h : Gone k (t.personSubject i) s.atq) :
    Gone k (t.personSubject i) (withdrawEscort j s).atq := by
  have ho := other_of_slot hj k .escortLost t s
  have hjudged : Gone k (t.personSubject i) (judgeSeparation j (s.modifyPerson j (fun p => { p with escort := none }))).atq := by
    by_cases hv : ∃ v, s.person j = some v ∧ v.role = .visitor
    · obtain ⟨v, hv, hrole⟩ := hv
      have hset : (s.modifyPerson j (fun q => { q with escort := none })).person j = some { v with escort := none } := by
        rw [person_modifyPerson_self, hv, Option.map_some]
      rw [judgeSeparation_unescorted hset hrole rfl]
      exact h
    · rw [judgeSeparation_idle fun p hp hrole => ?_]
      · exact h
      · rw [person_modifyPerson_self, Option.map_eq_some_iff] at hp
        obtain ⟨v, hs, rfl⟩ := hp
        exact hv ⟨v, hs, hrole⟩
  exact Gone.insertItem ho (hjudged.endItem ho)

theorem gone_retirePerson {i : Fin 240} {p : Person} {s : State} (hp : s.person i = some p) (k : ItemKind) :
    Gone k (s.personSubject i) (retirePerson i s).atq := by
  have hleft : Gone k (s.personSubject i) (leaveRoll i p s).atq := gone_retireSubject ..
  rw [retirePerson_eq hp, freeTheSlot_atq]
  split
  next ho =>
    have hsweep : ∀ (l : List (Fin 240)) (u : State), i ∉ l → Gone k (s.personSubject i) u.atq →
        Gone k (s.personSubject i) (forEach l withdrawEscort u).atq := by
      intro l
      induction l with
      | nil => exact fun _ _ h => h
      | cons j l ih =>
        intro u hi h
        rw [List.mem_cons, not_or] at hi
        exact ih _ hi.2 (gone_withdrawEscort (Ne.symm hi.1) k h)
    exact hsweep _ _ (fun hm => ((mem_visitorsOf_leaveRoll hp ho).1 hm).1 rfl) hleft
  next => exact hleft

/-- A claim away from a place. -/
theorem claimed_away {α : Type} [DecidableEq α] {before : Option α} {a : α} {n : Nat} {c : Prop} [Decidable c]
    (h : before = some a ↔ c) : claimed before none a n = if c then n - 1 else n := by
  unfold claimed
  by_cases hc : c
  · rw [h.2 hc]
    simp [hc]
  · have hb := mt h.1 hc
    simp [hc, hb]

theorem Person.connection_join (p : Person) (c : Fin 4) :
    p.connection.join = some c ↔ p.callState = .connected ∧ p.callChannel = some c := by
  unfold Person.connection
  split
  next h => simp [h]
  next h => simp [h]

/-- Settles O26: the claims of the retirement are those of a move off the roll, and each visitor loses its escort once. -/
theorem retirementTakesTheRecordDown : Obligations.RetirementTakesTheRecordDown := by
  intro slot gen s i p hr hn hq
  have hexec : exec (.retire slot gen) s = .next (retirePerson i (taken s)).done := by
    rw [exec_retire hr, reqRetire, withNamed_of_names (s := taken s) hn]
  obtain ⟨-, -, hp⟩ := hn
  have hmoved := moved_retirePerson (s := taken s) hp
  have hgone := gone_retirePerson (s := taken s) hp
  refine ⟨_, hexec, rfl, rfl, ?_, ?_, slot_retirePerson_self (s := taken s) hp, fun z => ?_, fun r => ?_, fun c => ?_,
    fun it hm hx => (hgone it.kind).1 it hm ⟨rfl, hx⟩, fun d hm hx => (hgone d.kind).2 d hm ⟨rfl, hx⟩,
    fun j v hv hj hrole hescort ho => ?_, fun j hj h => slot_retirePerson_other (s := taken s) hp hj h⟩
  · exact retirePerson_hpt_request i (taken s)
  · exact congrArg HaulLink.silenceCount (retirePerson_hlk i (taken s))
  · exact (hmoved.persons z).trans (claimed_away (by rw [countedZone_eq]; split <;> simp [*]))
  · exact (hmoved.occupancy r).trans (claimed_away (by unfold Person.musterPlace; split <;> simp [*]))
  · refine (hmoved.held c).trans ?_
    simp only [Person.connection_join]
    rfl
  · obtain ⟨hslot, hraised⟩ := slot_retirePerson_visitor (s := taken s) hp ho hv hj hrole hescort hq
    exact ⟨_, congrArg Slot.person hslot, rfl, rfl, rfl, hraised⟩

end Sys2Proof.Machine
end

section
/-! Aging of one record (R79, R80): the change of its state, what it claims, and the judgement of its escorts. -/

namespace Sys2Proof.Machine

open Sys2Proof.Safety (QueueHolds Raised NotRaised EscortsJudged)

/-! ## A matter that stands, through the ends of other matters -/

section Stands

variable {k : ItemKind} {x : Subject} {k' : ItemKind} {x' : Subject}

theorem find?_placeItem (p : Item → Bool) (now : Frame) (it : Item) (l : List Item) :
    (placeItem now it l).find? p = l.find? p ∨ (placeItem now it l).find? p = some it := by
  induction l with
  | nil => cases h : p it <;> simp [placeItem, h]
  | cons a l ih =>
    simp only [placeItem]
    split
    · cases h : p a
      · simpa [h] using ih
      · simp [h]
    · cases h : p it <;> simp [h]

theorem item_enterItem_cases (f : Frame) (b : Bool) (d : Detail) (s : State) :
    (enterItem k' x' f b d s).item k x = s.item k x
      ∨ ∃ it, (enterItem k' x' f b d s).item k x = some it ∧ it.kind = k' ∧ it.subject = x' ∧ it.condition = .active :=
  (find?_placeItem ..).imp_right fun h => ⟨_, h, rfl, rfl, rfl⟩

theorem item_enterItem_other (ho : Other k x k' x') (f : Frame) (b : Bool) (d : Detail) (s : State) :
    (enterItem k' x' f b d s).item k x = s.item k x := by
  rcases item_enterItem_cases f b d s with h | ⟨it, h, hk, hx, -⟩
  · exact h
  · obtain ⟨-, hk', hx'⟩ := item_some h
    exact absurd ⟨hk, hx⟩ (ho.not_item hk' hx')

theorem Stands.of_item {s t : State} (h : Stands k x s) (hitem : t.item k x = s.item k x)
    (hdue : ∀ d, d.kind = k ∧ d.subject = x → d ∈ s.atq.due → d ∈ t.atq.due) : Stands k x t := by
  unfold Stands at *
  rw [hitem]
  exact h.imp_right fun ⟨hn, d, hd, hkx⟩ => ⟨hn, d, hdue d hkx hd, hkx⟩

theorem item_eraseItem_other (ho : Other k x k' x') (s : State) : (s.eraseItem k' x').item k x = s.item k x := by
  simp only [State.item, State.eraseItem, List.find?_filter]
  congr 1
  funext a
  cases h : a.isFor k x with
  | false => simp
  | true =>
    obtain ⟨hk, hx⟩ := (isFor_iff ..).1 h
    simp [ho.isFor_eq_false hk hx]

theorem item_changeItem_other (ho : Other k x k' x') {f : Item → Item} {s : State}
    (hf : ∀ a, (f a).kind = a.kind ∧ (f a).subject = a.subject := by exact fun _ => ⟨rfl, rfl⟩) :
    (s.changeItem k' x' f).item k x = s.item k x := by
  have hsame : ∀ a : Item, (if a.isFor k' x' then f a else a).isFor k x = a.isFor k x := fun a => by
    split
    · rw [Item.isFor, Item.isFor, (hf a).1, (hf a).2]
    · rfl
  simp only [State.item, State.changeItem, List.find?_map, Function.comp_def, hsame]
  cases h : s.atq.items.find? (Item.isFor k x) with
  | none => rfl
  | some a =>
    obtain ⟨hk, hx⟩ := (isFor_iff ..).1 (List.find?_some h)
    simp [ho.isFor_eq_false hk hx]

theorem Stands.reinsert {s : State} (h : Stands k x s) : Stands k x (reinsert s) := by
  unfold Machine.reinsert
  split
  · split
    next d hd =>
      by_cases hdk : d.kind = k ∧ d.subject = x
      · obtain ⟨rfl, rfl⟩ := hdk
        rcases h with ⟨it, hit, hc⟩ | ⟨hn, -⟩
        · left
          rcases item_enterItem_cases d.stamp (freshTest d.subject s) (freshDetail d.kind d.subject s)
            (s.clearDue d.kind d.subject) with hold | ⟨a, hnew, -, -, ha⟩
          · exact ⟨it, hold.trans hit, hc⟩
          · exact ⟨a, hnew, ha⟩
        · exact stands_enterItem (s := s.clearDue d.kind d.subject) hn
      · have hother : Other k x d.kind d.subject := hdk
        exact Stands.of_item (s := s) h (item_enterItem_other hother ..) fun e he hm =>
          (mem_due_clearDue (s := s)).2 ⟨hm, hother.not_due he.1 he.2⟩
    next => exact h
  · exact h

theorem Stands.endItem (ho : Other k x k' x') {s : State} (h : Stands k x s) : Stands k x (endItem k' x' s) := by
  unfold Machine.endItem
  split
  · split
    · split
      · exact Stands.reinsert (Stands.of_item (s := s) h (item_eraseItem_other ho s) fun _ _ => id)
      · exact Stands.of_item (s := s) h (item_changeItem_other ho) fun _ _ => id
    · exact h
  · exact Stands.of_item (s := s) h (t := s.clearDue k' x') rfl fun d hd hm =>
      (mem_due_clearDue (s := s)).2 ⟨hm, ho.not_due hd.1 hd.2⟩

end Stands

theorem Stands.judgeSeparation {k : ItemKind} {x : Subject} (hk : .escortLost ≠ k) (i : Fin 240) {s : State} (h : Stands k x s) :
    Stands k x (judgeSeparation i s) := by
  by_cases hv : ∃ p, s.person i = some p ∧ p.role = .visitor
  · obtain ⟨p, hp, hrole⟩ := hv
    rw [judgeSeparation_visitor hp hrole]
    simp only
    split
    · exact Stands.endItem (.of_kind hk) (s := s.setSlot i _) h
    · exact h
  · rw [judgeSeparation_idle fun p hp hrole => hv ⟨p, hp, hrole⟩]
    exact h

theorem Stands.judgeEscorts {k : ItemKind} {x : Subject} (hk : .escortLost ≠ k) (i : Fin 240) {s : State} (h : Stands k x s) :
    Stands k x (judgeEscorts i s) :=
  forEach_keeps (Stands k x) _ (fun j _ ht => Stands.judgeSeparation hk j ht) _ _ (h.judgeSeparation hk i)

/-! ## A record through the escort judgement -/

/-- The escort judgement keeps all of a record but its separation and escort lost. -/
theorem judgeEscorts_slot {i j : Fin 240} {v : Person} {s : State} (hv : s.person j = some v) :
    ∃ w, (judgeEscorts i s).slot j = { gen := (s.slot j).gen, person := some w }
      ∧ w = { v with separation := w.separation, escortLost := w.escortLost } := by
  by_cases hc : Concerns i j v s
  · refine ⟨_, (judgeEscorts_concerned hv hc).1, ?_⟩
    unfold Person.judged
    split
    · rfl
    · split <;> rfl
  · refine ⟨v, ?_, rfl⟩
    rw [judgeEscorts_other fun v' hv' => ?_, slot_of_person hv]
    rw [hv] at hv'
    exact Option.some.inj hv' ▸ hc

/-! ## A change of state by aging (R80) -/

section AgeTo

variable {i : Fin 240} {p : Person} {s : State} (hp : s.person i = some p) (x : PersonState)

/-- A change of state by aging, up to the escort judgement. -/
def ageBefore (i : Fin 240) (p : Person) (x : PersonState) (s : State) : State :=
  let t := countClaim p.countedZone ({ p with state := x } : Person).countedZone (s.modifyPerson i (fun _ => { p with state := x }))
  endConnected i (if x = .missing then raiseItem .missing (s.personSubject i) t else t)

theorem ageTo_eq (i : Fin 240) (p : Person) (x : PersonState) (s : State) :
    ageTo i p x s = judgeEscorts i (ageBefore i p x s) := rfl

theorem slot_ageRaised (j : Fin 240) (t : State) :
    (if x = .missing then raiseItem .missing (s.personSubject i) t else t).slot j = t.slot j := by
  split
  · exact (raiseItem_only ..).slot_eq j
  · rfl

include hp

theorem slot_ageBefore_self : (ageBefore i p x s).slot i =
    { gen := (s.slot i).gen, person := some ({ p with state := x } : Person).disconnected } := by
  have hset : (countClaim p.countedZone ({ p with state := x } : Person).countedZone
      (s.modifyPerson i (fun _ => { p with state := x }))).slot i =
        { gen := (s.slot i).gen, person := some ({ p with state := x } : Person) } := by
    rw [State.slot, countClaim_rst]
    exact slot_modifyPerson_self hp _
  have hraised := (slot_ageRaised (i := i) (s := s) x i _).trans hset
  rw [ageBefore, slot_endConnected_self (congrArg Slot.person hraised), hraised]

omit hp in
theorem slot_ageBefore_of_ne {j : Fin 240} (hj : j ≠ i) (p : Person) : (ageBefore i p x s).slot j = s.slot j := by
  rw [ageBefore, slot_endConnected_of_ne hj, slot_ageRaised, State.slot, countClaim_rst]
  exact slot_modifyPerson_of_ne hj _ s

theorem unjudged_ageBefore : Unjudged i s (ageBefore i p x s) where
  others j hj := slot_ageBefore_of_ne x hj p
  gen := by rw [slot_ageBefore_self hp]
  own p' hp' := by
    rw [hp] at hp'
    obtain rfl := Option.some.inj hp'
    obtain ⟨hrole, hescort, hstamp, hlost, -⟩ := ({ p with state := x } : Person).disconnected_eq
    exact ⟨_, congrArg Slot.person (slot_ageBefore_self hp x), hrole, hescort, hstamp, hlost⟩
  frame := by
    rw [ageBefore, endConnected_frt]
    split
    · obtain ⟨hfrt, -⟩ := (raiseItem_only .missing (s.personSubject i) _).same
      rw [hfrt, countClaim_frt]
      rfl
    · exact countClaim_frt ..
  holds hq := by
    rw [ageBefore, endConnected_atq]
    split
    · refine raiseItem_holds _ _ _ ?_
      rw [countClaim_atq]
      exact hq
    · rw [countClaim_atq]
      exact hq

theorem moved_ageTo : Moved i (some ({ p with state := x } : Person).disconnected) p.countedZone
    ({ p with state := x } : Person).countedZone none none ({ p with state := x } : Person).connection.join s (ageTo i p x s) := by
  have hwrite := (Moved.refl i s).modifyPerson (f := fun _ => { p with state := x }) fun _ _ _ => .refl _
  rw [hp] at hwrite
  have hclaimed := hwrite.countClaim p.countedZone ({ p with state := x } : Person).countedZone
  have hraised : Moved i (some { p with state := x }) p.countedZone ({ p with state := x } : Person).countedZone none none none s
      (if x = .missing then raiseItem .missing (s.personSubject i) (countClaim p.countedZone
          ({ p with state := x } : Person).countedZone (s.modifyPerson i (fun _ => { p with state := x })))
        else countClaim p.countedZone ({ p with state := x } : Person).countedZone
          (s.modifyPerson i (fun _ => { p with state := x }))) := by
    split
    · exact hclaimed.aside (.raiseItem ..)
    · exact hclaimed
  exact hraised.endConnected.aside (.judgeEscorts i _)

/-- What a change of state by aging leaves of the record, and its neighbours' part. -/
theorem ageTo_spec : ∃ q, (ageTo i p x s).person i = some q ∧ q.state = x ∧ q.zone = p.zone ∧ q.misses = p.misses
    ∧ q.alert = p.alert ∧ q.page = p.page ∧ q.callState ≠ .connected ∧ EscortsJudged i s (ageTo i p x s)
    ∧ ∀ z, ((ageTo i p x s).zone z).persons =
        claimed p.countedZone ({ p with state := x } : Person).countedZone z (s.zone z).persons := by
  obtain ⟨w, hw, hsame⟩ := judgeEscorts_slot (i := i) (congrArg Slot.person (slot_ageBefore_self hp x))
  obtain ⟨hstate, hzone, -, halert, -⟩ := ({ p with state := x } : Person).disconnected_same
  obtain ⟨-, -, -, -, hmisses, hpage, hcall⟩ := ({ p with state := x } : Person).disconnected_eq
  refine ⟨w, congrArg Slot.person hw, ?_, ?_, ?_, ?_, ?_, ?_, (unjudged_ageBefore hp x).escortsJudged,
    (moved_ageTo hp x).persons⟩
  · rw [hsame]; exact hstate
  · rw [hsame]; exact hzone
  · rw [hsame]; exact hmisses
  · rw [hsame]; exact halert
  · rw [hsame]; exact hpage
  · rw [hsame]; exact hcall

omit hp in
theorem raised_ageTo_missing (p : Person) : Raised .missing (s.personSubject i) (ageTo i p .missing s) := by
  refine (Stands.judgeEscorts (by decide) i ?_).raised
  unfold Stands State.item
  rw [endConnected_atq]
  exact stands_insertItem (.inl (by decide)) ..

end AgeTo

/-! ## The judgement of one record (R79, R81) -/

/-- A record has reached the limit of its state (R79, R81). -/
def IsDue (p : Person) (s : State) : Prop :=
  (p.state = .present ∧ s.rst.quietLimit ≤ p.misses) ∨ (p.state = .quiet ∧ s.rst.missingLimit ≤ p.misses)
    ∨ (p.state = .out ∧ s.rst.outHold ≤ p.misses)

theorem judgeAging_stays {i : Fin 240} {s : State} (h : ∀ p, s.person i = some p → ¬ IsDue p s) : judgeAging i s = s := by
  unfold judgeAging
  split
  next => rfl
  next p hp =>
    have hnot := h p hp
    simp only [IsDue, not_or, not_and] at hnot
    obtain ⟨hquiet, hmissing, hout⟩ := hnot
    split
    next hs => exact if_neg (hquiet hs)
    next hs => exact if_neg (hmissing hs)
    next hs => exact if_neg (hout hs)
    all_goals rfl

theorem judgeAging_present {i : Fin 240} {p : Person} {s : State} (hp : s.person i = some p) (hstate : p.state = .present)
    (h : s.rst.quietLimit ≤ p.misses) : judgeAging i s = ageTo i p (s.agedFrom p.zone) s := by
  simp only [judgeAging, hp, hstate, if_pos h]

theorem judgeAging_quiet {i : Fin 240} {p : Person} {s : State} (hp : s.person i = some p) (hstate : p.state = .quiet)
    (h : s.rst.missingLimit ≤ p.misses) : judgeAging i s = ageTo i p .missing s := by
  simp only [judgeAging, hp, hstate, if_pos h]

theorem judgeAging_out {i : Fin 240} {p : Person} {s : State} (hp : s.person i = some p) (hstate : p.state = .out)
    (h : s.rst.outHold ≤ p.misses) : judgeAging i s = retirePerson i s := by
  simp only [judgeAging, hp, hstate, if_pos h]

/-- A zone that a record may have is of kind PORTAL. -/
def InPortal (z : Option (Fin 32)) (s : State) : Prop := ∃ w, z = some w ∧ (s.zone w).kind = .portal

theorem agedFrom_portal {z : Option (Fin 32)} {s : State} (h : InPortal z s) : s.agedFrom z = .out := by
  obtain ⟨w, rfl, hkind⟩ := h
  exact if_pos hkind

theorem agedFrom_elsewhere {z : Option (Fin 32)} {s : State} (h : ¬ InPortal z s) : s.agedFrom z = .quiet := by
  cases z with
  | none => rfl
  | some w => exact if_neg fun hkind => h ⟨w, rfl, hkind⟩

theorem claimed_same {α : Type} [DecidableEq α] (a : Option α) (b : α) (n : Nat) : claimed a a b n = n := if_pos rfl

/-- Settles O21: a change by aging is a claim, an item, the end of a call and the escort judgement, in this order; a record
that is OUT too long retires. -/
theorem agingJudgesOneRecord : Obligations.AgingJudgesOneRecord := by
  intro i s hs inPortal
  have hexec : exec (.agingStateChange i) s = .next (judgeAging i s) := congrArg _ (unlessReset_high hs _)
  refine ⟨fun h => ?_, fun p hp hstate hlimit => ?_, fun p hp hstate hlimit => ?_, fun p hp hstate hlimit => ?_⟩
  · rw [hexec, judgeAging_stays fun p hp hdue => ?_]
    obtain ⟨hquiet, hmissing, hout⟩ := h p hp
    exact hdue.elim hquiet fun hdue => hdue.elim hmissing hout
  · obtain ⟨q, hq, hqs, hzone, hmisses, halert, hpage, hcall, hjudged, hpersons⟩ := ageTo_spec hp (s.agedFrom p.zone)
    rw [hexec, judgeAging_present hp hstate hlimit]
    refine ⟨_, q, rfl, hq, fun hz => hqs.trans (agedFrom_portal hz), fun hz => hqs.trans (agedFrom_elsewhere hz), hzone, hmisses,
      halert, hpage, hcall, hjudged, fun z => (hpersons z).trans ?_⟩
    have hcounted : p.countedZone = p.zone := by rw [countedZone_eq, if_pos (.inl hstate)]
    rw [hcounted]
    by_cases hz : InPortal p.zone s
    · have hafter : ({ p with state := s.agedFrom p.zone } : Person).countedZone = none := by
        rw [countedZone_eq, agedFrom_portal hz]
        rfl
      rw [hafter]
      exact claimed_away (and_iff_right hz).symm
    · have hafter : ({ p with state := s.agedFrom p.zone } : Person).countedZone = p.zone := by
        rw [countedZone_eq, agedFrom_elsewhere hz]
        rfl
      rw [hafter, claimed_same, if_neg fun h => hz h.1]
  · obtain ⟨q, hq, hqs, hzone, hmisses, halert, hpage, hcall, hjudged, hpersons⟩ := ageTo_spec hp .missing
    rw [hexec, judgeAging_quiet hp hstate hlimit]
    refine ⟨_, q, rfl, hq, hqs, hzone, hmisses, halert, hpage, hcall, raised_ageTo_missing p, hjudged, fun z =>
      (hpersons z).trans (claimed_away ?_)⟩
    rw [countedZone_eq, if_pos (.inr hstate)]
  · rw [hexec, judgeAging_out hp hstate hlimit]
    exact ⟨_, rfl, slot_retirePerson_self hp⟩

end Sys2Proof.Machine
end

section
/-! Walks (R76 to R78): a walk visits step-many slots in order, and where no record is due it counts misses and nothing else. -/

namespace Sys2Proof.Machine

/-! ## The slots of a walk -/

/-- The slots of a walk of a number of steps from a position (R77). -/
def walkSlots (pos : Fin 240) (step : Nat) : List (Fin 240) := (List.range step).map (slotAfter pos)

theorem slotAfter_val (i : Fin 240) (k : Nat) : (slotAfter i k).val = (i.val + k) % 240 := rfl

theorem mem_walkSlots {pos i : Fin 240} {step : Nat} (h : step ≤ 240) :
    i ∈ walkSlots pos step ↔ (i.val + 240 - pos.val) % 240 < step := by
  have hi := i.isLt
  have hp := pos.isLt
  simp only [walkSlots, List.mem_map, List.mem_range, Fin.ext_iff, slotAfter_val]
  constructor
  · rintro ⟨k, hk, hval⟩
    omega
  · exact fun hlt => ⟨_, hlt, by omega⟩

theorem walkSlots_nodup (pos : Fin 240) {step : Nat} (h : step ≤ 240) : (walkSlots pos step).Nodup := by
  have hp := pos.isLt
  refine List.Nodup.map_on (fun a ha b hb hab => ?_) List.nodup_range
  rw [List.mem_range] at ha hb
  rw [Fin.ext_iff, slotAfter_val, slotAfter_val] at hab
  omega

/-! ## Visits (R78) -/

/-- A record that a visit has aged: its misses counted, save where it is ENROLLED or MUSTERED (R78). -/
def Person.aged (p : Person) : Person := if p.state.isAged then p.visited else p

theorem isAged_iff (x : PersonState) : x.isAged = true ↔ ¬ (x = .enrolled ∨ x = .mustered) := by
  cases x <;> simp [PersonState.isAged]

theorem Person.visited_state (p : Person) : p.visited.state = p.state := by
  unfold Person.visited
  split <;> rfl

theorem Person.visited_misses (p : Person) : p.visited.misses = if p.heardSinceVisit then 0 else min 15 (p.misses + 1) := by
  unfold Person.visited
  split <;> rfl

theorem Person.visited_eq (p : Person) : p.visited =
    { p with heardSinceVisit := false, misses := if p.heardSinceVisit then 0 else min 15 (p.misses + 1) } := by
  unfold Person.visited
  cases h : p.heardSinceVisit
  · simp only [Bool.false_eq_true, if_false]
  · rfl

theorem visit_free {i : Fin 240} {s : State} (h : s.person i = none) : visit i s = s := by
  simp only [visit, h]

theorem visit_of {i : Fin 240} {p : Person} {s : State} (h : s.person i = some p) :
    visit i s = if p.state.isAged then judgeAging i (s.modifyPerson i Person.visited) else s := by
  simp only [visit, h]

/-- A visit of a record that is not due counts its misses and nothing else. -/
theorem visit_counts {i : Fin 240} {s : State} (h : ∀ p, s.person i = some p → ¬ IsDue p.visited s) :
    visit i s = s.modifyPerson i Person.aged := by
  cases hp : s.person i with
  | none =>
    have hfree : s.modifyPerson i Person.aged = s.setSlot i (s.slot i) := by
      rw [State.modifyPerson, hp, slot_of_person_none hp]
      rfl
    rw [visit_free hp, hfree, setSlot_slot]
  | some p =>
    rw [visit_of hp, modifyPerson_eq hp Person.aged]
    by_cases hx : p.state.isAged = true
    · rw [if_pos hx, Person.aged, if_pos hx, modifyPerson_eq hp, judgeAging_stays]
      intro q hq
      rw [person_setSlot, if_pos rfl] at hq
      obtain rfl := Option.some.inj hq
      exact h p hp
    · rw [if_neg hx, Person.aged, if_neg hx, ← slot_of_person hp, setSlot_slot]

/-- A walk of slots none of whose records is due counts misses and nothing else. -/
theorem forEach_visit_counts {l : List (Fin 240)} (hl : l.Nodup) {s : State}
    (h : ∀ i ∈ l, ∀ p, s.person i = some p → ¬ IsDue p.visited s) :
    forEach l visit s = { s with rst := { s.rst with slots := (forEach l visit s).rst.slots } }
      ∧ ∀ i, ((forEach l visit s).slot i).gen = (s.slot i).gen
        ∧ (forEach l visit s).person i = if i ∈ l then (s.person i).map Person.aged else s.person i := by
  induction l generalizing s with
  | nil => exact ⟨rfl, fun i => ⟨rfl, (if_neg List.not_mem_nil).symm⟩⟩
  | cons j l ih =>
    obtain ⟨hj, hl⟩ := List.nodup_cons.1 hl
    rw [forEach_cons, visit_counts (h j List.mem_cons_self)]
    obtain ⟨honly, hslots⟩ := ih hl (s := s.modifyPerson j Person.aged) fun i hi p hp => by
      rw [person_modifyPerson, if_neg (ne_of_mem_of_not_mem hi hj)] at hp
      exact h i (List.mem_cons_of_mem _ hi) p hp
    refine ⟨honly, fun i => ?_⟩
    obtain ⟨hgen, hperson⟩ := hslots i
    refine ⟨hgen.trans (gen_modifyPerson ..), hperson.trans ?_⟩
    rw [person_modifyPerson]
    by_cases hij : i = j
    · subst hij
      simp [hj]
    · simp [hij]

/-! ## The walk of a frame start (R76) -/

/-- The state in which a walk begins: the pending step and interval made active (R76). -/
def walkReady (s : State) : State :=
  { s with
    rst := { s.rst with
      walkStep := (s.rst.pendingWalk.getD (s.rst.walkStep, s.rst.walkInterval)).1
      walkInterval := (s.rst.pendingWalk.getD (s.rst.walkStep, s.rst.walkInterval)).2
      pendingWalk := none }
    handed := { s.handed with walk := false } }

theorem applyWalk_eq (s : State) : applyWalk { s with handed := { s.handed with walk := false } } = walkReady s := by
  unfold applyWalk walkReady
  cases h : s.rst.pendingWalk with
  | none =>
    simp only [Option.getD_none]
    rw [← h]
  | some w => rfl

theorem takeWalk_waits {s : State} (h : s.handed.walk = false) : takeWalk s = s := by
  rw [takeWalk, h]
  rfl

theorem takeWalk_taken {s : State} (h : s.handed.walk = true) : takeWalk s =
    if s.frt.frame.toNat % (walkReady s).rst.walkInterval = 0 then walk (walkReady s) else walkReady s := by
  rw [takeWalk, if_pos h, walkAtFrameStart, applyWalk_eq]
  rfl

/-- A visit as a statement writes it, through the event of the change of state. -/
theorem visit_eq_exec {i : Fin 240} {s : State} (hs : s.resetLow = false) :
    (if (s.person i).any (fun p => p.state != .enrolled && p.state != .mustered) then
      match exec (.agingStateChange i) (s.modifyPerson i (fun p =>
        if p.heardSinceVisit then { p with heardSinceVisit := false, misses := 0 }
        else { p with misses := min 15 (p.misses + 1) })) with
      | .next v => v
      | .fault _ => s
      | .refused _ => s
    else s) = visit i s := by
  have hexec : ∀ t : State, t.resetLow = false → exec (.agingStateChange i) t = .next (judgeAging i t) := fun t ht =>
    congrArg _ (unlessReset_high ht _)
  have haged : ∀ x : PersonState, (x != .enrolled && x != .mustered) = x.isAged := fun x => by cases x <;> rfl
  rw [hexec _ (by exact hs)]
  cases hp : s.person i with
  | none => simp [visit_free hp]
  | some p =>
    rw [visit_of hp, Option.any_some, haged]
    rfl

/-- Settles O20: the visit of the statement is the model's, and where no record is due it writes only its slot. -/
theorem walkVisitsStepManySlots : Obligations.WalkVisitsStepManySlots := by
  intro s hs
  have hexec : exec .agingWalk s = .next (takeWalk s) := congrArg _ (unlessReset_high hs _)
  refine ⟨fun h => ?_, ?_, ?_⟩
  · rw [hexec, takeWalk_waits h]
  · intro h step interval s0 isAged counted visit' walked
    have hwalked : ∀ (l : List (Fin 240)) (t : State), t.resetLow = false → l.foldl visit' t = forEach l visit t := by
      intro l
      induction l with
      | nil => exact fun _ _ => rfl
      | cons i l ih =>
        intro t ht
        have hvisit : visit' t i = visit i t := visit_eq_exec ht
        rw [List.foldl_cons, forEach_cons, hvisit]
        exact ih _ ((visit_resetLow i t).trans ht)
    have htaken : takeWalk s = if s.frt.frame.toNat % interval = 0 then walk (walkReady s) else walkReady s := takeWalk_taken h
    rw [hexec, htaken]
    refine ⟨fun hframe => ?_, fun hframe => ?_⟩
    · rw [if_neg hframe]
      rfl
    · have hall : walked = forEach (walkSlots s.rst.walkPos step) visit (walkReady s) := hwalked _ _ hs
      rw [if_pos hframe, hall]
      rfl
  · intro h step interval misses inWalk hstep hnone
    have hdue : s.frt.frame.toNat % interval = 0 → ∀ i ∈ walkSlots s.rst.walkPos step, ∀ p,
        (walkReady s).person i = some p → ¬ IsDue p.visited (walkReady s) := by
      intro hframe i hi p hp
      obtain ⟨hquiet, hmissing, hout⟩ := hnone i p hp ⟨hframe, (mem_walkSlots hstep).1 hi⟩
      rw [IsDue, p.visited_state, p.visited_misses]
      rintro (⟨hx, hlimit⟩ | ⟨hx, hlimit⟩ | ⟨hx, hlimit⟩)
      · exact absurd hlimit (Nat.not_le.2 (hquiet hx))
      · exact absurd hlimit (Nat.not_le.2 (hmissing hx))
      · exact absurd hlimit (Nat.not_le.2 (hout hx))
    have haged : Person.aged = fun p => if p.state = .enrolled ∨ p.state = .mustered then p
        else { p with heardSinceVisit := false, misses := misses p } := by
      funext p
      unfold Person.aged
      rw [p.visited_eq]
      by_cases hx : p.state = .enrolled ∨ p.state = .mustered
      · rw [if_pos hx, if_neg (mt (isAged_iff _).1 (not_not.2 hx))]
      · rw [if_neg hx, if_pos ((isAged_iff _).2 hx)]
    have htaken : takeWalk s = if s.frt.frame.toNat % interval = 0 then walk (walkReady s) else walkReady s := takeWalk_taken h
    rw [hexec, htaken]
    by_cases hframe : s.frt.frame.toNat % interval = 0
    · obtain ⟨honly, hslots⟩ := forEach_visit_counts (walkSlots_nodup s.rst.walkPos hstep) (hdue hframe)
      rw [if_pos hframe]
      refine ⟨_, rfl, ?_, ?_, fun i => ?_⟩
      · unfold walk
        simp only
        rw [show (List.range (walkReady s).rst.walkStep).map (slotAfter (walkReady s).rst.walkPos)
          = walkSlots s.rst.walkPos step from rfl, honly]
        rfl
      · rw [if_pos hframe]
        rfl
      · obtain ⟨hgen, hperson⟩ := hslots i
        refine ⟨hgen, fun hi => ?_, fun hi => ?_⟩
        · refine hperson.trans ?_
          rw [if_pos ((mem_walkSlots hstep).2 hi.2), haged]
          rfl
        · exact hperson.trans (if_neg fun hm => hi ⟨hframe, (mem_walkSlots hstep).1 hm⟩)
    · rw [if_neg hframe]
      exact ⟨_, rfl, rfl, by rw [if_neg hframe]; rfl, fun i => ⟨rfl, fun hi => absurd hi.1 hframe, fun _ => rfl⟩⟩

end Sys2Proof.Machine
end

section
/-! The attention queue's places: an insert's four ways (R38 to R40), the choice of reinsertion (R46), and ACK_ITEM (R49). -/

namespace Sys2Proof.Machine

open Sys2Proof.Safety (QueueHolds Ready answered taken)

/-! ## Kinds -/

theorem ItemKind.ofByte?_eq_some_iff {b : Byte} {x : ItemKind} : ItemKind.ofByte? b = some x ↔ x.code = b := by
  constructor
  · intro h
    unfold ItemKind.ofByte? at h
    split at h
    all_goals cases h
    all_goals next hb => exact (code_eq hb).symm
  · rintro rfl
    cases x <;> rfl

theorem ItemKind.ofByte?_eq_none_iff {b : Byte} : ItemKind.ofByte? b = none ↔ 16 ≤ b.toNat := by
  unfold ItemKind.ofByte?
  split
  all_goals simp only [reduceCtorEq, false_iff, true_iff, imp_false] at *
  all_goals omega

theorem ItemKind.rank_inj {k k' : ItemKind} (h : k.rank = k'.rank) : k = k' := by
  unfold ItemKind.rank at h
  have hcode : k.code = k'.code := BitVec.eq_of_toNat_eq (by omega)
  have hk : ItemKind.ofByte? k'.code = some k := ItemKind.ofByte?_eq_some_iff.2 hcode
  have hk' : ItemKind.ofByte? k'.code = some k' := ItemKind.ofByte?_eq_some_iff.2 rfl
  exact Option.some.inj (hk.symm.trans hk')

theorem framesSince_inj {now a b : Frame} (h : framesSince now a = framesSince now b) : a = b :=
  sub_right_inj.1 (BitVec.eq_of_toNat_eq h)

theorem framesSince_self (now : Frame) : framesSince now now = 0 := by
  rw [framesSince, BitVec.sub_self]
  rfl

/-! ## The place of a new item (R37) -/

/-- A queue's items are those of a list with an item put in at its place: behind all that stand before it, ahead of one that
does not. -/
def PutIn (now : Frame) (it : Item) (l m : List Item) : Prop :=
  ∃ ahead behind, m = ahead ++ it :: behind ∧ ahead ++ behind = l ∧ (∀ e ∈ ahead, e.standsBefore now it = true)
    ∧ ∀ e r, behind = e :: r → e.standsBefore now it = false

theorem putIn_placeItem (now : Frame) (it : Item) (l : List Item) : PutIn now it l (placeItem now it l) := by
  induction l with
  | nil => exact ⟨[], [], rfl, rfl, fun _ h => absurd h List.not_mem_nil, fun _ _ h => absurd h.symm (List.cons_ne_nil _ _)⟩
  | cons a l ih =>
    unfold placeItem
    by_cases ha : a.standsBefore now it = true
    · obtain ⟨ahead, behind, hm, hl, hahead, hbehind⟩ := ih
      rw [if_pos ha, hm]
      exact ⟨a :: ahead, behind, rfl, congrArg (a :: ·) hl, List.forall_mem_cons.2 ⟨ha, hahead⟩, hbehind⟩
    · rw [if_neg ha]
      refine ⟨[], a :: l, rfl, rfl, fun _ h => absurd h List.not_mem_nil, fun e r he => ?_⟩
      obtain ⟨rfl, -⟩ := List.cons.inj he
      exact Bool.eq_false_iff.2 ha

theorem standsBefore_iff (now : Frame) (old new : Item) : old.standsBefore now new = true
    ↔ old.kind.rank < new.kind.rank
      ∨ (old.kind = new.kind ∧ framesSince now new.raised ≤ framesSince now old.raised) := by
  simp only [Item.standsBefore, Bool.or_eq_true, Bool.and_eq_true, decide_eq_true_eq, beq_iff_eq]

/-- A new item of the current frame stands behind all items of its rank. -/
theorem standsBefore_now {now : Frame} {old new : Item} (h : new.raised = now) :
    old.standsBefore now new = true ↔ old.kind.rank ≤ new.kind.rank := by
  rw [standsBefore_iff, h, framesSince_self, and_iff_left (Nat.zero_le _), Nat.le_iff_lt_or_eq]
  exact or_congr .rfl ⟨congrArg _, ItemKind.rank_inj⟩

theorem not_standsBefore_now {now : Frame} {old new : Item} (h : new.raised = now) :
    old.standsBefore now new = false ↔ new.kind.rank < old.kind.rank := by
  rw [Bool.eq_false_iff, ne_eq, standsBefore_now h, Nat.not_le]

/-! ## The choice of reinsertion (R46) -/

/-- No due mark of a list is to be chosen before a mark: rank, then the older stamp, then the lower key. -/
def IsFirst (now : Frame) (d : DueMark) (l : List DueMark) : Prop :=
  ∀ e ∈ l, d.kind.rank ≤ e.kind.rank
    ∧ (e.kind = d.kind → framesSince now e.stamp ≤ framesSince now d.stamp ∧ (e.stamp = d.stamp → d.subject.key ≤ e.subject.key))

theorem chosenBefore_iff (now : Frame) (d e : DueMark) : d.chosenBefore now e = true ↔ d.kind.rank < e.kind.rank
    ∨ (d.kind = e.kind ∧ (framesSince now e.stamp < framesSince now d.stamp
      ∨ (d.stamp = e.stamp ∧ d.subject.key < e.subject.key))) := by
  simp only [DueMark.chosenBefore, Bool.or_eq_true, Bool.and_eq_true, decide_eq_true_eq, beq_iff_eq]

/-- A mark that one is chosen before does not stand first; and a mark that none is chosen before goes ahead of those that the
other goes ahead of. -/
theorem IsFirst.cons {now : Frame} {d e : DueMark} {l : List DueMark} (h : IsFirst now e l) :
    IsFirst now (if e.chosenBefore now d then e else d) (d :: l) := by
  intro f hf
  by_cases hb : e.chosenBefore now d = true
  · rw [if_pos hb]
    rcases List.mem_cons.1 hf with rfl | hf
    · rcases (chosenBefore_iff ..).1 hb with hlt | ⟨hk, hlt | ⟨hs, hlt⟩⟩
      · exact ⟨Nat.le_of_lt hlt, fun hk => absurd (congrArg ItemKind.rank hk) (Nat.ne_of_gt hlt)⟩
      · exact ⟨Nat.le_of_eq (congrArg _ hk), fun _ => ⟨Nat.le_of_lt hlt, fun hs =>
          absurd (congrArg (framesSince now) hs) (Nat.ne_of_lt hlt)⟩⟩
      · exact ⟨Nat.le_of_eq (congrArg _ hk), fun _ => ⟨Nat.le_of_eq (congrArg _ hs.symm), fun _ => Nat.le_of_lt hlt⟩⟩
    · exact h f hf
  · rw [if_neg hb]
    rw [chosenBefore_iff, not_or, not_and, not_or, not_and, Nat.not_lt] at hb
    obtain ⟨hrank, hrest⟩ := hb
    rcases List.mem_cons.1 hf with rfl | hf
    · exact ⟨Nat.le_refl _, fun _ => ⟨Nat.le_refl _, fun _ => Nat.le_refl _⟩⟩
    · obtain ⟨hef, hsame⟩ := h f hf
      refine ⟨hrank.trans hef, fun hk => ?_⟩
      have hed : e.kind = d.kind := ItemKind.rank_inj (Nat.le_antisymm (hk ▸ hef) hrank)
      obtain ⟨hold, hkey⟩ := hsame (hk.trans hed.symm)
      obtain ⟨hage, hde⟩ := hrest hed
      rw [Nat.not_lt] at hage
      refine ⟨hold.trans hage, fun hs => ?_⟩
      have hsince : framesSince now e.stamp = framesSince now d.stamp := Nat.le_antisymm hage (hs ▸ hold)
      have hstamp := framesSince_inj hsince
      exact (Nat.not_lt.1 (hde hstamp)).trans (hkey (hs.trans hstamp.symm))

theorem chosenDue_eq_none_iff {now : Frame} {l : List DueMark} : chosenDue now l = none ↔ l = [] := by
  cases l with
  | nil => exact iff_of_true rfl rfl
  | cons a l =>
    refine iff_of_false (fun h => ?_) nofun
    unfold chosenDue at h
    split at h
    · split at h <;> cases h
    · cases h

theorem chosenDue_isFirst {now : Frame} {l : List DueMark} {d : DueMark} (h : chosenDue now l = some d) : IsFirst now d l := by
  induction l generalizing d with
  | nil => exact nofun
  | cons a l ih =>
    unfold chosenDue at h
    cases hc : chosenDue now l with
    | none =>
      rw [hc] at h
      obtain rfl := Option.some.inj h
      obtain rfl := chosenDue_eq_none_iff.1 hc
      intro f hf
      obtain rfl := List.mem_singleton.1 hf
      exact ⟨Nat.le_refl _, fun _ => ⟨Nat.le_refl _, fun _ => Nat.le_refl _⟩⟩
    | some e =>
      rw [hc] at h
      have hd : d = if e.chosenBefore now a then e else a := by
        simp only at h
        split at h
        next hb => rw [if_pos hb, Option.some.inj h]
        next hb => rw [if_neg hb, Option.some.inj h]
      rw [hd]
      exact (ih hc).cons

/-! ## An item removed and another reinserted (R44, R46) -/

theorem eraseItem_eq {s : State} {before rest : List Item} {it : Item} (h : QueueHolds s.atq)
    (hq : s.atq.items = before ++ it :: rest) :
    s.eraseItem it.kind it.subject = { s with atq := { s.atq with items := before ++ rest } } := by
  have hself : it.isFor it.kind it.subject = true := (isFor_iff ..).2 ⟨rfl, rfl⟩
  have hother := isFor_other h hq
  have hstay : ∀ l : List Item, (∀ e ∈ l, e.isFor it.kind it.subject = false) →
      l.filter (fun e => !e.isFor it.kind it.subject) = l := fun l hl =>
    List.filter_eq_self.2 fun e he => by rw [hl e he]; rfl
  rw [State.eraseItem, hq, List.filter_append, List.filter_cons_of_neg (by rw [hself]; exact Bool.false_ne_true),
    hstay before (fun e he => hother e (.inl he)), hstay rest (fun e he => hother e (.inr he))]

theorem reinsert_idle {s : State} (h : s.atq.due = []) : reinsert s = s := by
  unfold reinsert
  rw [h]
  exact ite_self s

/-- What a reinsertion leaves: the first due mark made an item in its place (R46). -/
theorem reinsert_spec {s : State} (hroom : s.atq.items.length < Config.queueCapacity) (hdue : s.atq.due ≠ []) :
    ∃ d ∈ s.atq.due, IsFirst s.frt.frame d s.atq.due
      ∧ reinsert s = enterItem d.kind d.subject d.stamp (freshTest d.subject s) (freshDetail d.kind d.subject s)
          (s.clearDue d.kind d.subject) := by
  cases hc : chosenDue s.frt.frame s.atq.due with
  | none => exact absurd (chosenDue_eq_none_iff.1 hc) hdue
  | some d => exact ⟨d, mem_chosenDue _ _ _ hc, chosenDue_isFirst hc, by simp only [reinsert, if_pos hroom, hc]⟩

theorem enterItem_eq (k : ItemKind) (x : Subject) (f : Frame) (b : Bool) (d : Detail) (s : State) :
    enterItem k x f b d s = { s with
      atq := { s.atq with items := (enterItem k x f b d s).atq.items, counter := s.atq.counter + 1 }
      hpt := { s.hpt with flags := { s.hpt.flags with attention := true } } } := rfl

theorem putIn_enterItem (k : ItemKind) (x : Subject) (f : Frame) (b : Bool) (d : Detail) (s : State) :
    PutIn s.frt.frame
      { kind := k, subject := x, raised := f, insertion := s.atq.counter, state := .new, condition := .active, test := b,
        detail := d } s.atq.items (enterItem k x f b d s).atq.items := putIn_placeItem ..

theorem freshTest_zone (z : Fin 32) (s : State) :
    freshTest (.zone z) s = decide ((s.zone z).reported ≠ (s.zone z).real) := by
  rw [freshTest, Bool.eq_iff_iff, bne_iff_ne, decide_eq_true_eq]

theorem freshDetail_refuge (r : Fin 8) (s : State) :
    freshDetail .refugeFault (.refuge r) s = .faults (s.refuge r).reasons := rfl

theorem freshDetail_call {k : ItemKind} {i : Fin 240} {g : Gen} {p : Person} {s : State} (hk : k.sort = .call)
    (hp : s.person i = some p) : freshDetail k (.person i g) s = .call p.repeats p.overdue := by
  simp only [freshDetail, hk, hp]
  rfl

/-! ## ACK_ITEM (R49) -/

/-- An acknowledged item stays: a call, or a condition still ACTIVE (R49). -/
def StaysAcked (it : Item) : Prop := it.kind.sort = .call ∨ (it.kind.sort = .condition ∧ it.condition = .active)

theorem acknowledge_stays {it : Item} (h : StaysAcked it) (s : State) :
    acknowledge it s = s.changeItem it.kind it.subject (fun i => { i with state := .acked }) := by
  unfold acknowledge
  rcases h with h | ⟨h, hc⟩
  · simp only [h]
  · simp only [h, hc, reduceCtorEq, if_false]

theorem acknowledge_leaves {it : Item} (h : ¬ StaysAcked it) (s : State) :
    acknowledge it s =
      removeItem it.kind it.subject (s.changeItem it.kind it.subject (fun i => { i with state := .acked })) := by
  unfold acknowledge
  rw [StaysAcked, not_or, not_and] at h
  obtain ⟨hcall, hactive⟩ := h
  cases hs : it.kind.sort with
  | condition => simp only [(condition_ended_iff it).2 (hactive hs), if_true]
  | call => exact absurd hs hcall
  | report => rfl

/-- An acknowledged item that leaves makes room for a reinsertion (R44, R49). -/
theorem acknowledge_reinserts {it : Item} {s : State} {before rest : List Item} (hq : QueueHolds s.atq)
    (hi : s.atq.items = before ++ it :: rest) (h : ¬ StaysAcked it) :
    acknowledge it s = reinsert { s with atq := { s.atq with items := before ++ rest } } := by
  have hacked : ({ s with atq := { s.atq with items := before ++ { it with state := .acked } :: rest } } : State).eraseItem
      it.kind it.subject = { s with atq := { s.atq with items := before ++ rest } } := by
    refine eraseItem_eq (it := { it with state := .acked }) (s := { s with atq := { s.atq with
      items := before ++ { it with state := .acked } :: rest } }) ?_ rfl
    have hholds := changeItem_holds it.kind it.subject (fun i => { i with state := .acked }) s hq fun _ => ⟨rfl, rfl⟩
    rwa [changeItem_eq hq hi] at hholds
  rw [acknowledge_leaves h, changeItem_eq hq hi, removeItem, hacked]

theorem exec_ackItem {s : State} (hr : Ready s) (kind : Byte) (subject : BitVec 24) :
    exec (.ackItem kind subject) s = .next (reqAckItem kind subject (taken s)) := exec_admitted hr rfl rfl rfl

theorem reqAckItem_absent {kind : Byte} {subject : BitVec 24} {k : ItemKind} {x : Subject} {s : State} (hk : k.code = kind)
    (hx : subject? k subject = some x) (hitem : s.item k x = none) : reqAckItem kind subject s = s.refuse .noRecord := by
  simp only [reqAckItem, ItemKind.ofByte?_eq_some_iff.2 hk, hx, hitem]

theorem reqAckItem_found {kind : Byte} {subject : BitVec 24} {k : ItemKind} {x : Subject} {it : Item} {s : State}
    (hk : k.code = kind) (hx : subject? k subject = some x) (hitem : s.item k x = some it) :
    reqAckItem kind subject s = (acknowledge it s).done := by
  simp only [reqAckItem, ItemKind.ofByte?_eq_some_iff.2 hk, hx, hitem]

/-- Settles O29: an item that is acknowledged stays in its place or leaves by the removal, whose reinsertion takes the first
due mark. -/
theorem acknowledgementActsBySort : Obligations.AcknowledgementActsBySort := by
  intro kind subject s hr hq
  refine ⟨fun h => ?_, fun k hk => ⟨fun hx => ?_, fun x hx => ⟨fun hnone => ?_, fun before it rest hi hik hix => ?_⟩⟩⟩
  · simp only [exec_ackItem hr, reqAckItem, ItemKind.ofByte?_eq_none_iff.2 h, refuse_taken]
  · simp only [exec_ackItem hr, reqAckItem, ItemKind.ofByte?_eq_some_iff.2 hk, hx, refuse_taken]
  · have hitem : (taken s).item k x = none := (item_none ..).2 hnone
    rw [exec_ackItem hr, reqAckItem_absent hk hx hitem, refuse_taken]
  · subst hik hix
    have hmem : it ∈ s.atq.items := by
      rw [hi]
      exact List.mem_append_right _ List.mem_cons_self
    have hitem : (taken s).item it.kind it.subject = some it := item_eq_some hq hmem rfl rfl
    have hlength : (before ++ rest).length < Config.queueCapacity := by
      have hlen := hq.1
      rw [hi] at hlen
      simp only [List.length_append, List.length_cons] at hlen ⊢
      omega
    rw [exec_ackItem hr, reqAckItem_found hk hx hitem]
    refine ⟨fun hstays => ?_, fun hleaves hdue => ?_, fun hleaves hdue => ?_⟩
    · rw [acknowledge_stays hstays, changeItem_eq (s := taken s) hq hi]
      rfl
    · rw [acknowledge_reinserts (s := taken s) hq hi hleaves, reinsert_idle (by exact hdue)]
      rfl
    · let u : State := { taken s with atq := { s.atq with items := before ++ rest } }
      obtain ⟨d, hd, hfirst, heq⟩ := reinsert_spec (s := u) hlength hdue
      obtain ⟨ahead, behind, hm, hl, hahead, hbehind⟩ := putIn_enterItem d.kind d.subject d.stamp (freshTest d.subject u)
        (freshDetail d.kind d.subject u) (u.clearDue d.kind d.subject)
      rw [(acknowledge_reinserts (s := taken s) hq hi hleaves).trans heq]
      refine ⟨_, d, _, ahead, behind, rfl, rfl, hd, hfirst, rfl, rfl, hm, hl, fun e he => ?_, fun e l he => ?_, rfl, rfl, rfl, rfl,
        rfl, rfl, fun z hz => ?_, fun r hr hk => ?_, fun i g p hx hk hp => ?_⟩
      · exact (standsBefore_iff ..).1 (hahead e he)
      · have hnot := hbehind e l he
        rw [Bool.eq_false_iff, ne_eq, standsBefore_iff] at hnot
        exact hnot
      · exact (congrArg (freshTest · u) hz).trans (freshTest_zone z u)
      · exact (congrArg₂ (freshDetail · · u) hk hr).trans (freshDetail_refuge r u)
      · exact (congrArg (freshDetail d.kind · u) hx).trans (freshDetail_call hk hp)

/-! ## The four ways of an insert (R38 to R40) -/

/-- A fresh item of the current frame enters among a list of items: behind those of its rank and above, ahead of the rest, and
it raises ATTENTION. -/
def EntersAmong (k : ItemKind) (x : Subject) (test : Bool) (detail : Detail) (s t : State) (l : List Item) : Prop :=
  ∃ ahead behind, t.atq.items = ahead ++
      { kind := k, subject := x, raised := s.frt.frame, insertion := s.atq.counter, state := .new, condition := .active,
        test := test, detail := detail } :: behind
    ∧ ahead ++ behind = l ∧ (∀ e ∈ ahead, e.kind.rank ≤ k.rank) ∧ (∀ e m, behind = e :: m → k.rank < e.kind.rank)
    ∧ t.atq.counter = s.atq.counter + 1 ∧ t.hpt.flags = { s.hpt.flags with attention := true }

theorem entersAmong_enterItem (k : ItemKind) (x : Subject) (b : Bool) (d : Detail) (s : State) :
    EntersAmong k x b d s (enterItem k x s.frt.frame b d s) s.atq.items := by
  obtain ⟨ahead, behind, hm, hl, hahead, hbehind⟩ := putIn_enterItem k x s.frt.frame b d s
  exact ⟨ahead, behind, hm, hl, fun e he => (standsBefore_now rfl).1 (hahead e he),
    fun e m he => (not_standsBefore_now rfl).1 (hbehind e m he), rfl, rfl⟩

section Insert

variable {k : ItemKind} {x : Subject} {s : State} (b : Bool) (d : Detail) (r : Bool)

theorem insertItem_active {it : Item} (hi : s.item k x = some it) (hc : it.condition = .active) :
    insertItem k x b d r s =
      let t := s.changeItem k x (fun i => { i with test := b, detail := d, state := if r then .new else i.state })
      if r = true ∧ it.state ≠ .new then t.notify .attention else t := by
  simp only [insertItem, hi, if_pos hc, Bool.and_eq_true, bne_iff_ne]

theorem insertItem_ended {it : Item} (hi : s.item k x = some it) (hc : it.condition = .ended) :
    insertItem k x b d r s = enterItem k x s.frt.frame b d (s.eraseItem k x) := by
  simp only [insertItem, hi, hc, reduceCtorEq, if_false]

theorem insertItem_due (hi : s.item k x = none) (hd : s.dueMark k x ≠ none) : insertItem k x b d r s = s := by
  obtain ⟨f, hf⟩ := Option.ne_none_iff_exists'.1 hd
  simp only [insertItem, hi, hf]

theorem insertItem_room (hi : s.item k x = none) (hd : s.dueMark k x = none) (hroom : s.atq.items.length < 32) :
    insertItem k x b d r s = enterItem k x s.frt.frame b d s := by
  simp only [insertItem, hi, hd]
  exact if_pos hroom

theorem insertItem_full (hi : s.item k x = none) (hd : s.dueMark k x = none) (hfull : s.atq.items.length = 32) :
    insertItem k x b d r s = meetFullQueue k x b d s := by
  simp only [insertItem, hi, hd]
  exact if_neg (by rw [hfull]; exact Nat.lt_irrefl 32)

end Insert

/-- The candidate of a full queue is its last ENDED item, or where none is ENDED its last (R40). -/
theorem candidate_eq {l before rest : List Item} {old : Item} (hl : l = before ++ old :: rest)
    (h : (old.condition = .ended ∧ ∀ e ∈ rest, e.condition = .active)
      ∨ ((∀ e ∈ l, e.condition = .active) ∧ rest = [])) : candidate l = some old := by
  have hactive : ∀ e : Item, e.condition = .active → (e.condition == .ended) = false := fun e he => by rw [he]; rfl
  unfold candidate
  rcases h with ⟨hended, hrest⟩ | ⟨hall, rfl⟩
  · have hfind : l.reverse.find? (fun it => it.condition == .ended) = some old := by
      rw [List.find?_eq_some_iff_append]
      refine ⟨beq_iff_eq.2 hended, rest.reverse, before.reverse, ?_, fun e he => ?_⟩
      · rw [hl, List.reverse_append, List.reverse_cons, List.append_assoc, List.singleton_append]
      · rw [hactive e (hrest e (List.mem_reverse.1 he))]
        rfl
    rw [hfind]
  · have hfind : l.reverse.find? (fun it => it.condition == .ended) = none :=
      List.find?_eq_none.2 fun e he => by
        rw [hactive e (hall e (List.mem_reverse.1 he))]
        exact Bool.false_ne_true
    rw [hfind, hl]
    exact List.getLast?_concat

/-- Settles O30: the item of the matter, its due mark, and the room of the queue decide which of the four ways an insert
takes. -/
theorem insertTakesOneOfFourWays : Obligations.InsertTakesOneOfFourWays := by
  intro k x test detail renew s hq t fresh entersAmong absent
  have henters : ∀ {u : State} {l : List Item}, EntersAmong k x test detail u t l → u.frt = s.frt →
      u.atq.counter = s.atq.counter → u.hpt = s.hpt → entersAmong l := by
    rintro u l ⟨ahead, behind, hm, hl, hahead, hbehind, hcounter, hflags⟩ hfrt hc hhpt
    rw [hfrt, hc] at hm
    rw [hc] at hcounter
    rw [hhpt] at hflags
    exact ⟨ahead, behind, hm, hl, hahead, hbehind, hcounter, hflags⟩
  refine ⟨insertItem_only .., fun before it rest hi hk hx => ?_, fun habsent hdue => ?_, fun habsent hdue hroom => ?_,
    fun habsent hdue hfull before old rest hi hcand => ?_⟩
  · subst hk hx
    have hmem : it ∈ s.atq.items := by
      rw [hi]
      exact List.mem_append_right _ List.mem_cons_self
    have hitem := item_eq_some hq hmem rfl rfl
    refine ⟨fun hc => ?_, fun hc => ?_⟩
    · have ht : t = _ := insertItem_active test detail renew hitem hc
      simp only [changeItem_eq hq hi] at ht
      split at ht
      next hnew => exact ⟨by rw [ht]; rfl, by rw [ht, if_pos hnew]; rfl⟩
      next hnew => exact ⟨by rw [ht], by rw [ht, if_neg hnew]⟩
    · have ht : t = _ := insertItem_ended test detail renew hitem hc
      rw [eraseItem_eq hq hi] at ht
      refine ⟨henters (u := { s with atq := { s.atq with items := before ++ rest } }) ?_ rfl rfl rfl, by rw [ht]; rfl⟩
      rw [ht]
      exact entersAmong_enterItem ..
  · exact insertItem_due _ _ _ ((item_none ..).2 habsent) hdue
  · have ht : t = _ := insertItem_room test detail renew ((item_none ..).2 habsent) hdue hroom
    refine ⟨henters (u := s) ?_ rfl rfl rfl, by rw [ht]; rfl⟩
    rw [ht]
    exact entersAmong_enterItem ..
  · have ht : t = _ := insertItem_full test detail renew ((item_none ..).2 habsent) hdue hfull
    have hmem : old ∈ s.atq.items := by
      rw [hi]
      exact List.mem_append_right _ List.mem_cons_self
    simp only [meetFullQueue, candidate_eq hi hcand, eraseItem_eq hq hi] at ht
    refine ⟨fun hlt => ?_, fun hle hk => ?_, fun hle hk => ?_⟩
    · rw [if_pos hlt] at ht
      have hfresh : ∀ d, d ∈ s.atq.due → ¬ (d.kind = old.kind ∧ d.subject = old.subject) := fun d hd hkx =>
        hq.2.2 d hd old hmem ⟨hkx.1.symm, hkx.2.symm⟩
      by_cases hmark : old.condition = .active ∧ old.kind ≠ .stranger
      · rw [if_pos hmark] at ht
        refine ⟨henters (u := State.setDue old.kind old.subject old.raised
          { s with atq := { s.atq with items := before ++ rest } }) ?_ rfl rfl rfl, fun hnot => ?_, fun _ _ d => ?_⟩
        · rw [ht]
          exact entersAmong_enterItem ..
        · exact absurd hnot (by rw [hmark.1]; simpa using hmark.2)
        · rw [ht, or_comm]
          exact mem_due_setDue.trans (or_congr .rfl (and_iff_left_of_imp (hfresh d)))
      · rw [if_neg hmark] at ht
        refine ⟨henters (u := { s with atq := { s.atq with items := before ++ rest } }) ?_ rfl rfl rfl, fun _ => by rw [ht]; rfl,
          fun hc hk => absurd ⟨hc, hk⟩ hmark⟩
        rw [ht]
        exact entersAmong_enterItem ..
    · rw [if_neg (Nat.not_lt.2 hle), if_pos hk] at ht
      exact ht
    · rw [if_neg (Nat.not_lt.2 hle), if_neg hk] at ht
      refine ⟨by rw [ht]; rfl, by rw [ht]; rfl, by rw [ht]; rfl, fun d => ?_⟩
      rw [ht, mem_due_setDue, or_comm]
      exact or_congr (and_iff_left_of_imp fun hd => (dueMark_none ..).1 hdue d hd) .rfl

end Sys2Proof.Machine
end

section
/-! The refuge and evacuation unit at a frame start: the silence judgement of the panels (R152) and the start of a round
(R144). -/

namespace Sys2Proof.Machine

open Sys2Proof.Safety (QueueHolds Raised NotRaised)

/-! ## Changes of one refuge -/

/-- Two states differ at most in the refuge records, the attention queue and the notice flags. -/
def RefugesOnly (s t : State) : Prop :=
  t = { s with rev := { s.rev with refuges := t.rev.refuges }, atq := t.atq, hpt := { s.hpt with flags := t.hpt.flags } }

theorem RefugesOnly.refl (s : State) : RefugesOnly s s := rfl

theorem RefugesOnly.trans {s t u : State} (h : RefugesOnly s t) (k : RefugesOnly t u) : RefugesOnly s u := by
  unfold RefugesOnly at *
  rw [k, h]

theorem QueueOnly.refugesOnly {s t : State} (h : QueueOnly s t) : RefugesOnly s t := by
  unfold QueueOnly at h
  unfold RefugesOnly
  rw [h]

theorem QueueOnly.refuge_eq {s t : State} (h : QueueOnly s t) (r : Fin 8) : t.refuge r = s.refuge r := by
  unfold QueueOnly at h
  rw [h]
  rfl

theorem QueueOnly.zone_eq {s t : State} (h : QueueOnly s t) (z : Fin 32) : t.zone z = s.zone z := by
  unfold QueueOnly at h
  rw [h]
  rfl

/-- The fault reasons that hold for a refuge in a state (R153). -/
def State.reasonsOf (s : State) (x : Refuge) : FaultReasons := x.derived (x.zone.map (fun z => (s.zone z).real))

theorem handReasons_only (r : Fin 8) (old new : FaultReasons) (s : State) : QueueOnly s (handReasons r old new s) := by
  unfold handReasons
  split
  · exact .refl s
  · split
    · exact endItem_only ..
    · exact insertItem_only ..

theorem deriveReasons_of {r : Fin 8} {s : State} (h : (s.refuge r).configured = true) : deriveReasons r s =
    handReasons r (s.refuge r).reasons (s.reasonsOf (s.refuge r))
      (s.modifyRefuge r (fun x => { x with reasons := s.reasonsOf (s.refuge r) })) := if_pos h

theorem deriveReasons_unconfigured {r : Fin 8} {s : State} (h : (s.refuge r).configured = false) : deriveReasons r s = s :=
  if_neg (by rw [h]; exact Bool.false_ne_true)

theorem deriveReasons_only (r : Fin 8) (s : State) : RefugesOnly s (deriveReasons r s) := by
  unfold deriveReasons
  split
  · exact RefugesOnly.trans (t := s.modifyRefuge r _) rfl (handReasons_only ..).refugesOnly
  · exact .refl s

theorem refuge_deriveReasons (r q : Fin 8) (s : State) : (deriveReasons r s).refuge q =
    if q = r ∧ (s.refuge r).configured = true then { s.refuge r with reasons := s.reasonsOf (s.refuge r) } else s.refuge q := by
  cases h : (s.refuge r).configured with
  | true =>
    rw [deriveReasons_of h, (handReasons_only ..).refuge_eq, refuge_modifyRefuge]
    simp only [and_true]
  | false => simp [deriveReasons_unconfigured h]

/-- A change of the refuges' reasons that inserts or keeps an item leaves it raised (R153). -/
theorem raised_handReasons {r : Fin 8} {old new : FaultReasons} {s : State} (hne : new ≠ old) (hsome : new.isEmpty = false) :
    Raised .refugeFault (.refuge r) (handReasons r old new s) := by
  rw [handReasons, if_neg hne, hsome]
  exact raised_insertItem (by decide) ..

theorem handReasons_spares {r q : Fin 8} (h : q ≠ r) (k : ItemKind) (hk : k ≠ .stranger) (old new : FaultReasons) (s : State) :
    Spares k (.refuge r) s (handReasons q old new s) := by
  have ho : Other k (.refuge r) .refugeFault (.refuge q) := .of_subject fun e => h (Subject.refuge.inj e)
  unfold handReasons
  split
  · exact .refl s
  · split
    · exact .endItem ho s
    · exact .insertItem hk ho _ _ _ s

/-- A change of other refuges and of the queue: the refuge stays, and so does whether its fault is raised. -/
structure OtherRefuges (r : Fin 8) (s t : State) : Prop where
  only : RefugesOnly s t
  refuge : t.refuge r = s.refuge r
  spares : Spares .refugeFault (.refuge r) s t

theorem OtherRefuges.refl (r : Fin 8) (s : State) : OtherRefuges r s s := ⟨.refl s, rfl, .refl s⟩

theorem OtherRefuges.trans {r : Fin 8} {s t u : State} (h : OtherRefuges r s t) (g : OtherRefuges r t u) :
    OtherRefuges r s u := ⟨h.only.trans g.only, g.refuge.trans h.refuge, h.spares.trans g.spares⟩

theorem OtherRefuges.modifyRefuge {r q : Fin 8} (h : q ≠ r) (f : Refuge → Refuge) (s : State) :
    OtherRefuges r s (s.modifyRefuge q f) := ⟨rfl, (refuge_modifyRefuge ..).trans (if_neg (Ne.symm h)), .of_eq⟩

theorem OtherRefuges.deriveReasons {r q : Fin 8} (h : q ≠ r) (s : State) : OtherRefuges r s (deriveReasons q s) := by
  unfold Machine.deriveReasons
  split
  · exact (OtherRefuges.modifyRefuge h ..).trans ⟨(handReasons_only ..).refugesOnly, (handReasons_only ..).refuge_eq r,
      handReasons_spares h _ (by decide) _ _ _⟩
  · exact .refl r s

/-! ## The silence judgement (R152) -/

/-- A panel has been silent too long (R152). -/
def IsSilent (r : Fin 8) (s : State) : Prop := (s.refuge r).configured = true ∧ (s.refuge r).panel = .reporting
  ∧ s.rev.silenceLimit ≤ framesSince s.frt.frame (s.refuge r).lastReport

theorem judgePanel_silent {r : Fin 8} {s : State} (h : IsSilent r s) :
    judgePanel r s = deriveReasons r (s.modifyRefuge r (fun x => { x with panel := .silent })) := if_pos h

theorem judgePanel_waits {r : Fin 8} {s : State} (h : ¬ IsSilent r s) : judgePanel r s = s := if_neg h

theorem judgePanel_other {r q : Fin 8} (h : q ≠ r) (s : State) : OtherRefuges r s (judgePanel q s) := by
  by_cases hq : IsSilent q s
  · rw [judgePanel_silent hq]
    exact (OtherRefuges.modifyRefuge h ..).trans (.deriveReasons h _)
  · rw [judgePanel_waits hq]
    exact .refl r s

theorem judgePanels_only (s : State) : RefugesOnly s (judgePanels s) := by
  have hone : ∀ r t, RefugesOnly t (judgePanel r t) := fun r t => by
    by_cases h : IsSilent r t
    · rw [judgePanel_silent h]
      exact RefugesOnly.trans (t := t.modifyRefuge r _) rfl (deriveReasons_only ..)
    · rw [judgePanel_waits h]
      exact .refl t
  exact forEach_keeps (RefugesOnly s) _ (fun r t ht => ht.trans (hone r t)) _ _ (.refl s)

theorem derived_eq (x : Refuge) (s : State) : s.reasonsOf x =
    { doorBreach := decide (x.door = .opened ∧ ∃ z, x.zone = some z ∧ ((s.zone z).real = .danger ∨ (s.zone z).real = .trip))
      doorFault := decide (x.door = .fault)
      supply := decide (x.supply = .low ∨ x.supply = .fail)
      silent := decide (x.panel = .silent)
      overCapacity := decide (x.capacity < x.occupancy) } := by
  have hbool : ∀ {b : Bool} {c : Prop} [Decidable c], (b = true ↔ c) → b = decide c := fun h => by
    rw [Bool.eq_iff_iff, h, decide_eq_true_eq]
  have hbreach : (x.zone.map (fun z => (s.zone z).real) == some .danger || x.zone.map (fun z => (s.zone z).real) == some .trip)
      = true ↔ ∃ z, x.zone = some z ∧ ((s.zone z).real = .danger ∨ (s.zone z).real = .trip) := by
    cases x.zone <;> simp
  unfold State.reasonsOf Refuge.derived
  congr 1
  · exact hbool (by rw [Bool.and_eq_true, hbreach, beq_iff_eq])
  · exact hbool (by rw [Bool.or_eq_true, beq_iff_eq, beq_iff_eq])

theorem FaultReasons.isEmpty_of_silent {x : FaultReasons} (h : x.silent = true) : x.isEmpty = false := by
  simp [FaultReasons.isEmpty, h]

/-- The record of a refuge whose panel is judged silent (R152, R153). -/
def Refuge.silenced (s : State) (x : Refuge) : Refuge :=
  { x with panel := .silent, reasons := s.reasonsOf { x with panel := .silent } }

theorem judgePanel_own {r : Fin 8} {s : State} (h : IsSilent r s) :
    (judgePanel r s).refuge r = (s.refuge r).silenced s
      ∧ ((s.refuge r).reasons.silent = false → Raised .refugeFault (.refuge r) (judgePanel r s)) := by
  have hset : (s.modifyRefuge r (fun x => { x with panel := .silent })).refuge r = { s.refuge r with panel := .silent } :=
    refuge_modifyRefuge_self ..
  have hconfigured : ((s.modifyRefuge r (fun x => { x with panel := .silent })).refuge r).configured = true := by
    rw [hset]
    exact h.1
  have hsilent : (s.reasonsOf { s.refuge r with panel := .silent }).silent = true := rfl
  rw [judgePanel_silent h]
  refine ⟨?_, fun hold => ?_⟩
  · rw [refuge_deriveReasons, if_pos ⟨rfl, hconfigured⟩, hset]
    rfl
  · rw [deriveReasons_of hconfigured, hset]
    refine raised_handReasons (fun e => ?_) ?_
    · rw [← e] at hold
      cases hold
    · exact FaultReasons.isEmpty_of_silent hsilent

theorem reasonsOf_congr {s t : State} (h : RefugesOnly s t) (x : Refuge) : t.reasonsOf x = s.reasonsOf x := by
  unfold RefugesOnly at h
  rw [h]
  rfl

theorem IsSilent.congr {r : Fin 8} {s t : State} (h : OtherRefuges r s t) : IsSilent r t ↔ IsSilent r s := by
  have honly := h.only
  unfold RefugesOnly at honly
  have hlimit : t.rev.silenceLimit = s.rev.silenceLimit := by rw [honly]
  have hframe : t.frt = s.frt := by rw [honly]
  rw [IsSilent, IsSilent, h.refuge, hlimit, hframe]

/-- What the judgement of the panels leaves of a refuge (R152). -/
theorem judgePanels_refuge (r : Fin 8) {s : State} (hq : QueueHolds s.atq) :
    (¬ IsSilent r s → (judgePanels s).refuge r = s.refuge r)
      ∧ (IsSilent r s → (judgePanels s).refuge r = (s.refuge r).silenced s
        ∧ ((s.refuge r).reasons.silent = false → Raised .refugeFault (.refuge r) (judgePanels s))) := by
  obtain ⟨u, hu, ht⟩ := forEach_visits (R := OtherRefuges r) (.refl r) (fun _ _ _ => .trans) (List.nodup_finRange 8)
    (List.mem_finRange r) (fun q hq s => judgePanel_other hq s) s
  refine ⟨fun h => ?_, fun h => ?_⟩
  · rw [judgePanel_waits (mt (IsSilent.congr hu).1 h)] at ht
    exact (hu.trans ht).refuge
  · obtain ⟨howned, hraised⟩ := judgePanel_own ((IsSilent.congr hu).2 h)
    rw [hu.refuge] at hraised
    refine ⟨ht.refuge.trans (howned.trans ?_), fun hold => ht.spares.raised ?_ (hraised hold)⟩
    · rw [Refuge.silenced, reasonsOf_congr hu.only, hu.refuge]
      rfl
    · exact (Aside.judgePanel r u).roll.queue (hu.spares hq).1

/-! ## The start of a round (R144) -/

theorem hasRoundWork_iff (s : State) :
    s.hasRoundWork = true ↔ ∃ i p, s.person i = some p ∧ (p.alert = .sent ∨ p.page = true) := by
  rw [State.hasRoundWork, slots_toList, List.any_map, List.any_eq_true]
  constructor
  · rintro ⟨i, -, hi⟩
    rw [Function.comp_apply, holds_eq_any, Option.any_eq_true] at hi
    obtain ⟨p, hp, hw⟩ := hi
    exact ⟨i, p, hp, by simpa [Person.isWaited] using hw⟩
  · rintro ⟨i, p, hp, hw⟩
    refine ⟨i, mem_allSlots i, ?_⟩
    rw [Function.comp_apply, holds_eq_any, Option.any_eq_true]
    exact ⟨p, hp, by simpa [Person.isWaited] using hw⟩

/-- Settles O50: each panel is judged once, apart from the others, and a round starts where none is on and there is work. -/
theorem frameStartJudgesPanelsAndStartsRounds : Obligations.FrameStartJudgesPanelsAndStartsRounds := by
  intro s hs silent work
  have hpanel : exec .panelSilence s = .next (takePanel s) := congrArg _ (unlessReset_high hs _)
  have hround : exec .alertRoundStart s = .next (takeRound s) := congrArg _ (unlessReset_high hs _)
  have hwork : ({ s with handed := { s.handed with round := false } } : State).hasRoundWork = true ↔ work :=
    hasRoundWork_iff _
  refine ⟨fun h => ?_, fun h hq => ?_, fun h => ?_, fun h hidle => ?_, fun h hoff hw => ?_⟩
  · rw [hpanel, takePanel, h]
    rfl
  · rw [hpanel, takePanel, if_pos h]
    refine ⟨_, rfl, judgePanels_only _, fun r => ?_⟩
    obtain ⟨hwaits, hsilent⟩ := judgePanels_refuge r (s := { s with handed := { s.handed with panel := false } }) hq
    refine ⟨hwaits, fun hr => ?_⟩
    obtain ⟨howned, hraised⟩ := hsilent hr
    refine ⟨howned.trans ?_, hraised⟩
    rw [Refuge.silenced, derived_eq]
    rfl
  · rw [hround, takeRound, h]
    rfl
  · rw [hround, takeRound, if_pos h, startRound, if_neg fun hn => ?_]
    rcases hidle with hon | hidle
    · exact Bool.false_ne_true (hn.1.symm.trans hon)
    · exact hidle (hwork.1 hn.2)
  · rw [hround, takeRound, if_pos h, startRound, if_pos ⟨hoff, hwork.2 hw⟩]

end Sys2Proof.Machine
end

section
/-! Withdrawals of grants (R129), and what a frame start does at the haul link: the renewal of the poll flags (R118) and the
silence count, which may take the part into ALONE (R133). -/

namespace Sys2Proof.Machine

/-! ## The withdrawal of one entry (R129) -/

/-- A truck's record when its GRANTED entry, where it is to one of the zones picked, has become DEFERRED. -/
def Truck.deferredIn (picks : Fin 32 → Bool) (u : Truck) : Truck :=
  match u.grantedZone with
  | some z => if picks z then u.deferredTo z else u
  | none => u

theorem Truck.grantedZone_eq_some_iff {u : Truck} {z : Fin 32} :
    u.grantedZone = some z ↔ u.entry = some { zone := z, status := .granted } := by
  unfold Truck.grantedZone
  cases u.entry with
  | none => simp
  | some e =>
    obtain ⟨w, status⟩ := e
    cases status <;> simp

theorem Truck.grantedZone_deferredTo (u : Truck) (z : Fin 32) : (u.deferredTo z).grantedZone = none := rfl

theorem Truck.deferredIn_of {picks : Fin 32 → Bool} {u : Truck} {z : Fin 32} (h : u.grantedZone = some z) :
    u.deferredIn picks = if picks z then u.deferredTo z else u := by
  simp only [Truck.deferredIn, h]

theorem Truck.deferredIn_none {picks : Fin 32 → Bool} {u : Truck} (h : u.grantedZone = none) : u.deferredIn picks = u := by
  simp only [Truck.deferredIn, h]

theorem Truck.number_deferredIn (picks : Fin 32 → Bool) (u : Truck) : (u.deferredIn picks).number = u.number := by
  unfold Truck.deferredIn
  split
  · split <;> rfl
  · rfl

theorem Truck.grantedZone_deferredIn {picks : Fin 32 → Bool} {u : Truck} {z : Fin 32} :
    (u.deferredIn picks).grantedZone = some z ↔ u.grantedZone = some z ∧ picks z = false := by
  cases h : u.grantedZone with
  | none => rw [Truck.deferredIn_none h, h]; simp
  | some w =>
    rw [Truck.deferredIn_of h]
    cases hw : picks w with
    | true =>
      rw [if_pos rfl, Truck.grantedZone_deferredTo]
      refine iff_of_false nofun fun ⟨he, hz⟩ => ?_
      rw [← Option.some.inj he, hw] at hz
      cases hz
    | false =>
      rw [if_neg Bool.false_ne_true, h]
      refine (and_iff_left_of_imp fun he => ?_).symm
      rw [← Option.some.inj he, hw]

theorem Truck.deferredIn_deferredIn (picks picks' : Fin 32 → Bool) (u : Truck) :
    (u.deferredIn picks).deferredIn picks' = u.deferredIn (fun z => picks z || picks' z) := by
  cases h : u.grantedZone with
  | none => rw [Truck.deferredIn_none h, Truck.deferredIn_none h, Truck.deferredIn_none h]
  | some w =>
    rw [Truck.deferredIn_of h, Truck.deferredIn_of h]
    cases hw : picks w with
    | true => rw [if_pos rfl, Truck.deferredIn_none rfl, Bool.true_or, if_pos rfl]
    | false => rw [if_neg Bool.false_ne_true, Truck.deferredIn_of h, Bool.false_or]

/-- The GRANTED entries of the trucks of a list to the zones picked withdrawn, and nothing else. -/
structure Deferred (picks : Fin 32 → Bool) (l : List Nat) (s t : State) : Prop where
  only : t = { s with znt := { s.znt with zones := t.znt.zones }, hlk := { s.hlk with trucks := t.hlk.trucks } }
  truck : ∀ n, t.truck n = if n ∈ l then (s.truck n).map (Truck.deferredIn picks) else s.truck n
  zone : ∀ z, t.zone z = { s.zone z with grants := (t.zone z).grants }
  spared : ∀ z, picks z = false → t.zone z = s.zone z
  grants : ∀ z n, n ∈ (t.zone z).grants
    ↔ n ∈ (s.zone z).grants ∧ ¬ (n ∈ l ∧ picks z = true ∧ (s.truck n).bind Truck.grantedZone = some z)

theorem Deferred.nil (picks : Fin 32 → Bool) (s : State) : Deferred picks [] s s :=
  ⟨rfl, fun _ => (if_neg List.not_mem_nil).symm, fun _ => rfl, fun _ _ => rfl,
    fun _ _ => (and_iff_left fun h => absurd h.1 List.not_mem_nil).symm⟩

/-- The zones that a withdrawal picks: one, or all. -/
def picked (only : Option (Fin 32)) (z : Fin 32) : Bool := decide (only = none ∨ only = some z)

theorem deferred_withdrawEntry (only : Option (Fin 32)) (n : Nat) (s : State) :
    Deferred (picked only) [n] s (withdrawEntry only n s) := by
  have hidle : (∀ z, (s.truck n).bind Truck.grantedZone = some z → picked only z = false) → Deferred (picked only) [n] s s := by
    refine fun h => ⟨rfl, fun m => ?_, fun _ => rfl, fun _ _ => rfl, fun z m => (and_iff_left fun ⟨hm, hz, hg⟩ => ?_).symm⟩
    · split
      next hm =>
        obtain rfl := List.mem_singleton.1 hm
        cases hu : s.truck m with
        | none => rfl
        | some u =>
          rw [hu] at h
          cases hg : u.grantedZone with
          | none => rw [Option.map_some, Truck.deferredIn_none hg]
          | some z => rw [Option.map_some, Truck.deferredIn_of hg, h z hg, if_neg Bool.false_ne_true]
      next => rfl
    · obtain rfl := List.mem_singleton.1 hm
      rw [h z hg] at hz
      cases hz
  unfold withdrawEntry
  split
  next hnone => exact hidle fun z hz => by rw [hnone] at hz; cases hz
  next z hz =>
    split
    next hpick =>
      obtain ⟨u, hu, hg⟩ := Option.bind_eq_some_iff.1 hz
      have hpicked : picked only z = true := decide_eq_true hpick
      have hclaim := Regranted.removeClaim n z s
      have htrucks := hclaim.trucks
      have hzone : ∀ w, ((removeClaim n z s).modifyTruck n (fun t => t.deferredTo z)).zone w = (removeClaim n z s).zone w :=
        fun w => by rw [modifyTruck_only]; rfl
      refine ⟨?_, fun m => ?_, fun w => ?_, fun w hw => ?_, fun w m => ?_⟩
      · rw [modifyTruck_only, hclaim.zones]
      · rw [truck_modifyTruck (f := fun t => t.deferredTo z) (fun _ => rfl), truck_congr htrucks, truck_congr htrucks]
        by_cases hm : m = n
        · subst hm
          rw [if_pos rfl, if_pos List.mem_cons_self, hu, Option.map_some, Option.map_some, Truck.deferredIn_of hg, hpicked,
            if_pos rfl]
        · rw [if_neg hm, if_neg (mt List.mem_singleton.1 hm)]
      · rw [hzone]
        exact hclaim.zone w
      · rw [hzone, removeClaim, zone_modifyZone, if_neg]
        rintro rfl
        rw [hpicked] at hw
        cases hw
      · rw [hzone, removeClaim, zone_modifyZone]
        by_cases hw : w = z
        · subst hw
          rw [if_pos rfl, List.mem_filter, bne_iff_ne, List.mem_singleton]
          refine and_congr_right fun _ => ⟨fun hm h => hm h.1, fun h hm => h ⟨hm, hpicked, hm ▸ hz⟩⟩
        · rw [if_neg hw]
          refine (and_iff_left fun ⟨hm, _, hgw⟩ => hw ?_).symm
          rw [List.mem_singleton.1 hm, hz] at hgw
          exact (Option.some.inj hgw).symm
    next hpick =>
      refine hidle fun w hw => ?_
      rw [hz] at hw
      rw [← Option.some.inj hw]
      exact decide_eq_false hpick

theorem Deferred.cons {picks : Fin 32 → Bool} {n : Nat} {l : List Nat} {s t u : State} (h : Deferred picks [n] s t)
    (g : Deferred picks l t u) : Deferred picks (n :: l) s u where
  only := by
    have hg := g.only
    rw [h.only] at hg
    exact hg
  truck m := by
    rw [g.truck, h.truck]
    simp only [List.mem_cons, List.not_mem_nil, or_false]
    by_cases hm : m = n
    · simp only [hm, true_or, if_true]
      split
      · rw [Option.map_map]
        refine congrArg (Option.map · _) (funext fun v => ?_)
        rw [Function.comp_apply, Truck.deferredIn_deferredIn]
        simp only [Bool.or_self]
      · rfl
    · simp only [hm, if_false, false_or]
  zone z := by rw [g.zone z, h.zone z]
  spared z hz := (g.spared z hz).trans (h.spared z hz)
  grants z m := by
    rw [g.grants, h.grants, h.truck, and_assoc]
    refine and_congr_right fun _ => ?_
    simp only [List.mem_cons, List.not_mem_nil, or_false]
    by_cases hm : m = n
    · subst hm
      simp only [true_and, if_true, true_or]
      have hgone : picks z = true → ((s.truck m).map (Truck.deferredIn picks)).bind Truck.grantedZone ≠ some z := by
        intro hz hg
        obtain ⟨v, hv, hvz⟩ := Option.bind_eq_some_iff.1 hg
        obtain ⟨w, -, rfl⟩ := Option.map_eq_some_iff.1 hv
        rw [(Truck.grantedZone_deferredIn.1 hvz).2] at hz
        cases hz
      exact and_iff_left fun ⟨_, hz, hg⟩ => hgone hz hg
    · simp only [hm, false_and, not_false_eq_true, true_and, false_or, if_false]

/-- Every GRANTED entry of the trucks of a list, or those to one zone, withdrawn (R129). -/
theorem deferred_forEach (only : Option (Fin 32)) (l : List Nat) (s : State) :
    Deferred (picked only) l s (forEach l (withdrawEntry only) s) := by
  induction l generalizing s with
  | nil => exact .nil _ s
  | cons n l ih => exact (deferred_withdrawEntry only n s).cons (ih _)

theorem picked_none (z : Fin 32) : picked none z = true := decide_eq_true (.inl rfl)

theorem picked_some (w z : Fin 32) : picked (some w) z = true ↔ w = z := by simp [picked]

/-! ## Silence and ALONE (R133) -/

/-- The silence limit is reached, and the part not ALONE (R133). -/
def IsLonely (s : State) : Prop :=
  s.hlk.silenceLimit ≠ 0 ∧ s.hlk.silenceLimit ≤ s.hlk.silenceCount ∧ s.hlk.alone = false

/-- The part has entered ALONE and withdrawn every GRANTED entry of the trucks on the poll list (R133). -/
structure EnteredAlone (s t : State) : Prop where
  only : t = { s with
    znt := t.znt, hlk := { s.hlk with trucks := t.hlk.trucks, alone := true }
    hpt := { s.hpt with flags := { s.hpt.flags with alone := true } } }
  granted : ∀ n u, s.truck n = some u → ∀ z, u.entry = some { zone := z, status := .granted } → n ∈ s.hlk.pollList →
    t.truck n = some { u with entry := some { zone := z, status := .deferred } }
  kept : ∀ n u, s.truck n = some u → n ∉ s.hlk.pollList ∨ u.grantedZone = none → t.truck n = some u
  lines : t.znt.lines = s.znt.lines
  zone : ∀ z, t.zone z = { s.zone z with grants := (t.zone z).grants }
  grants : ∀ z n, n ∈ (t.zone z).grants ↔ n ∈ (s.zone z).grants
    ∧ ¬ (n ∈ s.hlk.pollList ∧ ∃ u, s.truck n = some u ∧ u.grantedZone = some z)

theorem enterAlone_spec (s : State) : EnteredAlone s (enterAlone s) := by
  have h := deferred_forEach none s.hlk.pollList ({ s with hlk := { s.hlk with alone := true } }.notify .alone)
  have htruck : ∀ n u, s.truck n = some u → (enterAlone s).truck n =
      if n ∈ s.hlk.pollList then some (u.deferredIn (picked none)) else some u := fun n u hu => by
    refine (h.truck n).trans ?_
    rw [show State.truck (State.notify .alone { s with hlk := { s.hlk with alone := true } }) n = some u from hu]
    rfl
  have honly := h.only
  change enterAlone s = _ at honly
  refine ⟨?_, fun n u hu z hz hn => ?_, fun n u hu hkept => ?_, ?_, h.zone, fun z n => (h.grants z n).trans ?_⟩
  · generalize enterAlone s = t at honly ⊢
    rw [honly]
    rfl
  · rw [htruck n u hu, if_pos hn, Truck.deferredIn_of (Truck.grantedZone_eq_some_iff.2 hz), picked_none]
    rfl
  · rw [htruck n u hu]
    split
    next hn => rw [Truck.deferredIn_none (hkept.resolve_left (not_not.2 hn))]
    next => rfl
  · rw [honly]
    rfl
  · rw [picked_none, Option.bind_eq_some_iff]
    simp only [true_and]
    rfl

theorem judgeAlone_lonely {s : State} (h : IsLonely s) : judgeAlone s = enterAlone s := if_pos h

theorem judgeAlone_heard {s : State} (h : ¬ IsLonely s) : judgeAlone s = s := if_neg h

/-! ## The renewal of the poll flags (R118) -/

theorem truckAt_renewPollFlags (s : State) (q : Fin 24) :
    (renewPollFlags s).truckAt q = (s.truckAt q).map (fun u => { u with polled := false }) := by
  simp [State.truckAt, renewPollFlags]

/-- Settles O48: the part enters ALONE exactly where the count reaches the limit, and a withdrawal of every entry is one of
the trucks on the poll list. -/
theorem frameStartCountsTheHostsSilence : Obligations.FrameStartCountsTheHostsSilence := by
  intro s hs raised withdrawn
  have hflags : exec .pollFlagRenewal s = .next (takePollFlags s) := congrArg _ (unlessReset_high hs _)
  have hsilence : exec .silenceCount s = .next (takeSilence s) := congrArg _ (unlessReset_high hs _)
  have halone : exec .enterAlone s = .next (judgeAlone s) := congrArg _ (unlessReset_high hs _)
  have hwithdrawn : ∀ (c : Nat) (d : Handed) (t : State),
      EnteredAlone { s with hlk := { s.hlk with silenceCount := c }, handed := d } t →
        withdrawn t ∧ t.hlk.silenceCount = c ∧ t.handed = d := by
    rintro c d t ⟨honly, hgranted, hkept, hlines, hzone, hgrants⟩
    refine ⟨⟨?_, hgranted, hkept, hlines, fun z => ⟨hzone z, hgrants z⟩⟩, ?_, ?_⟩
    · rw [honly]
    · rw [honly]
    · rw [honly]
  refine ⟨fun h => ?_, fun h => ?_, fun h => ?_, fun h hheard => ?_, fun h hlimit hraised hnot => ?_, fun hheard => ?_,
    fun hlimit hcount hnot => ?_⟩
  · rw [hflags, takePollFlags, h]
    rfl
  · rw [hflags, takePollFlags, if_pos h]
    exact ⟨_, rfl, rfl, truckAt_renewPollFlags _⟩
  · rw [hsilence, takeSilence, h]
    rfl
  · rw [hsilence, takeSilence, if_pos h, countSilence, judgeAlone_heard]
    rintro ⟨hlimit, hcount, hnot⟩
    rcases hheard with hzero | hlow | hon
    · exact hlimit hzero
    · exact absurd hcount (Nat.not_le.2 hlow)
    · exact Bool.false_ne_true (hnot.symm.trans hon)
  · rw [hsilence, takeSilence, if_pos h, countSilence, judgeAlone_lonely (by exact ⟨hlimit, hraised, hnot⟩)]
    exact ⟨_, rfl, hwithdrawn raised _ _ (enterAlone_spec _)⟩
  · rw [halone, judgeAlone_heard]
    rintro ⟨hlimit, hcount, hnot⟩
    rcases hheard with hzero | hlow | hon
    · exact hlimit hzero
    · exact absurd hcount (Nat.not_le.2 hlow)
    · exact Bool.false_ne_true (hnot.symm.trans hon)
  · rw [halone, judgeAlone_lonely ⟨hlimit, hcount, hnot⟩]
    exact ⟨_, rfl, hwithdrawn s.hlk.silenceCount s.handed _ (enterAlone_spec s)⟩

end Sys2Proof.Machine
end

section
/-! Orders and lifts of zones (R138 to R141): what the order of a list of zones leaves of the zones, of the persons caught in them
and of the trucks with an entry to them. -/

namespace Sys2Proof.Machine

open Sys2Proof.Safety (Ready answered taken)

/-! ## Persons caught and zones ordered (R138) -/

/-- A person caught in a zone that is among those picked, its alert of NONE made SENT (R138). -/
def Person.alertedIn (picks : Fin 32 → Bool) (p : Person) : Person :=
  if ∃ z, picks z = true ∧ p.isCaughtIn z = true then p.alerted else p

theorem isCaughtIn_iff (z : Fin 32) (p : Person) : p.isCaughtIn z = true
    ↔ p.zone = some z ∧ (p.state = .present ∨ p.state = .quiet ∨ p.state = .missing) := by
  simp only [Person.isCaughtIn, Bool.and_eq_true, Bool.or_eq_true, beq_iff_eq, or_assoc]

theorem isCaughtIn_alerted (z : Fin 32) (p : Person) : p.alerted.isCaughtIn z = p.isCaughtIn z := rfl

theorem Person.alerted_alerted (p : Person) : p.alerted.alerted = p.alerted := by
  unfold Person.alerted
  by_cases h : p.alert = .noAlert <;> simp [h]

theorem Person.alertedIn_alertedIn (f g : Fin 32 → Bool) (p : Person) :
    (p.alertedIn f).alertedIn g = p.alertedIn (fun z => f z || g z) := by
  have hor : (∃ z, (f z || g z) = true ∧ p.isCaughtIn z = true)
      ↔ (∃ z, f z = true ∧ p.isCaughtIn z = true) ∨ ∃ z, g z = true ∧ p.isCaughtIn z = true := by
    simp only [Bool.or_eq_true, or_and_right, exists_or]
  unfold Person.alertedIn
  by_cases hf : ∃ z, f z = true ∧ p.isCaughtIn z = true
  · rw [if_pos hf, if_pos (hor.2 (.inl hf))]
    simp only [isCaughtIn_alerted, Person.alerted_alerted, ite_self]
  · simp only [hor, hf, false_or, if_false]

theorem Person.alertedIn_none {f : Fin 32 → Bool} (h : ∀ z, f z = false) (p : Person) : p.alertedIn f = p :=
  if_neg fun ⟨z, hz, _⟩ => Bool.false_ne_true ((h z).symm.trans hz)

theorem Truck.deferredIn_of_none {f : Fin 32 → Bool} (h : ∀ z, f z = false) (u : Truck) : u.deferredIn f = u := by
  cases hg : u.grantedZone with
  | none => exact Truck.deferredIn_none hg
  | some z => rw [Truck.deferredIn_of hg, h, if_neg Bool.false_ne_true]

/-- A zone's record when it has been ordered with a cause, its grant set beside it (R138). -/
def Zone.orderedBy (cause : Causes) (now : Frame) (grants : List Nat) (r : Zone) : Zone :=
  match r.evac with
  | .ordered => { r with causes := r.causes.union cause }
  | .notOrdered => { r with evac := .ordered, causes := cause, orderedStamp := some now, grants := grants }

theorem Zone.orderedBy_again {cause : Causes} {now : Frame} {grants : List Nat} {r : Zone} (h : r.evac = .ordered) :
    r.orderedBy cause now grants = { r with causes := r.causes.union cause } := by
  simp only [Zone.orderedBy, h]

theorem Zone.orderedBy_first {cause : Causes} {now : Frame} {grants : List Nat} {r : Zone} (h : r.evac = .notOrdered) :
    r.orderedBy cause now grants =
      { r with evac := .ordered, causes := cause, orderedStamp := some now, grants := grants } := by
  simp only [Zone.orderedBy, h]

theorem Zone.not_ordered_iff (r : Zone) : r.evac = .notOrdered ↔ r.evac ≠ .ordered := by cases r.evac <;> simp

/-- The zones of a list that an order takes from NONE to ORDERED. -/
def State.fresh (s : State) (l : List (Fin 32)) (z : Fin 32) : Bool := decide (z ∈ l ∧ (s.zone z).evac = .notOrdered)

theorem fresh_iff {s : State} {l : List (Fin 32)} {z : Fin 32} :
    s.fresh l z = true ↔ z ∈ l ∧ (s.zone z).evac = .notOrdered := decide_eq_true_iff

/-- The zones of a list ordered with a cause: the zones, the persons caught in those not ORDERED before, and the trucks on the
poll list with a GRANTED entry to one of them (R129, R138). -/
structure Ordered (cause : Causes) (l : List (Fin 32)) (s t : State) : Prop where
  only : t = { s with
    znt := { s.znt with zones := t.znt.zones }, rst := { s.rst with slots := t.rst.slots }
    hlk := { s.hlk with trucks := t.hlk.trucks } }
  zone : ∀ z, t.zone z = if z ∈ l then (s.zone z).orderedBy cause s.frt.frame (t.zone z).grants else s.zone z
  slot : ∀ i, t.slot i = { gen := (s.slot i).gen, person := (s.person i).map (Person.alertedIn (s.fresh l)) }
  truck : ∀ n, t.truck n =
    if n ∈ s.hlk.pollList then (s.truck n).map (Truck.deferredIn (s.fresh l)) else s.truck n
  grants : ∀ z n, n ∈ (t.zone z).grants ↔ n ∈ (s.zone z).grants
    ∧ ¬ (n ∈ s.hlk.pollList ∧ s.fresh l z = true ∧ (s.truck n).bind Truck.grantedZone = some z)

theorem Ordered.nil (cause : Causes) (s : State) : Ordered cause [] s s := by
  have hfresh : ∀ z, s.fresh [] z = false := fun z => decide_eq_false fun h => absurd h.1 List.not_mem_nil
  refine ⟨rfl, fun z => (if_neg List.not_mem_nil).symm, fun i => ?_, fun n => ?_, fun z n => ?_⟩
  · cases hp : s.person i with
    | none => exact slot_of_person_none hp
    | some p => rw [Option.map_some, Person.alertedIn_none hfresh, slot_of_person hp]
  · rw [show Truck.deferredIn (s.fresh []) = id from funext (Truck.deferredIn_of_none hfresh), Option.map_id, id, ite_self]
  · simp [hfresh]

theorem map_alertedIn_none {f : Fin 32 → Bool} (h : ∀ z, f z = false) (s : State) (i : Fin 240) :
    ({ gen := (s.slot i).gen, person := (s.person i).map (Person.alertedIn f) } : Slot) = s.slot i := by
  rw [show Person.alertedIn f = id from funext (Person.alertedIn_none h), Option.map_id]
  rfl

/-- A zone made ORDERED and the persons caught in it alerted: an order up to its withdrawals (R138). -/
def markOrdered (cause : Causes) (z : Fin 32) (s : State) : State :=
  alertCaught z (s.modifyZone z (fun r => { r with evac := .ordered, causes := cause, orderedStamp := some s.frt.frame }))

theorem slot_alertCaught (z : Fin 32) (s : State) (i : Fin 240) : (alertCaught z s).slot i =
    { gen := (s.slot i).gen, person := (s.person i).map (Person.alertedIn (picked (some z))) } := by
  have halerted : Person.alertedIn (picked (some z)) = fun p => if p.isCaughtIn z then p.alerted else p := funext fun p => by
    simp only [Person.alertedIn, picked_some, exists_eq_left']
  rw [halerted]
  exact slot_mapPersons ..

theorem deferred_withdrawEntriesTo (z : Fin 32) (s : State) :
    Deferred (picked (some z)) s.hlk.pollList s (withdrawEntriesTo z s) := deferred_forEach ..

/-- One zone ordered. -/
theorem ordered_orderZone (cause : Causes) (z : Fin 32) (s : State) : Ordered cause [z] s (orderZone cause z s) := by
  unfold orderZone
  split
  next he =>
    have hfresh : ∀ w, s.fresh [z] w = false := fun w => decide_eq_false fun ⟨hw, hn⟩ => by
      rw [List.mem_singleton.1 hw, he] at hn
      cases hn
    refine ⟨rfl, fun w => ?_, fun i => (map_alertedIn_none hfresh s i).symm, fun n => ?_, fun w n => ?_⟩
    · rw [zone_modifyZone]
      by_cases hw : w = z
      · subst hw
        rw [if_pos rfl, if_pos List.mem_cons_self, Zone.orderedBy_again he]
      · rw [if_neg hw, if_neg (mt List.mem_singleton.1 hw)]
    · rw [show Truck.deferredIn (s.fresh [z]) = id from funext (Truck.deferredIn_of_none hfresh), Option.map_id, id, ite_self]
      rfl
    · rw [zone_modifyZone]
      split
      next hw => subst hw; simp [hfresh]
      next => simp [hfresh]
  next he =>
    have hpicked : picked (some z) = s.fresh [z] := funext fun w => by
      rw [Bool.eq_iff_iff, picked_some, fresh_iff, List.mem_singleton]
      refine ⟨?_, fun h => h.1.symm⟩
      rintro rfl
      exact ⟨rfl, he⟩
    have hzone : ∀ w, (markOrdered cause z s).zone w =
        if w = z then { s.zone z with evac := .ordered, causes := cause, orderedStamp := some s.frt.frame } else s.zone w :=
      fun w => by
        rw [markOrdered, show ∀ t : State, (alertCaught z t).zone w = t.zone w from fun _ => rfl, zone_modifyZone]
    have hslot : ∀ i, (markOrdered cause z s).slot i =
        { gen := (s.slot i).gen, person := (s.person i).map (Person.alertedIn (s.fresh [z])) } := fun i => by
      rw [← hpicked]
      exact slot_alertCaught z _ i
    have hdeferred := deferred_withdrawEntriesTo z (markOrdered cause z s)
    have hmarked : markOrdered cause z s = { s with
        znt := { s.znt with zones := (markOrdered cause z s).znt.zones }
        rst := { s.rst with slots := (markOrdered cause z s).rst.slots } } := rfl
    change Ordered cause [z] s (withdrawEntriesTo z (markOrdered cause z s))
    generalize markOrdered cause z s = v at *
    generalize withdrawEntriesTo z v = t at *
    have htruck : ∀ n, v.truck n = s.truck n := truck_congr (by rw [hmarked])
    have hlist : v.hlk.pollList = s.hlk.pollList := by rw [hmarked]
    have honly := hdeferred.only
    rw [hpicked, hlist] at hdeferred
    refine ⟨?_, fun w => ?_, fun i => ?_, fun n => ?_, fun w n => ?_⟩
    · rw [hmarked] at honly
      rw [honly]
    · by_cases hw : w = z
      · subst hw
        rw [if_pos List.mem_cons_self, Zone.orderedBy_first he, hdeferred.zone w, hzone, if_pos rfl]
      · rw [if_neg (mt List.mem_singleton.1 hw), hdeferred.spared w, hzone, if_neg hw]
        exact Bool.eq_false_iff.2 fun h => hw (List.mem_singleton.1 (fresh_iff.1 h).1)
    · rw [← hslot i, honly]
      rfl
    · rw [hdeferred.truck, htruck]
    · rw [hdeferred.grants, htruck]
      refine and_congr_left fun _ => ?_
      rw [hzone]
      split
      next hw => rw [hw]
      next => rfl

theorem Ordered.cons {cause : Causes} {z : Fin 32} {l : List (Fin 32)} (hz : z ∉ l) {s t u : State} (h : Ordered cause [z] s t)
    (g : Ordered cause l t u) : Ordered cause (z :: l) s u := by
  have hother : ∀ w, w ∈ l → t.zone w = s.zone w := fun w hw => by
    rw [h.zone, if_neg (mt List.mem_singleton.1 (ne_of_mem_of_not_mem hw hz))]
  have hfresh : (fun w => s.fresh [z] w || t.fresh l w) = s.fresh (z :: l) := funext fun w => by
    rw [Bool.eq_iff_iff, Bool.or_eq_true, fresh_iff, fresh_iff, fresh_iff, List.mem_singleton, List.mem_cons, or_and_right]
    exact or_congr .rfl (and_congr_right fun hw => by rw [hother w hw])
  have hlist : t.hlk.pollList = s.hlk.pollList := by rw [h.only]
  have hframe : t.frt = s.frt := by rw [h.only]
  refine ⟨?_, fun w => ?_, fun i => ?_, fun n => ?_, fun w n => ?_⟩
  · have hg := g.only
    rw [h.only] at hg
    exact hg
  · by_cases hw : w = z
    · subst hw
      have hstays := g.zone w
      rw [if_neg hz] at hstays
      rw [if_pos List.mem_cons_self, hstays]
      exact (h.zone w).trans (if_pos List.mem_cons_self)
    · refine (g.zone w).trans ?_
      rw [hframe]
      by_cases hl : w ∈ l
      · rw [if_pos hl, if_pos (List.mem_cons_of_mem _ hl), hother w hl]
      · rw [if_neg hl, if_neg (by rw [List.mem_cons]; exact not_or.2 ⟨hw, hl⟩), h.zone, if_neg (mt List.mem_singleton.1 hw)]
  · rw [g.slot, State.person, h.slot, Option.map_map]
    refine congrArg (fun f => Slot.mk _ (Option.map f (s.person i))) (funext fun p => ?_)
    rw [Function.comp_apply, Person.alertedIn_alertedIn, hfresh]
  · rw [g.truck, hlist, h.truck]
    split
    · rw [Option.map_map]
      refine congrArg (fun f => Option.map f (s.truck n)) (funext fun v => ?_)
      rw [Function.comp_apply, Truck.deferredIn_deferredIn, hfresh]
    · rfl
  · rw [g.grants, h.grants, h.truck, hlist, and_assoc, ← congrFun hfresh w, Bool.or_eq_true]
    refine and_congr_right fun _ => ?_
    by_cases hn : n ∈ s.hlk.pollList
    · rw [if_pos hn]
      have hgranted : ((s.truck n).map (Truck.deferredIn (s.fresh [z]))).bind Truck.grantedZone = some w
          ↔ (s.truck n).bind Truck.grantedZone = some w ∧ s.fresh [z] w = false := by
        cases s.truck n with
        | none => simp
        | some v => simpa using Truck.grantedZone_deferredIn
      rw [hgranted]
      cases s.fresh [z] w <;> simp [hn]
    · simp [hn]

theorem ordered_forEach (cause : Causes) {l : List (Fin 32)} (hl : l.Nodup) (s : State) :
    Ordered cause l s (forEach l (orderZone cause) s) := by
  induction l generalizing s with
  | nil => exact .nil cause s
  | cons z l ih =>
    obtain ⟨hz, hl⟩ := List.nodup_cons.1 hl
    exact (ordered_orderZone cause z s).cons hz (ih hl _)

/-! ## EVACUATE (R140) -/

theorem mem_zonesOf {zones : BitVec 32} {z : Fin 32} : z ∈ zonesOf zones ↔ zones.getLsbD z.val = true := by
  rw [zonesOf, List.mem_filter]
  exact and_iff_right (List.mem_finRange z)

theorem zonesOf_nodup (zones : BitVec 32) : (zonesOf zones).Nodup := (List.nodup_finRange 32).filter _

theorem exec_evacuate {s : State} (hr : Ready s) (hrun : s.hpt.phase = .running) (zones : BitVec 32) :
    exec (.evacuate zones) s = .next (reqEvacuate zones (taken s)) := exec_admitted_running hr hrun rfl rfl rfl

theorem exec_lift {s : State} (hr : Ready s) (hrun : s.hpt.phase = .running) (zones : BitVec 32) :
    exec (.lift zones) s = .next (reqLift zones (taken s)) := exec_admitted_running hr hrun rfl rfl rfl

theorem Person.alertedIn_iff {picks : Fin 32 → Bool} {p : Person} :
    ((∃ z, p.zone = some z ∧ picks z = true) ∧ (p.state = .present ∨ p.state = .quiet ∨ p.state = .missing)
        ∧ p.alert = .noAlert → p.alertedIn picks = { p with alert := .sent })
      ∧ (¬ ((∃ z, p.zone = some z ∧ picks z = true) ∧ (p.state = .present ∨ p.state = .quiet ∨ p.state = .missing)
        ∧ p.alert = .noAlert) → p.alertedIn picks = p) := by
  unfold Person.alertedIn
  simp only [isCaughtIn_iff]
  refine ⟨fun ⟨⟨z, hz, hpick⟩, hstate, halert⟩ => ?_, fun h => ?_⟩
  · rw [if_pos ⟨z, hpick, hz, hstate⟩, Person.alerted, if_pos halert]
  · split
    next hcaught =>
      obtain ⟨z, hpick, hz, hstate⟩ := hcaught
      rw [Person.alerted, if_neg fun halert => h ⟨⟨z, hz, hpick⟩, hstate, halert⟩]
    next => rfl

theorem union_onlyHost (c : Causes) : c.union Causes.onlyHost = { c with host := true } := by
  simp [Causes.union, Causes.onlyHost, Causes.none]

/-! ## LIFT (R141) -/

theorem liftZone_frames (z : Fin 32) (s : State) :
    liftZone z s = { s with znt := { s.znt with zones := (liftZone z s).znt.zones } } := rfl

/-- A zone's record when it has been lifted (R141). -/
def Zone.lifted (r : Zone) : Zone :=
  { r with evac := .notOrdered, causes := { air := false, line := false, host := false }, orderedStamp := none }

theorem zone_liftZones (l : List (Fin 32)) (s : State) (w : Fin 32) :
    (forEach l liftZone s).zone w = if w ∈ l then (s.zone w).lifted else s.zone w := by
  induction l generalizing s with
  | nil => exact (if_neg List.not_mem_nil).symm
  | cons z l ih =>
    rw [forEach_cons, ih, liftZone, zone_modifyZone]
    by_cases hw : w = z
    · subst hw
      simp only [if_true, List.mem_cons, true_or]
      exact ite_self _
    · simp only [hw, if_false, List.mem_cons, false_or]

theorem liftZones_only (l : List (Fin 32)) (s : State) :
    forEach l liftZone s = { s with znt := { s.znt with zones := (forEach l liftZone s).znt.zones } } := by
  induction l generalizing s with
  | nil => rfl
  | cons z l ih => exact (ih (liftZone z s)).trans rfl

theorem slot_clearAlerts (s : State) (i : Fin 240) : (clearAlerts s).slot i =
    { gen := (s.slot i).gen, person := (s.person i).map (fun p => if s.isOrdered p.zone then p else { p with alert := .noAlert }) } :=
  slot_mapPersons ..

/-- Settles O49: an order is one of the zones named, in ascending order, and a lift writes the zones named and then the alerts. -/
theorem zonesAreEvacuatedAndLifted : Obligations.ZonesAreEvacuatedAndLifted := by
  intro zones s hr hrun named ordered
  have hunsafe : (zonesOf zones).any (taken s).isUnsafe = true
      ↔ ∃ z, named z ∧ ((s.zone z).real = .danger ∨ (s.zone z).real = .trip) := by
    simp only [List.any_eq_true, mem_zonesOf, State.isUnsafe, Bool.or_eq_true, beq_iff_eq]
    rfl
  refine ⟨fun h => ⟨?_, ?_⟩, fun h => ?_, fun h => ?_, fun h hsafe => ?_⟩
  · rw [exec_evacuate hr hrun, reqEvacuate, if_pos h, refuse_taken]
  · rw [exec_lift hr hrun, reqLift, if_pos h, refuse_taken]
  · rw [exec_evacuate hr hrun, reqEvacuate, if_neg h]
    obtain ⟨honly, hzone, hslot, htruck, hgrants⟩ := ordered_forEach Causes.onlyHost (zonesOf_nodup zones) (taken s)
    have hfresh : ∀ z, (taken s).fresh (zonesOf zones) z = true ↔ ordered z := fun z => by
      rw [fresh_iff, mem_zonesOf]
      rfl
    generalize forEach (zonesOf zones) (orderZone Causes.onlyHost) (taken s) = t at *
    refine ⟨_, rfl, ?_, ?_, fun z hz => ?_, fun z hz he => ?_, fun z hz => ?_, fun i => ⟨?_, fun hp => ?_, fun p hp => ?_⟩,
      fun n u hu => ⟨fun z hn hz hentry => ⟨?_, ?_⟩, fun hkept => ?_⟩⟩
    · rw [honly]
      rfl
    · rw [honly]
      rfl
    · exact (hzone z).trans (if_neg (mt mem_zonesOf.1 hz))
    · refine (hzone z).trans ?_
      rw [if_pos (mem_zonesOf.2 hz), Zone.orderedBy_again (r := (taken s).zone z) he, union_onlyHost]
      rfl
    · refine (hzone z).trans ?_
      rw [if_pos (mem_zonesOf.2 hz.1), Zone.orderedBy_first (r := (taken s).zone z) hz.2]
      rfl
    · exact (congrArg Slot.gen (hslot i)).trans rfl
    · refine (congrArg Slot.person (hslot i)).trans ?_
      rw [show (taken s).person i = none from hp, Option.map_none]
    · have halerted : t.person i = some (p.alertedIn ((taken s).fresh (zonesOf zones))) :=
        (congrArg Slot.person (hslot i)).trans (congrArg (Option.map _) hp)
      rw [show t.done.person i = t.person i from rfl, halerted]
      obtain ⟨hcaught, hspared⟩ := Person.alertedIn_iff (picks := (taken s).fresh (zonesOf zones)) (p := p)
      simp only [hfresh] at hcaught hspared
      exact ⟨fun hc => congrArg some (hcaught hc), fun hc => congrArg some (hspared hc)⟩
    · have hu' : (taken s).truck n = some u := hu
      refine (htruck n).trans ?_
      rw [if_pos (show n ∈ (taken s).hlk.pollList from hn), hu', Option.map_some, Truck.deferredIn_of (Truck.grantedZone_eq_some_iff.2 hentry), if_pos ((hfresh z).2 hz)]
      rfl
    · refine fun hm => ((hgrants z n).1 hm).2 ⟨hn, (hfresh z).2 hz, ?_⟩
      rw [show (taken s).truck n = some u from hu]
      exact Truck.grantedZone_eq_some_iff.2 hentry
    · refine (htruck n).trans ?_
      rw [show (taken s).truck n = some u from hu, Option.map_some]
      split
      next hn =>
        cases hg : u.grantedZone with
        | none => rw [Truck.deferredIn_none hg]
        | some z => rw [Truck.deferredIn_of hg, if_neg fun hz => hkept.resolve_left (not_not.2 hn) z ((hfresh z).1 hz) hg]
      next => rfl
  · obtain ⟨z, hz, hreal⟩ := id h
    have hzones : zones ≠ 0 := by
      rintro rfl
      simp [named] at hz
    rw [exec_lift hr hrun, reqLift, if_neg hzones, if_pos (hunsafe.2 h), refuse_taken]
  · have hno : ¬ (zonesOf zones).any (taken s).isUnsafe = true := fun hu => by
      obtain ⟨z, hz, hreal⟩ := hunsafe.1 hu
      exact hreal.elim (hsafe z hz).1 (hsafe z hz).2
    have hlifted := zone_liftZones (zonesOf zones) (taken s)
    have honly := liftZones_only (zonesOf zones) (taken s)
    have hslot := slot_clearAlerts (forEach (zonesOf zones) liftZone (taken s))
    rw [exec_lift hr hrun, reqLift, if_neg h, if_neg hno]
    generalize forEach (zonesOf zones) liftZone (taken s) = t at *
    have hordered : ∀ p : Person, t.isOrdered p.zone = true ↔ ∃ z, p.zone = some z ∧ (t.zone z).evac = .ordered :=
      fun p => isOrdered_iff t p.zone
    have hperson : ∀ i, t.person i = s.person i := fun i => by
      rw [honly]
      rfl
    refine ⟨_, rfl, ?_, ?_, fun z hz => ?_, fun z hz => ?_, fun i => ⟨?_, fun hp => ?_, fun p hp => ⟨fun hz => ?_, fun hz => ?_⟩⟩⟩
    · unfold clearAlerts State.mapPersons
      rw [honly]
      rfl
    · rw [show (clearAlerts t).done.znt = t.znt from rfl, honly]
      rfl
    · exact (hlifted z).trans (if_pos (mem_zonesOf.2 hz))
    · exact (hlifted z).trans (if_neg (mt mem_zonesOf.1 hz))
    · refine (congrArg Slot.gen (hslot i)).trans ?_
      rw [honly]
      rfl
    · refine (congrArg Slot.person (hslot i)).trans ?_
      rw [hperson, hp, Option.map_none]
    · refine (congrArg Slot.person (hslot i)).trans ?_
      rw [hperson, hp, Option.map_some, if_pos ((hordered p).2 hz)]
    · refine (congrArg Slot.person (hslot i)).trans ?_
      rw [hperson, hp, Option.map_some, if_neg (mt (hordered p).1 hz)]

end Sys2Proof.Machine
end

section
/-! Registration and retirement of trucks (R116, R117, R135): the poll list's cursor, and what a record leaves behind. -/

namespace Sys2Proof.Machine

open Sys2Proof.Safety (Ready answered taken NamesTruck)

/-! ## The poll cursor (R117, R118) -/

theorem dropWhile_ne_cons {n : Nat} {before rest : List Nat} (h : n ∉ before) :
    (before ++ n :: rest).dropWhile (fun m => m != n) = n :: rest := by
  rw [List.dropWhile_append_of_pos fun m hm => bne_iff_ne.2 (ne_of_mem_of_not_mem hm h), List.dropWhile_cons_of_neg (by simp)]

/-- Within the list the cursor moves to the next member. -/
theorem following_inner {n m : Nat} {before rest : List Nat} (h : n ∉ before) : following n (before ++ n :: m :: rest) = some m := by
  rw [following, dropWhile_ne_cons h]

/-- At the tail the cursor moves to the head. -/
theorem following_tail {n : Nat} {before : List Nat} (h : n ∉ before) : following n (before ++ [n]) = (before ++ [n]).head? := by
  rw [following, dropWhile_ne_cons h]

theorem following_alone (n : Nat) : following n [n] = some n := following_tail (before := []) List.not_mem_nil

theorem following_last {n m : Nat} {rest : List Nat} (h : n ∉ m :: rest) : following n (m :: (rest ++ [n])) = some m :=
  following_tail (before := m :: rest) h

theorem cursor_leavePollList_of_ne {n : Nat} {s : State} (h : s.hlk.cursor ≠ some n) :
    (leavePollList n s).hlk.cursor = s.hlk.cursor := if_neg h

/-- A record at the cursor hands the cursor on, where another record stays in the list. -/
theorem cursor_leavePollList {n m : Nat} {s : State} (h : s.hlk.cursor = some n) (hm : m ∈ s.hlk.pollList) (hne : m ≠ n) :
    (leavePollList n s).hlk.cursor = following n s.hlk.pollList := by
  have hrest : (s.hlk.pollList.filter fun q => q != n).isEmpty = false :=
    List.isEmpty_eq_false_iff_exists_mem.2 ⟨m, List.mem_filter.2 ⟨hm, bne_iff_ne.2 hne⟩⟩
  exact (if_pos h).trans (if_neg (by rw [hrest]; exact Bool.false_ne_true))

theorem cursor_leavePollList_alone {n : Nat} {s : State} (h : s.hlk.cursor = some n) (hl : s.hlk.pollList = [n]) :
    (leavePollList n s).hlk.cursor = none := by
  simp [leavePollList, h, hl]

/-! ## REGISTER_TRUCK (R116) -/

theorem TruckKind.ofByte?_eq_some_iff {b : Byte} {x : TruckKind} : TruckKind.ofByte? b = some x ↔ x.code = b := by
  constructor
  · intro h
    unfold TruckKind.ofByte? at h
    split at h
    all_goals cases h
    all_goals next hb => exact (code_eq hb).symm
  · rintro rfl
    cases x <;> rfl

theorem TruckKind.ofByte?_eq_none_iff {b : Byte} : TruckKind.ofByte? b = none ↔ 2 ≤ b.toNat := by
  unfold TruckKind.ofByte?
  split
  all_goals simp only [reduceCtorEq, false_iff, true_iff, imp_false] at *
  all_goals omega

theorem freePosition_some {s : State} {q : Fin 24} (hfree : s.truckAt q = none) (hbefore : ∀ p < q, s.truckAt p ≠ none) :
    s.freePosition = some q :=
  find?_finRange (by rw [hfree]; rfl) fun p hp => Option.isNone_eq_false_iff.2 (Option.isSome_iff_ne_none.2 (hbefore p hp))

theorem freePosition_none {s : State} (h : ∀ q, s.truckAt q ≠ none) : s.freePosition = none :=
  List.find?_eq_none.2 fun q _ hq => h q (Option.isNone_iff_eq_none.1 hq)

theorem exec_registerTruck {s : State} (hr : Ready s) (number : Word16) (kind : Byte) :
    exec (.registerTruck number kind) s = .next (reqRegisterTruck number kind (taken s)) := exec_admitted hr rfl rfl rfl

theorem exec_retireTruck {s : State} (hr : Ready s) (number : Word16) :
    exec (.retireTruck number) s = .next (reqRetireTruck number (taken s)) := exec_admitted hr rfl rfl rfl

theorem positionOf_taken_isSome {s : State} {n : Nat} :
    ((taken s).positionOf n).isSome = true ↔ ∃ q t, s.truckAt q = some t ∧ t.number = n := by
  rw [Option.isSome_iff_ne_none, Ne, positionOf_none]
  simp only [not_forall, not_not, exists_prop]
  rfl

theorem reqRegisterTruck_badArgument {number : Word16} {kind : Byte} {s : State}
    (h : ¬ ((1 ≤ number.toNat ∧ number.toNat ≤ 4095) ∧ ¬ (∃ q t, s.truckAt q = some t ∧ t.number = number.toNat)
      ∧ kind.toNat ≤ 1)) : reqRegisterTruck number kind (taken s) = (taken s).refuse .badArgument := by
  unfold reqRegisterTruck
  cases hk : TruckKind.ofByte? kind with
  | none => rfl
  | some k =>
    refine if_pos ?_
    rw [validTruckNumber_iff, positionOf_taken_isSome]
    have hkind : kind.toNat ≤ 1 := by
      by_contra hlarge
      rw [TruckKind.ofByte?_eq_none_iff.2 (by omega)] at hk
      cases hk
    by_contra hc
    rw [not_or, not_not] at hc
    exact h ⟨hc.1, hc.2, hkind⟩

/-- REGISTER_TRUCK with valid arguments looks for a free position. -/
theorem reqRegisterTruck_valid {number : Word16} {kind : Byte} {k : TruckKind} {s : State}
    (h : 1 ≤ number.toNat ∧ number.toNat ≤ 4095) (hnew : ¬ ∃ q t, s.truckAt q = some t ∧ t.number = number.toNat)
    (hk : k.code = kind) : reqRegisterTruck number kind (taken s) =
      match s.freePosition with
      | none => (taken s).refuse .noRoom
      | some p => (addTruck p (Truck.registered number.toNat k) (taken s)).done := by
  have hvalid : ¬ (¬ validTruckNumber number = true ∨ ((taken s).positionOf number.toNat).isSome = true) := by
    rw [validTruckNumber_iff, positionOf_taken_isSome]
    exact fun hc => hc.elim (not_not.2 h) hnew
  unfold reqRegisterTruck
  simp only [TruckKind.ofByte?_eq_some_iff.2 hk, if_neg hvalid]
  rfl

/-! ## RETIRE_TRUCK (R135) -/

/-- A retired truck's claims leave the grant sets of its held zone and of its granted zone. -/
theorem grants_retired (n : Nat) (a b : Option (Fin 32)) (s : State) (z : Fin 32) :
    ((removeClaim? n a (removeClaim? n b s)).zone z).grants =
      if b = some z ∨ a = some z then (s.zone z).grants.filter (fun m => m != n) else (s.zone z).grants := by
  rw [grants_removeClaim?, grants_removeClaim?]
  by_cases hb : b = some z <;> by_cases ha : a = some z <;> simp [ha, hb, List.filter_filter]

/-- Settles O45: each request by its number and kind, and the cursor by the place of the number in the poll list. -/
theorem trucksJoinAndLeave : Obligations.TrucksJoinAndLeave := by
  intro number kind s hr n inRange held
  refine ⟨fun h => ?_, fun hin hnew hkind hfull => ?_, fun hin hnew q k hfree hbefore hk => ?_, fun h => ?_, fun hin hnew => ?_,
    fun q u hn => ?_⟩
  · rw [exec_registerTruck hr, reqRegisterTruck_badArgument h, refuse_taken]
  · have hsome : TruckKind.ofByte? kind ≠ none := by rw [Ne, TruckKind.ofByte?_eq_none_iff]; omega
    obtain ⟨k, hk⟩ := Option.ne_none_iff_exists'.1 hsome
    rw [exec_registerTruck hr, reqRegisterTruck_valid hin hnew (TruckKind.ofByte?_eq_some_iff.1 hk), freePosition_none hfull,
      refuse_taken]
  · rw [exec_registerTruck hr, reqRegisterTruck_valid hin hnew hk, freePosition_some hfree hbefore]
    simp only [addTruck, List.isEmpty_iff]
    rfl
  · rw [exec_retireTruck hr, reqRetireTruck, withTruck_refused h, refuse_taken]
  · rw [exec_retireTruck hr, reqRetireTruck, withTruck_noRecord (s := taken s) hin fun q t hq hn => hnew ⟨q, t, hq, hn⟩,
      refuse_taken]
  · have hnumber : u.number = n := hn.2.2.2.1
    rw [exec_retireTruck hr, reqRetireTruck, withTruck_of_names (s := taken s) hn, retireTruck, hnumber]
    have hgrants := grants_retired n u.grantedZone u.held (taken s)
    have hclaims := (Regranted.removeClaim? n u.held (taken s)).trans (.removeClaim? n u.grantedZone _)
    generalize removeClaim? n u.grantedZone (removeClaim? n u.held (taken s)) = v at *
    have hhlk : v.hlk = (taken s).hlk := by rw [hclaims.zones]
    have hgone := fun k => gone_retireSubject k (.truck n) (leavePollList n v)
    have htrucks : (retireSubject (.truck n) (leavePollList n v)).truckAt = s.truckAt := funext fun p => by
      rw [State.truckAt, retireSubject_hlk, leavePollList, hhlk]
      rfl
    have hcursor : ((retireSubject (.truck n) (leavePollList n v)).setTruckAt q none).done.hlk.cursor
        = (leavePollList n v).hlk.cursor :=
      show (retireSubject (.truck n) (leavePollList n v)).hlk.cursor = _ by rw [retireSubject_hlk]
    have hat : ∀ {c : Option Nat}, s.hlk.cursor = c → v.hlk.cursor = c := fun h => (congrArg HaulLink.cursor hhlk).trans h
    have hlist : ∀ {l : List Nat}, s.hlk.pollList = l → v.hlk.pollList = l := fun h => (congrArg HaulLink.pollList hhlk).trans h
    refine ⟨_, rfl, rfl, ?_, fun p hp => ?_, fun z => ?_, ?_, fun hc => ?_, fun before m rest hc hl hb hm => ?_,
      fun m rest hc hl hb => ?_, fun hc hl => ?_, fun it hit hx => ?_, fun d hd hx => ?_⟩
    · exact (truckAt_setTruckAt ..).trans (if_pos rfl)
    · exact ((truckAt_setTruckAt ..).trans (if_neg hp)).trans (congrFun htrucks p)
    · exact (congrArg (fun t : ZoneTable => t.zones[z].grants) (retireSubject_znt ..)).trans (hgrants z)
    · exact (congrArg HaulLink.pollList (retireSubject_hlk ..)).trans (congrArg (List.filter _) (hlist rfl))
    · rw [hcursor, cursor_leavePollList_of_ne (by rw [hhlk]; exact hc), hhlk]
      rfl
    · rw [hcursor, cursor_leavePollList (m := m) (hat hc) (by rw [hlist hl]; simp) hm, hlist hl, following_inner hb]
    · rw [hcursor, cursor_leavePollList (m := m) (hat hc) (by rw [hlist hl]; simp) (List.ne_of_not_mem_cons hb).symm, hlist hl,
        following_last hb]
    · rw [hcursor, cursor_leavePollList_alone (hat hc) (hlist hl)]
    · exact (hgone it.kind).1 it hit ⟨rfl, hx⟩
    · exact (hgone d.kind).2 d hd ⟨rfl, hx⟩

end Sys2Proof.Machine
end

section
/-! The poll of a HAUL slot start (R118 to R120) and the order it sends (R131), with what the queue's operations may do to the
notice flags. -/

namespace Sys2Proof.Machine

open Sys2Proof.Safety (Ready answered taken Raised OrderHolds)

/-! ## The queue and the notice flags (R50) -/

/-- A change of the queue that at most raises ATTENTION among the notice flags. -/
structure QueueTold (s t : State) : Prop where
  only : t = { s with
    atq := t.atq, hpt := { s.hpt with flags := { s.hpt.flags with attention := t.hpt.flags.attention } } }
  kept : s.hpt.flags.attention = true → t.hpt.flags.attention = true

namespace QueueTold

theorem refl (s : State) : QueueTold s s := ⟨rfl, id⟩

theorem trans {s t u : State} (h : QueueTold s t) (k : QueueTold t u) : QueueTold s u := by
  refine ⟨?_, k.kept ∘ h.kept⟩
  have hk := k.only
  rw [h.only] at hk
  exact hk

theorem queueOnly {s t : State} (h : QueueTold s t) : QueueOnly s t := by
  unfold QueueOnly
  rw [h.only]

theorem flags {s t : State} (h : QueueTold s t) :
    t.hpt.flags = { s.hpt.flags with attention := t.hpt.flags.attention } := by rw [h.only]

theorem changeItem (k : ItemKind) (x : Subject) (f : Item → Item) (s : State) : QueueTold s (s.changeItem k x f) := ⟨rfl, id⟩

theorem eraseItem (k : ItemKind) (x : Subject) (s : State) : QueueTold s (s.eraseItem k x) := ⟨rfl, id⟩

theorem setDue (k : ItemKind) (x : Subject) (f : Frame) (s : State) : QueueTold s (s.setDue k x f) := ⟨rfl, id⟩

theorem clearDue (k : ItemKind) (x : Subject) (s : State) : QueueTold s (s.clearDue k x) := ⟨rfl, id⟩

theorem attention (s : State) : QueueTold s (s.notify .attention) := ⟨rfl, fun _ => rfl⟩

theorem enterItem (k : ItemKind) (x : Subject) (f : Frame) (b : Bool) (d : Detail) (s : State) :
    QueueTold s (enterItem k x f b d s) := ⟨rfl, fun _ => rfl⟩

theorem reinsert (s : State) : QueueTold s (reinsert s) := by
  unfold Machine.reinsert
  split
  · split
    · exact (clearDue ..).trans (enterItem ..)
    · exact refl s
  · exact refl s

theorem removeItem (k : ItemKind) (x : Subject) (s : State) : QueueTold s (removeItem k x s) :=
  (eraseItem k x s).trans (reinsert _)

theorem meetFullQueue (k : ItemKind) (x : Subject) (b : Bool) (d : Detail) (s : State) :
    QueueTold s (meetFullQueue k x b d s) := by
  unfold Machine.meetFullQueue
  split
  · exact refl s
  · split
    · refine QueueTold.trans ?_ (enterItem ..)
      split
      · exact (eraseItem ..).trans (setDue ..)
      · exact eraseItem ..
    · split
      · exact refl s
      · exact setDue ..

theorem insertItem (k : ItemKind) (x : Subject) (b : Bool) (d : Detail) (r : Bool) (s : State) :
    QueueTold s (insertItem k x b d r s) := by
  unfold Machine.insertItem
  split
  · split
    · simp only
      split
      · exact (changeItem ..).trans (attention _)
      · exact changeItem ..
    · exact (eraseItem ..).trans (enterItem ..)
  · split
    · exact refl s
    · split
      · exact enterItem ..
      · exact meetFullQueue ..

theorem raiseItem (k : ItemKind) (x : Subject) (s : State) : QueueTold s (raiseItem k x s) := insertItem ..

theorem endItem (k : ItemKind) (x : Subject) (s : State) : QueueTold s (endItem k x s) := by
  unfold Machine.endItem
  split
  · split
    · split
      · exact removeItem ..
      · exact changeItem ..
    · exact refl s
  · exact clearDue ..

theorem endCallItem (k : ItemKind) (x : Subject) (s : State) : QueueTold s (endCallItem k x s) := by
  unfold Machine.endCallItem
  split
  · exact removeItem ..
  · exact clearDue ..

end QueueTold

/-! ## The order computed at a poll (R131) -/

theorem Order.worse_eq_hold {a b : Order} : a.worse b = .hold ↔ a = .hold ∨ b = .hold := by
  cases a <;> cases b <;> decide

theorem Order.worse_ne_go {a b : Order} : a.worse b ≠ .go ↔ a ≠ .go ∨ b ≠ .go := by
  cases a <;> cases b <;> decide

theorem Order.le_worse (a b : Order) : a.code.toNat ≤ (a.worse b).code.toNat := by
  cases a <;> cases b <;> decide

/-- An order is HOLD where it is one to hold, and SLOW where it is at least one to slow. -/
theorem Order.eq_of_iff {o : Order} {hold slow : Prop} (hh : o = .hold ↔ hold) (hs : o ≠ .go ↔ hold ∨ slow) :
    (hold → o = .hold) ∧ (¬ hold → slow → o = .slow) ∧ (¬ hold → ¬ slow → o = .go) := by
  refine ⟨hh.2, fun hn hslow => ?_, fun hn hno => ?_⟩
  · have hnot := hs.2 (.inr hslow)
    have hnh := mt hh.1 hn
    cases o <;> simp_all
  · by_contra hgo
    exact (hs.1 hgo).elim hn hno

section Order

variable {t : Truck} {s : State}

theorem airOrder_eq_hold {k : TruckKind} {a : AirState} : airOrder k a = .hold ↔ a = .trip ∨ (a = .danger ∧ k = .diesel) := by
  cases k <;> cases a <;> decide

theorem airOrder_ne_go {k : TruckKind} {a : AirState} : airOrder k a ≠ .go ↔ a ≠ .clear := by
  cases k <;> cases a <;> decide

theorem evacOrder_ne_hold (e : EvacState) : evacOrder e ≠ .hold := by cases e <;> decide

theorem evacOrder_ne_go {e : EvacState} : evacOrder e ≠ .go ↔ e = .ordered := by cases e <;> decide

theorem zoneOrder_eq_hold {k : TruckKind} {o : Option (Fin 32)} : zoneOrder k o s = .hold
    ↔ ∃ z, o = some z ∧ ((s.zone z).reported = .trip ∨ ((s.zone z).reported = .danger ∧ k = .diesel)) := by
  cases o with
  | none => simp [zoneOrder]
  | some z =>
    simp only [zoneOrder, Order.worse_eq_hold, airOrder_eq_hold, or_iff_left (evacOrder_ne_hold _), Option.some.injEq,
      exists_eq_left']

theorem zoneOrder_ne_go {k : TruckKind} {o : Option (Fin 32)} : zoneOrder k o s ≠ .go
    ↔ ∃ z, o = some z ∧ ((s.zone z).reported ≠ .clear ∨ (s.zone z).evac = .ordered) := by
  cases o with
  | none => simp [zoneOrder]
  | some z =>
    simp only [zoneOrder, Order.worse_ne_go, airOrder_ne_go, evacOrder_ne_go, Option.some.injEq, exists_eq_left']

theorem entryOrder_eq_hold {o : Option Entry} : entryOrder o = .hold ↔ ∃ z, o = some { zone := z, status := .deferred } := by
  unfold entryOrder
  cases o with
  | none => simp
  | some e =>
    obtain ⟨z, status⟩ := e
    cases status <;> simp

theorem entryOrder_ne_go {o : Option Entry} : entryOrder o ≠ .go ↔ entryOrder o = .hold := by
  unfold entryOrder
  cases o with
  | none => simp
  | some e => by_cases h : e.status = .deferred <;> simp [h]

theorem proximityOrder_eq_hold {close : Nat} {l : List Proximity} : proximityOrder close l = .hold ↔ ∃ e ∈ l, close ≤ e.level := by
  unfold proximityOrder
  simp only [List.any_eq_true, decide_eq_true_eq]
  split
  next h => exact iff_of_true rfl h
  next h => split <;> simp [h]

theorem proximityOrder_ne_go {close : Nat} {l : List Proximity} : proximityOrder close l ≠ .go ↔ l ≠ [] := by
  unfold proximityOrder
  cases l with
  | nil => simp
  | cons e l => simp only [List.isEmpty_cons, Bool.false_eq_true, if_false]; split <;> simp

/-- A zone that contributes to a truck's order: its held zone, its granted zone or its own. -/
def Truck.isNear (t : Truck) (z : Fin 32) : Prop :=
  t.held = some z ∨ t.entry = some { zone := z, status := .granted } ∨ t.zone = some z

theorem Truck.exists_isNear {P : Fin 32 → Prop} : (∃ z, t.isNear z ∧ P z)
    ↔ ((∃ z, t.held = some z ∧ P z) ∨ ∃ z, t.grantedZone = some z ∧ P z) ∨ ∃ z, t.zone = some z ∧ P z := by
  simp only [Truck.isNear, ← Truck.grantedZone_eq_some_iff, or_and_right, exists_or, or_assoc]

theorem truckOrder_eq_hold : truckOrder t s = .hold ↔
    (∃ z, t.isNear z ∧ ((s.zone z).reported = .trip ∨ ((s.zone z).reported = .danger ∧ t.kind = .diesel)))
      ∨ (∃ z, t.entry = some { zone := z, status := .deferred }) ∨ t.intrusion = true
      ∨ (∃ e ∈ t.proximity, s.hlk.closeLevel ≤ e.level) ∨ t.forced = some .hold := by
  have halone : (if s.hlk.alone = true then Order.slow else .go) ≠ .hold := by split <;> decide
  have hintrusion : (if t.intrusion = true then Order.hold else .go) = .hold ↔ t.intrusion = true := by split <;> simp [*]
  have hforced : t.forced.getD .go = .hold ↔ t.forced = some .hold := by cases t.forced <;> simp
  simp only [truckOrder, unforcedOrder, Order.worse_eq_hold, zoneOrder_eq_hold, entryOrder_eq_hold, proximityOrder_eq_hold,
    hintrusion, hforced, or_iff_left halone, Truck.exists_isNear, or_assoc]

theorem truckOrder_ne_go : truckOrder t s ≠ .go ↔
    (∃ z, t.isNear z ∧ ((s.zone z).reported ≠ .clear ∨ (s.zone z).evac = .ordered))
      ∨ (∃ z, t.entry = some { zone := z, status := .deferred }) ∨ t.intrusion = true ∨ t.proximity ≠ []
      ∨ s.hlk.alone = true ∨ ∃ o, t.forced = some o ∧ o ≠ .go := by
  have halone : (if s.hlk.alone = true then Order.slow else .go) ≠ .go ↔ s.hlk.alone = true := by split <;> simp [*]
  have hintrusion : (if t.intrusion = true then Order.hold else .go) ≠ .go ↔ t.intrusion = true := by split <;> simp [*]
  have hforced : t.forced.getD .go ≠ .go ↔ ∃ o, t.forced = some o ∧ o ≠ .go := by cases t.forced <;> simp
  simp only [truckOrder, unforcedOrder, Order.worse_ne_go, zoneOrder_ne_go, entryOrder_ne_go, entryOrder_eq_hold,
    proximityOrder_ne_go, hintrusion, hforced, halone, Truck.exists_isNear, or_assoc]

theorem AirState.ne_clear_iff {a : AirState} : a ≠ .clear ↔ a = .trip ∨ a = .danger ∨ a = .caution ∨ a = .unknown := by
  cases a <;> decide

theorem Order.ne_go_iff {o : Order} : o ≠ .go ↔ o = .hold ∨ o = .slow := by cases o <;> decide

/-- An order is more than GO where something in it is to hold, or something in it is to slow. -/
theorem truckOrder_ne_go_iff : truckOrder t s ≠ .go ↔
    ((∃ z, t.isNear z ∧ ((s.zone z).reported = .trip ∨ ((s.zone z).reported = .danger ∧ t.kind = .diesel)))
      ∨ (∃ z, t.entry = some { zone := z, status := .deferred }) ∨ t.intrusion = true
      ∨ (∃ e ∈ t.proximity, s.hlk.closeLevel ≤ e.level) ∨ t.forced = some .hold)
    ∨ ((∃ z, t.isNear z ∧ ((s.zone z).reported = .danger ∨ (s.zone z).reported = .caution
        ∨ (s.zone z).reported = .unknown ∨ (s.zone z).evac = .ordered))
      ∨ t.proximity ≠ [] ∨ s.hlk.alone = true ∨ t.forced = some .slow) := by
  rw [truckOrder_ne_go]
  simp only [AirState.ne_clear_iff, Order.ne_go_iff]
  constructor
  · rintro (⟨z, hz, (h | h | h | h) | h⟩ | h | h | h | h | ⟨o, h, rfl | rfl⟩)
    · exact .inl (.inl ⟨z, hz, .inl h⟩)
    · exact .inr (.inl ⟨z, hz, .inl h⟩)
    · exact .inr (.inl ⟨z, hz, .inr (.inl h)⟩)
    · exact .inr (.inl ⟨z, hz, .inr (.inr (.inl h))⟩)
    · exact .inr (.inl ⟨z, hz, .inr (.inr (.inr h))⟩)
    · exact .inl (.inr (.inl h))
    · exact .inl (.inr (.inr (.inl h)))
    · exact .inr (.inr (.inl h))
    · exact .inr (.inr (.inr (.inl h)))
    · exact .inl (.inr (.inr (.inr (.inr h))))
    · exact .inr (.inr (.inr (.inr h)))
  · rintro ((⟨z, hz, h | ⟨h, -⟩⟩ | h | h | ⟨e, he, -⟩ | h) | (⟨z, hz, h | h | h | h⟩ | h | h | h))
    · exact .inl ⟨z, hz, .inl (.inl h)⟩
    · exact .inl ⟨z, hz, .inl (.inr (.inl h))⟩
    · exact .inr (.inl h)
    · exact .inr (.inr (.inl h))
    · exact .inr (.inr (.inr (.inl (List.ne_nil_of_mem he))))
    · exact .inr (.inr (.inr (.inr (.inr ⟨_, h, .inl rfl⟩))))
    · exact .inl ⟨z, hz, .inl (.inr (.inl h))⟩
    · exact .inl ⟨z, hz, .inl (.inr (.inr (.inl h)))⟩
    · exact .inl ⟨z, hz, .inl (.inr (.inr (.inr h)))⟩
    · exact .inl ⟨z, hz, .inr h⟩
    · exact .inr (.inr (.inr (.inl h)))
    · exact .inr (.inr (.inr (.inr (.inl h))))
    · exact .inr (.inr (.inr (.inr (.inr ⟨_, h, .inr rfl⟩))))

end Order

/-! ## A truck's record rewritten -/

/-- A truck's record has become another, and beside it only the queue has changed, with ATTENTION at most among the flags. -/
structure Rewritten (n : Nat) (u : Truck) (s t : State) : Prop where
  only : t = { s with
    hlk := { s.hlk with trucks := t.hlk.trucks }, atq := t.atq
    hpt := { s.hpt with flags := { s.hpt.flags with attention := t.hpt.flags.attention } } }
  truck : t.truck n = some u
  other : ∀ m, m ≠ n → t.truck m = s.truck m

namespace Rewritten

variable {n : Nat} {u u' : Truck} {s t v : State}

theorem refl (h : s.truck n = some u) : Rewritten n u s s := ⟨rfl, h, fun _ _ => rfl⟩

theorem trans (h : Rewritten n u s t) (k : Rewritten n u' t v) : Rewritten n u' s v := by
  refine ⟨?_, k.truck, fun m hm => (k.other m hm).trans (h.other m hm)⟩
  have hk := k.only
  rw [h.only] at hk
  exact hk

theorem modifyTruck {f : Truck → Truck} (hu : s.truck n = some u) (hf : ∀ t, (f t).number = t.number) :
    Rewritten n (f u) s (s.modifyTruck n f) := by
  refine ⟨?_, ?_, fun m hm => ?_⟩
  · rw [modifyTruck_only]
  · rw [truck_modifyTruck hf, if_pos rfl, hu, Option.map_some]
  · rw [truck_modifyTruck hf, if_neg hm]

theorem queue (h : Rewritten n u s t) (k : QueueTold t v) : Rewritten n u s v := by
  have htrucks : v.hlk.trucks = t.hlk.trucks := by rw [k.only]
  exact h.trans ⟨k.only.trans (by rw [htrucks]), (truck_congr htrucks n).trans h.truck, fun m _ => truck_congr htrucks m⟩

end Rewritten

/-! ## Missed polls and lapses (R119) -/

theorem judgeLapse_kept {n : Nat} {s : State} (h : ∀ u, s.truck n = some u → ¬ (u.state = .linked ∧ s.hlk.lapseLimit ≤ u.missed)) :
    judgeLapse n s = s := by
  unfold judgeLapse
  cases hu : s.truck n with
  | none => rfl
  | some u => exact if_neg (h u hu)

/-- A LINKED truck at the lapse limit is LAPSED, and its LINK_LOST is raised. -/
theorem judgeLapse_lapsed {n : Nat} {u : Truck} {s : State} (hu : s.truck n = some u)
    (h : u.state = .linked ∧ s.hlk.lapseLimit ≤ u.missed) :
    Rewritten n { u with state := .lapsed } s (judgeLapse n s) ∧ Raised .linkLost (.truck n) (judgeLapse n s) := by
  unfold judgeLapse
  simp only [hu, if_pos h]
  exact ⟨(Rewritten.modifyTruck (f := fun t => { t with state := .lapsed }) hu fun _ => rfl).queue (.raiseItem ..), raised_raiseItem (by decide) _⟩

/-- A truck's missed polls counted up to the ceiling of 15. -/
def countMissed (n : Nat) (s : State) : State := s.modifyTruck n (fun t => { t with missed := min 15 (t.missed + 1) })

theorem countMissed_frames (n : Nat) (s : State) :
    countMissed n s = { s with hlk := { s.hlk with trucks := (countMissed n s).hlk.trucks } } := modifyTruck_only ..

theorem judgePreviousPoll_answered {n : Nat} {u : Truck} {s : State} (hu : s.truck n = some u)
    (h : ¬ (u.lastPoll ≠ none ∧ u.answered = false)) : judgePreviousPoll n s = s := by
  simp only [judgePreviousPoll, hu]
  exact if_neg fun hc => h ⟨Option.isSome_iff_ne_none.1 hc.1, hc.2⟩

theorem judgePreviousPoll_unanswered {n : Nat} {u : Truck} {s : State} (hu : s.truck n = some u)
    (h : u.lastPoll ≠ none ∧ u.answered = false) : judgePreviousPoll n s = judgeLapse n (countMissed n s) := by
  simp only [judgePreviousPoll, hu]
  exact if_pos ⟨Option.isSome_iff_ne_none.2 h.1, h.2⟩

/-- A poll's judgement of the previous poll leaves a record that has been answered, counts one that has not, and takes one at
the lapse limit as LAPSED. -/
theorem judgePreviousPoll_spec {n : Nat} {u : Truck} {s : State} (hu : s.truck n = some u) :
    let unanswered := u.lastPoll ≠ none ∧ u.answered = false
    let missed := if unanswered then min 15 (u.missed + 1) else u.missed
    let lapses := unanswered ∧ u.state = .linked ∧ s.hlk.lapseLimit ≤ missed
    Rewritten n { u with missed := missed, state := if lapses then .lapsed else u.state } s (judgePreviousPoll n s)
      ∧ (lapses → Raised .linkLost (.truck n) (judgePreviousPoll n s))
      ∧ (¬ lapses → (judgePreviousPoll n s).atq = s.atq) := by
  intro unanswered missed lapses
  by_cases hun : unanswered
  · have hmissed : missed = min 15 (u.missed + 1) := if_pos hun
    have hcounted : Rewritten n { u with missed := missed } s (countMissed n s) := by
      rw [hmissed]
      exact Rewritten.modifyTruck (f := fun t => { t with missed := min 15 (t.missed + 1) }) hu fun _ => rfl
    have hlimit : (countMissed n s).hlk.lapseLimit = s.hlk.lapseLimit := by rw [countMissed_frames]
    rw [judgePreviousPoll_unanswered hu hun]
    by_cases hl : lapses
    · obtain ⟨hlapsed, hraised⟩ := judgeLapse_lapsed hcounted.truck (by rw [hlimit]; exact hl.2)
      rw [if_pos hl]
      exact ⟨hcounted.trans hlapsed, fun _ => hraised, fun h => absurd hl h⟩
    · rw [if_neg hl, judgeLapse_kept fun v hv => by
        rw [hcounted.truck] at hv
        rw [← Option.some.inj hv, hlimit]
        exact fun h => hl ⟨hun, h⟩]
      exact ⟨hcounted, fun h => absurd h hl, fun _ => by rw [countMissed_frames]⟩
  · have hl : ¬ lapses := fun h => hun h.1
    rw [judgePreviousPoll_answered hu hun, if_neg hl, show missed = u.missed from if_neg hun]
    exact ⟨.refl hu, fun h => absurd h hl, fun _ => rfl⟩

/-! ## POLL (R118, R120) -/

/-- A truck's record when it has been polled with an order. -/
def Truck.polledWith (order : Order) (stamp : SlotStamp) (t : Truck) : Truck :=
  { t with lastPoll := some stamp, answered := false, lastOrder := some order, polled := true }

/-- The message of a truck's poll. -/
def Truck.pollMessage (n : Nat) (u : Truck) (s : State) : Outbound := .truckPoll n (truckOrder u s) u.grantedZone u.intrusion

theorem sendPoll_of {n : Nat} {u : Truck} {s : State} (hu : s.truck n = some u) : sendPoll n s =
    (writeHolding (u.pollMessage n s) s).modifyTruck n (Truck.polledWith (truckOrder u s) s.stamp) := by
  simp only [sendPoll, hu]
  rfl

/-- A poll sends the order computed for its truck, and records what it sent. -/
theorem sendPoll_spec {n : Nat} {u : Truck} {s : State} (hu : s.truck n = some u) :
    let t := sendPoll n s
    t = { s with
        flk := { s.flk with holding := some { message := u.pollMessage n s, stamp := s.stamp } }
        hlk := { s.hlk with trucks := t.hlk.trucks }, hpt := { s.hpt with flags := t.hpt.flags } }
      ∧ t.truck n = some (u.polledWith (truckOrder u s) s.stamp)
      ∧ (∀ m, m ≠ n → t.truck m = s.truck m)
      ∧ (t.hpt.flags.txLate = true ↔ s.hpt.flags.txLate = true ∨ ∃ h, s.flk.holding = some h ∧ h.stamp ≠ s.stamp) := by
  intro t
  have ht : t = (writeHolding (u.pollMessage n s) s).modifyTruck n (Truck.polledWith (truckOrder u s) s.stamp) := sendPoll_of hu
  have hlate := writeHolding_txLate (u.pollMessage n s) s
  have honly := writeHolding_only (u.pollMessage n s) s
  have hwritten := truck_congr (congrArg HaulLink.trucks (writeHolding_hlk (u.pollMessage n s) s))
  generalize writeHolding (u.pollMessage n s) s = w at *
  have hframes := modifyTruck_only n (Truck.polledWith (truckOrder u s) s.stamp) w
  have hrewritten := Rewritten.modifyTruck (f := Truck.polledWith (truckOrder u s) s.stamp) ((hwritten n).trans hu) fun _ => rfl
  rw [← ht] at hframes hrewritten
  refine ⟨?_, hrewritten.truck, fun m hm => (hrewritten.other m hm).trans (hwritten m), ?_⟩
  · rw [honly] at hframes
    generalize t = t' at hframes ⊢
    rw [hframes]
  · rw [← hlate, hframes]

/-- A slot start that polls no truck: not HAUL, no cursor, or a truck that has polled this frame (R118). -/
theorem pollSlot_idle {s : State} (h : s.slotClass ≠ .haul ∨ s.hlk.cursor = none
    ∨ ∃ n u, s.hlk.cursor = some n ∧ s.truck n = some u ∧ u.polled = true) : pollSlot s = s := by
  unfold pollSlot
  rcases h with h | h | ⟨n, u, hn, hu, hp⟩
  · exact if_neg h
  · simp only [h, ite_self]
  · simp only [hn, hu, hp, if_true, ite_self]

theorem pollSlot_polls {n : Nat} {u : Truck} {s : State} (hclass : s.slotClass = .haul) (hn : s.hlk.cursor = some n)
    (hu : s.truck n = some u) (hp : u.polled = false) :
    pollSlot s = advanceCursor n (sendPoll n (judgePreviousPoll n s)) := by
  simp only [pollSlot, hclass, hn, hu, hp, if_true, Bool.false_eq_true, if_false]

/-- Settles O47: the orders by their contributions, a poll by its judgement, its order and its record. -/
theorem haulSlotPollsTheTruckAtTheCursor : Obligations.HaulSlotPollsTheTruckAtTheCursor := by
  intro s hs s0
  have hpoll : exec .poll s = .next (takePoll s) := congrArg _ (unlessReset_high hs _)
  refine ⟨fun u => Order.le_worse .., fun h => ?_, fun h hidle => ?_, fun n u h hclass hn hu hp => ?_, fun number => ⟨fun h => ?_,
    fun u hu hstate hlimit => ?_⟩⟩
  · rw [hpoll, takePoll, h, if_neg Bool.false_ne_true]
  · rw [hpoll, takePoll, if_pos h, pollSlot_idle (s := s0) hidle]
  · intro unanswered missed lapses near hold slow late
    have hrun : exec .poll s = .next (advanceCursor n (sendPoll n (judgePreviousPoll n s0))) := by
      rw [hpoll, takePoll, if_pos h, pollSlot_polls (s := s0) hclass hn hu hp]
    obtain ⟨hjudged, hraised, hatq⟩ := judgePreviousPoll_spec (s := s0) hu
    rw [hrun]
    generalize judgePreviousPoll n s0 = v at *
    obtain ⟨honly, htruck, hother, hlate⟩ := sendPoll_spec hjudged.truck
    generalize sendPoll n v = t at *
    have hv := hjudged.only
    have horder : truckOrder { u with missed := missed, state := if lapses then .lapsed else u.state } v = truckOrder u s := by
      rw [hv]
      rfl
    have hstamp : v.stamp = s.stamp := by rw [hv]; rfl
    have hlist : v.hlk.pollList = s.hlk.pollList := by rw [hv]
    have hpolled : t.hlk.pollList = s.hlk.pollList := by rw [honly, ← hlist]
    have hclassed := Order.eq_of_iff (o := truckOrder u s) (hold := hold) (slow := slow) truckOrder_eq_hold
      truckOrder_ne_go_iff
    refine ⟨advanceCursor n t, truckOrder u s, rfl, hclassed.1, hclassed.2.1, hclassed.2.2, ?_, fun m hm => ?_, ?_, ?_,
      fun hl => ?_, fun hl => ?_, ?_, ?_, ?_, ?_, fun before m rest hl hb => ?_, fun m rest hl hb => ?_, fun hl => ?_⟩
    · rw [horder, hstamp] at htruck
      exact htruck
    · exact (hother m hm).trans (hjudged.other m hm)
    · show t.flk = _
      rw [honly]
      show ({ v.flk with holding := some { message := .truckPoll n (truckOrder _ v) _ _, stamp := v.stamp } } : FieldLink) = _
      rw [horder, hstamp, show v.flk = s.flk by rw [hv]]
      rfl
    · refine hlate.trans ?_
      rw [hstamp, hv]
    · exact raised_congr (show (advanceCursor n t).atq = v.atq by rw [show (advanceCursor n t).atq = t.atq from rfl, honly]) (hraised hl)
    · show t.atq = _
      rw [honly]
      exact hatq hl
    · exact hpolled
    · show t.znt = _
      rw [honly, hv]
    · show t.rst = _
      rw [honly, hv]
    · show t.frt = _
      rw [honly, hv]
    · rw [advanceCursor, hpolled, hl, following_inner hb]
    · rw [advanceCursor, hpolled, hl, following_last hb]
    · rw [advanceCursor, hpolled, hl, following_alone]
  · exact congrArg _ ((unlessReset_high hs _).trans (judgeLapse_kept h))
  · obtain ⟨hlapsed, hraised⟩ := judgeLapse_lapsed hu ⟨hstate, hlimit⟩
    refine ⟨_, congrArg Host.Outcome.next (unlessReset_high hs _), ?_, hlapsed.truck, hlapsed.other, hraised⟩
    have honly := hlapsed.only
    generalize judgeLapse number.toNat s = t at *
    rw [honly]

end Sys2Proof.Machine
end

section
/-! The call channels at a change of the usable count (R162) and at a VOICE slot start (R161). -/

namespace Sys2Proof.Machine

open Sys2Proof.Safety (ChannelsAgree)

/-! ## The usable channel count (R162) -/

/-- A record whose call, where it is CONNECTED on one of the channels of a list, has ended. -/
def Person.withoutCallOn (l : List (Fin 4)) (p : Person) : Person :=
  if p.callState = .connected ∧ ∃ c ∈ l, p.callChannel = some c then p.withoutCall else p

theorem Person.withoutCallOn_nil (p : Person) : p.withoutCallOn [] = p := if_neg fun ⟨_, _, h, _⟩ => absurd h List.not_mem_nil

theorem Person.withoutCallOn_cons (c : Fin 4) (l : List (Fin 4)) (p : Person) :
    (p.withoutCallOn [c]).withoutCallOn l = p.withoutCallOn (c :: l) := by
  unfold Person.withoutCallOn
  by_cases hc : p.callState = .connected ∧ p.callChannel = some c
  · have hfirst : p.callState = .connected ∧ ∃ d ∈ [c], p.callChannel = some d := ⟨hc.1, c, List.mem_cons_self, hc.2⟩
    have hall : p.callState = .connected ∧ ∃ d ∈ c :: l, p.callChannel = some d := ⟨hc.1, c, List.mem_cons_self, hc.2⟩
    rw [if_pos hfirst, if_pos hall]
    exact if_neg fun h => nomatch h.1
  · have hfirst : ¬ (p.callState = .connected ∧ ∃ d ∈ [c], p.callChannel = some d) := fun ⟨hs, d, hd, hp⟩ =>
      hc ⟨hs, List.mem_singleton.1 hd ▸ hp⟩
    rw [if_neg hfirst]
    refine if_congr (and_congr_right fun hs => ?_) rfl rfl
    simp only [List.mem_cons, or_and_right, exists_or, exists_eq_left, or_iff_right fun hp => hc ⟨hs, hp⟩]

/-- The calls on the channels of a list have ended, and the channels are FREE. -/
structure Narrowed (l : List (Fin 4)) (s t : State) : Prop where
  only : t = { s with rst := { s.rst with slots := t.rst.slots }, cal := { s.cal with channels := t.cal.channels } }
  channel : ∀ c : Fin 4, t.cal.channels[c] = if c ∈ l then none else s.cal.channels[c]
  slot : ∀ i, t.slot i = { gen := (s.slot i).gen, person := (s.person i).map (Person.withoutCallOn l) }

theorem Narrowed.nil (s : State) : Narrowed [] s s := by
  refine ⟨rfl, fun c => (if_neg List.not_mem_nil).symm, fun i => ?_⟩
  rw [show Person.withoutCallOn [] = id from funext Person.withoutCallOn_nil, Option.map_id]
  rfl

theorem Narrowed.cons {c : Fin 4} {l : List (Fin 4)} {s t u : State} (h : Narrowed [c] s t) (k : Narrowed l t u) :
    Narrowed (c :: l) s u := by
  refine ⟨?_, fun d => ?_, fun i => ?_⟩
  · have hk := k.only
    rw [h.only] at hk
    exact hk
  · rw [k.channel, h.channel]
    by_cases hd : d = c
    · simp [hd]
    · simp [hd]
  · rw [k.slot, State.person, h.slot, Option.map_map]
    refine congrArg (fun f => Slot.mk _ (Option.map f (s.person i))) (funext fun p => ?_)
    exact Person.withoutCallOn_cons c l p

/-- A record CONNECTED after a channel's call has ended was CONNECTED on another channel before. -/
theorem Narrowed.connected {c : Fin 4} {s t : State} (h : Narrowed [c] s t) {i : Fin 240} {p : Person} (hp : t.person i = some p)
    (hc : p.callState = .connected) : s.person i = some p ∧ p.callChannel ≠ some c := by
  obtain ⟨q, hq, hqp⟩ := Option.map_eq_some_iff.1 ((congrArg Slot.person (h.slot i)).symm.trans hp)
  unfold Person.withoutCallOn at hqp
  split at hqp
  next =>
    rw [← hqp] at hc
    cases hc
  next hn =>
    rw [← hqp] at hc ⊢
    exact ⟨hq, fun hch => hn ⟨hc, c, List.mem_cons_self, hch⟩⟩

theorem Narrowed.kept {c : Fin 4} {s t : State} (h : Narrowed [c] s t) {i : Fin 240} {p : Person} (hp : s.person i = some p)
    (hc : p.callChannel ≠ some c) : t.person i = some p := by
  refine (congrArg Slot.person (h.slot i)).trans ?_
  rw [hp, Option.map_some, Person.withoutCallOn, if_neg fun ⟨_, d, hd, hch⟩ => hc (List.mem_singleton.1 hd ▸ hch)]

theorem Narrowed.agrees {c : Fin 4} {s t : State} (h : Narrowed [c] s t) (hs : ChannelsAgree s) : ChannelsAgree t := by
  obtain ⟨hheld, hconnected⟩ := hs
  have hgen : ∀ i, (t.slot i).gen = (s.slot i).gen := fun i => (congrArg Slot.gen (h.slot i)).trans rfl
  refine ⟨fun d a hd => ?_, fun i p hp hc => ?_⟩
  · rw [h.channel] at hd
    split at hd
    next => cases hd
    next hdc =>
      obtain ⟨p, hn, hc, hch⟩ := hheld d a hd
      obtain ⟨hp, hg⟩ := named_eq_some_iff.1 hn
      refine ⟨p, named_eq_some_iff.2 ⟨h.kept hp fun he => hdc ?_, (hgen _).trans hg⟩, hc, hch⟩
      exact List.mem_singleton.2 (Option.some.inj (hch.symm.trans he))
  · obtain ⟨hps, hne⟩ := h.connected hp hc
    obtain ⟨d, hch, hd⟩ := hconnected i p hps hc
    refine ⟨d, hch, ?_⟩
    rw [h.channel, if_neg fun hm => hne (by rw [hch, List.mem_singleton.1 hm]), hd, State.handle, State.handle, hgen]

/-- The end of the call on a channel that is no longer usable. -/
def narrowChannel (c : Fin 4) (s : State) : State :=
  match s.cal.channels[c] with
  | some h => endConnected h.slot s
  | none => s

theorem narrowCalls_eq (n : Nat) (s : State) : narrowCalls n s =
    forEach (allCallChannels.filter (fun c => decide (n ≤ c.val))) narrowChannel { s with cal := { s.cal with usable := n } } := rfl

/-- A record that is not CONNECTED on a channel keeps its place when the channel's call ends. -/
theorem slot_of_not_on {c : Fin 4} {s : State} {i : Fin 240}
    (h : ∀ p, s.person i = some p → p.callState = .connected → p.callChannel ≠ some c) :
    s.slot i = { gen := (s.slot i).gen, person := (s.person i).map (Person.withoutCallOn [c]) } := by
  cases hp : s.person i with
  | none => exact slot_of_person_none hp
  | some p =>
    rw [Option.map_some, Person.withoutCallOn, if_neg fun ⟨hcon, d, hd, hch⟩ =>
      h p hp hcon (hch.trans (congrArg some (List.mem_singleton.1 hd)))]
    exact slot_of_person hp

theorem narrowed_narrowChannel (c : Fin 4) {s : State} (hs : ChannelsAgree s) : Narrowed [c] s (narrowChannel c s) := by
  obtain ⟨hheld, hconnected⟩ := hs
  have hon : ∀ i p, s.person i = some p → p.callState = .connected → p.callChannel = some c →
      s.cal.channels[c] = some (s.handle i) := fun i p hp hcon hch => by
    obtain ⟨d, hd, hheld⟩ := hconnected i p hp hcon
    rwa [Option.some.inj (hch.symm.trans hd)]
  unfold narrowChannel
  cases hc : s.cal.channels[c] with
  | none =>
    refine ⟨rfl, fun d => ?_, fun i => slot_of_not_on fun p hp hcon hch => ?_⟩
    · by_cases hd : d ∈ [c]
      · rw [if_pos hd, List.mem_singleton.1 hd, hc]
      · exact (if_neg hd).symm
    · exact absurd ((hon i p hp hcon hch).symm.trans hc) (Option.some_ne_none _)
  | some a =>
    obtain ⟨p, hn, hcon, hch⟩ := hheld c a hc
    obtain ⟨hp, hg⟩ := named_eq_some_iff.1 hn
    have hfreed : (freeCallChannel (some c) s).person a.slot = some p := hp
    have hend : endConnected a.slot s = (freeCallChannel (some c) s).modifyPerson a.slot Person.withoutCall := by
      simp only [endConnected, hp, hcon, hch]
    show Narrowed [c] s (endConnected a.slot s)
    rw [hend]
    refine ⟨rfl, fun d => ?_, fun i => ?_⟩
    · show (s.cal.channels.set c none)[d] = _
      simp only [Fin.getElem_fin, Vector.getElem_set, List.mem_singleton, Fin.ext_iff, eq_comm]
    · by_cases hi : i = a.slot
      · subst hi
        rw [slot_modifyPerson_self hfreed, freeCallChannel_slot, hp, Option.map_some, Person.withoutCallOn,
          if_pos ⟨hcon, c, List.mem_cons_self, hch⟩]
      · rw [slot_modifyPerson_of_ne hi]
        refine slot_of_not_on fun q hq hqcon hqch => hi ?_
        exact (congrArg Handle.slot (Option.some.inj (hc.symm.trans (hon i q hq hqcon hqch)))).symm

theorem narrowed_forEach (l : List (Fin 4)) {s : State} (hs : ChannelsAgree s) : Narrowed l s (forEach l narrowChannel s) := by
  induction l generalizing s with
  | nil => exact .nil s
  | cons c l ih =>
    have h := narrowed_narrowChannel c hs
    exact h.cons (ih (h.agrees hs))

/-! ## The channel hold (R161) -/

theorem callStart_le_of_voice {s : State} (h : s.slotClass = .voice) : s.frt.active.callStart ≤ s.frt.slot := by
  unfold State.slotClass slotClass at h
  split_ifs at h
  next hin => exact hin.1

theorem holdChannel_guard {s : State} (h : s.slotClass ≠ .voice) : holdChannel s = s := if_neg h

/-- A VOICE slot's channel, where it is usable. -/
theorem heldChannel_eq_some {s : State} (hv : s.slotClass = .voice) {c : Fin 4} :
    allCallChannels.find? (fun c => c.val == s.frt.slot - s.frt.active.callStart && decide (c.val < s.cal.usable)) = some c
      ↔ s.frt.slot = s.frt.active.callStart + c.val ∧ c.val < s.cal.usable := by
  have hle := callStart_le_of_voice hv
  have hpick : ∀ d : Fin 4, (d.val == s.frt.slot - s.frt.active.callStart && decide (d.val < s.cal.usable)) = true
      ↔ s.frt.slot = s.frt.active.callStart + d.val ∧ d.val < s.cal.usable := fun d => by
    rw [Bool.and_eq_true, beq_iff_eq, decide_eq_true_eq]
    exact and_congr_left fun _ => by omega
  constructor
  · exact fun h => (hpick c).1
      (List.find?_some (p := fun d : Fin 4 => d.val == s.frt.slot - s.frt.active.callStart && decide (d.val < s.cal.usable)) h)
  · refine fun h => find?_finRange ((hpick c).2 h) fun d hd => Bool.eq_false_iff.2 fun hc => ?_
    have := (hpick d).1 hc
    have := Fin.lt_def.1 hd
    omega

theorem holdChannel_free {s : State} (h : ∀ c : Fin 4, s.frt.slot = s.frt.active.callStart + c.val → c.val < s.cal.usable →
    s.cal.channels[c] = none) : holdChannel s = s := by
  unfold holdChannel
  split
  next hv =>
    cases hf : allCallChannels.find? (fun c => c.val == s.frt.slot - s.frt.active.callStart && decide (c.val < s.cal.usable)) with
    | none => rfl
    | some c =>
      obtain ⟨hslot, hlt⟩ := (heldChannel_eq_some hv).1 hf
      simp only [h c hslot hlt]
  next => rfl

theorem holdChannel_held {s : State} {c : Fin 4} {a : Handle} {p : Person} (hv : s.slotClass = .voice)
    (hslot : s.frt.slot = s.frt.active.callStart + c.val) (hlt : c.val < s.cal.usable) (hc : s.cal.channels[c] = some a)
    (hn : s.named a = some p) : holdChannel s = writeHolding (.channelHold c p.tag) s := by
  simp only [holdChannel, if_pos hv, (heldChannel_eq_some hv).2 ⟨hslot, hlt⟩, hc, hn]

/-- A state with the count that its active windows give, taken. -/
def State.recounted (n : Nat) (s : State) : State :=
  { s with handed := { s.handed with usable := false }, cal := { s.cal with usable := n } }

/-- Settles O53: the channels at or above the count, in ascending order, and the slot's own channel. -/
theorem callChannelsAreNarrowedAndHeld : Obligations.CallChannelsAreNarrowedAndHeld := by
  intro s hs hagree n s0
  have husable : exec .usableChannelCount s = .next (takeUsable s) := congrArg Host.Outcome.next (unlessReset_high hs _)
  have hhold : exec .channelHold s = .next (takeHold s) := congrArg Host.Outcome.next (unlessReset_high hs _)
  refine ⟨fun h => ?_, fun h => ?_, fun h => ?_, fun h hidle => ?_, fun c a p h hv hslot hlt hc hp => ?_⟩
  · rw [husable, takeUsable, h, if_neg Bool.false_ne_true]
  · have hmem : ∀ c : Fin 4, c ∈ allCallChannels.filter (fun c => decide (n ≤ c.val)) ↔ n ≤ c.val := fun c => by
      rw [List.mem_filter, decide_eq_true_eq]
      exact and_iff_right (List.mem_finRange c)
    have hrun : exec .usableChannelCount s =
        .next (forEach (allCallChannels.filter (fun c => decide (n ≤ c.val))) narrowChannel (s.recounted n)) := by
      rw [husable, takeUsable, if_pos h, narrowCalls_eq]
      rfl
    obtain ⟨honly, hchannel, hslot⟩ :=
      narrowed_forEach (allCallChannels.filter (fun c => decide (n ≤ c.val))) (s := s.recounted n) hagree
    generalize allCallChannels.filter (fun c => decide (n ≤ c.val)) = l at *
    generalize forEach l narrowChannel (s.recounted n) = t at *
    have hon : ∀ p : Person, (p.callState = .connected ∧ ∃ c ∈ l, p.callChannel = some c)
        ↔ ∃ c : Fin 4, p.callState = .connected ∧ p.callChannel = some c ∧ n ≤ c.val := fun p => by
      simp only [hmem, exists_and_left, and_comm]
    have hperson : ∀ i p, s.person i = some p → t.person i = some (p.withoutCallOn l) := fun i p hp =>
      (congrArg Slot.person (hslot i)).trans (congrArg (Option.map _) hp)
    refine ⟨t, hrun, ?_, ?_, fun c => ?_, fun i => ⟨?_, fun hp => ?_, fun p hp => ⟨fun hc => ?_, fun hc => ?_⟩⟩⟩
    · rw [honly]
      rfl
    · rw [honly]
      rfl
    · refine (hchannel c).trans ?_
      by_cases hc : n ≤ c.val
      · rw [if_pos ((hmem c).2 hc), if_neg (by omega)]
      · rw [if_neg (mt (hmem c).1 hc), if_pos (by omega)]
        rfl
    · exact (congrArg Slot.gen (hslot i)).trans rfl
    · exact (congrArg Slot.person (hslot i)).trans (congrArg (Option.map _) hp)
    · exact (hperson i p hp).trans (congrArg some (if_pos ((hon p).2 hc)))
    · exact (hperson i p hp).trans (congrArg some (if_neg (mt (hon p).1 hc)))
  · rw [hhold, takeHold, h, if_neg Bool.false_ne_true]
  · rw [hhold, takeHold, if_pos h]
    exact congrArg Host.Outcome.next (hidle.elim (holdChannel_guard (s := s0)) (holdChannel_free (s := s0)))
  · have hn : s.named a = some p := by
      obtain ⟨q, hq, -⟩ := hagree.1 c a hc
      exact hq.trans (hp ▸ (named_eq_some_iff.1 hq).1.symm)
    have hrun : exec .channelHold s = .next (writeHolding (.channelHold c p.tag) s0) := by
      rw [hhold, takeHold, if_pos h, holdChannel_held (s := s0) hv hslot hlt hc hn]
    exact ⟨_, hrun, writeHolding_only .., writeHolding_txLate ..⟩

end Sys2Proof.Machine
end

section
/-! Tests and trips of a channel (R106, R108, R109), and the judgements of a channel's counts (R99, R102, R103, R109). -/

namespace Sys2Proof.Machine

open Sys2Proof.Safety (Ready answered taken QueueHolds NotRaised)

/-! ## Changes of a channel (R21) -/

/-- A change of a channel depends on what it makes of the channel's record alone. -/
theorem modifyChannel_congr {c : Fin 32} {f g : Channel → Channel} {s : State} (h : f (s.channel c) = g (s.channel c)) :
    s.modifyChannel c f = s.modifyChannel c g := by
  unfold State.modifyChannel
  rw [h]

theorem changeChannel_congr {c : Fin 32} {f g : Channel → Channel} {s : State} (h : f (s.channel c) = g (s.channel c)) :
    changeChannel c f s = changeChannel c g s := by
  unfold changeChannel
  dsimp only
  rw [modifyChannel_congr h, h]

/-- A change of a channel, where its reported or its real state changes, is one whose zone has been recomputed. -/
theorem rejudged_changeChannel (c : Fin 32) (f : Channel → Channel) (s : State) :
    (changeChannel c f s).air = (s.modifyChannel c f).air ∧ KeepsRoll s (changeChannel c f s) := by
  have hroll := (RollStays.modifyChannel c f s).keeps
  unfold changeChannel
  dsimp only
  split
  · exact ⟨rfl, hroll⟩
  · have h := Rejudged.recomputeZone? (f (s.channel c)).zone (s.modifyChannel c f)
    exact ⟨h.air, hroll.trans h.roll⟩

theorem channel_of_air {s t : State} (h : t.air = s.air) (d : Fin 32) : t.channel d = s.channel d := by
  rw [State.channel, h]
  rfl

theorem channel_changeChannel (c d : Fin 32) (f : Channel → Channel) (s : State) :
    (changeChannel c f s).channel d = if d = c then f (s.channel c) else s.channel d :=
  (channel_of_air (rejudged_changeChannel c f s).1 d).trans (channel_modifyChannel ..)

theorem queueHolds_changeChannel {c : Fin 32} {f : Channel → Channel} {s : State} (h : QueueHolds s.atq) :
    QueueHolds (changeChannel c f s).atq := (rejudged_changeChannel c f s).2.queue h

/-! ## TEST_CHANNEL and CANCEL_TEST (R108, R109) -/

theorem ChannelState.ofByte?_eq_some_iff {b : Byte} {x : ChannelState} : ChannelState.ofByte? b = some x ↔ x.code = b := by
  constructor
  · intro h
    unfold ChannelState.ofByte? at h
    split at h
    all_goals cases h
    all_goals next hb => exact (code_eq hb).symm
  · rintro rfl
    cases x <;> rfl

/-- A forced state is CAUTION, DANGER or TRIP. -/
theorem forced?_eq_some_iff {b : Byte} {x : ChannelState} :
    forced? b = some x ↔ (x = .caution ∨ x = .danger ∨ x = .trip) ∧ x.code = b := by
  constructor
  · intro h
    unfold forced? at h
    split at h <;> cases h
    next hb => exact ⟨.inl rfl, ChannelState.ofByte?_eq_some_iff.1 hb⟩
    next hb => exact ⟨.inr (.inl rfl), ChannelState.ofByte?_eq_some_iff.1 hb⟩
    next hb => exact ⟨.inr (.inr rfl), ChannelState.ofByte?_eq_some_iff.1 hb⟩
  · rintro ⟨rfl | rfl | rfl, rfl⟩ <;> rfl

theorem forced?_eq_none {b : Byte} (h : b.toNat < 3 ∨ 5 < b.toNat) : forced? b = none := by
  cases hf : forced? b with
  | none => rfl
  | some x =>
    obtain ⟨hx, rfl⟩ := forced?_eq_some_iff.1 hf
    rcases hx with rfl | rfl | rfl <;> revert h <;> decide

theorem reqTestChannel_refused {channel forced sweeps : Byte} {s : State}
    (h : 32 ≤ channel.toNat ∨ forced.toNat < 3 ∨ 5 < forced.toNat ∨ sweeps = 0) :
    reqTestChannel channel forced sweeps s = s.refuse .badArgument := by
  unfold reqTestChannel
  cases hf : forced? forced with
  | none => rfl
  | some x =>
    have hin : ¬ (forced.toNat < 3 ∨ 5 < forced.toNat) := fun hc => by
      rw [forced?_eq_none hc] at hf
      cases hf
    show (if sweeps = 0 then _ else withChannel ..) = _
    split
    next => rfl
    next hs => exact withChannel_refused (by tauto) _ s

theorem reqTestChannel_valid {channel forced sweeps : Byte} {s : State} {c : Fin 32} {x : ChannelState}
    (hc : channel.toNat = c.val) (hx : x = .caution ∨ x = .danger ∨ x = .trip) (hf : x.code = forced) (hs : sweeps ≠ 0) :
    reqTestChannel channel forced sweeps s =
      if (s.channel c).real = .off ∨ (s.channel c).real = .trip then s.refuse .refused
      else (changeChannel c (fun r => { r with test := some { forced := x, remaining := sweeps.toNat } }) s).done := by
  simp only [reqTestChannel, forced?_eq_some_iff.2 ⟨hx, hf⟩, if_neg hs, withChannel_of hc]

/-- A trip is not held where the last good reading is below the caution level. -/
theorem holdsTrip_eq_false_iff {r : Channel} : r.holdsTrip = false ↔ ∃ v, r.reading = some v ∧ v < r.levels.caution := by
  unfold Channel.holdsTrip
  cases r.reading <;> simp

theorem exec_cancelTest {s : State} (hr : Ready s) (channel : Byte) :
    exec (.cancelTest channel) s = .next (reqCancelTest channel (taken s)) := exec_admitted hr rfl rfl rfl

theorem exec_resetTrip {s : State} (hr : Ready s) (channel : Byte) :
    exec (.resetTrip channel) s = .next (reqResetTrip channel (taken s)) := exec_admitted hr rfl rfl rfl

/-- Settles O38: each request by its arguments and by the channel's state. -/
theorem testsAndTripsAreSetAndReleased : Obligations.TestsAndTripsAreSetAndReleased := by
  intro channel forced sweeps s hr
  refine ⟨fun hrun => ?_, fun h => ⟨?_, ?_⟩, fun c hc => ?_⟩
  · have hexec : exec (.testChannel channel forced sweeps) s = .next (reqTestChannel channel forced sweeps (taken s)) :=
      exec_admitted_running hr hrun rfl rfl rfl
    refine ⟨fun h => ?_, fun c x hc hx hf hs => ⟨fun h => ?_, fun hoff htrip => ?_⟩⟩
    · rw [hexec, reqTestChannel_refused h, refuse_taken]
    · rw [hexec, reqTestChannel_valid hc.symm hx hf hs, if_pos (show ((taken s).channel c).real = .off ∨ ((taken s).channel c).real = .trip from h), refuse_taken]
    · rw [hexec, reqTestChannel_valid hc.symm hx hf hs]
      exact congrArg Host.Outcome.next (if_neg fun h => h.elim hoff htrip)
  · rw [exec_cancelTest hr, reqCancelTest, withChannel_refused h, refuse_taken]
  · rw [exec_resetTrip hr, reqResetTrip, withChannel_refused h, refuse_taken]
  · intro r free
    refine ⟨fun h => ?_, fun h => ?_, fun h => ?_, fun h => ?_⟩
    · simp only [exec_cancelTest hr, reqCancelTest, withChannel_of hc.symm, show ((taken s).channel c).test = none from h,
        refuse_taken]
    · obtain ⟨x, hx⟩ := Option.ne_none_iff_exists'.1 h
      simp only [exec_cancelTest hr, reqCancelTest, withChannel_of hc.symm, show ((taken s).channel c).test = some x from hx]
    · have hheld : r.real ≠ .trip ∨ r.faultFlag = true ∨ r.holdsTrip = true := by
        by_contra hn
        simp only [not_or, not_not, Bool.not_eq_true] at hn
        exact h ⟨hn.1, hn.2.1, holdsTrip_eq_false_iff.1 hn.2.2⟩
      rw [exec_resetTrip hr, reqResetTrip, withChannel_of hc.symm, ← refuse_taken]
      exact congrArg Host.Outcome.next (if_pos hheld)
    · have hfree : ¬ (r.real ≠ .trip ∨ r.faultFlag = true ∨ r.holdsTrip = true) := by
        simp only [not_or, not_not, Bool.not_eq_true]
        exact ⟨h.1, h.2.1, holdsTrip_eq_false_iff.2 h.2.2⟩
      rw [exec_resetTrip hr, reqResetTrip, withChannel_of hc.symm]
      exact congrArg Host.Outcome.next (if_neg hfree)

/-! ## The judgements of one channel (R99, R102, R103, R109) -/

theorem isJudged_channelState_iff (x : ChannelState) : x.isJudged = true ↔ x = .normal ∨ x = .caution ∨ x = .danger := by
  cases x <;> decide

theorem ranOut_rise {r : Channel} {x : ChannelState} (h : r.run = .rise x) :
    r.ranOut = { r with real := x, run := .noRun, runCount := 0 } := by
  simp only [Channel.ranOut, h]
  rfl

theorem ranOut_fall {r : Channel} (hj : r.real = .normal ∨ r.real = .caution ∨ r.real = .danger) (h : r.run = .fall) :
    r.ranOut = { r with real := if r.real = .danger then .caution else .normal, run := .noRun, runCount := 0 } := by
  have hlow : r.real.lowered = if r.real = .danger then .caution else .normal := by
    rcases hj with hj | hj | hj <;> rw [hj] <;> rfl
  simp only [Channel.ranOut, h, hlow]
  rfl

/-- Settles O39: each judgement by its count, and the change it makes where the count is reached. -/
theorem channelCountsAreJudged : Obligations.ChannelCountsAreJudged := by
  intro c s hs r judged
  have hrun : ∀ f : State → State, Host.Outcome.next (unlessReset f s) = (.next (f s) : Host.Outcome State Fault Refusal) :=
    fun f => congrArg _ (unlessReset_high hs f)
  have hjudge : r.real.isJudged = true ∧ r.persistence ≤ r.runCount ↔ judged ∧ r.persistence ≤ r.runCount :=
    and_congr_left fun _ => isJudged_channelState_iff r.real
  refine ⟨fun h => ?_, fun hw h4 => ?_, fun h => ?_, fun hj h x hx => ?_, fun hj h hx => ?_, fun h => ?_, fun hf h => ?_, fun h => ?_,
    fun x hx h0 => ?_⟩
  · exact (hrun _).trans (congrArg _ (if_neg h))
  · exact (hrun _).trans (congrArg _ (if_pos ⟨hw, h4⟩))
  · exact (hrun _).trans (congrArg _ (if_neg (mt hjudge.1 h)))
  · refine (hrun _).trans (congrArg _ ((if_pos (hjudge.2 ⟨hj, h⟩)).trans (changeChannel_congr ?_)))
    exact ranOut_rise hx
  · refine (hrun _).trans (congrArg _ ((if_pos (hjudge.2 ⟨hj, h⟩)).trans (changeChannel_congr ?_)))
    exact ranOut_fall hj hx
  · exact (hrun _).trans (congrArg _ (if_neg h))
  · have hcleared := channel_changeChannel c (f := Channel.faultCleared) (s := s)
    have hchannel : ∀ d, (endItem .channelFault (.channel c) (changeChannel c Channel.faultCleared s)).channel d =
        if d = c then r.faultCleared else s.channel d := fun d =>
      (channel_of_air (endItem_air ..) d).trans (hcleared d)
    refine ⟨_, (hrun _).trans (congrArg _ (if_pos ⟨hf, h⟩)), (hchannel c).trans (if_pos rfl), fun d hd => ?_, fun hq => ?_⟩
    · exact (hchannel d).trans (if_neg hd)
    · exact notRaised_endItem (queueHolds_changeChannel hq)
  · refine (hrun _).trans (congrArg _ ?_)
    unfold judgeTest
    cases ht : (s.channel c).test with
    | none => rfl
    | some x => exact if_neg (h x ht)
  · refine (hrun _).trans (congrArg _ ?_)
    simp only [judgeTest, show (s.channel c).test = some x from hx, if_pos h0]

end Sys2Proof.Machine
end

section
/-! The choice of a sweep at a slot start (R92), and the levels that a sweep's start applies (R107). -/

namespace Sys2Proof.Machine

/-! ## The channels of a list changed -/

theorem modifyChannels_only (f : Channel → Channel) (l : List (Fin 32)) (s : State) :
    forEach l (fun c => State.modifyChannel c f) s =
      { s with air := { s.air with channels := (forEach l (fun c => State.modifyChannel c f) s).air.channels } } := by
  induction l generalizing s with
  | nil => rfl
  | cons c l ih => exact (ih (s.modifyChannel c f)).trans rfl

theorem channel_modifyChannels (f : Channel → Channel) {l : List (Fin 32)} (hl : l.Nodup) (s : State) (d : Fin 32) :
    (forEach l (fun c => State.modifyChannel c f) s).channel d = if d ∈ l then f (s.channel d) else s.channel d := by
  induction l generalizing s with
  | nil => exact (if_neg List.not_mem_nil).symm
  | cons c l ih =>
    obtain ⟨hc, hl⟩ := List.nodup_cons.1 hl
    rw [forEach_cons, ih hl, channel_modifyChannel]
    by_cases hd : d = c
    · rw [if_neg (hd ▸ hc), if_pos hd, if_pos (hd ▸ List.mem_cons_self), hd]
    · simp only [hd, if_false, List.mem_cons, false_or]

theorem enabled_withLevelsApplied (r : Channel) : r.withLevelsApplied.enabled = r.enabled := by
  unfold Channel.withLevelsApplied
  split <;> rfl

/-! ## The start of a sweep (R92, R107) -/

/-- A sweep converts its group's channels, or the one channel that it confirms. -/
theorem converts_iff {w : Sweep} {c : Fin 32} :
    w.converts c = true ↔ (∃ g : Fin 8, w = .group g ∧ c.val % 8 = g.val) ∨ w = .confirm c := by
  unfold Sweep.converts
  cases w with
  | noSweep => simp
  | group g => simp
  | confirm d =>
    simp only [beq_iff_eq, reduceCtorEq, false_and, exists_false, false_or, Sweep.confirm.injEq]
    exact eq_comm

theorem withLevelsApplied_eq (r : Channel) : r.withLevelsApplied = (match r.pendingLevels with
    | some l => { r with levels := l, pendingLevels := none, run := .noRun, runCount := 0 }
    | none => r) := by
  unfold Channel.withLevelsApplied
  cases r.pendingLevels <;> rfl

/-- A turn's begin reads the sweep and the channel's enable flag, and writes the select lines and the turn's life. -/
theorem beginTurn_of {s : State} {c : Fin 32} (h : s.air.sweep.channelAt s.air.turnsDone = some c) :
    beginTurn s = { s with air := { s.air with select := Fin.ofNat 4 (c.val / 8), turnLive := (s.channel c).enabled } } := by
  simp only [beginTurn, h]

/-- A started sweep, its first turn on a channel. -/
structure Started (w : Sweep) (c : Fin 32) (s t : State) : Prop where
  only : t = { s with air := { s.air with
    sweep := w, buffer := Vector.replicate 4 none, turnsDone := 0, channels := t.air.channels
    select := Fin.ofNat 4 (c.val / 8), turnLive := (s.channel c).enabled } }
  channel : ∀ d, t.channel d = if w.converts d then (s.channel d).withLevelsApplied else s.channel d

theorem started_startSweep {w : Sweep} {c : Fin 32} (h : w.channelAt 0 = some c) (s : State) : Started w c s (startSweep w s) := by
  unfold startSweep
  dsimp only
  have honly := modifyChannels_only Channel.withLevelsApplied (allChannels.filter w.converts)
    { s with air := { s.air with sweep := w, buffer := Vector.replicate 4 none, turnsDone := 0 } }
  have hchannel := channel_modifyChannels Channel.withLevelsApplied ((List.nodup_finRange 32).filter w.converts)
    { s with air := { s.air with sweep := w, buffer := Vector.replicate 4 none, turnsDone := 0 } }
  change ∀ d, (forEach (allChannels.filter w.converts) _ _).channel d = _ at hchannel
  generalize forEach (allChannels.filter w.converts) (fun c => State.modifyChannel c Channel.withLevelsApplied)
    { s with air := { s.air with sweep := w, buffer := Vector.replicate 4 none, turnsDone := 0 } } = v at *
  have hchannel' : ∀ d, v.channel d = if w.converts d then (s.channel d).withLevelsApplied else s.channel d := fun d => by
    refine (hchannel d).trans (if_congr ?_ rfl rfl)
    rw [List.mem_filter]
    exact and_iff_right (List.mem_finRange d)
  have hsweep : v.air.sweep.channelAt v.air.turnsDone = some c := by rw [honly]; exact h
  have henabled : (v.channel c).enabled = (s.channel c).enabled := by
    rw [hchannel']
    split
    · exact enabled_withLevelsApplied _
    · rfl
  rw [beginTurn_of hsweep, henabled]
  refine ⟨?_, hchannel'⟩
  rw [honly]

/-! ## The choice of a group (R92) -/

theorem inGroupSet_iff {groups : BitVec 8} {g : Fin 8} : inGroupSet groups g = true ↔ groups.getLsbD g.val = true := .rfl

theorem nextGroup_some {groups : BitVec 8} {last g : Fin 8} {k : Nat} (hlo : 1 ≤ k) (hhi : k ≤ 8) (hk : (last.val + k) % 8 = g.val)
    (hg : groups.getLsbD g.val = true) (hbefore : ∀ j, 1 ≤ j → j < k → groups.getLsbD ((last.val + j) % 8) = false) :
    nextGroup groups last = some g := by
  have hfind : (List.range 8).find? (fun j => groups.getLsbD ((last.val + 1 + j) % 8)) = some (k - 1) := by
    rw [List.find?_range_eq_some]
    refine ⟨?_, List.mem_range.2 (by omega), fun j hj => ?_⟩
    · rw [show last.val + 1 + (k - 1) = last.val + k by omega, hk, hg]
    · rw [show last.val + 1 + j = last.val + (j + 1) by omega, hbefore (j + 1) (by omega) (by omega)]
      rfl
  unfold nextGroup
  rw [List.find?_map, show (inGroupSet groups ∘ fun j => Fin.ofNat 8 (last.val + 1 + j))
    = fun j => groups.getLsbD ((last.val + 1 + j) % 8) from rfl, hfind, Option.map_some]
  refine congrArg some (Fin.ext ?_)
  show (last.val + 1 + (k - 1)) % 8 = g.val
  rw [show last.val + 1 + (k - 1) = last.val + k by omega, hk]

theorem nextGroup_zero (last : Fin 8) : nextGroup 0 last = none := by
  refine List.find?_eq_none.2 fun g _ => ?_
  simp [inGroupSet]

theorem chosenGroup_zero (s : State) : chosenGroup 0 s = none := by
  have hno : ∀ g, inGroupSet 0 g = false := fun g => by simp [inGroupSet]
  unfold chosenGroup
  split
  next => rw [hno, if_neg Bool.false_ne_true, nextGroup_zero]
  next => exact nextGroup_zero _

theorem chosenGroup_resume {groups : BitVec 8} {s : State} {g : Fin 8} (h : s.air.resume = some g)
    (hg : groups.getLsbD g.val = true) : chosenGroup groups s = some g := by
  simp only [chosenGroup, h, inGroupSet_iff.2 hg, if_true]

theorem chosenGroup_next {groups : BitVec 8} {s : State}
    (h : ∀ g : Fin 8, s.air.resume = some g → groups.getLsbD g.val = false) :
    chosenGroup groups s = nextGroup groups s.air.lastGroup := by
  unfold chosenGroup
  cases hr : s.air.resume with
  | none => rfl
  | some g => exact if_neg (by rw [inGroupSet_iff, h g hr]; exact Bool.false_ne_true)

/-! ## SWEEP_START (R92) -/

theorem sweepAtSlotStart_idle {s : State} (h : s.air.sweep ≠ .noSweep ∨ s.air.mode = .idle) : sweepAtSlotStart s = s :=
  if_neg fun hc => h.elim (· hc.1) hc.2

theorem sweepAtSlotStart_confirm {s : State} (hs : s.air.sweep = .noSweep) (hm : s.air.mode ≠ .idle) {c : Fin 32}
    {l : List (Fin 32)} (h : s.air.confirmList = c :: l) : sweepAtSlotStart s = startSweep (.confirm c) s := by
  simp only [sweepAtSlotStart, if_pos (And.intro hs hm), h]

/-- The set that the sequencer sweeps: the enable set in SCAN, the once set in ONCE. -/
def IsSwept (groups : BitVec 8) (s : State) : Prop :=
  (s.air.mode = .scan ∧ groups = s.air.enableSet) ∨ (s.air.mode = .once ∧ groups = s.air.onceSet)

theorem sweepAtSlotStart_group {s : State} (hs : s.air.sweep = .noSweep) (h : s.air.confirmList = []) {groups : BitVec 8}
    (hg : IsSwept groups s) : sweepAtSlotStart s = startGroup groups s := by
  rcases hg with ⟨hm, rfl⟩ | ⟨hm, rfl⟩ <;> simp [sweepAtSlotStart, hs, h, hm]

theorem sweepAtSlotStart_paused {s : State} (h : s.air.confirmList = []) (hm : s.air.mode = .paused) : sweepAtSlotStart s = s := by
  simp [sweepAtSlotStart, h, hm]

theorem channelAt_group_zero {g : Fin 8} {c : Fin 32} (h : c.val = g.val) : (Sweep.group g).channelAt 0 = some c := by
  refine congrArg some (Fin.ext ?_)
  show (g.val + 8 * (0 % 4)) % 32 = c.val
  omega

/-- Settles O41: the choice by the mode, the confirm list, the set and the resume group. -/
theorem slotStartChoosesASweep : Obligations.SlotStartChoosesASweep := by
  intro s hs s0 swept chosen
  have hexec : exec .sweepStart s = .next (takeSweep s) := congrArg Host.Outcome.next (unlessReset_high hs _)
  refine ⟨fun h => ?_, fun h hidle => ?_, fun h hsw hl hm => ?_, fun h hsw hl h0 => ?_, fun h hsw hm w hw => ?_⟩
  · rw [hexec, takeSweep, h, if_neg Bool.false_ne_true]
  · rw [hexec, takeSweep, if_pos h, sweepAtSlotStart_idle (s := s0) hidle]
  · rw [hexec, takeSweep, if_pos h, sweepAtSlotStart_paused (s := s0) hl hm]
  · rw [hexec, takeSweep, if_pos h, sweepAtSlotStart_group (s := s0) hsw hl h0, startGroup, chosenGroup_zero]
  · have hstart : ∀ (c : Fin 32) (v t : State), Started w c v t → t.air.resume = v.air.resume := fun c v t h => by rw [h.only]
    have happlied : ∀ (c : Fin 32) (v t : State), Started w c v t → v.air.channels = s.air.channels → ∀ d,
        (((∃ g : Fin 8, w = .group g ∧ d.val % 8 = g.val) ∨ w = .confirm d) →
            t.channel d = (match (s.channel d).pendingLevels with
              | some l => { s.channel d with levels := l, pendingLevels := none, run := .noRun, runCount := 0 }
              | none => s.channel d))
          ∧ (¬ ((∃ g : Fin 8, w = .group g ∧ d.val % 8 = g.val) ∨ w = .confirm d) → t.channel d = s.channel d) := by
      intro c v t h hv d
      have hd : v.channel d = s.channel d := by rw [State.channel, hv]; rfl
      rw [← converts_iff, h.channel, hd, ← withLevelsApplied_eq]
      exact ⟨fun hc => if_pos hc, fun hc => if_neg hc⟩
    rcases hw with ⟨c, l, hl, rfl⟩ | ⟨hl, groups, g, hg, hbit, rfl, hnext⟩
    · have hstarted := started_startSweep (w := .confirm c) (c := c) rfl s0
      have hrun : exec .sweepStart s = .next (startSweep (.confirm c) s0) := by
        rw [hexec, takeSweep, if_pos h, sweepAtSlotStart_confirm (s := s0) hsw hm hl]
      generalize startSweep (.confirm c) s0 = t at *
      refine ⟨t, hrun, ?_, fun d hd => ⟨hstart c s0 t hstarted, ?_, ?_⟩, fun g d hd => (by cases hd),
        happlied c s0 t hstarted rfl⟩
      · rw [hstarted.only]
      · rw [← Sweep.confirm.inj hd, hstarted.only]
        exact Nat.mod_eq_of_lt (by omega)
      · rw [← Sweep.confirm.inj hd, hstarted.only]
        rfl
    · have hchosen : chosenGroup groups s0 = some g := by
        rcases hnext with hresume | ⟨hno, k, hlo, hhi, hk, hbefore⟩
        · exact chosenGroup_resume (s := s0) hresume hbit
        · exact (chosenGroup_next (s := s0) hno).trans (nextGroup_some hlo hhi hk hbit hbefore)
      have hfirst : (Sweep.group g).channelAt 0 = some (Fin.ofNat 32 g.val) :=
        channelAt_group_zero (Nat.mod_eq_of_lt (by omega))
      have hstarted := started_startSweep hfirst { s0 with air := { s.air with resume := none } }
      have hrun : exec .sweepStart s = .next (startSweep (.group g) { s0 with air := { s.air with resume := none } }) := by
        rw [hexec, takeSweep, if_pos h, sweepAtSlotStart_group (s := s0) hsw hl hg, startGroup, hchosen]
      generalize startSweep (.group g) { s0 with air := { s.air with resume := none } } = t at *
      refine ⟨t, hrun, ?_, fun c hc => (by cases hc), fun g' d hg' hd => ⟨hstart _ _ t hstarted, ?_, ?_⟩,
        happlied _ _ t hstarted rfl⟩
      · rw [hstarted.only]
      · rw [hstarted.only]
        refine Fin.ext ?_
        show (g.val % 32 / 8) % 4 = 0
        omega
      · have hd' : Fin.ofNat 32 g.val = d := Fin.ext (by
          rw [hd, ← Sweep.group.inj hg']
          exact Nat.mod_eq_of_lt (by omega))
        rw [hstarted.only, hd']
        rfl

end Sys2Proof.Machine
end

section
/-! Levels and switches of a channel (R107, R110, R111): SET_LEVELS, CHANNEL_ON and CHANNEL_OFF. -/

namespace Sys2Proof.Machine

open Sys2Proof.Safety (Ready answered taken QueueHolds NotRaised)

/-! ## Levels (R98, R107) -/

theorem wellOrdered_iff {g : Gas} {caution danger : Nat} {trip : Option Nat} : wellOrdered g caution danger trip = true
    ↔ (g = .methane → ∃ t, trip = some t ∧ caution < danger ∧ danger < t) ∧ (g = .carbonMonoxide → caution < danger)
      ∧ (g = .oxygen ∨ g = .airflow → danger < caution) := by
  cases g with
  | methane => cases trip <;> simp [wellOrdered]
  | carbonMonoxide => simp [wellOrdered]
  | oxygen => simp [wellOrdered]
  | airflow => simp [wellOrdered]

theorem validLevel_iff {b : Byte} : validLevel b = true ↔ 1 ≤ b.toNat ∧ b.toNat ≤ 254 := within_eq_true_iff

theorem exec_setLevels {s : State} (hr : Ready s) (channel caution danger : Byte) :
    exec (.setLevels channel caution danger) s = .next (reqSetLevels channel caution danger (taken s)) :=
  exec_admitted hr rfl rfl rfl

theorem exec_channelOn {s : State} (hr : Ready s) (channel : Byte) :
    exec (.channelOn channel) s = .next (reqChannelOn channel (taken s)) := exec_admitted hr rfl rfl rfl

theorem exec_channelOff {s : State} (hr : Ready s) (channel : Byte) :
    exec (.channelOff channel) s = .next (reqChannelOff channel (taken s)) := exec_admitted hr rfl rfl rfl

/-- The levels given are in range and well ordered for the channel's gas. -/
def Channel.admits (r : Channel) (caution danger : Byte) : Prop :=
  (validLevel caution && validLevel danger && wellOrdered r.gas caution.toNat danger.toNat r.tripLevel) = true

theorem Channel.admits_iff {r : Channel} {caution danger : Byte} : r.admits caution danger ↔
    1 ≤ caution.toNat ∧ caution.toNat ≤ 254 ∧ 1 ≤ danger.toNat ∧ danger.toNat ≤ 254
      ∧ (r.gas = .methane → ∃ t, r.tripLevel = some t ∧ caution.toNat < danger.toNat ∧ danger.toNat < t)
      ∧ (r.gas = .carbonMonoxide → caution.toNat < danger.toNat)
      ∧ (r.gas = .oxygen ∨ r.gas = .airflow → danger.toNat < caution.toNat) := by
  unfold Channel.admits
  rw [Bool.and_eq_true, Bool.and_eq_true, validLevel_iff, validLevel_iff, wellOrdered_iff]
  simp only [and_assoc]

theorem reqSetLevels_refused {channel caution danger : Byte} {c : Fin 32} {s : State} (hc : channel.toNat = c.val)
    (h : ¬ (s.channel c).admits caution danger) : reqSetLevels channel caution danger s = s.refuse .badArgument := by
  rw [reqSetLevels, withChannel_of hc]
  exact if_neg h

theorem reqSetLevels_setup {channel caution danger : Byte} {c : Fin 32} {s : State} (hc : channel.toNat = c.val)
    (h : (s.channel c).admits caution danger) (hp : s.hpt.phase = .setup) : reqSetLevels channel caution danger s =
      (s.modifyChannel c (fun r =>
        { r with levels := { caution := caution.toNat, danger := danger.toNat }, pendingLevels := none })).done := by
  unfold Channel.admits at h
  simp only [reqSetLevels, withChannel_of hc, h, if_true, hp]

theorem reqSetLevels_running {channel caution danger : Byte} {c : Fin 32} {s : State} (hc : channel.toNat = c.val)
    (h : (s.channel c).admits caution danger) (hp : s.hpt.phase = .running) : reqSetLevels channel caution danger s =
      (s.modifyChannel c (fun r =>
        { r with pendingLevels := some { caution := caution.toNat, danger := danger.toNat } })).done := by
  unfold Channel.admits at h
  simp only [reqSetLevels, withChannel_of hc, h, if_true, hp]

/-! ## CHANNEL_ON (R110) -/

theorem reqChannelOn_setup {channel : Byte} {c : Fin 32} {s : State} (hc : channel.toNat = c.val) (hz : (s.channel c).zone ≠ none)
    (h : (s.channel c).enabled = false) (hp : s.hpt.phase = .setup) :
    reqChannelOn channel s = (s.modifyChannel c (fun r => { r with enabled := true })).done := by
  simp only [reqChannelOn, withChannel_of hc, if_neg hz, h, Bool.false_eq_true, if_false, hp]

theorem reqChannelOn_running {channel : Byte} {c : Fin 32} {s : State} (hc : channel.toNat = c.val)
    (hz : (s.channel c).zone ≠ none) (h : (s.channel c).enabled = false) (hp : s.hpt.phase = .running) :
    reqChannelOn channel s = (changeChannel c (fun r =>
      { r.runCleared.warming with enabled := true, goodCount := 0, faultFlag := false }) s).done := by
  simp only [reqChannelOn, withChannel_of hc, if_neg hz, h, Bool.false_eq_true, if_false, hp]

/-! ## A channel leaves the sequencer (R111) -/

/-- The turn of a sweep in flight that is a channel's, where it has one. -/
def Sweep.turnIs (w : Sweep) (c : Fin 32) (k : Nat) : Prop := w = .confirm c ∨ ∃ g : Fin 8, w = .group g ∧ c.val = g.val + 8 * k

/-- A channel off the confirm list and out of the sweep in flight. -/
structure OffSequence (c : Fin 32) (s t : State) : Prop where
  only : t = { s with air := { s.air with
    sweep := t.air.sweep, buffer := t.air.buffer, turnLive := t.air.turnLive, channels := t.air.channels
    confirmList := s.air.confirmList.filter (fun d => d != c) } }
  channel : ∀ d, t.channel d = if d = c then { s.channel c with confirmPending := false } else s.channel d
  sweep : t.air.sweep = if s.air.sweep = .confirm c then .noSweep else s.air.sweep
  dropped : ∀ k : Fin 4, s.air.sweep.turnIs c k.val → t.air.buffer[k] = none
  stored : ∀ k : Fin 4, ¬ s.air.sweep.turnIs c k.val → t.air.buffer[k] = s.air.buffer[k]
  dead : s.air.sweep.turnIs c s.air.turnsDone → t.air.turnLive = false
  live : ¬ s.air.sweep.turnIs c s.air.turnsDone → t.air.turnLive = s.air.turnLive

theorem leaveConfirmList_channel (c d : Fin 32) (s : State) :
    (leaveConfirmList c s).channel d = if d = c then { s.channel c with confirmPending := false } else s.channel d :=
  channel_modifyChannel ..

theorem turnIs_confirm (c : Fin 32) (k : Nat) : (Sweep.confirm c).turnIs c k := .inl rfl

/-- A group sweep's turn of a channel is the one at the channel's selector position. -/
theorem turnIs_group_iff {g : Fin 8} {c : Fin 32} {k : Nat} :
    (Sweep.group g).turnIs c k ↔ c.val % 8 = g.val ∧ c.val / 8 = k := by
  simp only [Sweep.turnIs, reduceCtorEq, false_or, Sweep.group.injEq, exists_eq_left']
  omega

theorem abortConfirm_other {c : Fin 32} {s : State} (h : s.air.sweep ≠ .confirm c) : abortConfirm c s = s := if_neg h

theorem dropReading_other {c : Fin 32} {s : State} (h : ∀ g : Fin 8, s.air.sweep = .group g → c.val % 8 ≠ g.val) :
    dropReading c s = s := by
  unfold dropReading
  split
  next g hg => exact if_neg (h g hg)
  all_goals rfl

theorem dropReading_group {c : Fin 32} {s : State} {g : Fin 8} (h : s.air.sweep = .group g) (hc : c.val % 8 = g.val) :
    dropReading c s = { s with air := { s.air with
      buffer := s.air.buffer.set (Fin.ofNat 4 (c.val / 8)) none
      turnLive := s.air.turnLive && s.air.turnsDone != c.val / 8 } } := by
  simp only [dropReading, h, if_pos hc]

theorem offSequence (c : Fin 32) (s : State) : OffSequence c s (dropReading c (leaveConfirmList c (abortConfirm c s))) := by
  by_cases hconfirm : s.air.sweep = .confirm c
  · have habort : abortConfirm c s =
        { s with air := { s.air with sweep := .noSweep, buffer := Vector.replicate 4 none, turnLive := false } } :=
      if_pos hconfirm
    have hturn : ∀ k, s.air.sweep.turnIs c k := fun k => hconfirm ▸ turnIs_confirm c k
    rw [dropReading_other (by rw [habort]; exact nofun), habort]
    refine ⟨rfl, fun d => leaveConfirmList_channel .., (if_pos hconfirm).symm, fun k _ => ?_, fun k h => absurd (hturn k) h,
      fun _ => rfl, fun h => absurd (hturn _) h⟩
    exact Vector.getElem_replicate _
  · rw [abortConfirm_other hconfirm]
    by_cases hgroup : ∃ g : Fin 8, s.air.sweep = .group g ∧ c.val % 8 = g.val
    · obtain ⟨g, hg, hc⟩ := hgroup
      have hturn : ∀ k, s.air.sweep.turnIs c k ↔ c.val / 8 = k := fun k => by
        rw [hg, turnIs_group_iff]
        exact and_iff_right hc
      have hposition : ∀ k : Fin 4, (Fin.ofNat 4 (c.val / 8)).val = k.val ↔ c.val / 8 = k.val := fun k => by
        rw [Fin.val_ofNat, Nat.mod_eq_of_lt (by omega)]
      rw [dropReading_group (s := leaveConfirmList c s) hg hc]
      refine ⟨rfl, fun d => leaveConfirmList_channel .., (if_neg hconfirm).symm, fun k h => ?_, fun k h => ?_, fun h => ?_,
        fun h => ?_⟩
      · exact (Vector.getElem_set (Fin.is_lt _) _).trans (if_pos ((hposition k).2 ((hturn k).1 h)))
      · exact (Vector.getElem_set (Fin.is_lt _) _).trans (if_neg (mt (hposition k).1 (mt (hturn k).2 h)))
      · have hnow : s.air.turnsDone = c.val / 8 := ((hturn _).1 h).symm
        show (s.air.turnLive && s.air.turnsDone != c.val / 8) = false
        rw [hnow, bne_self_eq_false, Bool.and_false]
      · have hnow : s.air.turnsDone ≠ c.val / 8 := Ne.symm (mt (hturn _).2 h)
        show (s.air.turnLive && s.air.turnsDone != c.val / 8) = s.air.turnLive
        rw [bne_iff_ne.2 hnow, Bool.and_true]
    · have hno : ∀ k, ¬ s.air.sweep.turnIs c k := fun k h => by
        rcases h with h | ⟨g, hg, hc⟩
        · exact hconfirm h
        · exact hgroup ⟨g, hg, by omega⟩
      rw [dropReading_other (s := leaveConfirmList c s) fun g hg hc => hgroup ⟨g, hg, hc⟩]
      exact ⟨rfl, fun d => leaveConfirmList_channel .., (if_neg hconfirm).symm, fun k h => absurd h (hno _), fun k _ => rfl,
        fun h => absurd h (hno _), fun _ => rfl⟩

/-! ## CHANNEL_OFF (R111) -/

/-- A zone whose channel has changed its reported or its real state agrees with its channels. -/
theorem agreesAt_changeChannel {c : Fin 32} {f : Channel → Channel} {s : State} {z : Fin 32}
    (hz : (f (s.channel c)).zone = some z)
    (h : ¬ ((f (s.channel c)).reported = (s.channel c).reported ∧ (f (s.channel c)).real = (s.channel c).real)) :
    AirAgreesAt z (changeChannel c f s) := by
  have hrecomputed : changeChannel c f s = recomputeZone? (f (s.channel c)).zone (s.modifyChannel c f) := if_neg h
  rw [hrecomputed]
  exact (Rejudged.recomputeZone? _ _).agrees z hz

/-- A change of a channel that leaves what it reports keeps a zone in agreement with its channels. -/
theorem AirAgreesAt.modifyChannel {z : Fin 32} {s : State} (h : AirAgreesAt z s) {c : Fin 32} {f : Channel → Channel}
    (hzone : (f (s.channel c)).zone = (s.channel c).zone) (hrep : (f (s.channel c)).reported = (s.channel c).reported)
    (hreal : (f (s.channel c)).real = (s.channel c).real) : AirAgreesAt z (s.modifyChannel c f) := by
  refine airAgreesAt_of (s := s) rfl rfl rfl ?_ ?_ h
  · exact derivedAir_modifyChannel (by simp only [Channel.contributionTo, hzone, hrep])
  · exact derivedAir_modifyChannel (by simp only [Channel.contributionTo, hzone, hreal])

theorem AirAgreesAt.queue {z : Fin 32} {s t : State} (h : AirAgreesAt z s) (k : QueueOnly s t) : AirAgreesAt z t := by
  obtain ⟨-, hznt, -, hair, -⟩ := k.same
  have hzone : ∀ w, t.zone w = s.zone w := fun w => by rw [State.zone, hznt]; rfl
  exact airAgreesAt_of (by rw [hzone]) (by rw [hzone]) (by rw [hzone]) (derivedAir_of_air hair ..) (derivedAir_of_air hair ..) h

/-- A channel's record when it has been switched off (R111). -/
def Channel.offRecord (r : Channel) : Channel :=
  { r with enabled := false, real := .off, warmupCount := 0, goodCount := 0, run := .noRun, runCount := 0,
           confirmPending := false, faultFlag := false, test := none }

theorem offRecord_of_turnedOff (r : Channel) (h : r.faultFlag = false) :
    ({ r with confirmPending := false } : Channel).turnedOff = r.offRecord := by
  unfold Channel.turnedOff Channel.runCleared Channel.offRecord
  rw [h]

/-- Beside the channel records the sequencer is as it was. -/
def SequencerStays (s t : State) : Prop := t.air = { s.air with channels := t.air.channels }

namespace SequencerStays

theorem of_air {s t : State} (h : t.air = s.air) : SequencerStays s t := by rw [SequencerStays, h]

theorem trans {s t u : State} (h : SequencerStays s t) (k : SequencerStays t u) : SequencerStays s u := by
  unfold SequencerStays at *
  rw [h] at k
  exact k

theorem modifyChannel (c : Fin 32) (f : Channel → Channel) (s : State) : SequencerStays s (s.modifyChannel c f) := rfl

theorem changeChannel (c : Fin 32) (f : Channel → Channel) (s : State) : SequencerStays s (changeChannel c f s) :=
  (modifyChannel c f s).trans (.of_air (rejudged_changeChannel c f s).1)

end SequencerStays

/-- What the switching off of a channel leaves, from a state in which it has left the sequencer. -/
structure SwitchedOff (c : Fin 32) (s v t : State) : Prop where
  air : SequencerStays v t
  channel : ∀ d, t.channel d = if d = c then (s.channel c).offRecord else s.channel d
  agrees : ∀ z, (s.channel c).zone = some z → (s.channel c).reported ≠ .off ∨ (s.channel c).real ≠ .off → AirAgreesAt z t
  ended : QueueHolds s.atq → (s.channel c).faultFlag = true → NotRaised .channelFault (.channel c) t

theorem switchedOff_turnOff (c : Fin 32) (s : State) :
    SwitchedOff c s (dropReading c (leaveConfirmList c (abortConfirm c s))) (turnOff c s) := by
  obtain ⟨honly, hchannel, -⟩ := offSequence c s
  unfold turnOff
  dsimp only
  generalize dropReading c (leaveConfirmList c (abortConfirm c s)) = v at *
  have hc : v.channel c = { s.channel c with confirmPending := false } := (hchannel c).trans (if_pos rfl)
  have hchanged : ∀ d, (changeChannel c Channel.turnedOff v).channel d =
      if d = c then ({ s.channel c with confirmPending := false } : Channel).turnedOff else s.channel d := fun d => by
    rw [channel_changeChannel, hc]
    by_cases hd : d = c
    · rw [if_pos hd, if_pos hd]
    · rw [if_neg hd, if_neg hd, hchannel, if_neg hd]
  have hagrees : ∀ z, (s.channel c).zone = some z → (s.channel c).reported ≠ .off ∨ (s.channel c).real ≠ .off →
      AirAgreesAt z (changeChannel c Channel.turnedOff v) := fun z hz h => by
    refine agreesAt_changeChannel (by rw [hc]; exact hz) ?_
    rw [hc]
    exact fun hsame => h.elim (· hsame.1.symm) (· hsame.2.symm)
  have hstays := SequencerStays.changeChannel c Channel.turnedOff v
  have hqueue : QueueHolds s.atq → QueueHolds (changeChannel c Channel.turnedOff v).atq := fun h =>
    queueHolds_changeChannel (by rw [honly]; exact h)
  generalize changeChannel c Channel.turnedOff v = w at *
  split
  next hf =>
    have hair' := endItem_air .channelFault (.channel c) (w.modifyChannel c fun r => { r with faultFlag := false })
    have hcleared := channel_of_air hair'
    refine ⟨?_, fun d => ?_, fun z hz h => ?_, fun hq _ => notRaised_endItem (hqueue hq)⟩
    · exact hstays.trans ((SequencerStays.modifyChannel ..).trans (.of_air hair'))
    · rw [hcleared, channel_modifyChannel, hchanged, hchanged, if_pos rfl]
      by_cases hd : d = c
      · rw [if_pos hd, if_pos hd]
        rfl
      · rw [if_neg hd, if_neg hd, if_neg hd]
    · exact ((hagrees z hz h).modifyChannel rfl rfl rfl).queue (endItem_only ..)
  next hf =>
    have hf' : (s.channel c).faultFlag = false := Bool.eq_false_iff.2 hf
    refine ⟨?_, fun d => ?_, hagrees, fun _ h => absurd h hf⟩
    · exact hstays
    · rw [hchanged, offRecord_of_turnedOff _ hf']

/-- Settles O37: the levels by their order, the switching on by the phase, the switching off in the steps of R111. -/
theorem channelsAreLevelledAndSwitched : Obligations.ChannelsAreLevelledAndSwitched := by
  intro channel caution danger s hr
  refine ⟨fun h => ⟨?_, ?_, ?_⟩, fun c hc => ?_⟩
  · rw [exec_setLevels hr, reqSetLevels, withChannel_refused h, refuse_taken]
  · rw [exec_channelOn hr, reqChannelOn, withChannel_refused h, refuse_taken]
  · rw [exec_channelOff hr, reqChannelOff, withChannel_refused h, refuse_taken]
  · intro r ordered good levels
    have hgood : ((taken s).channel c).admits caution danger ↔ good := Channel.admits_iff
    refine ⟨fun h => ?_, fun h hp => ?_, fun h hp => ?_, fun h => ?_, fun hz h => ?_, fun hz h hp => ?_, fun hz h hp => ?_,
      fun h => ?_, fun ht h => ?_, fun ht h => ?_⟩
    · rw [exec_setLevels hr, reqSetLevels_refused hc.symm (mt hgood.1 h), refuse_taken]
    · rw [exec_setLevels hr, reqSetLevels_setup (s := taken s) hc.symm (hgood.2 h) hp]
      rfl
    · rw [exec_setLevels hr, reqSetLevels_running (s := taken s) hc.symm (hgood.2 h) hp]
      rfl
    · rw [exec_channelOn hr, reqChannelOn, withChannel_of hc.symm, ← refuse_taken]
      exact congrArg _ (if_pos h)
    · rw [exec_channelOn hr, reqChannelOn, withChannel_of hc.symm]
      exact congrArg _ ((if_neg hz).trans (if_pos h))
    · rw [exec_channelOn hr, reqChannelOn_setup (s := taken s) hc.symm hz h hp]
      rfl
    · rw [exec_channelOn hr, reqChannelOn_running (s := taken s) hc.symm hz h hp]
      rfl
    · rw [exec_channelOff hr, reqChannelOff, withChannel_of hc.symm, ← refuse_taken]
      exact congrArg _ (if_pos h)
    · rw [exec_channelOff hr, reqChannelOff, withChannel_of hc.symm]
      exact congrArg _ ((if_neg ht).trans (if_neg (Bool.eq_false_iff.1 h)))
    · have hrun : exec (.channelOff channel) s = .next (turnOff c (taken s)).done := by
        rw [exec_channelOff hr, reqChannelOff, withChannel_of hc.symm]
        exact congrArg _ ((if_neg ht).trans (if_pos h))
      have hoff := offSequence c (taken s)
      obtain ⟨hair, hchannel, hagrees, hended⟩ := switchedOff_turnOff c (taken s)
      generalize dropReading c (leaveConfirmList c (abortConfirm c (taken s))) = v at *
      generalize turnOff c (taken s) = t at *
      refine ⟨_, hrun, rfl, ?_, fun d hd => ?_, ?_, ?_, fun k => ?_, fun h => ?_, fun h => ?_, fun z hz h => ?_, fun hq hf => ?_⟩
      · exact (hchannel c).trans (if_pos rfl)
      · exact (hchannel d).trans (if_neg hd)
      · show t.air.confirmList = _
        rw [hair, hoff.only]
        rfl
      · show t.air.sweep = _
        rw [hair]
        exact hoff.sweep
      · show t.air.buffer[k] = _
        rw [hair]
        split
        next h => exact hoff.dropped k h
        next h => exact hoff.stored k h
      · show t.air.turnLive = _
        rw [hair]
        exact hoff.dead h
      · show t.air.turnLive = _
        rw [hair]
        exact hoff.live h
      · exact hagrees z hz h
      · exact hended hq hf

end Sys2Proof.Machine
end

section
/-! The setup of a channel (R112): SET_CHANNEL, and the zones it leaves and joins (R19). -/

namespace Sys2Proof.Machine

open Sys2Proof.Safety (Ready answered taken)

/-! ## The arguments of SET_CHANNEL -/

theorem Gas.ofByte?_eq_some_iff {b : Byte} {x : Gas} : Gas.ofByte? b = some x ↔ x.code = b := by
  constructor
  · intro h
    unfold Gas.ofByte? at h
    split at h
    all_goals cases h
    all_goals next hb => exact (code_eq hb).symm
  · rintro rfl
    cases x <;> rfl

theorem yesNo?_eq_some_iff {b : Byte} {x : Bool} : yesNo? b = some x ↔ yesNo x = b := by
  constructor
  · intro h
    unfold yesNo? at h
    split at h
    all_goals cases h
    all_goals next hb => exact (code_eq hb).symm
  · rintro rfl
    cases x <;> rfl

/-- The trip level that SET_CHANNEL gives a channel of a gas: METHANE's own, none for another gas. -/
def givenTripLevel (g : Gas) (trip : Byte) : Option Nat := if g.code = 0 then some trip.toNat else none

/-- The levels that SET_CHANNEL gives are in order for the gas, with a trip level for METHANE alone (R98, R112). -/
def LevelsFit (gas : Byte) (caution danger : Nat) (trip : Byte) : Prop :=
  (gas = 0 ∧ caution < danger ∧ danger < trip.toNat ∧ trip.toNat ≤ 254)
    ∨ (gas = 1 ∧ trip = 0 ∧ caution < danger)
    ∨ ((gas = 2 ∨ gas = 3) ∧ trip = 0 ∧ danger < caution)

theorem levelsFit_iff {g : Gas} {caution danger : Nat} {trip : Byte} :
    LevelsFit g.code caution danger trip ↔ tripLevel? g trip = some (givenTripLevel g trip)
      ∧ wellOrdered g caution danger (givenTripLevel g trip) = true := by
  unfold LevelsFit givenTripLevel
  cases g with
  | methane =>
    by_cases hv : validLevel trip = true
    · have := validLevel_iff.1 hv
      simp [Gas.code, tripLevel?, hv, wellOrdered]
      omega
    · have := mt validLevel_iff.2 hv
      simp [Gas.code, tripLevel?, hv]
      omega
  | carbonMonoxide => by_cases ht : trip = 0 <;> simp [Gas.code, tripLevel?, ht, wellOrdered]
  | oxygen => by_cases ht : trip = 0 <;> simp [Gas.code, tripLevel?, ht, wellOrdered]
  | airflow => by_cases ht : trip = 0 <;> simp [Gas.code, tripLevel?, ht, wellOrdered]

theorem tripLevel?_some {g : Gas} {trip : Byte} {t : Option Nat} (h : tripLevel? g trip = some t) : t = givenTripLevel g trip := by
  unfold tripLevel? at h
  unfold givenTripLevel
  cases g with
  | methane =>
    simp only at h
    split at h
    · exact (Option.some.inj h).symm
    · cases h
  | carbonMonoxide | oxygen | airflow =>
    simp only at h
    split at h
    · exact (Option.some.inj h).symm
    · cases h

section SetChannel

variable {channel gas zone caution danger trip persistence hysteresis enabled : Byte} {s : State}

/-- The arguments of SET_CHANNEL are good. -/
def ChannelArguments (channel gas zone caution danger trip persistence hysteresis enabled : Byte) : Prop :=
  channel.toNat < 32 ∧ (zone.toNat < 32 ∨ zone = 255) ∧ enabled.toNat ≤ 1 ∧ (enabled = 1 → zone ≠ 255)
    ∧ 1 ≤ caution.toNat ∧ caution.toNat ≤ 254 ∧ 1 ≤ danger.toNat ∧ danger.toNat ≤ 254
    ∧ LevelsFit gas caution.toNat danger.toNat trip
    ∧ 1 ≤ persistence.toNat ∧ persistence.toNat ≤ 7 ∧ hysteresis.toNat ≤ 31

/-- A channel's record when it has been set up. -/
def Channel.setUp (r : Channel) (g : Gas) (z : Option (Fin 32)) (caution danger trip persistence hysteresis enabled : Byte) :
    Channel :=
  { r with
    gas := g, zone := z, levels := { caution := caution.toNat, danger := danger.toNat }, pendingLevels := none
    tripLevel := givenTripLevel g trip, persistence := persistence.toNat, hysteresis := hysteresis.toNat
    enabled := decide (enabled = 1) }

theorem reqSetChannel_refused
    (h : ¬ ChannelArguments channel gas zone caution danger trip persistence hysteresis enabled) :
    reqSetChannel channel gas zone caution danger trip persistence hysteresis enabled s = s.refuse .badArgument := by
  unfold reqSetChannel
  split
  next c g z on hc hg hz hon =>
    split
    next => rfl
    next t ht =>
      obtain rfl := tripLevel?_some ht
      refine if_neg fun hin => h ?_
      simp only [Bool.and_eq_true, Bool.or_eq_true, Bool.not_eq_true', validLevel_iff, within_eq_true_iff] at hin
      obtain ⟨⟨⟨⟨⟨hbound, hcaution⟩, hdanger⟩, hordered⟩, hpersistence⟩, hhysteresis⟩ := hin
      obtain rfl := Gas.ofByte?_eq_some_iff.1 hg
      obtain rfl := yesNo?_eq_some_iff.1 hon
      refine ⟨key?_eq_some_iff.1 hc ▸ c.isLt, optionalKey?_fits hz, ?_, fun h1 => ?_, hcaution.1, hcaution.2, hdanger.1,
        hdanger.2, levelsFit_iff.2 ⟨ht, hordered⟩, hpersistence.1, hpersistence.2, hhysteresis.2⟩
      · cases on <;> decide
      · rintro rfl
        have hnone : z = none := (Option.some.inj hz).symm
        cases on with
        | false => exact absurd h1 (by decide)
        | true => simp [hnone] at hbound
  next => rfl

theorem reqSetChannel_written {c : Fin 32} {g : Gas} {z : Option (Fin 32)} (hc : c.val = channel.toNat) (hg : g.code = gas)
    (hz : optionalKey z = zone)
    (h : ChannelArguments channel gas zone caution danger trip persistence hysteresis enabled) :
    reqSetChannel channel gas zone caution danger trip persistence hysteresis enabled s =
      (setupChannel c (fun r => r.setUp g z caution danger trip persistence hysteresis enabled) s).done := by
  obtain ⟨-, -, hon, hbound, hcaution, hcaution', hdanger, hdanger', hfit, hpersistence, hpersistence', hhysteresis⟩ := h
  obtain ⟨ht, hordered⟩ := levelsFit_iff.1 (hg ▸ hfit)
  have hyes : yesNo? enabled = some (decide (enabled = 1)) := by
    rw [yesNo?_eq_some_iff]
    by_cases h1 : enabled = 1
    · rw [decide_eq_true h1, h1]
      rfl
    · rw [decide_eq_false h1, yesNo, if_neg Bool.false_ne_true]
      bv_omega
  have hplace : (!decide (enabled = 1) || z.isSome) = true := by
    by_cases h1 : enabled = 1
    · cases z with
      | none => exact absurd hz.symm (hbound h1)
      | some z => rw [Option.isSome_some, Bool.or_true]
    · rw [decide_eq_false h1]
      rfl
  have hin : ((!decide (enabled = 1) || z.isSome) && validLevel caution && validLevel danger
      && wellOrdered g caution.toNat danger.toNat (givenTripLevel g trip)
      && within 1 7 persistence.toNat && within 0 31 hysteresis.toNat) = true := by
    rw [hplace, hordered, validLevel_iff.2 ⟨hcaution, hcaution'⟩, validLevel_iff.2 ⟨hdanger, hdanger'⟩,
      within_eq_true_iff.2 ⟨hpersistence, hpersistence'⟩, within_eq_true_iff.2 ⟨Nat.zero_le _, hhysteresis⟩]
    rfl
  simp only [reqSetChannel, key?_eq_some_iff.2 hc, Gas.ofByte?_eq_some_iff.2 hg, (optionalKey?_eq_some_iff (by decide)).2 hz,
    hyes, ht, hin, if_true]
  rfl

end SetChannel

/-! ## The zones of a channel that has moved (R19) -/

/-- A zone is bound where some channel names it. -/
theorem isBound_iff {s : State} {z : Fin 32} : s.isBound z = true ↔ ∃ d, (s.channel d).zone = some z := by
  unfold State.isBound
  rw [← Vector.any_toList, channels_toList, List.any_map, List.any_eq_true]
  simp only [allChannels, List.mem_finRange, true_and, Function.comp_apply, beq_iff_eq]

theorem isBound_congr {s t : State} (h : t.air = s.air) (z : Fin 32) : t.isBound z = s.isBound z := by
  rw [State.isBound, h]
  rfl

theorem monitored_rebindZone (o : Option (Fin 32)) (s : State) (w : Fin 32) :
    ((rebindZone o s).zone w).monitored = if o = some w then s.isBound w else (s.zone w).monitored := by
  cases o with
  | none => rfl
  | some z =>
    refine ((recomputed z (writeMonitored z (s.isBound z) s)).monitored w).trans ?_
    rw [zone_writeMonitored]
    by_cases hw : w = z
    · subst hw
      simp
    · simp [hw, Ne.symm hw]

/-- A channel that has moved leaves the zone it left and the zone it joined bound and in agreement with their channels. -/
theorem rebound_setupChannel {c : Fin 32} {f : Channel → Channel} {s : State} (h : (f (s.channel c)).zone ≠ (s.channel c).zone)
    {w : Fin 32} (hw : (s.channel c).zone = some w ∨ (f (s.channel c)).zone = some w) :
    (((setupChannel c f s).zone w).monitored = true ↔ ∃ d, ((setupChannel c f s).channel d).zone = some w)
      ∧ AirAgreesAt w (setupChannel c f s) := by
  have hmoved : setupChannel c f s =
      rebindZone (f (s.channel c)).zone (rebindZone (s.channel c).zone (s.modifyChannel c f)) := by
    unfold setupChannel
    dsimp only
    rw [channel_modifyChannel_self]
    exact if_neg h
  have hleft := Rejudged.rebindZone (s.channel c).zone (s.modifyChannel c f)
  have hjoined := Rejudged.rebindZone (f (s.channel c)).zone (rebindZone (s.channel c).zone (s.modifyChannel c f))
  rw [hmoved]
  refine ⟨?_, (hleft.trans hjoined).agrees w hw⟩
  rw [← isBound_iff, isBound_congr hjoined.air, isBound_congr hleft.air, monitored_rebindZone, isBound_congr hleft.air,
    monitored_rebindZone]
  split
  next => rfl
  next hnew => rw [if_pos (hw.resolve_right hnew)]

theorem setupChannel_same {c : Fin 32} {f : Channel → Channel} {s : State} (h : (f (s.channel c)).zone = (s.channel c).zone) :
    setupChannel c f s = s.modifyChannel c f := by
  unfold setupChannel
  dsimp only
  rw [channel_modifyChannel_self]
  exact if_pos h

theorem rejudged_setupChannel (c : Fin 32) (f : Channel → Channel) (s : State) :
    (setupChannel c f s).air = (s.modifyChannel c f).air ∧ (setupChannel c f s).hpt.phase = s.hpt.phase := by
  unfold setupChannel
  dsimp only
  split
  · exact ⟨rfl, rfl⟩
  · have h := (Rejudged.rebindZone (s.channel c).zone (s.modifyChannel c f)).trans
      (.rebindZone ((s.modifyChannel c f).channel c).zone _)
    exact ⟨h.air, h.phase⟩

/-- Settles O35: the arguments by their checks, and the zones where the channel has moved. -/
theorem channelSetupBindsTheChannel : Obligations.ChannelSetupBindsTheChannel := by
  intro channel gas zone caution danger trip persistence hysteresis enabled s hr hsetup ordered good request
  have hexec : exec request s =
      .next (reqSetChannel channel gas zone caution danger trip persistence hysteresis enabled (taken s)) :=
    exec_admitted hr rfl rfl (by rw [hsetup]; rfl)
  refine ⟨fun h => ?_, fun h c g z hc hg hz => ?_⟩
  · rw [hexec, reqSetChannel_refused h, refuse_taken]
  · have hchannel : ∀ d, (setupChannel c (fun r => r.setUp g z caution danger trip persistence hysteresis enabled)
        (taken s)).channel d = if d = c then (s.channel c).setUp g z caution danger trip persistence hysteresis enabled
          else s.channel d := fun d =>
      (channel_of_air (rejudged_setupChannel ..).1 d).trans (channel_modifyChannel ..)
    have hrecord : (s.channel c).setUp g z caution danger trip persistence hysteresis enabled = { s.channel c with
        gas := g, zone := z, levels := { caution := caution.toNat, danger := danger.toNat }, pendingLevels := none
        tripLevel := if gas = 0 then some trip.toNat else none, persistence := persistence.toNat
        hysteresis := hysteresis.toNat, enabled := decide (enabled = 1) } := by
      rw [← hg]
      rfl
    refine ⟨_, hexec.trans (congrArg _ (reqSetChannel_written hc hg hz h)), rfl, ?_, ?_, fun d hd => ?_, fun hsame => ?_,
      fun hmoved w hw => ?_⟩
    · exact (rejudged_setupChannel ..).2.trans hsetup
    · exact ((hchannel c).trans (if_pos rfl)).trans hrecord
    · exact (hchannel d).trans (if_neg hd)
    · have hset := setupChannel_same (s := taken s) (c := c)
        (f := fun r => r.setUp g z caution danger trip persistence hysteresis enabled) hsame.symm
      rw [modifyChannel_congr (s := s) (g := fun r => r.setUp g z caution danger trip persistence hysteresis enabled)
        ((hchannel c).trans (if_pos rfl))]
      exact (congrArg State.done hset).trans rfl
    · obtain ⟨hbound, hagrees⟩ := rebound_setupChannel (s := taken s) (c := c)
        (f := fun r => r.setUp g z caution danger trip persistence hysteresis enabled) (Ne.symm hmoved) hw
      exact ⟨hbound, hagrees⟩

end Sys2Proof.Machine
end

section
/-! A reading handed to a channel (R99 to R104): what it makes of the channel's record, and its judgement by the state. -/

namespace Sys2Proof.Machine

open Sys2Proof.Safety (QueueHolds Raised NotRaised)

/-! ## The record that a judgement leaves -/

/-- A change of a channel's record, as what it makes of the record of one channel, the others as they were. -/
def Records (c : Fin 32) (f : Channel → Channel) (s t : State) : Prop :=
  ∀ d, t.channel d = if d = c then f (s.channel c) else s.channel d

namespace Records

variable {c : Fin 32} {f g : Channel → Channel} {s t u : State}

theorem self (h : Records c f s t) : t.channel c = f (s.channel c) := (h c).trans (if_pos rfl)

theorem other (h : Records c f s t) {d : Fin 32} (hd : d ≠ c) : t.channel d = s.channel d := (h d).trans (if_neg hd)

theorem refl (c : Fin 32) (s : State) : Records c id s s := fun d => by
  by_cases hd : d = c
  · rw [if_pos hd, hd]
    rfl
  · rw [if_neg hd]

theorem trans (h : Records c f s t) (k : Records c g t u) : Records c (g ∘ f) s u := fun d => by
  by_cases hd : d = c
  · rw [if_pos hd, hd, k.self, h.self]
    rfl
  · rw [if_neg hd, k.other hd, h.other hd]

theorem congr (h : Records c f s t) (hfg : f (s.channel c) = g (s.channel c)) : Records c g s t := fun d => by rw [← hfg, h d]

theorem of_air (h : Records c f s t) (ha : u.air = t.air) : Records c f s u := fun d => (channel_of_air ha d).trans (h d)

theorem modifyChannel (c : Fin 32) (f : Channel → Channel) (s : State) : Records c f s (s.modifyChannel c f) :=
  fun d => channel_modifyChannel c d f s

theorem changeChannel (c : Fin 32) (f : Channel → Channel) (s : State) : Records c f s (changeChannel c f s) :=
  fun d => channel_changeChannel c d f s

end Records

/-- A record whose warmup count has been judged (R99). -/
def Channel.warmupJudged (r : Channel) : Channel :=
  if r.real = .warmup ∧ Config.warmupReadings ≤ r.warmupCount then { r.runCleared with real := .normal } else r

/-- A record whose good count has been judged (R102). -/
def Channel.faultJudged (r : Channel) : Channel :=
  if r.faultFlag = true ∧ r.persistence ≤ r.goodCount then r.faultCleared else r

/-- A record whose run count has been judged (R103). -/
def Channel.countJudged (r : Channel) : Channel :=
  if r.real.isJudged = true ∧ r.persistence ≤ r.runCount then r.ranOut else r

/-- A record that has been handed a rail value (R101). -/
def Channel.railed (r : Channel) : Channel := if r.faultFlag then { r with goodCount := 0 } else r.faulted

/-- A reading of a group sweep puts the channel on the confirm list (R104). -/
def Channel.isToConfirm (inGroup : Bool) (v : Byte) (r : Channel) : Prop :=
  inGroup = true ∧ r.gas = .methane ∧ r.isAtTrip v = true
/-- A record that has been handed a good reading (R99, R102 to R104). -/
def Channel.good (inGroup : Bool) (v : Byte) (r : Channel) : Channel :=
  match r.real with
  | .off => r
  | .warmup => Channel.warmupJudged { r.withReading v with warmupCount := r.warmupCount + 1 }
  | .fault => Channel.faultJudged { r.withReading v with goodCount := r.goodCount + 1 }
  | .trip =>
    if r.faultFlag then Channel.faultJudged { r.withReading v with goodCount := r.goodCount + 1 } else r.withReading v
  | .normal | .caution | .danger =>
    if inGroup = true ∧ r.gas = .methane ∧ r.isAtTrip v = true then { r.withReading v with confirmPending := true }
    else ((r.withReading v).runJudged v).countJudged

/-- A record that has been handed a reading (R99). -/
def Channel.read (inGroup : Bool) (v : Byte) (r : Channel) : Channel :=
  if r.real = .off then r else if isRail v then r.railed else r.good inGroup v

theorem records_judgeWarmup (c : Fin 32) (s : State) : Records c Channel.warmupJudged s (judgeWarmup c s) := by
  unfold judgeWarmup
  dsimp only
  split
  next h => exact (Records.changeChannel c _ s).congr (if_pos h).symm
  next h => exact (Records.refl c s).congr (if_neg h).symm

theorem records_judgeFaultClear (c : Fin 32) (s : State) : Records c Channel.faultJudged s (judgeFaultClear c s) := by
  unfold judgeFaultClear
  dsimp only
  split
  next h => exact ((Records.changeChannel c _ s).of_air (endItem_air ..)).congr (if_pos h).symm
  next h => exact (Records.refl c s).congr (if_neg h).symm

theorem records_judgeRun (c : Fin 32) (s : State) : Records c Channel.countJudged s (judgeRun c s) := by
  unfold judgeRun
  dsimp only
  split
  next h => exact (Records.changeChannel c _ s).congr (if_pos h).symm
  next h => exact (Records.refl c s).congr (if_neg h).symm

theorem records_takeRail (c : Fin 32) (s : State) : Records c Channel.railed s (takeRail c s) := by
  unfold takeRail
  split
  next h => exact (Records.modifyChannel c _ s).congr (if_pos h).symm
  next h => exact ((Records.changeChannel c _ s).of_air (raiseItem_air ..)).congr (if_neg h).symm

theorem records_appendConfirm (c : Fin 32) (s : State) :
    Records c (fun r => { r with confirmPending := true }) s (appendConfirm c s) := by
  unfold appendConfirm
  dsimp only
  split
  · exact Records.modifyChannel c _ s
  · exact Records.modifyChannel c (fun r => { r with confirmPending := true }) s

section Good

variable {inGroup : Bool} {c : Fin 32} {v : Byte} {s : State}

theorem takeGood_warmup (h : (s.channel c).real = .warmup) : takeGood inGroup c v s =
    judgeWarmup c (s.modifyChannel c (fun r => { r.withReading v with warmupCount := r.warmupCount + 1 })) := by
  simp only [takeGood, h]

theorem takeGood_faulted
    (h : (s.channel c).real = .fault ∨ ((s.channel c).real = .trip ∧ (s.channel c).faultFlag = true)) :
    takeGood inGroup c v s =
      judgeFaultClear c (s.modifyChannel c (fun r => { r.withReading v with goodCount := r.goodCount + 1 })) := by
  rcases h with h | ⟨h, hf⟩
  · simp only [takeGood, h]
  · simp only [takeGood, h, hf, if_true]

theorem takeGood_trip (h : (s.channel c).real = .trip) (hf : (s.channel c).faultFlag = false) :
    takeGood inGroup c v s = s.modifyChannel c (fun r => r.withReading v) := by
  simp only [takeGood, h, hf, Bool.false_eq_true, if_false]

theorem takeGood_confirm (h : (s.channel c).real.isJudged = true) (hc : (s.channel c).isToConfirm inGroup v) :
    takeGood inGroup c v s = appendConfirm c (s.modifyChannel c (fun r => r.withReading v)) := by
  unfold Channel.isToConfirm at hc
  rcases (isJudged_channelState_iff _).1 h with h | h | h <;> simp only [takeGood, h, if_pos hc]

theorem takeGood_run (h : (s.channel c).real.isJudged = true) (hc : ¬ (s.channel c).isToConfirm inGroup v) :
    takeGood inGroup c v s = judgeRun c (s.modifyChannel c (fun r => (r.withReading v).runJudged v)) := by
  unfold Channel.isToConfirm at hc
  rcases (isJudged_channelState_iff _).1 h with h | h | h <;> simp only [takeGood, h, if_neg hc]

end Good

section Good

variable {inGroup : Bool} {v : Byte} {r : Channel}

theorem good_warmup (h : r.real = .warmup) :
    r.good inGroup v = Channel.warmupJudged { r.withReading v with warmupCount := r.warmupCount + 1 } := by
  simp only [Channel.good, h]

theorem good_faulted (h : r.real = .fault ∨ (r.real = .trip ∧ r.faultFlag = true)) :
    r.good inGroup v = Channel.faultJudged { r.withReading v with goodCount := r.goodCount + 1 } := by
  rcases h with h | ⟨h, hf⟩
  · simp only [Channel.good, h]
  · simp only [Channel.good, h, hf, if_true]

theorem good_trip (h : r.real = .trip) (hf : r.faultFlag = false) : r.good inGroup v = r.withReading v := by
  simp only [Channel.good, h, hf, Bool.false_eq_true, if_false]

theorem good_confirm (h : r.real.isJudged = true) (hc : r.isToConfirm inGroup v) :
    r.good inGroup v = { r.withReading v with confirmPending := true } := by
  unfold Channel.isToConfirm at hc
  rcases (isJudged_channelState_iff _).1 h with h | h | h <;> simp only [Channel.good, h, if_pos hc]

theorem good_run (h : r.real.isJudged = true) (hc : ¬ r.isToConfirm inGroup v) :
    r.good inGroup v = ((r.withReading v).runJudged v).countJudged := by
  unfold Channel.isToConfirm at hc
  rcases (isJudged_channelState_iff _).1 h with h | h | h <;> simp only [Channel.good, h, if_neg hc]

end Good

theorem records_takeGood {inGroup : Bool} {c : Fin 32} {v : Byte} {s : State} (hoff : (s.channel c).real ≠ .off) :
    Records c (Channel.good inGroup v) s (takeGood inGroup c v s) := by
  have hcount : Records c (fun r => { r.withReading v with goodCount := r.goodCount + 1 }) s _ := Records.modifyChannel c _ s
  have hjudged : (s.channel c).real.isJudged = true → Records c (Channel.good inGroup v) s (takeGood inGroup c v s) := fun hj => by
    by_cases hc : (s.channel c).isToConfirm inGroup v
    · rw [takeGood_confirm hj hc]
      exact ((Records.modifyChannel c _ s).trans (records_appendConfirm c _)).congr (good_confirm hj hc).symm
    · rw [takeGood_run hj hc]
      exact ((Records.modifyChannel c _ s).trans (records_judgeRun c _)).congr (good_run hj hc).symm
  cases h : (s.channel c).real with
  | off => exact absurd h hoff
  | warmup =>
    rw [takeGood_warmup h]
    exact ((Records.modifyChannel c _ s).trans (records_judgeWarmup c _)).congr (good_warmup h).symm
  | fault =>
    rw [takeGood_faulted (.inl h)]
    exact (hcount.trans (records_judgeFaultClear c _)).congr (good_faulted (.inl h)).symm
  | trip =>
    cases hf : (s.channel c).faultFlag with
    | true =>
      rw [takeGood_faulted (.inr ⟨h, hf⟩)]
      exact (hcount.trans (records_judgeFaultClear c _)).congr (good_faulted (.inr ⟨h, hf⟩)).symm
    | false =>
      rw [takeGood_trip h hf]
      exact (Records.modifyChannel c _ s).congr (good_trip h hf).symm
  | normal | caution | danger => exact hjudged (by rw [h]; rfl)

/-- A reading writes the record that it is handed to, and no other channel's. -/
theorem records_takeReading (inGroup : Bool) (c : Fin 32) (v : Byte) (s : State) :
    Records c (Channel.read inGroup v) s (takeReading inGroup c v s) := by
  unfold takeReading
  split
  next h => exact (Records.refl c s).congr (if_pos h).symm
  next h =>
    split
    next hv => exact (records_takeRail c s).congr ((if_neg h).trans (if_pos hv)).symm
    next hv => exact (records_takeGood h).congr ((if_neg h).trans (if_neg hv)).symm

/-! ## Runs (R98, R103) -/

theorem isRising_iff {g : Gas} : g.isRising = true ↔ g = .methane ∨ g = .carbonMonoxide := by cases g <;> decide

theorem isBeyond_iff {g : Gas} {level v : Nat} : isBeyond g level v = true ↔
    ((g = .methane ∨ g = .carbonMonoxide) ∧ level ≤ v) ∨ (¬ (g = .methane ∨ g = .carbonMonoxide) ∧ v ≤ level) := by
  rw [← isRising_iff, isBeyond]
  split <;> simp [*]

theorem isBackWithin_iff {g : Gas} {level hysteresis v : Nat} : isBackWithin g level hysteresis v = true ↔
    ((g = .methane ∨ g = .carbonMonoxide) ∧ v + hysteresis < level)
      ∨ (¬ (g = .methane ∨ g = .carbonMonoxide) ∧ level + hysteresis < v) := by
  rw [← isRising_iff, isBackWithin]
  split <;> simp [*]

/-- The target of a reading, by what it is beyond. -/
theorem target_eq {r : Channel} {v : Byte} {x : ChannelState}
    (h : (isBeyond r.gas r.levels.danger v.toNat = true ∧ x = .danger)
      ∨ (¬ isBeyond r.gas r.levels.danger v.toNat = true ∧ isBeyond r.gas r.levels.caution v.toNat = true ∧ x = .caution)
      ∨ (¬ isBeyond r.gas r.levels.danger v.toNat = true ∧ ¬ isBeyond r.gas r.levels.caution v.toNat = true ∧ x = .normal)) :
    r.target v = x := by
  unfold Channel.target
  rcases h with ⟨h, rfl⟩ | ⟨h, h', rfl⟩ | ⟨h, h', rfl⟩
  · rw [if_pos h]
  · rw [if_neg h, if_pos h']
  · rw [if_neg h, if_neg h']

/-- A target is worse than a state that runs change. -/
theorem grade_lt_iff {a x : ChannelState} (ha : a = .normal ∨ a = .caution ∨ a = .danger)
    (hx : x = .normal ∨ x = .caution ∨ x = .danger) :
    a.grade < x.grade ↔ (x = .danger ∧ a ≠ .danger) ∨ (x = .caution ∧ a = .normal) := by
  rcases ha with rfl | rfl | rfl <;> rcases hx with rfl | rfl | rfl <;> decide

theorem isReturning_iff {r : Channel} {v : Byte} : r.isReturning v = true ↔
    (r.real = .caution ∧ isBackWithin r.gas r.levels.caution r.hysteresis v.toNat = true)
      ∨ (r.real = .danger ∧ isBackWithin r.gas r.levels.danger r.hysteresis v.toNat = true) := by
  unfold Channel.isReturning
  cases r.real <;> simp

/-- The run and the count that a good reading gives a record (R103). -/
theorem runJudged_eq {r : Channel} {v : Byte} {run : Run} {n : Nat}
    (hrise : r.real.grade < (r.target v).grade → ∀ y, r.run = .rise y →
      run = .rise (milder y (r.target v)) ∧ n = r.runCount + 1)
    (hnew : r.real.grade < (r.target v).grade → (∀ y, r.run ≠ .rise y) → run = .rise (r.target v) ∧ n = 1)
    (hfall : ¬ r.real.grade < (r.target v).grade → r.isReturning v = true → r.run = .fall → run = .fall ∧ n = r.runCount + 1)
    (hback : ¬ r.real.grade < (r.target v).grade → r.isReturning v = true → r.run ≠ .fall → run = .fall ∧ n = 1)
    (hnone : ¬ r.real.grade < (r.target v).grade → ¬ r.isReturning v = true → run = .noRun ∧ n = 0) :
    r.runJudged v = { r with run := run, runCount := n } := by
  unfold Channel.runJudged
  by_cases hw : r.real.grade < (r.target v).grade
  · rw [if_pos hw]
    cases hr : r.run with
    | rise y =>
      obtain ⟨rfl, rfl⟩ := hrise hw y hr
      rfl
    | noRun | fall =>
      obtain ⟨rfl, rfl⟩ := hnew hw (by rw [hr]; exact nofun)
      rfl
  · rw [if_neg hw]
    by_cases hb : r.isReturning v = true
    · rw [if_pos hb]
      cases hr : r.run with
      | fall =>
        obtain ⟨rfl, rfl⟩ := hfall hw hb hr
        rfl
      | noRun | rise =>
        obtain ⟨rfl, rfl⟩ := hback hw hb (by rw [hr]; exact nofun)
        rfl
    · rw [if_neg hb]
      obtain ⟨rfl, rfl⟩ := hnone hw hb
      rfl

theorem isRail_iff {v : Byte} : isRail v = true ↔ v = 0 ∨ v = 255 := by
  rw [isRail, Bool.or_eq_true, beq_iff_eq, beq_iff_eq]

theorem isToConfirm_iff {inGroup : Bool} {v : Byte} {r : Channel} : r.isToConfirm inGroup v ↔
    inGroup = true ∧ r.gas = .methane ∧ ∃ x, r.tripLevel = some x ∧ x ≤ v.toNat := by
  unfold Channel.isToConfirm Channel.isAtTrip
  cases r.tripLevel <;> simp

theorem takeReading_off {inGroup : Bool} {c : Fin 32} {v : Byte} {s : State} (h : (s.channel c).real = .off) :
    takeReading inGroup c v s = s := if_pos h

theorem takeReading_rail {inGroup : Bool} {c : Fin 32} {v : Byte} {s : State} (h : (s.channel c).real ≠ .off)
    (hv : v = 0 ∨ v = 255) : takeReading inGroup c v s = takeRail c s := (if_neg h).trans (if_pos (isRail_iff.2 hv))

theorem takeReading_good {inGroup : Bool} {c : Fin 32} {v : Byte} {s : State} (h : (s.channel c).real ≠ .off)
    (hv : ¬ (v = 0 ∨ v = 255)) : takeReading inGroup c v s = takeGood inGroup c v s :=
  (if_neg h).trans (if_neg (mt isRail_iff.1 hv))

theorem judgeFaultClear_kept {c : Fin 32} {s : State}
    (h : ¬ ((s.channel c).faultFlag = true ∧ (s.channel c).persistence ≤ (s.channel c).goodCount)) : judgeFaultClear c s = s :=
  if_neg h

theorem judgeFaultClear_cleared {c : Fin 32} {s : State} (hf : (s.channel c).faultFlag = true)
    (h : (s.channel c).persistence ≤ (s.channel c).goodCount) :
    judgeFaultClear c s = endItem .channelFault (.channel c) (changeChannel c Channel.faultCleared s) := if_pos ⟨hf, h⟩

theorem appendConfirm_only (c : Fin 32) (s : State) : appendConfirm c s = { s with air := { s.air with
    channels := (appendConfirm c s).air.channels, confirmList := (appendConfirm c s).air.confirmList } } := by
  unfold appendConfirm
  dsimp only
  split <;> rfl

theorem confirmList_appendConfirm (c : Fin 32) (s : State) : (appendConfirm c s).air.confirmList =
    if c ∈ s.air.confirmList then s.air.confirmList else s.air.confirmList ++ [c] := by
  unfold appendConfirm
  dsimp only
  by_cases h : c ∈ s.air.confirmList
  · rw [if_pos (List.contains_iff_mem.2 h), if_pos h]
    rfl
  · rw [if_neg (mt List.contains_iff_mem.1 h), if_neg h]
    rfl

/-- A run that has not reached the persistence stays, and one that has changes the state. -/
theorem countJudged_kept {r : Channel} (h : r.runCount < r.persistence) : r.countJudged = r :=
  if_neg fun hc => absurd hc.2 (by omega)

theorem countJudged_ran {r : Channel} (hj : r.real.isJudged = true) (h : r.persistence ≤ r.runCount) : r.countJudged = r.ranOut :=
  if_pos ⟨hj, h⟩

/-- Settles O42: a reading by its value, and a good reading by the channel's state. -/
theorem readingIsJudgedByTheState : Obligations.ReadingIsJudgedByTheState := by
  intro inGroup c v s t r rail judged toConfirm rising beyond backWithin isTarget worse back
  have hrecords : Records c (Channel.read inGroup v) s t := records_takeReading inGroup c v s
  have hread : r.real ≠ .off → ¬ rail → t.channel c = r.good inGroup v := fun hoff hv =>
    hrecords.self.trans ((if_neg hoff).trans (if_neg (mt isRail_iff.1 hv)))
  refine ⟨fun d hd => hrecords.other hd, takeReading_off, fun hoff hv hf => ?_, fun hoff hv hf => ⟨?_, ?_⟩, fun hv hw => ?_,
    fun hv ht hf => ?_, fun hv ht hf => ?_, fun hv hj hc => ?_,
    fun hv hj hc x hx run n hrise hnew hfall hback hnone => ?_⟩
  · exact (takeReading_rail hoff hv).trans (if_pos hf)
  · refine hrecords.self.trans ((if_neg hoff).trans ((if_pos (isRail_iff.2 hv)).trans (if_neg (Bool.eq_false_iff.1 hf))))
  · have ht : t = raiseItem .channelFault (.channel c) (changeChannel c Channel.faulted s) :=
      (takeReading_rail hoff hv).trans (if_neg (Bool.eq_false_iff.1 hf))
    rw [ht]
    exact raised_raiseItem (by decide) _
  · refine (hread (by rw [hw]; exact nofun) hv).trans ((good_warmup hw).trans ?_)
    exact if_congr (and_iff_right hw) rfl rfl
  · exact (takeReading_good (by rw [ht]; exact nofun) hv).trans (takeGood_trip ht hf)
  · have hoff : r.real ≠ .off := by rcases ht with h | h <;> rw [h] <;> exact nofun
    have hfaulted : r.real = .fault ∨ (r.real = .trip ∧ r.faultFlag = true) := ht.imp_right fun h => ⟨h, hf⟩
    have htaken : t = _ := (takeReading_good (inGroup := inGroup) hoff hv).trans (takeGood_faulted hfaulted)
    refine ⟨fun hn => ?_, fun hn => ⟨?_, fun hq => ?_⟩⟩
    · refine htaken.trans (judgeFaultClear_kept ?_)
      rw [channel_modifyChannel_self]
      exact fun hc => absurd hc.2 (by show ¬ r.persistence ≤ r.goodCount + 1; omega)
    · exact ((hread hoff hv).trans (good_faulted hfaulted)).trans (if_pos ⟨hf, hn⟩)
    · rw [htaken, judgeFaultClear_cleared (by rw [channel_modifyChannel_self]; exact hf)
        (by rw [channel_modifyChannel_self]; exact hn)]
      exact notRaised_endItem (queueHolds_changeChannel hq)
  · have hoff : r.real ≠ .off := by rcases hj with h | h | h <;> rw [h] <;> exact nofun
    have hj' := (isJudged_channelState_iff r.real).2 hj
    have htaken : t = _ := (takeReading_good (inGroup := inGroup) hoff hv).trans (takeGood_confirm hj' (isToConfirm_iff.2 hc))
    refine ⟨(hread hoff hv).trans (good_confirm hj' (isToConfirm_iff.2 hc)), ?_, ?_⟩
    · have honly := appendConfirm_only c (s.modifyChannel c (fun r => r.withReading v))
      rw [← htaken] at honly
      exact honly
    · exact (congrArg (fun u : State => u.air.confirmList) htaken).trans (confirmList_appendConfirm ..)
  · have hoff : r.real ≠ .off := by rcases hj with h | h | h <;> rw [h] <;> exact nofun
    have hj' := (isJudged_channelState_iff r.real).2 hj
    have htarget : (r.withReading v).target v = x := target_eq (by
      simp only [isBeyond_iff]
      exact hx)
    have hgrade : r.real.grade < x.grade ↔ worse x := grade_lt_iff hj (by
      rcases hx with ⟨-, rfl⟩ | ⟨-, -, rfl⟩ | ⟨-, -, rfl⟩ <;> decide)
    have hreturn : (r.withReading v).isReturning v = true ↔ back := by
      rw [isReturning_iff]
      simp only [isBackWithin_iff]
      rfl
    have hjudged : (r.withReading v).runJudged v = { r.withReading v with run := run, runCount := n } := by
      refine runJudged_eq ?_ ?_ ?_ ?_ ?_
      · rw [htarget]
        exact fun hw => hrise (hgrade.1 hw)
      · rw [htarget]
        exact fun hw => hnew (hgrade.1 hw)
      · rw [htarget]
        exact fun hw hb => hfall (mt hgrade.2 hw) (hreturn.1 hb)
      · rw [htarget]
        exact fun hw hb => hback (mt hgrade.2 hw) (hreturn.1 hb)
      · rw [htarget]
        exact fun hw hb => hnone (mt hgrade.2 hw) (mt hreturn.2 hb)
    have ht := (hread hoff hv).trans ((good_run hj' (mt isToConfirm_iff.1 hc)).trans (congrArg Channel.countJudged hjudged))
    refine ⟨fun hn => ht.trans (countJudged_kept hn), fun hn y hy => ?_, fun hn hy => ?_⟩
    · exact ht.trans ((countJudged_ran (r := { r.withReading v with run := run, runCount := n }) hj' hn).trans
        (ranOut_rise (r := { r.withReading v with run := run, runCount := n }) hy))
    · exact ht.trans ((countJudged_ran (r := { r.withReading v with run := run, runCount := n }) hj' hn).trans
        (ranOut_fall (r := { r.withReading v with run := run, runCount := n }) hj hy))

end Sys2Proof.Machine
end

section
/-! The completion of a conversion (R89, R93, R94): a turn stored, a group sweep ended, a confirm sweep ended. -/

namespace Sys2Proof.Machine

/-! ## What a reading leaves of the sequencer -/

/-- Beside the channel records and the confirm list the sequencer is as it was. -/
def ScheduleStays (s t : State) : Prop :=
  t.air = { s.air with channels := t.air.channels, confirmList := t.air.confirmList }

theorem SequencerStays.schedule {s t : State} (h : SequencerStays s t) : ScheduleStays s t := by
  unfold SequencerStays at h
  unfold ScheduleStays
  rw [h]

theorem ScheduleStays.trans {s t u : State} (h : ScheduleStays s t) (k : ScheduleStays t u) : ScheduleStays s u := by
  unfold ScheduleStays at *
  rw [h] at k
  exact k

theorem SequencerStays.refl (s : State) : SequencerStays s s := rfl

theorem SequencerStays.judgeWarmup (c : Fin 32) (s : State) : SequencerStays s (judgeWarmup c s) := by
  unfold Machine.judgeWarmup
  dsimp only
  split
  · exact .changeChannel c _ s
  · exact .refl s

theorem SequencerStays.judgeFaultClear (c : Fin 32) (s : State) : SequencerStays s (judgeFaultClear c s) := by
  unfold Machine.judgeFaultClear
  dsimp only
  split
  · exact (changeChannel c _ s).trans (.of_air (endItem_air ..))
  · exact .refl s

theorem SequencerStays.judgeRun (c : Fin 32) (s : State) : SequencerStays s (judgeRun c s) := by
  unfold Machine.judgeRun
  dsimp only
  split
  · exact .changeChannel c _ s
  · exact .refl s

theorem SequencerStays.takeRail (c : Fin 32) (s : State) : SequencerStays s (takeRail c s) := by
  unfold Machine.takeRail
  split
  · exact .modifyChannel c _ s
  · exact (changeChannel c _ s).trans (.of_air (raiseItem_air ..))

theorem scheduleStays_appendConfirm (c : Fin 32) (s : State) : ScheduleStays s (appendConfirm c s) := by
  unfold ScheduleStays
  rw [appendConfirm_only]

/-- A good reading keeps the sequencer beside the channel records, save one that puts its channel on the confirm list. -/
theorem takeGood_stays (inGroup : Bool) (c : Fin 32) (v : Byte) (s : State) :
    ScheduleStays s (takeGood inGroup c v s) ∧ (inGroup = false → SequencerStays s (takeGood inGroup c v s)) := by
  have hmodify := fun f => SequencerStays.modifyChannel c f s
  have hboth : ∀ {t : State}, SequencerStays s t → ScheduleStays s t ∧ (inGroup = false → SequencerStays s t) :=
    fun h => ⟨h.schedule, fun _ => h⟩
  unfold takeGood
  dsimp only
  split
  · exact hboth (.refl s)
  · exact hboth ((hmodify _).trans (.judgeWarmup c _))
  · exact hboth ((hmodify _).trans (.judgeFaultClear c _))
  · split
    · exact hboth ((hmodify _).trans (.judgeFaultClear c _))
    · exact hboth (hmodify _)
  all_goals
    split
    next h =>
      refine ⟨?_, fun hg => absurd (hg.symm.trans h.1) Bool.false_ne_true⟩
      exact (hmodify (fun r => r.withReading v)).schedule.trans (scheduleStays_appendConfirm c _)
    next => exact hboth ((hmodify _).trans (.judgeRun c _))

theorem takeReading_stays (inGroup : Bool) (c : Fin 32) (v : Byte) (s : State) :
    ScheduleStays s (takeReading inGroup c v s) ∧ (inGroup = false → SequencerStays s (takeReading inGroup c v s)) := by
  unfold takeReading
  split
  · exact ⟨rfl, fun _ => rfl⟩
  · split
    · exact ⟨(SequencerStays.takeRail c s).schedule, fun _ => .takeRail c s⟩
    · exact takeGood_stays ..

/-! ## What a reading leaves of the record -/

/-- A change of a channel's record that keeps its enable flag, its test and its place on the confirm list. -/
structure Channel.Keeps (r q : Channel) : Prop where
  enabled : q.enabled = r.enabled
  test : q.test = r.test
  confirmPending : q.confirmPending = r.confirmPending

theorem Channel.Keeps.trans {r q p : Channel} (h : r.Keeps q) (k : q.Keeps p) : r.Keeps p :=
  ⟨k.enabled.trans h.enabled, k.test.trans h.test, k.confirmPending.trans h.confirmPending⟩

theorem Channel.Keeps.after {r q p : Channel} (k : q.Keeps p) (h : r.Keeps q := by exact ⟨rfl, rfl, rfl⟩) : r.Keeps p := h.trans k

theorem keeps_warmupJudged (r : Channel) : r.Keeps r.warmupJudged := by
  unfold Channel.warmupJudged
  split <;> exact ⟨rfl, rfl, rfl⟩

theorem keeps_faultJudged (r : Channel) : r.Keeps r.faultJudged := by
  unfold Channel.faultJudged Channel.faultCleared
  split
  · split <;> exact ⟨rfl, rfl, rfl⟩
  · exact ⟨rfl, rfl, rfl⟩

theorem keeps_ranOut (r : Channel) : r.Keeps r.ranOut := by
  unfold Channel.ranOut
  split <;> exact ⟨rfl, rfl, rfl⟩

theorem keeps_countJudged (r : Channel) : r.Keeps r.countJudged := by
  unfold Channel.countJudged
  split
  · exact keeps_ranOut r
  · exact ⟨rfl, rfl, rfl⟩

theorem keeps_runJudged (r : Channel) (v : Byte) : r.Keeps (r.runJudged v) := by
  unfold Channel.runJudged
  split
  · split <;> exact ⟨rfl, rfl, rfl⟩
  · split
    · split <;> exact ⟨rfl, rfl, rfl⟩
    · exact ⟨rfl, rfl, rfl⟩

theorem keeps_railed (r : Channel) : r.Keeps r.railed := by
  unfold Channel.railed
  split <;> exact ⟨rfl, rfl, rfl⟩

/-- A reading keeps a record's enable flag and its test, and one of a confirm sweep its place on the confirm list. -/
theorem keeps_read (inGroup : Bool) (v : Byte) (r : Channel) : (r.read inGroup v).enabled = r.enabled
    ∧ (r.read inGroup v).test = r.test ∧ (inGroup = false → (r.read inGroup v).confirmPending = r.confirmPending) := by
  have hkept : ∀ {q : Channel}, r.Keeps q →
      q.enabled = r.enabled ∧ q.test = r.test ∧ (inGroup = false → q.confirmPending = r.confirmPending) :=
    fun h => ⟨h.enabled, h.test, fun _ => h.confirmPending⟩
  unfold Channel.read Channel.good
  split
  · exact hkept ⟨rfl, rfl, rfl⟩
  · split
    · exact hkept (keeps_railed r)
    · split
      · exact hkept ⟨rfl, rfl, rfl⟩
      · exact hkept (keeps_warmupJudged _).after
      · exact hkept (keeps_faultJudged _).after
      · split
        · exact hkept (keeps_faultJudged _).after
        · exact hkept ⟨rfl, rfl, rfl⟩
      all_goals
        split
        next h => exact ⟨rfl, rfl, fun hg => absurd (hg.symm.trans h.1) Bool.false_ne_true⟩
        next => exact hkept ((keeps_runJudged _ v).trans (keeps_countJudged _)).after

/-! ## Tests counted (R109) -/

/-- A record whose test has been counted, and removed where its count is over. -/
def Channel.testCounted (r : Channel) : Channel :=
  match r.test with
  | some x => { r with test := if x.remaining ≤ 1 then none else some { x with remaining := x.remaining - 1 } }
  | none => r

theorem testCounted_none {r : Channel} (h : r.test = none) : r.testCounted = r := by simp only [Channel.testCounted, h]

theorem testCounted_some {r : Channel} {x : ChannelTest} (h : r.test = some x) : r.testCounted =
    { r with test := if x.remaining ≤ 1 then none else some { x with remaining := x.remaining - 1 } } := by
  simp only [Channel.testCounted, h]

theorem judgeTest_none {c : Fin 32} {s : State} (h : (s.channel c).test = none) : judgeTest c s = s := by
  simp only [judgeTest, h]

theorem judgeTest_some {c : Fin 32} {s : State} {x : ChannelTest} (h : (s.channel c).test = some x) :
    judgeTest c s = if x.remaining = 0 then changeChannel c (fun r => { r with test := none }) s else s := by
  simp only [judgeTest, h]

theorem records_countTest (c : Fin 32) (s : State) :
    Records c Channel.testCounted s (countTest c s) ∧ SequencerStays s (countTest c s) := by
  unfold countTest
  cases h : (s.channel c).test with
  | none =>
    rw [judgeTest_none (by rw [channel_modifyChannel_self, h]; rfl)]
    refine ⟨(Records.modifyChannel c _ s).congr ?_, .modifyChannel c _ s⟩
    rw [testCounted_none h, h]
    exact congrArg (fun o => { s.channel c with test := o }) h.symm
  | some x =>
    have hcounted : ((s.modifyChannel c fun r => { r with
        test := r.test.map fun t => { t with remaining := t.remaining - 1 } }).channel c).test =
          some { x with remaining := x.remaining - 1 } := by
      rw [channel_modifyChannel_self, h]
      rfl
    rw [judgeTest_some hcounted]
    by_cases hx : x.remaining ≤ 1
    · rw [if_pos (show x.remaining - 1 = 0 by omega)]
      refine ⟨((Records.modifyChannel c _ s).trans (.changeChannel c _ _)).congr ?_,
        (SequencerStays.modifyChannel c _ s).trans (.changeChannel c _ _)⟩
      rw [testCounted_some h, if_pos hx]
      rfl
    · rw [if_neg (show ¬ x.remaining - 1 = 0 by omega)]
      refine ⟨(Records.modifyChannel c _ s).congr ?_, .modifyChannel c _ s⟩
      rw [testCounted_some h, if_neg hx, h]
      rfl

/-! ## The end of a group sweep (R93) -/

/-- A channel's record when the end of its group's sweep has taken its buffer entry. -/
def Channel.swept (entry : Option Byte) (r : Channel) : Channel :=
  match entry with
  | some v => if r.enabled then (r.read true v).testCounted else r
  | none => r

theorem takeGroupReading_spec (g : Fin 8) (k : Fin 4) (s : State) :
    Records (channelOf g k) (Channel.swept s.air.buffer[k]) s (takeGroupReading g k s)
      ∧ ScheduleStays s (takeGroupReading g k s) := by
  unfold takeGroupReading
  dsimp only
  cases hb : s.air.buffer[k] with
  | none => exact ⟨Records.refl _ s, rfl⟩
  | some v =>
    dsimp only
    split
    next he =>
      obtain ⟨hrecords, hstays⟩ := records_countTest (channelOf g k) (takeReading true (channelOf g k) v s)
      refine ⟨((records_takeReading true _ v s).trans hrecords).congr (if_pos he).symm, ?_⟩
      exact (takeReading_stays true _ v s).1.trans hstays.schedule
    next he => exact ⟨(Records.refl _ s).congr (if_neg he).symm, rfl⟩

theorem channelOf_val (g : Fin 8) (k : Fin 4) : (channelOf g k).val = g.val + 8 * k.val := Nat.mod_eq_of_lt (by omega)

theorem channelOf_inj {g : Fin 8} {j k : Fin 4} (h : channelOf g j = channelOf g k) : j = k := by
  have := congrArg Fin.val h
  rw [channelOf_val, channelOf_val] at this
  omega

/-- The readings of a group's turns are taken to the group's channels, each to its own. -/
theorem sweep_forEach (g : Fin 8) {l : List (Fin 4)} (hl : l.Nodup) (s : State) :
    ScheduleStays s (forEach l (takeGroupReading g) s)
      ∧ (∀ k ∈ l, (forEach l (takeGroupReading g) s).channel (channelOf g k) =
          (s.channel (channelOf g k)).swept s.air.buffer[k])
      ∧ ∀ c, (∀ k ∈ l, c ≠ channelOf g k) → (forEach l (takeGroupReading g) s).channel c = s.channel c := by
  induction l generalizing s with
  | nil => exact ⟨rfl, fun k hk => absurd hk List.not_mem_nil, fun _ _ => rfl⟩
  | cons j l ih =>
    obtain ⟨hj, hl⟩ := List.nodup_cons.1 hl
    obtain ⟨hrecords, hstays⟩ := takeGroupReading_spec g j s
    obtain ⟨hschedule, htaken, hother⟩ := ih hl (takeGroupReading g j s)
    have hbuffer : (takeGroupReading g j s).air.buffer = s.air.buffer := by rw [hstays]
    rw [forEach_cons]
    refine ⟨hstays.trans hschedule, fun k hk => ?_, fun c hc => ?_⟩
    · rcases List.mem_cons.1 hk with rfl | hk
      · rw [hother _ fun i hi he => hj (by rwa [channelOf_inj he]), hrecords.self]
      · rw [htaken k hk, hrecords.other fun he => hj (channelOf_inj he ▸ hk), hbuffer]
    · rw [hother c fun k hk => hc k (List.mem_cons_of_mem _ hk), hrecords.other (hc j List.mem_cons_self)]

end Sys2Proof.Machine
end

section
/-! CONVERSION_COMPLETION (R89, R90, R93 to R95): the turn stored, the next turn begun, and the two ends of a sweep. -/

namespace Sys2Proof.Machine

/-! ## The turn stored (R93) -/

/-- A buffer entry when the turn under way has completed with a count. -/
def State.storedAt (count : Byte) (s : State) (k : Fin 4) : Option Byte :=
  if k.val = s.air.turnsDone ∧ s.air.turnLive = true then some count else s.air.buffer[k]

theorem buffer_storeResult {count : Byte} {s : State} (h : s.air.turnsDone < 4) (k : Fin 4) :
    (storeResult count s).air.buffer[k] = s.storedAt count k := by
  unfold storeResult State.storedAt
  cases hl : s.air.turnLive with
  | false => simp
  | true =>
    have hposition : (Fin.ofNat 4 s.air.turnsDone).val = k.val ↔ k.val = s.air.turnsDone := by
      rw [Fin.val_ofNat, Nat.mod_eq_of_lt h, eq_comm]
    simp only [if_true, and_true, Fin.getElem_fin, Vector.getElem_set, hposition]

theorem buffer_toList (s : State) : s.air.buffer.toList = (List.finRange 4).map (fun k => s.air.buffer[k]) := by
  apply List.ext_getElem
  · simp
  · intro i _ _
    simp

theorem readings_storeResult {count : Byte} {s : State} (h : s.air.turnsDone < 4) :
    (storeResult count s).readings = (List.finRange 4).filterMap (s.storedAt count) := by
  rw [State.readings, buffer_toList, List.filterMap_map]
  exact congrArg (fun f => List.filterMap f (List.finRange 4)) (funext fun k => buffer_storeResult h k)

theorem storeResult_frames (count : Byte) (s : State) : storeResult count s = { s with air := { s.air with
    buffer := (storeResult count s).air.buffer, turnsDone := s.air.turnsDone + 1 } } := rfl

theorem completeTurn_noSweep {count : Byte} {s : State} (h : s.air.sweep = .noSweep) : completeTurn count s = s := if_pos h

theorem completeTurn_next {count : Byte} {s : State} (h : s.air.sweep ≠ .noSweep) (hn : s.air.turnsDone + 1 < 4) :
    completeTurn count s = beginTurn (storeResult count s) := (if_neg h).trans (if_pos hn)

theorem completeTurn_last {count : Byte} {s : State} (h : s.air.sweep ≠ .noSweep) (hn : s.air.turnsDone = 3) :
    completeTurn count s = endSweep (storeResult count s) :=
  (if_neg h).trans (if_neg (by show ¬ s.air.turnsDone + 1 < 4; omega))

/-! ## The group schedule (R93) -/

theorem getLsbD_withoutGroup (groups : BitVec 8) (g h : Fin 8) :
    (withoutGroup groups g).getLsbD h.val = (groups.getLsbD h.val && h != g) := by
  have hbit : (h != g) = !decide (h.val = g.val) := by
    rw [Bool.eq_iff_iff]
    simp [Fin.ext_iff]
  rw [hbit]
  simp [withoutGroup, eq_comm]

/-- The schedule after a group's sweep: the group is the last swept, and leaves the once set in ONCE. -/
structure Scheduled (g : Fin 8) (s t : State) : Prop where
  sweep : t.air.sweep = .noSweep
  lastGroup : t.air.lastGroup = g
  resume : t.air.resume = s.air.resume
  enableSet : t.air.enableSet = s.air.enableSet
  once : s.air.mode = .once → t.air.onceSet = withoutGroup s.air.onceSet g
    ∧ t.air.mode = if t.air.onceSet = 0 then .paused else .once
  other : s.air.mode ≠ .once → t.air.onceSet = s.air.onceSet ∧ t.air.mode = s.air.mode
  channels : t.air.channels = s.air.channels

theorem scheduled_advanceSchedule (g : Fin 8) (s : State) : Scheduled g s (advanceSchedule g s) := by
  unfold advanceSchedule
  cases hm : s.air.mode with
  | once => exact ⟨rfl, rfl, rfl, rfl, fun _ => ⟨rfl, rfl⟩, fun h => absurd hm h, rfl⟩
  | scan | paused | idle => exact ⟨rfl, rfl, rfl, rfl, fun h => absurd (hm.symm.trans h) (by decide), fun _ => ⟨rfl, rfl⟩, rfl⟩

/-! ## The end of a confirm sweep (R94) -/

/-- A record after a confirm sweep's readings. -/
def Channel.confirmed (l : List Byte) (r : Channel) : Channel := l.foldl (fun r v => r.read false v) r

theorem confirm_forEach (c : Fin 32) (l : List Byte) (s : State) :
    Records c (Channel.confirmed l) s (forEach l (fun v => takeReading false c v) s)
      ∧ SequencerStays s (forEach l (fun v => takeReading false c v) s) := by
  induction l generalizing s with
  | nil => exact ⟨Records.refl c s, rfl⟩
  | cons v l ih =>
    obtain ⟨hrecords, hstays⟩ := ih (takeReading false c v s)
    exact ⟨(records_takeReading false c v s).trans hrecords, ((takeReading_stays false c v s).2 rfl).trans hstays⟩

/-- The readings of a list folded are the same list's readings taken in turn. -/
theorem foldl_takeReading (c : Fin 32) (l : List Byte) (s : State) :
    l.foldl (fun u v => takeReading false c v u) s = forEach l (fun v => takeReading false c v) s := by
  induction l generalizing s with
  | nil => rfl
  | cons v l ih => exact ih _

theorem keeps_confirmed (l : List Byte) (r : Channel) : r.Keeps (r.confirmed l) := by
  induction l generalizing r with
  | nil => exact ⟨rfl, rfl, rfl⟩
  | cons v l ih =>
    obtain ⟨henabled, htest, hpending⟩ := keeps_read false v r
    exact Channel.Keeps.trans ⟨henabled, htest, hpending rfl⟩ (ih (r.read false v))

/-- A record that a confirm sweep has tripped. -/
def Channel.trippedBy (l : List Byte) (r : Channel) : Channel :=
  if l.any isRail then (r.tripped (lastGood l)).railed else r.tripped (lastGood l)

theorem confirmTrip_spec (c : Fin 32) (l : List Byte) (s : State) :
    Records c (Channel.trippedBy l) s (confirmTrip c l s) ∧ SequencerStays s (confirmTrip c l s) := by
  unfold confirmTrip
  dsimp only
  split
  next h =>
    exact ⟨((Records.changeChannel c _ s).trans (records_takeRail c _)).congr (if_pos h).symm,
      (SequencerStays.changeChannel c _ s).trans (.takeRail c _)⟩
  next h => exact ⟨(Records.changeChannel c _ s).congr (if_neg h).symm, .changeChannel c _ s⟩

/-- A tripped record is in TRIP with its test and its run removed, and faulted where a reading was a rail value. -/
theorem trippedBy_eq (l : List Byte) (r : Channel) :
    (r.trippedBy l).real = .trip ∧ (r.trippedBy l).test = none ∧ (r.trippedBy l).run = .noRun ∧ (r.trippedBy l).runCount = 0
      ∧ (r.trippedBy l).reading = lastGood l ∧ (r.trippedBy l).faultFlag = (r.faultFlag || l.any isRail)
      ∧ (r.trippedBy l).confirmPending = r.confirmPending := by
  unfold Channel.trippedBy
  cases hl : l.any isRail with
  | false => exact ⟨rfl, rfl, rfl, rfl, rfl, (Bool.or_false _).symm, rfl⟩
  | true =>
    unfold Channel.railed
    cases hf : r.faultFlag with
    | true => simp [Channel.tripped, Channel.runCleared, hf]
    | false => simp [Channel.tripped, Channel.runCleared, Channel.faulted, hf]

theorem endSweep_group {s : State} {g : Fin 8} (h : s.air.sweep = .group g) : endSweep s = endGroupSweep g s := by
  simp only [endSweep, h]

theorem endSweep_confirm {s : State} {c : Fin 32} (h : s.air.sweep = .confirm c) : endSweep s = endConfirmSweep c s := by
  simp only [endSweep, h]

/-- A channel leaves the confirm list before its confirm sweep's decision. -/
theorem leaveConfirmList_only (c : Fin 32) (s : State) : leaveConfirmList c s = { s with air := { s.air with
    confirmList := s.air.confirmList.filter (fun d => d != c), channels := (leaveConfirmList c s).air.channels } } := rfl

/-- What the end of a confirm sweep makes of its channel's record. -/
def Channel.decided (l : List Byte) (r : Channel) : Channel :=
  if 3 ≤ r.tripCount l then Channel.trippedBy l { r with confirmPending := false }
  else (Channel.confirmed l { r with confirmPending := false }).testCounted

theorem endConfirmSweep_spec (c : Fin 32) (s : State) :
    Records c (Channel.decided s.readings) s (endConfirmSweep c s)
      ∧ (endConfirmSweep c s).air = { s.air with
        channels := (endConfirmSweep c s).air.channels, confirmList := s.air.confirmList.filter (fun d => d != c)
        sweep := .noSweep } := by
  have hleft : Records c (fun r => { r with confirmPending := false }) s (leaveConfirmList c s) :=
    fun d => leaveConfirmList_channel c d s
  have hcount : ((leaveConfirmList c s).channel c).tripCount s.readings = (s.channel c).tripCount s.readings := by
    rw [hleft.self]
    rfl
  unfold endConfirmSweep
  dsimp only
  rw [hcount]
  by_cases h : 3 ≤ (s.channel c).tripCount s.readings
  · obtain ⟨hrecords, hstays⟩ := confirmTrip_spec c s.readings (leaveConfirmList c s)
    rw [if_pos h]
    refine ⟨(hleft.trans hrecords).congr (if_pos h).symm, ?_⟩
    rw [hstays]
    rfl
  · obtain ⟨hrecords, hstays⟩ := confirm_forEach c s.readings (leaveConfirmList c s)
    obtain ⟨hcounted, hstays'⟩ := records_countTest c (forEach s.readings (fun v => takeReading false c v) (leaveConfirmList c s))
    rw [if_neg h]
    refine ⟨((hleft.trans hrecords).trans hcounted).congr (if_neg h).symm, ?_⟩
    rw [hstays.trans hstays']
    rfl

theorem confirmPending_testCounted (r : Channel) : r.testCounted.confirmPending = r.confirmPending := by
  unfold Channel.testCounted
  split <;> rfl

/-! ## The completions -/

theorem swept_none {o : Option Byte} {r : Channel} (h : o = none) : r.swept o = r := by rw [h]; rfl

theorem swept_off {o : Option Byte} {r : Channel} (h : r.enabled = false) : r.swept o = r := by
  cases o with
  | none => rfl
  | some v => exact if_neg (Bool.eq_false_iff.1 h)

theorem swept_some {o : Option Byte} {v : Byte} {r : Channel} (ho : o = some v) (h : r.enabled = true) :
    r.swept o = (r.read true v).testCounted := by
  rw [ho]
  exact if_pos h

/-- Settles O43: a completion by the sweep in flight and by its turn, the last turn by the kind of the sweep. -/
theorem conversionCompletionEndsTurnsAndSweeps : Obligations.ConversionCompletionEndsTurnsAndSweeps := by
  intro count s hs stored readings good
  have hexec : ∀ b, exec (.conversionCompletion count b) s = .next (if b then s else completeTurn count s) := fun b =>
    congrArg Host.Outcome.next (unlessReset_high hs _)
  refine ⟨hexec true, fun h => ?_, fun h hn => ?_, fun g hg h3 => ?_, fun c hc h3 => ?_⟩
  · exact (hexec false).trans (congrArg _ (completeTurn_noSweep h))
  · obtain ⟨d, hd⟩ : ∃ d, s.air.sweep.channelAt (s.air.turnsDone + 1) = some d := by
      cases hw : s.air.sweep with
      | noSweep => exact absurd hw h
      | group g => exact ⟨_, rfl⟩
      | confirm c => exact ⟨c, rfl⟩
    have hrun := (hexec false).trans (congrArg Host.Outcome.next
      ((completeTurn_next h hn).trans (beginTurn_of (s := storeResult count s) hd)))
    refine ⟨_, hrun, rfl, fun k => buffer_storeResult (by omega) k, fun g c hg hc => ?_, fun c hc => ?_⟩
    · have hdc : d = c := by
        rw [hg] at hd
        refine Fin.ext ((congrArg Fin.val (Option.some.inj hd).symm).trans ?_)
        rw [channelOf_val, hc, Fin.val_ofNat, Nat.mod_eq_of_lt hn]
      subst hdc
      refine ⟨?_, rfl⟩
      show d.val / 8 % 4 = _
      omega
    · have hdc : d = c := by
        rw [hc] at hd
        exact (Option.some.inj hd).symm
      subst hdc
      exact ⟨Nat.mod_eq_of_lt (by omega), rfl⟩
  · have hrun := (hexec false).trans (congrArg Host.Outcome.next
      ((completeTurn_last (by rw [hg]; exact nofun) h3).trans (endSweep_group (s := storeResult count s) hg)))
    obtain ⟨hstays, htaken, hother⟩ := sweep_forEach g (List.nodup_finRange 4) (storeResult count s)
    have hscheduled := scheduled_advanceSchedule g (forEach (List.finRange 4) (takeGroupReading g) (storeResult count s))
    change exec _ s = .next (advanceSchedule g (forEach (List.finRange 4) (takeGroupReading g) (storeResult count s))) at hrun
    generalize forEach (List.finRange 4) (takeGroupReading g) (storeResult count s) = v at *
    generalize advanceSchedule g v = t at *
    have hchannel : ∀ c, t.channel c = v.channel c := fun c => congrArg (fun l : Vector Channel 32 => l[c]) hscheduled.channels
    have hmode : v.air.mode = s.air.mode := by rw [hstays]; rfl
    have honce : v.air.onceSet = s.air.onceSet := by rw [hstays]; rfl
    refine ⟨t, hrun, hscheduled.sweep, hscheduled.lastGroup, ?_, ?_, fun h => ?_, fun h => ?_, fun c hc => ?_, fun k c hc => ?_⟩
    · rw [hscheduled.resume, hstays]
      rfl
    · rw [hscheduled.enableSet, hstays]
      rfl
    · obtain ⟨hset, hpaused⟩ := hscheduled.once (hmode.trans h)
      refine ⟨fun k => ?_, hpaused⟩
      rw [hset, honce, getLsbD_withoutGroup]
    · obtain ⟨hset, hkept⟩ := hscheduled.other (by rw [hmode]; exact h)
      exact ⟨hset.trans honce, hkept.trans hmode⟩
    · refine (hchannel c).trans (hother c fun k _ he => hc ?_)
      rw [he, channelOf_val]
      omega
    · obtain rfl : c = channelOf g k := Fin.ext (hc.trans (channelOf_val g k).symm)
      have hswept : t.channel (channelOf g k) = (s.channel (channelOf g k)).swept (stored k) := by
        rw [hchannel, htaken k (List.mem_finRange k), buffer_storeResult (by omega)]
        rfl
      refine ⟨fun h => hswept.trans ?_, fun v hv hen => ?_⟩
      · rcases h with h | h
        · exact swept_none h
        · exact swept_off h
      · have hcounted := hswept.trans (swept_some hv hen)
        have hread := (records_takeReading true (channelOf g k) v s).self
        obtain ⟨-, htest, -⟩ := keeps_read true v (s.channel (channelOf g k))
        refine ⟨fun h => ?_, fun x hx => ?_⟩
        · rw [hcounted, testCounted_none (htest.trans h), hread]
        · rw [hcounted, testCounted_some (htest.trans hx), hread]
          exact ⟨rfl, rfl⟩
  · intro trips
    have hrun := (hexec false).trans (congrArg Host.Outcome.next
      ((completeTurn_last (by rw [hc]; exact nofun) h3).trans (endSweep_confirm (s := storeResult count s) hc)))
    obtain ⟨hrecords, hair⟩ := endConfirmSweep_spec c (storeResult count s)
    have hreadings : (storeResult count s).readings = readings := readings_storeResult (by omega)
    have hgood : good = fun v => !isRail v := funext fun v => by simp [good, isRail, bne]
    have hself := hrecords.self
    have hcount : (s.channel c).tripCount readings = trips := by
      simp only [trips, hgood]
      rfl
    rw [hreadings] at hself
    change _ = (s.channel c).decided readings at hself
    unfold Channel.decided at hself
    rw [hcount] at hself
    generalize endConfirmSweep c (storeResult count s) = t at *
    refine ⟨t, hrun, ?_, ?_, ?_, ?_, ?_, ?_, fun d hd => (hrecords.other hd).trans rfl, ?_, fun h => ?_, ?_⟩
    · rw [hair]
    · rw [hair]; rfl
    · rw [hair]; rfl
    · rw [hair]; rfl
    · rw [hair]; rfl
    · rw [hair]; rfl
    · rw [hself]
      split
      · obtain ⟨-, -, -, -, -, -, hpending⟩ := trippedBy_eq readings { s.channel c with confirmPending := false }
        exact hpending
      · rw [confirmPending_testCounted]
        exact (keeps_confirmed ..).confirmPending
    · obtain ⟨hreal, htest, hno, hzero, hreading, hfault, -⟩ :=
        trippedBy_eq readings { s.channel c with confirmPending := false }
      rw [hself, if_pos h]
      refine ⟨hreal, htest, hno, hzero, hreading.trans ?_, hfault.trans ?_⟩
      · rw [lastGood, List.getLast?_filter, hgood]
      · simp only [hgood, Bool.not_not]
    · have hjudged : (readings.foldl (fun u v => takeReading false c v u)
          (s.modifyChannel c (fun r => { r with confirmPending := false }))).channel c =
            Channel.confirmed readings { s.channel c with confirmPending := false } := by
        rw [foldl_takeReading, (confirm_forEach c readings _).1.self, channel_modifyChannel_self]
      have htest := (keeps_confirmed readings { s.channel c with confirmPending := false }).test
      refine ⟨fun hfew h => ?_, fun x hfew hx => ?_⟩
      · rw [hself, if_neg (by omega), hjudged, testCounted_none (htest.trans h)]
      · rw [hself, if_neg (by omega), hjudged, testCounted_some (htest.trans hx)]

end Sys2Proof.Machine
end

section
/-! Calls (R157, R158, R160, R164): what a call key makes of a record and of its item, and ANSWER and END_CALL. -/

namespace Sys2Proof.Machine

open Sys2Proof.Safety (QueueHolds Raised NotRaised Ready answered taken Names)

/-! ## The call item of a record (R43, R156) -/

section Calls

variable {i : Fin 240} {p : Person} {s : State}

theorem insertCall_of {k : ItemKind} (hp : s.person i = some p) (hk : p.precedence.kind? = some k) (renew : Bool) :
    insertCall i renew s = insertItem k (s.personSubject i) false p.callDetail renew s := by
  simp only [insertCall, hp, hk]

theorem insertCall_none (hp : s.person i = some p) (hk : p.precedence.kind? = none) (renew : Bool) :
    insertCall i renew s = s := by
  simp only [insertCall, hp, hk]

theorem endCallKind_of {k : ItemKind} (hp : s.person i = some p) (hk : p.precedence.kind? = some k) :
    endCallKind i s = endCallItem k (s.personSubject i) s := by
  simp only [endCallKind, hp, hk]

theorem endCallKind_none (hp : s.person i = some p) (hk : p.precedence.kind? = none) : endCallKind i s = s := by
  simp only [endCallKind, hp, hk]

theorem endCallKind_told (i : Fin 240) (s : State) : QueueTold s (endCallKind i s) := by
  unfold endCallKind
  split
  · split
    · exact .endCallItem ..
    · exact .refl s
  · exact .refl s

theorem endCallKind_holds (i : Fin 240) {s : State} (h : QueueHolds s.atq) : QueueHolds (endCallKind i s).atq := by
  unfold endCallKind
  split
  · split
    · exact endCallItem_holds _ _ _ h
    · exact h
  · exact h

/-- The call kind of a record leaves the queue. -/
theorem gone_endCallKind {k : ItemKind} (hp : s.person i = some p) (hk : p.precedence.kind? = some k) (h : QueueHolds s.atq) :
    Gone k (s.personSubject i) (endCallKind i s).atq := by
  rw [endCallKind_of hp hk]
  exact gone_endCallItem h

theorem kind?_ne_stranger {a : Precedence} {k : ItemKind} (h : a.kind? = some k) : k ≠ .stranger := by
  cases a <;> cases h <;> decide

theorem kind?_ne_manDown {a : Precedence} {k : ItemKind} (h : a.kind? = some k) : k ≠ .manDown := by
  cases a <;> cases h <;> decide

theorem kind?_inj {a b : Precedence} {k : ItemKind} (ha : a.kind? = some k) (hb : b.kind? = some k) : a = b := by
  rw [← hb] at ha
  revert ha
  cases a <;> cases b <;> decide

theorem person_queueOnly {t : State} (h : QueueOnly s t) (i : Fin 240) : t.person i = s.person i :=
  person_eq_of_slot (h.slot_eq i)

theorem QueueOnly.setSlot {t : State} (h : QueueOnly s t) (i : Fin 240) (v : Slot) : QueueOnly (s.setSlot i v) (t.setSlot i v) := by
  unfold QueueOnly at *
  rw [h]
  rfl

/-- A record changed and a call raised for it. -/
theorem raiseCall_eq {asked : Precedence} {k : ItemKind} (hp : s.person i = some p) (hk : asked.kind? = some k) :
    raiseCall i asked s = insertItem k (s.personSubject i) false (.call 0 false) false
      (s.setSlot i { gen := (s.slot i).gen, person := some (p.waitingAt asked s.frt.frame) }) := by
  have hq : (s.setSlot i { gen := (s.slot i).gen, person := some (p.waitingAt asked s.frt.frame) }).person i =
      some (p.waitingAt asked s.frt.frame) := congrArg Slot.person ((slot_setSlot ..).trans (if_pos rfl))
  have hx : (s.setSlot i { gen := (s.slot i).gen, person := some (p.waitingAt asked s.frt.frame) }).personSubject i =
      s.personSubject i := personSubject_eq_of_gen (by rw [slot_setSlot, if_pos rfl])
  rw [raiseCall, modifyPerson_eq hp, insertCall_of hq hk, hx]
  rfl

/-! ## The call keys (R157, R158) -/

theorem callKey_idle {asked : Precedence} (hp : s.person i = some p) (h : p.callState = .noCall) :
    callKey i asked s = raiseCall i asked s := by
  simp only [callKey, hp, h]

theorem callKey_upgrades {asked : Precedence} (hp : s.person i = some p) (h : p.callState = .waiting)
    (hr : p.precedence.code.toNat < asked.code.toNat) : callKey i asked s = raiseCall i asked (endCallKind i s) := by
  simp only [callKey, hp, h]
  exact if_pos hr

theorem callKey_repeats {asked : Precedence} (hp : s.person i = some p) (h : p.callState = .waiting)
    (hr : asked.code.toNat ≤ p.precedence.code.toNat) :
    callKey i asked s = insertCall i false (s.setSlot i { gen := (s.slot i).gen, person := some p.withRepeat }) := by
  simp only [callKey, hp, h]
  rw [← modifyPerson_eq hp]
  exact if_neg (Nat.not_lt.2 hr)

theorem callKey_connected {asked : Precedence} (hp : s.person i = some p) (h : p.callState = .connected) :
    callKey i asked s = s.setSlot i { gen := (s.slot i).gen, person := some (
      { p.withRepeat with
        precedence := if p.precedence.code.toNat < asked.code.toNat then asked else p.precedence }) } := by
  simp only [callKey, hp, h]
  rw [modifyPerson_eq hp]
  rfl

theorem cancelKey_idle (hp : s.person i = some p) (h : p.callState = .noCall) : cancelKey i s = s := by
  simp only [cancelKey, hp, h]

theorem cancelKey_waiting (hp : s.person i = some p) (h : p.callState = .waiting) :
    cancelKey i s = (endManDown i p (endCallKind i s)).modifyPerson i Person.withoutCall := by
  simp only [cancelKey, hp, h]

theorem endConnected_of (hp : s.person i = some p) (h : p.callState = .connected) :
    endConnected i s = (freeCallChannel p.callChannel s).modifyPerson i Person.withoutCall := by
  simp only [endConnected, hp, h]

theorem endManDown_told (i : Fin 240) (p : Person) (s : State) : QueueTold s (endManDown i p s) := by
  unfold endManDown
  split
  · exact .endItem ..
  · exact .refl s

/-- A call kind that has left the queue stays out when MAN_DOWN ends. -/
theorem Gone.endManDown {k : ItemKind} {x : Subject} (hk : k ≠ .manDown) (h : Gone k x s.atq) :
    Gone k x (endManDown i p s).atq := by
  unfold Machine.endManDown
  split
  · exact h.endItem (.of_kind (Ne.symm hk))
  · exact h

theorem notRaised_endManDown (hq : QueueHolds s.atq) (hp : p.precedence = .emergency) (ho : p.overdue = true) :
    NotRaised .manDown (s.personSubject i) (endManDown i p s) := by
  rw [endManDown, if_pos ⟨hp, ho⟩]
  exact notRaised_endItem hq

end Calls

/-- A record's slot is as a call has changed it, and beside it only the queue has changed. -/
theorem queueOnly_setSlot_iff {s t : State} {i : Fin 240} {v : Slot} : QueueOnly (s.setSlot i v) t
    ↔ t = { s.setSlot i v with atq := t.atq, hpt := { s.hpt with flags := t.hpt.flags } } := .rfl

/-- The three call keys, each with its precedence and its item's kind. -/
theorem callKey_of {key : Key} {asked : Precedence} {kind : ItemKind}
    (h : (key = .call ∧ asked = .routine ∧ kind = .routineCall) ∨ (key = .urgent ∧ asked = .urgent ∧ kind = .urgentCall)
      ∨ (key = .emergency ∧ asked = .emergency ∧ kind = .emergencyCall)) :
    asked.kind? = some kind ∧ ∀ i s, actOnKey i key s = callKey i asked s := by
  rcases h with ⟨rfl, rfl, rfl⟩ | ⟨rfl, rfl, rfl⟩ | ⟨rfl, rfl, rfl⟩ <;> exact ⟨rfl, fun _ _ => rfl⟩

theorem callKeys_spec {s : State} {i : Fin 240} {p : Person} (hp : s.person i = some p) (hq : QueueHolds s.atq)
    {asked : Precedence} {kind : ItemKind} (hk : asked.kind? = some kind) :
    (p.callState = .noCall →
        QueueOnly (s.setSlot i { gen := (s.slot i).gen, person := some (p.waitingAt asked s.frt.frame) }) (callKey i asked s)
          ∧ Raised kind (s.personSubject i) (callKey i asked s))
      ∧ (p.callState = .waiting → p.precedence.code.toNat < asked.code.toNat →
        QueueOnly (s.setSlot i { gen := (s.slot i).gen, person := some (p.waitingAt asked s.frt.frame) }) (callKey i asked s)
          ∧ Raised kind (s.personSubject i) (callKey i asked s)
          ∧ ∀ old, p.precedence.kind? = some old → NotRaised old (s.personSubject i) (callKey i asked s)) := by
  refine ⟨fun h => ?_, fun h hr => ?_⟩
  · rw [callKey_idle hp h, raiseCall_eq hp hk]
    exact ⟨insertItem_only .., raised_insertItem (kind?_ne_stranger hk) ..⟩
  · have htold := (endCallKind_told i s).queueOnly
    have hslot := htold.slot_eq i
    have hframe : (endCallKind i s).frt = s.frt := by rw [show endCallKind i s = _ from htold]
    have hsubject := personSubject_eq_of_slot hslot
    rw [callKey_upgrades hp h hr, raiseCall_eq ((person_queueOnly htold i).trans hp) hk, hslot, hframe, hsubject]
    refine ⟨(htold.setSlot i _).trans (insertItem_only ..), raised_insertItem (kind?_ne_stranger hk) .., fun old hold => ?_⟩
    have hother : kind ≠ old := fun he => absurd (kind?_inj hk (he ▸ hold)) (fun ha => absurd hr (by rw [ha]; omega))
    exact (Gone.insertItem (.of_kind hother) (s := (endCallKind i s).setSlot i _) (gone_endCallKind hp hold hq)).notRaised

/-- A repeated call key updates the waiting call's item in place (R38, R157). -/
theorem repeat_spec {s : State} {i : Fin 240} {p : Person} (hp : s.person i = some p) {asked : Precedence}
    (h : p.callState = .waiting) (hr : asked.code.toNat ≤ p.precedence.code.toNat) :
    QueueOnly (s.setSlot i { gen := (s.slot i).gen, person := some p.withRepeat }) (callKey i asked s)
      ∧ ∀ held, p.precedence.kind? = some held → Raised held (s.personSubject i) (callKey i asked s)
        ∧ ∀ it, s.item held (s.personSubject i) = some it → it.condition = .active →
          (callKey i asked s).item held (s.personSubject i) =
            some { it with test := false, detail := .call p.withRepeat.repeats p.overdue }
            ∧ (callKey i asked s).hpt = s.hpt := by
  have hv : (s.setSlot i { gen := (s.slot i).gen, person := some p.withRepeat }).person i = some p.withRepeat :=
    congrArg Slot.person ((slot_setSlot ..).trans (if_pos rfl))
  have hx : (s.setSlot i { gen := (s.slot i).gen, person := some p.withRepeat }).personSubject i = s.personSubject i :=
    personSubject_eq_of_gen (by rw [slot_setSlot, if_pos rfl])
  rw [callKey_repeats hp h hr]
  cases hk : p.precedence.kind? with
  | none =>
    rw [insertCall_none hv hk]
    exact ⟨rfl, fun held hheld => nomatch hheld⟩
  | some k =>
    rw [insertCall_of hv hk, hx]
    refine ⟨insertItem_only .., fun held hheld => ?_⟩
    obtain rfl := Option.some.inj hheld
    refine ⟨raised_insertItem (kind?_ne_stranger hk) .., fun it hit hc => ?_⟩
    rw [insertItem_active (s := s.setSlot i { gen := (s.slot i).gen, person := some p.withRepeat }) _ _ _ hit hc,
      if_neg fun hr => Bool.false_ne_true hr.1]
    exact ⟨(item_changeItem).trans (congrArg (Option.map _) hit), rfl⟩

/-- A CANCEL of a waiting call ends its item, and MAN_DOWN where the call was an overdue EMERGENCY (R158). -/
theorem cancel_spec {s : State} {i : Fin 240} {p : Person} (hp : s.person i = some p) (hq : QueueHolds s.atq)
    (h : p.callState = .waiting) :
    QueueOnly (s.setSlot i { gen := (s.slot i).gen, person := some p.withoutCall }) (cancelKey i s)
      ∧ (∀ held, p.precedence.kind? = some held → NotRaised held (s.personSubject i) (cancelKey i s))
      ∧ (p.precedence = .emergency → p.overdue = true → NotRaised .manDown (s.personSubject i) (cancelKey i s)) := by
  have htold := ((endCallKind_told i s).trans (endManDown_told i p _)).queueOnly
  have hslot := htold.slot_eq i
  have hcancel : cancelKey i s = (endManDown i p (endCallKind i s)).setSlot i
      { gen := (s.slot i).gen, person := some p.withoutCall } := by
    rw [cancelKey_waiting hp h, modifyPerson_eq ((person_queueOnly htold i).trans hp), hslot]
  have hsubject := personSubject_eq_of_slot ((endCallKind_told i s).queueOnly.slot_eq i)
  rw [hcancel]
  refine ⟨htold.setSlot i _, fun held hheld => ?_, fun hem hov => ?_⟩
  · exact ((gone_endCallKind hp hheld hq).endManDown (kind?_ne_manDown hheld)).notRaised
  · have hended := notRaised_endManDown (i := i) (p := p) (endCallKind_holds i hq) hem hov
    rw [hsubject] at hended
    exact notRaised_congr rfl hended

/-! ## ANSWER and END_CALL (R160, R164) -/

theorem freeCallChannel?_none {s : State} (h : ∀ c : Fin 4, c.val < s.cal.usable → s.cal.channels[c] ≠ none) :
    s.freeCallChannel? = none := by
  refine List.find?_eq_none.2 fun c _ hc => ?_
  rw [Bool.and_eq_true, decide_eq_true_eq] at hc
  exact h c hc.1 (Option.isNone_iff_eq_none.1 hc.2)

theorem freeCallChannel?_some {s : State} {c : Fin 4} (hlt : c.val < s.cal.usable) (hfree : s.cal.channels[c] = none)
    (hbefore : ∀ d < c, s.cal.channels[d] ≠ none) : s.freeCallChannel? = some c := by
  refine find?_finRange ?_ fun d hd => ?_
  · rw [decide_eq_true hlt, hfree]
    rfl
  · rw [Option.isNone_eq_false_iff.2 (Option.isSome_iff_ne_none.2 (hbefore d hd)), Bool.and_false]

/-- A connected call leaves its item, and its MAN_DOWN, behind (R160). -/
theorem connectCall_spec {s : State} {i : Fin 240} {p : Person} {c : Fin 4} (hp : s.person i = some p) (hq : QueueHolds s.atq) :
    QueueOnly (holdFor i c s) (connectCall i p c s)
      ∧ (∀ k, p.precedence.kind? = some k → Gone k (s.personSubject i) (connectCall i p c s).atq)
      ∧ (p.precedence = .emergency → p.overdue = true → NotRaised .manDown (s.personSubject i) (connectCall i p c s)) := by
  have hheld : (holdFor i c s).person i = some (p.connectedOn c) := by
    rw [person_holdFor, if_pos rfl, hp, Option.map_some]
  have hsubject : (holdFor i c s).personSubject i = s.personSubject i :=
    personSubject_eq_of_gen ((congrArg Slot.gen (slot_modifyPerson_self (s := { s with cal := _ }) hp _)).trans rfl)
  have hqueue : QueueHolds (holdFor i c s).atq := hq
  have htold := (endCallKind_told i (holdFor i c s)).queueOnly
  rw [connectCall_eq]
  refine ⟨htold.trans (endManDown_told i p _).queueOnly, fun k hk => ?_, fun hem hov => ?_⟩
  · rw [← hsubject]
    exact (gone_endCallKind (p := p.connectedOn c) hheld hk hqueue).endManDown (kind?_ne_manDown hk)
  · rw [← hsubject, ← personSubject_eq_of_slot (htold.slot_eq i)]
    exact notRaised_endManDown (endCallKind_holds i hqueue) hem hov

/-- Settles O51: the keys by the call's state, the requests by their checks. -/
theorem callsAreAnsweredAndEnded : Obligations.CallsAreAnsweredAndEnded := by
  refine ⟨fun s i p hp hq => ?_, fun slot gen s i p hr hn => ?_⟩
  · intro x idle changed
    refine ⟨fun key asked kind hkey => ?_, fun h => cancelKey_idle hp h, fun h => ?_, fun c h hc => ?_⟩
    · obtain ⟨hk, hact⟩ := callKey_of hkey
      obtain ⟨hidle, hwaiting⟩ := callKeys_spec hp hq hk
      intro t raised again
      have ht : t = callKey i asked s := hact i s
      rw [ht]
      refine ⟨hidle, hwaiting, fun h hr => repeat_spec hp h hr, fun h => ?_⟩
      rw [callKey_connected hp h]
      rfl
    · exact cancel_spec hp hq h
    · have hcancel : actOnKey i .cancel s = endConnected i s := by simp only [actOnKey, cancelKey, hp, h]
      have hfreed : (freeCallChannel (some c) s).person i = some p := hp
      rw [hcancel, endConnected_of hp h, hc, modifyPerson_eq hfreed]
      rfl
  · intro reachable
    have hend : exec (.endCall slot gen) s = .next (if p.callState ≠ .connected then (taken s).refuse .noRecord
        else (endConnected i (taken s)).reply .done [optionalKey p.callChannel]) := by
      rw [exec_endCall hr, reqEndCall, withNamed_of_names (s := taken s) hn]
    obtain ⟨-, -, hp⟩ := id hn
    refine ⟨fun hrun => ?_, fun h => ?_, fun c h hc => ?_⟩
    · have hexec := (exec_answer hr hrun slot gen).trans (congrArg Host.Outcome.next (withNamed_of_names (s := taken s) hn _))
      refine ⟨fun h => ?_, fun h hout => ?_, fun h hin hfull => ?_, fun c h hin hlt hfree hbefore hq => ?_⟩
      · rw [hexec, if_pos h, refuse_taken]
      · rw [hexec, if_neg (not_not.2 h), if_pos (not_or.1 hout), refuse_taken]
      · have hnone := freeCallChannel?_none (s := taken s) hfull
        simp only [hexec, if_neg (not_not.2 h), if_neg (fun hc => not_or.2 hc hin), hnone, refuse_taken]
      · have hsome := freeCallChannel?_some (s := taken s) hlt hfree hbefore
        obtain ⟨honly, hgone, hended⟩ := connectCall_spec (s := taken s) (c := c) hp hq
        have hrun' : exec (.answer slot gen) s = .next ((connectCall i p c (taken s)).reply .done [byteOf c.val]) := by
          simp only [hexec, if_neg (not_not.2 h), if_neg (fun hc => not_or.2 hc hin), hsome]
        generalize connectCall i p c (taken s) = w at *
        refine ⟨_, hrun', ?_, fun k hk => ⟨(hgone k hk).1, (dueMark_none ..).2 (hgone k hk).2⟩, hended⟩
        exact (congrArg (State.reply .done [byteOf c.val]) honly).trans rfl
    · rw [hend, if_pos h, refuse_taken]
    · rw [hend, if_neg (not_not.2 h), endConnected_of (s := taken s) hp h, hc]
      rfl

end Sys2Proof.Machine
end

section
/-! The judgement of waiting calls (R159): what the sweep over the records leaves of the items of each record's call. -/

namespace Sys2Proof.Machine

open Sys2Proof.Safety (QueueHolds Raised NotRaised)

/-! ## The items of a matter while others are worked on -/

/-- The items of a matter after work on other matters: old ones kept, or fresh ones reinserted; one that is gone has left with
ATTENTION raised. -/
structure Shuffled (k : ItemKind) (x : Subject) (s t : State) : Prop where
  told : s.hpt.flags.attention = true → t.hpt.flags.attention = true
  fresh : freshDetail k x t = freshDetail k x s
  mark : freshTest x t = freshTest x s
  after : ∀ a ∈ t.atq.items, a.kind = k → a.subject = x →
    a ∈ s.atq.items ∨ (a.state = .new ∧ a.detail = freshDetail k x s ∧ a.test = freshTest x s)
  before : ∀ a ∈ s.atq.items, a.kind = k → a.subject = x → a ∈ t.atq.items ∨ t.hpt.flags.attention = true

theorem freshDetail_queueOnly {k : ItemKind} {x : Subject} {s t : State} (h : QueueOnly s t) :
    freshDetail k x t = freshDetail k x s := by
  rw [show t = _ from h]
  cases x <;> rfl

theorem freshTest_queueOnly {x : Subject} {s t : State} (h : QueueOnly s t) : freshTest x t = freshTest x s := by
  rw [show t = _ from h]
  cases x <;> rfl

namespace Shuffled

variable {k : ItemKind} {x : Subject} {k' : ItemKind} {x' : Subject}

theorem refl (s : State) : Shuffled k x s s := ⟨id, rfl, rfl, fun _ h _ _ => .inl h, fun _ h _ _ => .inl h⟩

theorem trans {s t u : State} (h : Shuffled k x s t) (g : Shuffled k x t u) : Shuffled k x s u where
  told := g.told ∘ h.told
  fresh := g.fresh.trans h.fresh
  mark := g.mark.trans h.mark
  after a ha hk hx := by
    rcases g.after a ha hk hx with ht | ⟨hnew, hd, hb⟩
    · exact h.after a ht hk hx
    · exact .inr ⟨hnew, hd.trans h.fresh, hb.trans h.mark⟩
  before a ha hk hx := by
    rcases h.before a ha hk hx with ht | ht
    · exact g.before a ht hk hx
    · exact .inr (g.told ht)

/-- A change of the queue that keeps the matter's items. -/
theorem of_mem {s t : State} (h : QueueTold s t)
    (hm : ∀ a : Item, a.kind = k → a.subject = x → (a ∈ t.atq.items ↔ a ∈ s.atq.items)) : Shuffled k x s t :=
  ⟨h.kept, freshDetail_queueOnly h.queueOnly, freshTest_queueOnly h.queueOnly, fun a ha hk hx => .inl ((hm a hk hx).1 ha), fun a ha hk hx => .inl ((hm a hk hx).2 ha)⟩

theorem changeItem (ho : Other k x k' x') (f : Item → Item) (s : State)
    (hf : ∀ a, (f a).kind = a.kind ∧ (f a).subject = a.subject := by exact fun _ => ⟨rfl, rfl⟩) :
    Shuffled k x s (s.changeItem k' x' f) := .of_mem (.changeItem ..) fun _ hk hx => mem_changeItem_other ho hf hk hx

theorem eraseItem (ho : Other k x k' x') (s : State) : Shuffled k x s (s.eraseItem k' x') :=
  .of_mem (.eraseItem ..) fun _ hk hx => mem_eraseItem_other ho hk hx

theorem setDue (k' : ItemKind) (x' : Subject) (f : Frame) (s : State) : Shuffled k x s (s.setDue k' x' f) :=
  .of_mem (.setDue ..) fun _ _ _ => .rfl

theorem clearDue (k' : ItemKind) (x' : Subject) (s : State) : Shuffled k x s (s.clearDue k' x') :=
  .of_mem (.clearDue ..) fun _ _ _ => .rfl

theorem attention (s : State) : Shuffled k x s (s.notify .attention) := .of_mem (.attention s) fun _ _ _ => .rfl

theorem enterItem (ho : Other k x k' x') (f : Frame) (b : Bool) (d : Detail) (s : State) :
    Shuffled k x s (enterItem k' x' f b d s) := .of_mem (.enterItem ..) fun _ hk hx => mem_enterItem_other ho hk hx

theorem reinsert (s : State) : Shuffled k x s (reinsert s) := by
  unfold Machine.reinsert
  split
  · split
    next d hd =>
      by_cases hdk : d.kind = k ∧ d.subject = x
      · obtain ⟨rfl, rfl⟩ := hdk
        refine ⟨fun _ => rfl, rfl, rfl, fun a ha _ _ => ?_, fun _ _ _ _ => .inr rfl⟩
        rcases mem_enterItem.1 ha with rfl | ha
        · exact .inr ⟨rfl, rfl, rfl⟩
        · exact .inl ha
      · exact (clearDue ..).trans (enterItem hdk ..)
    next => exact refl s
  · exact refl s

theorem removeItem (ho : Other k x k' x') (s : State) : Shuffled k x s (removeItem k' x' s) :=
  (eraseItem ho s).trans (reinsert _)

theorem meetFullQueue (ho : Other k x k' x') (b : Bool) (d : Detail) (s : State) :
    Shuffled k x s (meetFullQueue k' x' b d s) := by
  unfold Machine.meetFullQueue
  split
  · exact refl s
  next old _ =>
    split
    · have hleft : QueueOnly s (if old.condition = .active ∧ old.kind ≠ .stranger then
          (s.eraseItem old.kind old.subject).setDue old.kind old.subject old.raised else s.eraseItem old.kind old.subject) := by
        split
        · exact (eraseItem_only ..).trans (setDue_only ..)
        · exact eraseItem_only ..
      refine ⟨fun _ => rfl, freshDetail_queueOnly (hleft.trans (enterItem_only ..)),
        freshTest_queueOnly (hleft.trans (enterItem_only ..)), fun a ha hk hx => .inl ?_, fun _ _ _ _ => .inr rfl⟩
      rw [mem_enterItem_other ho hk hx] at ha
      split at ha <;> exact ((mem_eraseItem ..).1 ha).1
    · split
      · exact refl s
      · exact setDue ..

theorem insertItem (ho : Other k x k' x') (b : Bool) (d : Detail) (r : Bool) (s : State) :
    Shuffled k x s (insertItem k' x' b d r s) := by
  unfold Machine.insertItem
  split
  · split
    · simp only
      split
      · exact (changeItem ho _ s).trans (attention _)
      · exact changeItem ho _ s
    · exact (eraseItem ho s).trans (enterItem ho ..)
  · split
    · exact refl s
    · split
      · exact enterItem ho ..
      · exact meetFullQueue ho ..

theorem endItem (ho : Other k x k' x') (s : State) : Shuffled k x s (endItem k' x' s) := by
  unfold Machine.endItem
  split
  · split
    · split
      · exact removeItem ho s
      · exact changeItem ho _ s
    · exact refl s
  · exact clearDue ..

theorem endCallItem (ho : Other k x k' x') (s : State) : Shuffled k x s (endCallItem k' x' s) := by
  unfold Machine.endCallItem
  split
  · exact removeItem ho s
  · exact clearDue ..

end Shuffled

/-! ## Work on other records -/

/-- Work on the records of other slots: the slot stays, its matters wait as before, and their items are kept or fresh. -/
structure Beside (i : Fin 240) (s t : State) : Prop where
  elsewhere : Elsewhere i s t
  shuffled : ∀ k, Shuffled k (s.personSubject i) s t

namespace Beside

variable {i j : Fin 240}

theorem refl (s : State) : Beside i s s := ⟨.refl s, fun _ => .refl s⟩

theorem trans {s t u : State} (h : Beside i s t) (g : Beside i t u) : Beside i s u :=
  ⟨h.elsewhere.trans g.elsewhere, fun k => (h.shuffled k).trans (h.elsewhere.subject ▸ g.shuffled k)⟩

theorem modifyPerson (h : j ≠ i) (f : Person → Person) (s : State) : Beside i s (s.modifyPerson j f) := by
  have hslot := slot_modifyPerson_of_ne h.symm f s
  refine ⟨.modifyPerson h f s, fun k => ⟨id, ?_, rfl, fun _ ha _ _ => .inl ha, fun _ ha _ _ => .inl ha⟩⟩
  rw [State.personSubject, freshDetail, freshDetail, person_eq_of_slot hslot]

theorem insertItem (h : j ≠ i) (k : ItemKind) (b : Bool) (d : Detail) (r : Bool) (s t : State) :
    Beside i s (insertItem k (t.personSubject j) b d r s) :=
  ⟨.insertItem h k b d r s t, fun k' => .insertItem (other_of_slot h k' k s t) b d r s⟩

theorem endCallItem (h : j ≠ i) (k : ItemKind) (s t : State) : Beside i s (endCallItem k (t.personSubject j) s) :=
  ⟨.endCallItem h k s t, fun k' => .endCallItem (other_of_slot h k' k s t) s⟩

theorem insertCall (h : j ≠ i) (r : Bool) (s : State) : Beside i s (insertCall j r s) := by
  unfold Machine.insertCall
  split
  · split
    · exact insertItem h ..
    · exact refl s
  · exact refl s

theorem endCallKind (h : j ≠ i) (s : State) : Beside i s (endCallKind j s) := by
  unfold Machine.endCallKind
  split
  · split
    · exact endCallItem h ..
    · exact refl s
  · exact refl s

theorem upgradeCall (h : j ≠ i) (a : Precedence) (s : State) : Beside i s (upgradeCall j a s) :=
  (endCallKind h s).trans ((modifyPerson h _ _).trans (insertCall h false _))

theorem judgeCallWait (h : j ≠ i) (s : State) : Beside i s (judgeCallWait j s) := by
  unfold Machine.judgeCallWait
  split
  next => exact refl s
  next p hp =>
    split
    next stamp _ _ =>
      dsimp only
      split
      · exact refl s
      · split
        · exact upgradeCall h _ s
        · exact refl s
      · split
        · exact (modifyPerson h _ _).trans (insertCall h true _)
        · exact refl s
      · split
        · exact ((modifyPerson h _ _).trans (insertCall h false _)).trans (insertItem h .manDown false .absent false _ s)
        · exact refl s
    next => exact refl s

end Beside

theorem Beside.raised {i : Fin 240} {k : ItemKind} {x : Subject} {s t : State} (h : Beside i s t) (hx : s.personSubject i = x)
    (hk : k ≠ .stranger) (hq : QueueHolds s.atq) (hr : Raised k x s) : Raised k x t := by
  subst hx
  exact h.elsewhere.raised hk hq hr

/-! ## An insert at its own matter (R38, R39) -/

section Own

variable {k : ItemKind} {x : Subject} {b : Bool} {d : Detail} {r : Bool} {s : State}

theorem mem_enterItem_erased {f : Frame} {u : State} (hu : ∀ a ∈ u.atq.items, ¬ (a.kind = k ∧ a.subject = x)) {a : Item}
    (ha : a ∈ (enterItem k x f b d u).atq.items) (hk : a.kind = k) (hx : a.subject = x) :
    a.test = b ∧ a.detail = d ∧ a.state = .new := by
  rcases mem_enterItem.1 ha with rfl | ha
  · exact ⟨rfl, rfl, rfl⟩
  · exact absurd ⟨hk, hx⟩ (hu a ha)

/-- After an insert every item of its matter carries its test mark and its detail, and one that renews leaves it NEW. -/
theorem mem_insertItem_own {a : Item} (ha : a ∈ (insertItem k x b d r s).atq.items) (hk : a.kind = k) (hx : a.subject = x) :
    a.test = b ∧ a.detail = d ∧ (r = true → a.state = .new) := by
  have hentered : ∀ {f : Frame} {u : State}, (∀ a ∈ u.atq.items, ¬ (a.kind = k ∧ a.subject = x)) →
      a ∈ (enterItem k x f b d u).atq.items → a.test = b ∧ a.detail = d ∧ (r = true → a.state = .new) :=
    fun hu hm => by
      obtain ⟨hb, hd, hnew⟩ := mem_enterItem_erased hu hm hk hx
      exact ⟨hb, hd, fun _ => hnew⟩
  cases hi : s.item k x with
  | some it =>
    cases hc : it.condition with
    | active =>
      rw [insertItem_active b d r hi hc] at ha
      have hm : a ∈ (s.changeItem k x (fun i =>
          { i with test := b, detail := d, state := if r then .new else i.state })).atq.items := by
        dsimp only at ha
        split at ha <;> exact ha
      obtain ⟨c, -, rfl⟩ := mem_changeItem.1 hm
      split at hk
      next hfor =>
        rw [if_pos hfor]
        exact ⟨rfl, rfl, fun hr => if_pos hr⟩
      next hfor =>
        rw [if_neg hfor] at hx
        exact absurd ((isFor_iff ..).2 ⟨hk, hx⟩) hfor
    | ended =>
      rw [insertItem_ended b d r hi hc] at ha
      exact hentered (fun a ha => ((mem_eraseItem ..).1 ha).2) ha
  | none =>
    have habsent := (item_none ..).1 hi
    unfold insertItem at ha
    rw [hi] at ha
    simp only at ha
    split at ha
    next => exact absurd ⟨hk, hx⟩ (habsent a ha)
    next =>
      split at ha
      · exact hentered habsent ha
      · unfold meetFullQueue at ha
        split at ha
        next => exact absurd ⟨hk, hx⟩ (habsent a ha)
        next old _ =>
          simp only at ha
          split at ha
          · refine hentered (fun a ha => habsent a ?_) ha
            split at ha <;> exact ((mem_eraseItem ..).1 ha).1
          · split at ha
            · exact absurd ⟨hk, hx⟩ (habsent a ha)
            · exact absurd ⟨hk, hx⟩ (habsent a ha)

/-- An insert that renews a matter's item that is not NEW raises ATTENTION. -/
theorem attention_insertItem (hq : QueueHolds s.atq) {a : Item} (ha : a ∈ s.atq.items) (hk : a.kind = k) (hx : a.subject = x)
    (hnew : a.state ≠ .new) : (insertItem k x b d true s).hpt.flags.attention = true := by
  have hi := item_eq_some hq ha hk hx
  cases hc : a.condition with
  | active =>
    rw [insertItem_active b d true hi hc, if_pos ⟨rfl, hnew⟩]
    rfl
  | ended =>
    rw [insertItem_ended b d true hi hc]
    rfl

end Own

/-! ## The judgement of one waiting call (R159) -/

section Judged

variable {i : Fin 240} {p : Person} {s : State}

/-- A call has waited for a limit. -/
def Person.hasWaited (p : Person) (limit : Nat) (now : Frame) : Prop :=
  p.callState = .waiting ∧ ∃ f, p.callStamp = some f ∧ limit ≤ framesSince now f

theorem judgeCallWait_climbs (hp : s.person i = some p) (hr : p.precedence = .routine)
    (h : p.hasWaited s.cal.routineLimit s.frt.frame) : judgeCallWait i s = callKey i .urgent s := by
  obtain ⟨hw, f, hf, hl⟩ := h
  simp only [judgeCallWait, callKey, hp, hw, hf, hr, if_pos hl]
  exact (if_pos (by decide)).symm

theorem judgeCallWait_lags (hp : s.person i = some p) (hr : p.precedence = .urgent) (ho : p.overdue = false)
    (h : p.hasWaited s.cal.routineLimit s.frt.frame) :
    judgeCallWait i s = insertCall i true (s.modifyPerson i (fun q => { q with overdue := true })) := by
  obtain ⟨hw, f, hf, hl⟩ := h
  simp only [judgeCallWait, hp, hw, hf, hr, ho, hl, and_self, if_true]

theorem judgeCallWait_alarms (hp : s.person i = some p) (hr : p.precedence = .emergency) (ho : p.overdue = false)
    (h : p.hasWaited s.cal.emergencyLimit s.frt.frame) : judgeCallWait i s =
      raiseItem .manDown (s.personSubject i) (insertCall i false (s.modifyPerson i (fun q => { q with overdue := true }))) := by
  obtain ⟨hw, f, hf, hl⟩ := h
  simp only [judgeCallWait, hp, hw, hf, hr, ho, hl, and_self, if_true]

theorem judgeCallWait_kept (hp : s.person i = some p)
    (hclimbs : ¬ (p.precedence = .routine ∧ p.hasWaited s.cal.routineLimit s.frt.frame))
    (hlags : ¬ (p.precedence = .urgent ∧ p.overdue = false ∧ p.hasWaited s.cal.routineLimit s.frt.frame))
    (halarms : ¬ (p.precedence = .emergency ∧ p.overdue = false ∧ p.hasWaited s.cal.emergencyLimit s.frt.frame)) :
    judgeCallWait i s = s := by
  unfold judgeCallWait
  simp only [hp]
  split
  next f hw hf =>
    split
    next => rfl
    next hr => exact if_neg fun hl => hclimbs ⟨hr, hw, f, hf, hl⟩
    next hr => exact if_neg fun hl => hlags ⟨hr, hl.1, hw, f, hf, hl.2⟩
    next hr => exact if_neg fun hl => halarms ⟨hr, hl.1, hw, f, hf, hl.2⟩
  next => rfl

end Judged

/-- A record has been given its call, which is raised, every item of it with the record's present detail. -/
structure Called (i : Fin 240) (q : Person) (k : ItemKind) (s t : State) : Prop where
  person : t.person i = some q
  subject : t.personSubject i = s.personSubject i
  raised : Raised k (s.personSubject i) t
  detailed : ∀ a ∈ t.atq.items, a.kind = k → a.subject = s.personSubject i → a.detail = q.callDetail

theorem called_insertItem {q : Person} {k : ItemKind} (hk : k ≠ .stranger) (i : Fin 240) (r : Bool) (s : State) :
    Called i q k s (insertItem k (s.personSubject i) false q.callDetail r
      (s.setSlot i { gen := (s.slot i).gen, person := some q })) := by
  have hslot := ((insertItem_only k (s.personSubject i) false q.callDetail r
    (s.setSlot i { gen := (s.slot i).gen, person := some q })).slot_eq i).trans ((slot_setSlot ..).trans (if_pos rfl))
  exact ⟨congrArg Slot.person hslot, personSubject_eq_of_gen ((congrArg Slot.gen hslot).trans rfl), raised_insertItem hk ..,
    fun a ha hka hxa => (mem_insertItem_own ha hka hxa).2.1⟩

/-- What the judgement has given a record's call, the work on the other records leaves. -/
theorem Called.settled {i : Fin 240} {q : Person} {k : ItemKind} {s t u : State} (h : Called i q k s t) (hk : k.sort = .call)
    (hq : QueueHolds t.atq) (hb : Beside i t u) :
    u.person i = some q ∧ Raised k (s.personSubject i) u
      ∧ ∀ a ∈ u.atq.items, a.kind = k → a.subject = s.personSubject i → a.detail = q.callDetail := by
  have hstranger : k ≠ .stranger := fun he => by rw [he] at hk; cases hk
  have hraised := hb.elsewhere.raised hstranger hq (h.subject ▸ h.raised)
  rw [h.subject] at hraised
  refine ⟨hb.elsewhere.person.trans h.person, hraised, fun a ha hka hxa => ?_⟩
  rcases (hb.shuffled k).after a ha hka (hxa.trans h.subject.symm) with ha | ⟨-, hd, -⟩
  · exact h.detailed a ha hka hxa
  · exact hd.trans (freshDetail_call hk h.person)

/-- A call raised by an upgrade (R47, R157). -/
theorem called_upgrade {i : Fin 240} {p : Person} {s : State} {asked : Precedence} {k : ItemKind} (hp : s.person i = some p)
    (h : p.callState = .waiting) (hr : p.precedence.code.toNat < asked.code.toNat) (hk : asked.kind? = some k) :
    Called i (p.waitingAt asked s.frt.frame) k s (callKey i asked s) := by
  have htold := (endCallKind_told i s).queueOnly
  have hsubject := personSubject_eq_of_slot (htold.slot_eq i)
  have hframe : (endCallKind i s).frt = s.frt := by rw [show endCallKind i s = _ from htold]
  have hcalled := called_insertItem (q := p.waitingAt asked s.frt.frame) (kind?_ne_stranger hk) i false (endCallKind i s)
  rw [callKey_upgrades hp h hr, raiseCall_eq ((person_queueOnly htold i).trans hp) hk, hframe]
  obtain ⟨hperson, hself, hraised, hdetailed⟩ := hcalled
  rw [hsubject] at hself hraised hdetailed
  rw [hsubject] at hperson ⊢
  exact ⟨hperson, hself, hraised, hdetailed⟩

/-- A waiting call that has become overdue, its item handed anew (R159). -/
theorem insertCall_overdue {i : Fin 240} {p : Person} {s : State} {k : ItemKind} (hp : s.person i = some p)
    (hk : p.precedence.kind? = some k) (r : Bool) :
    insertCall i r (s.modifyPerson i (fun q => { q with overdue := true })) =
      insertItem k (s.personSubject i) false (.call p.repeats true) r
        (s.setSlot i { gen := (s.slot i).gen, person := some { p with overdue := true } }) := by
  have hq : (s.setSlot i { gen := (s.slot i).gen, person := some { p with overdue := true } }).person i =
      some { p with overdue := true } := congrArg Slot.person ((slot_setSlot ..).trans (if_pos rfl))
  have hx : (s.setSlot i { gen := (s.slot i).gen, person := some { p with overdue := true } }).personSubject i =
      s.personSubject i := personSubject_eq_of_gen (by rw [slot_setSlot, if_pos rfl])
  rw [modifyPerson_eq hp, insertCall_of hq hk, hx]
  rfl

/-- An insert that renews a record's call item leaves it NEW, and ATTENTION raised where it was not. -/
theorem renewed_settled {i : Fin 240} {q : Person} {k : ItemKind} {d : Detail} {s t : State} (hq : QueueHolds s.atq)
    (hx : (insertItem k (s.personSubject i) false d true
      (s.setSlot i { gen := (s.slot i).gen, person := some q })).personSubject i = s.personSubject i)
    (hb : Beside i (insertItem k (s.personSubject i) false d true
      (s.setSlot i { gen := (s.slot i).gen, person := some q })) t) :
    (∀ a ∈ t.atq.items, a.kind = k → a.subject = s.personSubject i → a.state = .new)
      ∧ (∀ a ∈ s.atq.items, a.kind = k → a.subject = s.personSubject i → a.state ≠ .new → t.hpt.flags.attention = true)
      ∧ (s.hpt.flags.attention = true → t.hpt.flags.attention = true) := by
  have hshuffled := hb.shuffled k
  rw [hx] at hshuffled
  refine ⟨fun a ha hk hax => ?_, fun a ha hk hax hnew => hshuffled.told ?_, fun h => hshuffled.told ?_⟩
  · rcases hshuffled.after a ha hk hax with ha | ⟨hnew, -⟩
    · exact (mem_insertItem_own ha hk hax).2.2 rfl
    · exact hnew
  · exact attention_insertItem (s := s.setSlot i { gen := (s.slot i).gen, person := some q }) hq ha hk hax hnew
  · exact (QueueTold.insertItem ..).kept h

/-- MAN_DOWN raised beside a call leaves what the call has been given. -/
theorem Called.manDown {i : Fin 240} {q : Person} {k : ItemKind} {s t : State} (h : Called i q k s t) (hk : k.sort = .call)
    (hq : QueueHolds t.atq) : Called i q k s (raiseItem .manDown (s.personSubject i) t) := by
  have hne : k ≠ .manDown := fun he => by rw [he] at hk; cases hk
  have hstranger : k ≠ .stranger := fun he => by rw [he] at hk; cases hk
  have hother : Other k (s.personSubject i) .manDown (s.personSubject i) := .of_kind (Ne.symm hne)
  have hslot := (raiseItem_only .manDown (s.personSubject i) t).slot_eq i
  refine ⟨(person_eq_of_slot hslot).trans h.person, (personSubject_eq_of_slot hslot).trans h.subject,
    (Spares.raiseItem hstranger hother t).raised hq h.raised, fun a ha hka hxa => ?_⟩
  rcases (Shuffled.insertItem hother false .absent false t).after a ha hka hxa with ha | ⟨-, hd, -⟩
  · exact h.detailed a ha hka hxa
  · rw [hd, ← h.subject]
    exact freshDetail_call hk h.person

theorem judgeCallWait_holds (i : Fin 240) {s : State} (h : QueueHolds s.atq) : QueueHolds (judgeCallWait i s).atq :=
  (Aside.judgeCallWait i s).roll.queue h

theorem insertCall_rosterOnly (i : Fin 240) (r : Bool) (s : State) : RosterOnly s (insertCall i r s) := by
  unfold insertCall
  split
  · split
    · exact (insertItem_only ..).rosterOnly
    · exact .refl s
  · exact .refl s

theorem judgeCallWait_rosterOnly (i : Fin 240) (s : State) : RosterOnly s (judgeCallWait i s) := by
  unfold judgeCallWait
  split
  · exact .refl s
  · split
    · dsimp only
      split
      · exact .refl s
      · split
        · exact (endCallKind_told i s).queueOnly.rosterOnly.trans ((RosterOnly.modifyPerson i _ _).trans (insertCall_rosterOnly ..))
        · exact .refl s
      · split
        · exact (RosterOnly.modifyPerson i _ s).trans (insertCall_rosterOnly ..)
        · exact .refl s
      · split
        · exact ((RosterOnly.modifyPerson i _ s).trans (insertCall_rosterOnly ..)).trans (raiseItem_only ..).rosterOnly
        · exact .refl s
    · exact .refl s

/-! ## The judgement of all waiting calls (R159) -/

/-- Settles O52: the sweep visits each record once, and judges its call by its precedence and by the frames it has waited. -/
theorem callWaitsAreJudged : Obligations.CallWaitsAreJudged := by
  intro s hs x
  have hexec : exec .callWaitJudgement s = .next (takeCallWait s) := congrArg Host.Outcome.next (unlessReset_high hs _)
  refine ⟨fun h => ?_, fun h hq => ?_⟩
  · rw [hexec, takeCallWait, h, if_neg Bool.false_ne_true]
  · have hrun : exec .callWaitJudgement s = .next (judgeCallWaits { s with handed := { s.handed with callWait := false } }) := by
      rw [hexec, takeCallWait, if_pos h]
    have honly := forEach_rosterOnly judgeCallWait_rosterOnly s.liveSlots { s with handed := { s.handed with callWait := false } }
    have hvisits := fun i p (hp : s.person i = some p) => forEach_visits (i := i) Beside.refl (fun _ _ _ => Beside.trans)
      (liveSlots_nodup s) ((mem_liveSlots s i).2 ⟨p, hp⟩) (fun j hj u => Beside.judgeCallWait hj u)
      { s with handed := { s.handed with callWait := false } }
    have hfree := fun i (hp : s.person i = none) => Elsewhere.free (i := i)
      (s := { s with handed := { s.handed with callWait := false } }) hp fun j hj u => (Beside.judgeCallWait hj u).elsewhere
    refine ⟨_, hrun, honly, fun i => ?_⟩
    change ∀ i p, s.person i = some p → ∃ u, Beside i _ u ∧ Beside i (judgeCallWait i u)
      (judgeCallWaits { s with handed := { s.handed with callWait := false } }) at hvisits
    change ∀ i, s.person i = none → Elsewhere i _ (judgeCallWaits { s with handed := { s.handed with callWait := false } }) at hfree
    generalize judgeCallWaits { s with handed := { s.handed with callWait := false } } = t at *
    cases hp : s.person i with
    | none =>
      have h := hfree i hp
      exact ⟨(congrArg Slot.gen h.slot).trans rfl, fun _ => h.person.trans hp, fun p hp' => nomatch hp'⟩
    | some p =>
      obtain ⟨u, hbefore, hafter⟩ := hvisits i p hp
      have hu : u.person i = some p := hbefore.elsewhere.person.trans hp
      have hsubject : u.personSubject i = x i := hbefore.elsewhere.subject
      have hqu : QueueHolds u.atq := hbefore.elsewhere.holds hq
      have hqv := judgeCallWait_holds i hqu
      have hcal : u.cal = s.cal := by rw [show u = _ from hbefore.elsewhere.only]
      have hframe : u.frt = s.frt := by rw [show u = _ from hbefore.elsewhere.only]
      have hgen : (t.slot i).gen = (s.slot i).gen :=
        (congrArg Slot.gen hafter.elsewhere.slot).trans (((Aside.judgeCallWait i u).roll.gens i).trans
          ((congrArg Slot.gen hbefore.elsewhere.slot).trans rfl))
      refine ⟨hgen, fun hn => (Option.some_ne_none p hn).elim, fun p' hp' => ?_⟩
      obtain rfl := Option.some.inj hp'
      intro since climbs lags alarms detailed
      have hsince : ∀ limit, p.hasWaited limit u.frt.frame ↔ since limit := fun limit => by rw [hframe]; rfl
      refine ⟨fun h => ?_, fun h => ?_, fun h => ?_, fun hclimbs hlags halarms => ?_⟩
      · have hv := judgeCallWait_climbs hu h.1 (by rw [hsince, hcal]; exact h.2)
        rw [hv] at hqv hafter
        have hrank : p.precedence.code.toNat < Precedence.urgent.code.toNat := by rw [h.1]; decide
        obtain ⟨hperson, hraised, hdetail⟩ := (called_upgrade hu h.2.1 hrank rfl).settled rfl hqv hafter
        obtain ⟨-, hupgrades⟩ := callKeys_spec hu hqu (asked := .urgent) rfl
        obtain ⟨honly, -, hended⟩ := hupgrades h.2.1 hrank
        have hself : (callKey i .urgent u).personSubject i = u.personSubject i :=
          (called_upgrade hu h.2.1 hrank rfl).subject
        have hroutine := hafter.elsewhere.notRaised (k := .routineCall) (by decide) hqv
          (hself ▸ hended .routineCall (by rw [h.1]; rfl))
        rw [hself, hsubject] at hroutine
        rw [hsubject] at hraised hdetail
        refine ⟨hperson.trans ?_, hroutine, hraised, hdetail⟩
        rw [hframe, Person.waitingAt, ← h.2.1]
      · have hk : p.precedence.kind? = some .urgentCall := by rw [h.1]; rfl
        have hv := (judgeCallWait_lags hu h.1 h.2.1 (by rw [hsince, hcal]; exact h.2.2)).trans (insertCall_overdue hu hk true)
        rw [hv] at hqv hafter
        have hcalled := called_insertItem (q := { p with overdue := true }) (k := .urgentCall) (by decide) i true u
        obtain ⟨hperson, hraised, hdetail⟩ := hcalled.settled rfl hqv hafter
        obtain ⟨hnew, htold, hkept⟩ := renewed_settled hqu hcalled.subject hafter
        rw [hsubject] at hraised hdetail hnew htold
        refine ⟨hperson, hraised, hdetail, hnew, fun it hit hik hix hstate => ?_⟩
        rcases (hbefore.shuffled .urgentCall).before it hit hik hix with hm | ha
        · exact htold it hm hik hix hstate
        · exact hkept ha
      · have hk : p.precedence.kind? = some .emergencyCall := by rw [h.1]; rfl
        have hv := (judgeCallWait_alarms hu h.1 h.2.1 (by rw [hsince, hcal]; exact h.2.2)).trans
          (congrArg (raiseItem .manDown (u.personSubject i)) (insertCall_overdue hu hk false))
        rw [hv] at hqv hafter
        have hinserted := insertItem_holds .emergencyCall (u.personSubject i) false (.call p.repeats true) false
          (u.setSlot i { gen := (u.slot i).gen, person := some { p with overdue := true } }) hqu
        have hcalled := (called_insertItem (q := { p with overdue := true }) (k := .emergencyCall) (by decide) i false u).manDown
          rfl hinserted
        obtain ⟨hperson, hraised, hdetail⟩ := hcalled.settled rfl hqv hafter
        have hdown := raised_raiseItem (k := .manDown) (x := u.personSubject i) (by decide)
          (insertItem .emergencyCall (u.personSubject i) false (.call p.repeats true) false
            (u.setSlot i { gen := (u.slot i).gen, person := some { p with overdue := true } }))
        have hdown' := hafter.raised hcalled.subject (by decide) hqv hdown
        rw [hsubject] at hdown'
        rw [hsubject] at hraised hdetail
        exact ⟨hperson, hraised, hdetail, hdown'⟩
      · rw [judgeCallWait_kept hu (by rw [hsince, hcal]; exact hclimbs) (by rw [hsince, hcal]; exact hlags)
          (by rw [hsince, hcal]; exact halarms)] at hafter
        exact hafter.elsewhere.person.trans hu

end Sys2Proof.Machine
end

section
/-! START (R180): the five checks in their order, and what the part is when it runs. -/

namespace Sys2Proof.Machine

open Sys2Proof.Safety (Ready answered taken)

/-! ## A change of a channel leaves the frame timer and its notices -/

theorem TimerStays.orderZone (cause : Causes) (z : Fin 32) (s : State) : TimerStays s (orderZone cause z s) := by
  unfold Machine.orderZone
  split
  · exact .of_eq
  · exact .trans (.of_eq (t := alertCaught z (s.modifyZone z _))) (.forEach (fun n => .withdrawEntry (some z) n) _ _)

theorem TimerStays.evacuateByAir (z : Fin 32) (x y : AirState) (s : State) : TimerStays s (evacuateByAir z x y s) := by
  refine .trans (.trans (?_ : TimerStays s (orderByAir z y s)) ?_) (.forEach (fun r => .deriveReasons r) _ _)
  · exact .ite (.orderZone ..) (.refl _)
  · unfold orderByLine
    split
    · split
      · exact .forEach (fun w => .orderZone _ w) _ _
      · exact .refl _
    · exact .refl _

theorem TimerStays.judgeZoneLine (z : Fin 32) (s : State) : TimerStays s (judgeZoneLine z s) := by
  unfold Machine.judgeZoneLine judgeLine
  split
  · exact .ite (.refl _) (.trans .of_eq (.notify (by decide) (by decide) _))
  · exact .refl _

theorem TimerStays.exposeRise (z : Fin 32) (x y : AirState) (s : State) : TimerStays s (exposeRise z x y s) := by
  unfold Machine.exposeRise
  split
  · exact .refl _
  · exact .ite (.forEach (fun i t => .ite (.raiseExposure i t) (.refl t)) _ _) (.refl _)

theorem TimerStays.handReported (z : Fin 32) (x y : AirState) (s : State) : TimerStays s (handReported z x y s) := by
  have hend : TimerStays s (endZoneItem z x s) := by
    unfold endZoneItem
    split
    · exact .endItem ..
    · exact .refl _
  have hinsert (b : Bool) (t : State) : TimerStays t (insertZoneItem z y b t) := by
    unfold insertZoneItem
    split
    · exact .insertItem ..
    · exact .refl _
  exact .ite (.refl _) (.ite ((hend.trans (hinsert _ _)).trans (.forEach (fun n => .withdrawEntry (some z) n) _ _))
    (hend.trans (hinsert _ _)))

theorem TimerStays.updateTestMark (z : Fin 32) (s : State) : TimerStays s (updateTestMark z s) := by
  unfold Machine.updateTestMark
  split
  · exact .refl _
  · split
    · exact .refl _
    · exact .ite (.insertItem ..) (.refl _)

theorem TimerStays.handReal (z : Fin 32) (x y : AirState) (s : State) : TimerStays s (handReal z x y s) :=
  .ite (.refl _) (.trans (.trans (.judgeZoneLine ..) (.evacuateByAir ..)) (.exposeRise ..))

theorem TimerStays.recomputeZone (z : Fin 32) (s : State) : TimerStays s (recomputeZone z s) :=
  .ite (.refl _) (.trans (t := s.modifyZone z _) .of_eq
    (.trans (.handReported ..) (.trans (.updateTestMark ..) (.handReal ..))))

theorem TimerStays.changeChannel (c : Fin 32) (f : Channel → Channel) (s : State) : TimerStays s (changeChannel c f s) := by
  refine .ite .of_eq ?_
  cases (f (s.channel c)).zone with
  | none => exact .of_eq
  | some z => exact .trans .of_eq (.recomputeZone z _)

/-! ## The checks (R180) -/

theorem areOrdered_iff {w : Windows} {n : Nat} : w.areOrdered n = true ↔
    1 ≤ w.tagEnd ∧ w.tagEnd ≤ w.haulStart ∧ w.haulStart ≤ w.haulEnd ∧ w.haulEnd ≤ w.callStart
      ∧ w.callStart ≤ w.callEnd ∧ w.callEnd ≤ n ∧ w.haulEnd - w.haulStart ≤ 24 := decide_eq_true_iff

theorem channelZoneHolds_iff {s : State} {c : Fin 32} :
    s.channelZoneHolds c = true ↔ ∀ z, (s.channel c).zone = some z → (s.zone z).configured = true := by
  unfold State.channelZoneHolds
  cases h : (s.channel c).zone with
  | none => simp
  | some z => simp

theorem refugeZoneHolds_iff {s : State} {r : Fin 8} : s.refugeZoneHolds r = true
    ↔ ((s.refuge r).configured = true → ∃ z, (s.refuge r).zone = some z ∧ (s.zone z).kind = .refuge) := by
  unfold State.refugeZoneHolds
  cases hz : (s.refuge r).zone <;> cases hc : (s.refuge r).configured <;> simp

theorem zoneRefugeHolds_iff {s : State} {z : Fin 32} :
    s.zoneRefugeHolds z = true ↔ ∀ r, (s.zone z).refuge = some r → (s.refuge r).configured = true := by
  unfold State.zoneRefugeHolds
  cases h : (s.zone z).refuge with
  | none => simp
  | some r => simp

theorem tripLineHolds_iff {s : State} {z : Fin 32} :
    s.tripLineHolds z = true ↔ ((s.zone z).tripLine ≠ none → (s.zone z).monitored = true) := by
  unfold State.tripLineHolds
  cases (s.zone z).tripLine <;> simp

/-- No key of a table fails a check that each of them passes. -/
theorem find?_not_none {n : Nat} {q : Fin n → Bool} (h : ∀ i, q i = true) : (List.finRange n).find? (fun i => !q i) = none :=
  List.find?_eq_none.2 fun i _ => by rw [h i]; decide

/-- The least key of a table that fails a check. -/
theorem find?_not_some {n : Nat} {q : Fin n → Bool} {i : Fin n} (hi : ¬ q i = true) (hbefore : ∀ j < i, q j = true) :
    (List.finRange n).find? (fun i => !q i) = some i :=
  find?_finRange (by rw [Bool.eq_false_of_not_eq_true hi]; rfl) fun j hj => by rw [hbefore j hj]; rfl

section Checks

variable {s : State}

theorem startFailure_unordered (h : ¬ s.frt.active.areOrdered s.frt.total = true) : startFailure s = some (1, 0) := if_neg h

variable (hw : s.frt.active.areOrdered s.frt.total = true)

include hw

theorem startFailure_channel {c : Fin 32} (hc : ¬ s.channelZoneHolds c = true)
    (hbefore : ∀ d < c, s.channelZoneHolds d = true) : startFailure s = some (2, c.val) := by
  rw [startFailure, if_pos hw, allChannels, find?_not_some hc hbefore]

variable (hc : ∀ c, s.channelZoneHolds c = true)

include hc

theorem startFailure_refuge {r : Fin 8} (hr : ¬ s.refugeZoneHolds r = true)
    (hbefore : ∀ d < r, s.refugeZoneHolds d = true) : startFailure s = some (3, r.val) := by
  rw [startFailure, if_pos hw, allChannels, find?_not_none hc, allRefuges, find?_not_some hr hbefore]

variable (hr : ∀ r, s.refugeZoneHolds r = true)

include hr

theorem startFailure_zoneRefuge {z : Fin 32} (hz : ¬ s.zoneRefugeHolds z = true)
    (hbefore : ∀ d < z, s.zoneRefugeHolds d = true) : startFailure s = some (4, z.val) := by
  rw [startFailure, if_pos hw, allChannels, find?_not_none hc, allRefuges, find?_not_none hr, allZones,
    find?_not_some hz hbefore]

variable (hz : ∀ z, s.zoneRefugeHolds z = true)

include hz

theorem startFailure_tripLine {z : Fin 32} (hl : ¬ s.tripLineHolds z = true)
    (hbefore : ∀ d < z, s.tripLineHolds d = true) : startFailure s = some (5, z.val) := by
  rw [startFailure, if_pos hw, allChannels, find?_not_none hc, allRefuges, find?_not_none hr, allZones,
    find?_not_none hz, find?_not_some hl hbefore]
  rfl

theorem startFailure_none (hl : ∀ z, s.tripLineHolds z = true) : startFailure s = none := by
  rw [startFailure, if_pos hw, allChannels, find?_not_none hc, allRefuges, find?_not_none hr, allZones,
    find?_not_none hz, find?_not_none hl]
  rfl

end Checks

/-! ## The timer armed and the sequencer started (R2, R180) -/

theorem armTimer_frt (s : State) : (armTimer s).frt = { s.frt with
    timer := .armed, slot := 0, frame := 0, restartPending := false, countRun := 0,
    lock := if s.frt.sync = .pulsed then .seeking else s.frt.lock } := by
  unfold armTimer
  cases h : s.frt.sync with
  | pulsed => exact (setLock_frt ..).trans rfl
  | free => rfl

theorem armTimer_lock (s : State) : (armTimer s).hpt.flags.lock = true
    ↔ s.hpt.flags.lock = true ∨ (s.frt.sync = .pulsed ∧ s.frt.lock ≠ .seeking) := by
  unfold armTimer
  cases h : s.frt.sync with
  | pulsed =>
    dsimp only
    rw [setLock_flag, Bool.or_eq_true, decide_eq_true_iff, ne_comm]
    exact or_congr_right (and_iff_right rfl).symm
  | free => simp

theorem armTimer_only (s : State) :
    armTimer s = { s with frt := (armTimer s).frt, hpt := { s.hpt with flags := (armTimer s).hpt.flags } } := by
  unfold armTimer setLock
  cases s.frt.sync with
  | pulsed => dsimp only; split <;> rfl
  | free => rfl

/-- What a change of some channels' records leaves, beside the records it makes. -/
structure ChannelsChanged (f : Channel → Channel) (l : List (Fin 32)) (s t : State) : Prop where
  timer : TimerStays s t
  sequencer : SequencerStays s t
  phase : t.hpt.phase = s.hpt.phase
  channel : ∀ c, t.channel c = if c ∈ l then f (s.channel c) else s.channel c

theorem channelsChanged_forEach (f : Channel → Channel) {l : List (Fin 32)} (hl : l.Nodup) (s : State) :
    ChannelsChanged f l s (forEach l (fun c => changeChannel c f) s) := by
  induction l generalizing s with
  | nil => exact ⟨.refl s, .refl s, rfl, fun c => (if_neg List.not_mem_nil).symm⟩
  | cons d l ih =>
    obtain ⟨hd, hl⟩ := List.nodup_cons.1 hl
    have h := ih hl (changeChannel d f s)
    refine ⟨(TimerStays.changeChannel d f s).trans h.timer, (SequencerStays.changeChannel d f s).trans h.sequencer,
      h.phase.trans (changeChannel_hpt_phase ..), fun c => (h.channel c).trans ?_⟩
    rw [channel_changeChannel]
    by_cases hc : c = d
    · rw [if_neg (hc ▸ hd), if_pos hc, if_pos (List.mem_cons.2 (.inl hc)), hc]
    · rw [if_neg hc]
      exact if_congr (by rw [List.mem_cons, or_iff_right hc]) rfl rfl

/-- The sequencer's registers at START (R180). -/
def sequencerReset (s : State) : State :=
  { s with air := { s.air with mode := .scan, enableSet := 0xff, lastGroup := 7, resume := none, onceSet := 0 } }

/-- The channels that START warms: enabled and OFF (R180). -/
def startedChannels (s : State) : List (Fin 32) :=
  allChannels.filter (fun c => (s.channel c).enabled && (s.channel c).real == .off)

theorem mem_startedChannels {s : State} {c : Fin 32} :
    c ∈ startedChannels s ↔ (s.channel c).enabled = true ∧ (s.channel c).real = .off := by
  simp [startedChannels, allChannels]

theorem startSequencer_spec (s : State) :
    ChannelsChanged Channel.warming (startedChannels s) (sequencerReset s) (startSequencer s) :=
  channelsChanged_forEach _ ((List.nodup_finRange 32).filter _) _

/-! ## START -/

theorem reqStart_bad {s : State} {check key : Nat} (h : startFailure s = some (check, key)) :
    reqStart (taken s) = answered .badSetup [byteOf check, byteOf key] s := by
  have htaken : startFailure (taken s) = some (check, key) := h
  rw [reqStart, htaken]
  exact reply_taken ..

/-- The part as START hands it to the sequencer: running, its timer armed. -/
def armed (s : State) : State := armTimer { taken s with hpt := { (taken s).hpt with phase := .running } }

theorem armed_air (s : State) : (armed s).air = s.air := by
  rw [armed, armTimer_only]
  rfl

theorem sequencerReset_armed_air (s : State) : (sequencerReset (armed s)).air = (sequencerReset s).air := by
  rw [sequencerReset, armed_air]
  rfl

theorem armed_phase (s : State) : (armed s).hpt.phase = .running := by
  rw [armed, armTimer_only]

theorem reqStart_runs {s : State} (h : startFailure s = none) : reqStart (taken s) = (startSequencer (armed s)).done := by
  have htaken : startFailure (taken s) = none := h
  rw [reqStart, htaken]
  rfl

/-- Settles O59: each check that fails is answered with its number and the least key that fails it, and where all hold the
timer is armed and the enabled channels are warmed. -/
theorem startChecksTheSetupAndArms : Obligations.StartChecksTheSetupAndArms := by
  intro s hready hsetup
  dsimp only
  have hexec : exec .start s = .next (reqStart (taken s)) := exec_admitted hready rfl rfl (by rw [hsetup]; rfl)
  simp only [← areOrdered_iff, ← channelZoneHolds_iff, ← refugeZoneHolds_iff, ← zoneRefugeHolds_iff, ← tripLineHolds_iff, hexec]
  refine ⟨fun hw => congrArg _ (reqStart_bad (startFailure_unordered hw)),
    fun hw c hc hbefore => congrArg _ (reqStart_bad (startFailure_channel hw hc hbefore)),
    fun hw hc r hr hbefore => congrArg _ (reqStart_bad (startFailure_refuge hw hc hr hbefore)),
    fun hw hc hr z hz hbefore => congrArg _ (reqStart_bad (startFailure_zoneRefuge hw hc hr hz hbefore)),
    fun hw hc hr hz z hl hbefore => congrArg _ (reqStart_bad (startFailure_tripLine hw hc hr hz hl hbefore)),
    fun hw hc hr hz hl => ⟨_, congrArg _ (reqStart_runs (startFailure_none hw hc hr hz hl)), rfl, ?_, ?_, ?_, ?_, ?_⟩⟩
  all_goals have h := startSequencer_spec (armed s)
  · exact h.phase.trans (armed_phase s)
  · show (startSequencer (armed s)).hpt.flags.lock = true ↔ _
    rw [h.timer.lock]
    exact armTimer_lock _
  · exact h.timer.frt.trans (armTimer_frt _)
  · refine Eq.trans h.sequencer ?_
    rw [sequencerReset_armed_air]
    rfl
  · intro c
    refine (h.channel c).trans ?_
    have hchannel : (sequencerReset (armed s)).channel c = s.channel c :=
      congrArg (fun a => a.channels.get c) (sequencerReset_armed_air s)
    exact hchannel ▸ if_congr mem_startedChannels rfl rfl

end Sys2Proof.Machine
end

section
/-! The message in hand is the field link's own: what a report is handed to neither reads nor writes it (R169). -/

namespace Sys2Proof.Machine

/-! ## Changes that commute with the message in hand -/

/-- A change neither reads nor writes the message in hand. -/
structure Overlooks (f : State → State) : Prop where
  apply : ∀ m s, f (setInHand m s) = setInHand m (f s)

namespace Overlooks

variable {f g : State → State}

theorem id : Overlooks fun s => s := ⟨fun _ _ => rfl⟩

theorem comp (hg : Overlooks g) (hf : Overlooks f) : Overlooks fun s => g (f s) :=
  ⟨fun m s => (congrArg g (hf.apply m s)).trans (hg.apply m _)⟩

theorem ite {c : Prop} [Decidable c] (hf : Overlooks f) (hg : Overlooks g) : Overlooks fun s => if c then f s else g s :=
  .mk fun m s => by
    split
    · exact hf.apply m s
    · exact hg.apply m s

theorem forEach {α : Type} {f : α → State → State} (h : ∀ a, Overlooks (f a)) (l : List α) : Overlooks (forEach l f) :=
  .mk fun m s => by
    induction l generalizing s with
    | nil => rfl
    | cons a l ih => exact (congrArg (Machine.forEach l f) ((h a).apply m s)).trans (ih _)

/-! ### The queue -/

theorem freshDetail (k : ItemKind) (x : Subject) (m : Option Received) (s : State) :
    freshDetail k x (setInHand m s) = freshDetail k x s := by cases x <;> rfl

theorem freshTest (x : Subject) (m : Option Received) (s : State) : freshTest x (setInHand m s) = freshTest x s := by
  cases x <;> rfl

theorem reinsert : Overlooks reinsert := .mk fun m s => by
  unfold Machine.reinsert
  change (if s.atq.items.length < Config.queueCapacity then
    match chosenDue s.frt.frame s.atq.due with | some d => _ | none => _ else _) = _
  split
  · cases chosenDue s.frt.frame s.atq.due with
    | none => rfl
    | some d =>
      dsimp only
      rw [freshTest, freshDetail]
      rfl
  · rfl

theorem removeItem (k : ItemKind) (x : Subject) : Overlooks (removeItem k x) :=
  comp (f := State.eraseItem k x) reinsert ⟨fun _ _ => rfl⟩

theorem meetFullQueue (k : ItemKind) (x : Subject) (b : Bool) (d : Detail) : Overlooks (meetFullQueue k x b d) := .mk fun m s => by
  unfold Machine.meetFullQueue
  change (match candidate s.atq.items with | none => _ | some old => _) = _
  cases candidate s.atq.items with
  | none => rfl
  | some old =>
    dsimp only
    split
    · split <;> rfl
    · split <;> rfl

theorem insertItem (k : ItemKind) (x : Subject) (b : Bool) (d : Detail) (r : Bool) : Overlooks (insertItem k x b d r) :=
  .mk fun m s => by
    unfold Machine.insertItem
    change (match s.item k x with | some it => _ | none => match s.dueMark k x with | some _ => _ | none => _) = _
    cases s.item k x with
    | some it =>
      dsimp only
      split
      · split <;> rfl
      · rfl
    | none =>
      cases s.dueMark k x with
      | some f => rfl
      | none =>
        dsimp only
        exact (ite ⟨fun _ _ => rfl⟩ (meetFullQueue k x b d)).apply m s

theorem raiseItem (k : ItemKind) (x : Subject) : Overlooks (raiseItem k x) := insertItem k x false .absent false

theorem endItem (k : ItemKind) (x : Subject) : Overlooks (endItem k x) := .mk fun m s => by
  unfold Machine.endItem
  change (match s.item k x with | some it => _ | none => _) = _
  cases s.item k x with
  | some it => exact (ite (ite (removeItem k x) ⟨fun _ _ => rfl⟩) id).apply m s
  | none => rfl

theorem endCallItem (k : ItemKind) (x : Subject) : Overlooks (endCallItem k x) := .mk fun m s => by
  unfold Machine.endCallItem
  change (match s.item k x with | some it => _ | none => _) = _
  cases s.item k x with
  | some it => exact (removeItem k x).apply m s
  | none => rfl

/-! ### Records, counts and occupancies -/

theorem modifyPerson (i : Fin 240) (h : Person → Person) : Overlooks (State.modifyPerson i h) := ⟨fun _ _ => rfl⟩

theorem countClaim (a b : Option (Fin 32)) : Overlooks (countClaim a b) := by
  cases a with
  | none => cases b <;> exact ⟨fun _ _ => rfl⟩
  | some a =>
    cases b with
    | none => exact ⟨fun _ _ => rfl⟩
    | some b => exact ite id ⟨fun _ _ => rfl⟩

theorem deriveReasons (r : Fin 8) : Overlooks (deriveReasons r) := .mk fun m s => by
  have hhand (old new : FaultReasons) : Overlooks (handReasons r old new) := ite id (ite (endItem ..) (insertItem ..))
  cases h : (s.refuge r).configured with
  | false => rw [deriveReasons_unconfigured h, deriveReasons_unconfigured (s := setInHand m s) h]
  | true =>
    rw [deriveReasons_of h, deriveReasons_of (s := setInHand m s) h]
    exact (hhand _ (s.reasonsOf (s.refuge r))).apply m
      (s.modifyRefuge r fun x => { x with reasons := s.reasonsOf (s.refuge r) })

theorem occupancyClaim (r : Option (Fin 8)) : Overlooks (occupancyClaim r) := by
  cases r with
  | none => exact id
  | some r => exact comp (f := State.modifyRefuge r _) (deriveReasons r) ⟨fun _ _ => rfl⟩

/-! ### Escorts, exposure and alerts -/

theorem judgeSeparation (i : Fin 240) : Overlooks (judgeSeparation i) := .mk fun m s => by
  unfold Machine.judgeSeparation
  change (match s.person i with
    | none => _
    | some p => if p.role = Role.visitor then if s.isSeparated p = true then _ else _ else _) = _
  cases s.person i with
  | none => rfl
  | some p =>
    dsimp only
    split
    · split
      · cases p.separation <;> rfl
      · cases p.separation with
        | none => rfl
        | some f =>
          dsimp only
          split
          · exact (endItem _ _).apply m (s.modifyPerson i _)
          · rfl
    · rfl

theorem judgeEscorts (i : Fin 240) : Overlooks (judgeEscorts i) := .mk fun m s =>
  (comp (forEach judgeSeparation (s.visitorsOf (s.handle i))) (judgeSeparation i)).apply m s

theorem raiseExposure (i : Fin 240) : Overlooks (raiseExposure i) := .mk fun m s => by
  have hjudge : Overlooks (judgeExposure i) := .mk fun m s => by
    unfold Machine.judgeExposure
    change (match s.person i with | some p => if p.exposure = s.rst.exposureLimit then _ else _ | none => _) = _
    cases s.person i with
    | none => rfl
    | some p => exact (ite (raiseItem ..) id).apply m s
  unfold Machine.raiseExposure
  change (match s.person i with | some p => _ | none => _) = _
  cases s.person i with
  | none => rfl
  | some p => exact (ite (comp hjudge (modifyPerson i _)) id).apply m s

theorem exposeMove (i : Fin 240) (a b : Option (Fin 32)) : Overlooks (exposeMove i a b) := .mk fun m s => by
  have hair : (setInHand m s).isBadAir b = s.isBadAir b := by cases b <;> rfl
  unfold Machine.exposeMove
  rw [hair]
  change (match s.rst.exposureMode with | .time => _ | .entries => _) = _
  cases s.rst.exposureMode with
  | time => rfl
  | entries => exact (ite (raiseExposure i) id).apply m s

theorem isOrdered (z : Option (Fin 32)) (m : Option Received) (s : State) : (setInHand m s).isOrdered z = s.isOrdered z := by
  cases z <;> rfl

theorem alertArrived (i : Fin 240) : Overlooks (alertArrived i) := .mk fun m s => by
  simp only [Machine.alertArrived, isOrdered]
  rfl

/-! ### Sightings -/

theorem handSighting (i : Fin 240) (p q : Person) : Overlooks (handSighting i p q) := .mk fun m s => by
  have hplaced : Overlooks fun s => if p.state = .mustered then Machine.occupancyClaim p.refuge
      (Machine.countClaim p.countedZone q.countedZone s) else Machine.countClaim p.countedZone q.countedZone s :=
    ite (comp (occupancyClaim _) (countClaim _ _)) (countClaim _ _)
  have hmissing : Overlooks fun t => if p.state = .missing then Machine.endItem .missing (s.personSubject i) t else t :=
    ite (endItem ..) id
  have hjudged : Overlooks fun t => if p.state = q.state ∧ p.zone = q.zone then t else Machine.judgeEscorts i t :=
    ite id (judgeEscorts i)
  exact (comp (alertArrived i) (comp (exposeMove i p.countedZone q.countedZone)
    (comp hjudged (comp hmissing hplaced)))).apply m s

theorem placeSighted (i : Fin 240) (p : Person) (z : Fin 32) (level : Nat) (frame : Frame) :
    Overlooks (placeSighted i p z level frame) := comp (g := Machine.handSighting i p _) (handSighting ..) (modifyPerson ..)

theorem sightByReader (i : Fin 240) (p : Person) (z : Fin 32) (level : Nat) (frame : Frame) :
    Overlooks (sightByReader i p z level frame) := by
  unfold Machine.sightByReader
  cases p.state
  case mustered =>
    have hstays (f : Person → Person) : Overlooks fun s => Machine.alertArrived i (s.modifyPerson i f) :=
      comp (alertArrived i) (modifyPerson i f)
    exact .mk fun m s => (ite (hstays _) (placeSighted i p z level frame)).apply m s
  all_goals exact placeSighted ..

theorem sightByTruck (i : Fin 240) (p : Person) (z : Fin 32) (frame : Frame) : Overlooks (sightByTruck i p z frame) := by
  unfold Machine.sightByTruck
  cases p.state
  case mustered => exact id
  all_goals exact placeSighted ..

theorem enrolAtPortal (i : Fin 240) (tag : Tag) (z : Fin 32) (level : Nat) (frame : Frame) :
    Overlooks (enrolAtPortal i tag z level frame) :=
  comp (g := Machine.handSighting i _ _) (f := makeRecord i _) (handSighting ..) ⟨fun _ _ => rfl⟩

/-! ### Keys -/

theorem insertCall (i : Fin 240) (r : Bool) : Overlooks (insertCall i r) := .mk fun m s => by
  unfold Machine.insertCall
  change (match s.person i with | some p => _ | none => _) = _
  cases s.person i with
  | none => rfl
  | some p =>
    dsimp only
    cases p.precedence.kind? with
    | none => rfl
    | some k => exact (insertItem _ _ _ _ _).apply m s

theorem endCallKind (i : Fin 240) : Overlooks (endCallKind i) := .mk fun m s => by
  unfold Machine.endCallKind
  change (match s.person i with | some p => _ | none => _) = _
  cases s.person i with
  | none => rfl
  | some p =>
    dsimp only
    cases p.precedence.kind? with
    | none => rfl
    | some k => exact (endCallItem _ _).apply m s

theorem raiseCall (i : Fin 240) (x : Precedence) : Overlooks (raiseCall i x) := .mk fun m s =>
  (comp (insertCall i false) (modifyPerson i fun p => p.waitingAt x s.frt.frame)).apply m s

theorem callKey (i : Fin 240) (x : Precedence) : Overlooks (callKey i x) := .mk fun m s => by
  unfold Machine.callKey
  change (match s.person i with | none => _ | some p => _) = _
  cases s.person i with
  | none => rfl
  | some p =>
    dsimp only
    cases p.callState with
    | noCall => exact (raiseCall i x).apply m s
    | waiting => exact (ite (comp (raiseCall i x) (endCallKind i)) (comp (insertCall i false) (modifyPerson i _))).apply m s
    | connected => rfl

theorem endConnected (i : Fin 240) : Overlooks (endConnected i) := .mk fun m s => by
  unfold Machine.endConnected
  change (match s.person i with | none => _ | some p => _) = _
  cases s.person i with
  | none => rfl
  | some p =>
    dsimp only
    cases p.callState with
    | connected => cases p.callChannel <;> rfl
    | _ => rfl

theorem cancelKey (i : Fin 240) : Overlooks (cancelKey i) := .mk fun m s => by
  have hdown (p : Person) : Overlooks (endManDown i p) :=
    .mk fun m s => (ite (endItem .manDown (s.personSubject i)) id).apply m s
  unfold Machine.cancelKey
  change (match s.person i with | none => _ | some p => _) = _
  cases s.person i with
  | none => rfl
  | some p =>
    dsimp only
    cases p.callState with
    | noCall => rfl
    | waiting => exact (comp (modifyPerson i _) (comp (hdown p) (endCallKind i))).apply m s
    | connected => exact (endConnected i).apply m s

theorem ackKey (i : Fin 240) : Overlooks (ackKey i) := .mk fun m s => by
  unfold Machine.ackKey
  change (match s.person i with | none => _ | some p => _) = _
  cases s.person i with
  | none => rfl
  | some p =>
    exact (ite (comp (raiseItem .pageAnswered (s.personSubject i)) (comp (modifyPerson i _) (modifyPerson i _)))
      (modifyPerson ..)).apply m s

theorem actOnKey (i : Fin 240) (k : Key) : Overlooks (actOnKey i k) := by
  cases k with
  | noKey => exact id
  | call => exact callKey ..
  | urgent => exact callKey ..
  | emergency => exact callKey ..
  | ack => exact ackKey i
  | cancel => exact cancelKey i

theorem keyEvent (i : Fin 240) (k : Key) (sequence : BitVec 2) : Overlooks (keyEvent i k sequence) := .mk fun m s => by
  unfold Machine.keyEvent
  change (match s.person i with | none => _ | some p => _) = _
  cases s.person i with
  | none => rfl
  | some p => exact (ite id (comp (actOnKey i k) (modifyPerson i _))).apply m s

/-! ### Reports -/

theorem takeTagReport (z : Fin 32) (tag : Tag) (level : Nat) (k : Key) (sequence : BitVec 2) (frame : Frame) :
    Overlooks (takeTagReport z tag level k sequence frame) := .mk fun m s => by
  have hportal : (setInHand m s).portalSlot? z = s.portalSlot? z := rfl
  unfold Machine.takeTagReport
  rw [hportal]
  change (if validTag tag = true then match s.slotOfTag tag with
    | some i => match s.person i with | some p => _ | none => _
    | none => _ else _) = _
  split
  · cases s.slotOfTag tag with
    | some i =>
      dsimp only
      cases s.person i with
      | none => rfl
      | some p => exact (comp (keyEvent ..) (sightByReader ..)).apply m s
    | none =>
      dsimp only
      cases s.portalSlot? z with
      | none => exact (raiseItem _ _).apply m s
      | some i => exact (comp (keyEvent ..) (enrolAtPortal ..)).apply m s
  · rfl

theorem takeProximity (z : Option (Fin 32)) (frame : Frame) (e : Proximity) : Overlooks (takeProximity z frame e) := .mk fun m s => by
  cases z with
  | none => rfl
  | some z =>
    unfold Machine.takeProximity
    change (if validTag e.tag = true then match s.slotOfTag e.tag with
      | some i => match s.person i with | some p => _ | none => _
      | none => _ else _) = _
    split
    · cases s.slotOfTag e.tag with
      | some i =>
        dsimp only
        cases s.person i with
        | none => rfl
        | some p => exact (sightByTruck _ _ _ _).apply m s
      | none => exact (raiseItem _ _).apply m s
    · rfl

/-! ### Refuge reports -/

theorem checkIn (r : Fin 8) (frame : Frame) (i : Fin 240) : Overlooks (checkIn r frame i) := .mk fun m s => by
  have hmove (p : Person) : Overlooks (moveOccupancy p r) :=
    ite (ite id (comp (g := setOccupancy r _) ⟨fun _ _ => rfl⟩ (occupancyClaim p.refuge))) ⟨fun _ _ => rfl⟩
  unfold Machine.checkIn
  change (match s.person i with | none => _ | some p => _) = _
  cases s.person i with
  | none => rfl
  | some p =>
    have hmissing : Overlooks fun t => if p.state = .missing then Machine.endItem .missing (s.personSubject i) t else t :=
      ite (endItem ..) id
    exact (comp (judgeEscorts i) (comp hmissing (comp (countClaim ..) (comp (hmove p) (modifyPerson ..))))).apply m s

theorem checkOut (r : Fin 8) (frame : Frame) (i : Fin 240) : Overlooks (checkOut r frame i) := .mk fun m s => by
  unfold Machine.checkOut
  change (match s.person i with | none => _ | some p => _) = _
  cases s.person i with
  | none => rfl
  | some p =>
    dsimp only
    split
    · exact (comp (alertArrived i) (comp (exposeMove i none _) (comp (judgeEscorts i) (comp (countClaim none _)
        (comp (f := setOccupancy r _) (modifyPerson i _) ⟨fun _ _ => rfl⟩))))).apply m s
    · rfl

theorem forTags {act : Fin 240 → State → State} (h : ∀ i, Overlooks (act i)) (tags : List Tag) : Overlooks (forTags tags act) :=
  forEach (fun t => .mk fun m s => by
    change (match s.slotOfTag t with | some i => _ | none => _) = _
    cases s.slotOfTag t with
    | none => rfl
    | some i => exact (h i).apply m s) _

theorem takeRefugeReport (r : Fin 8) (door : Door) (supply : Supply) (ins outs : List Tag) (frame : Frame) :
    Overlooks (takeRefugeReport r door supply ins outs frame) := .mk fun m s => by
  unfold Machine.takeRefugeReport
  change (if (s.refuge r).configured = true then _ else _) = _
  split
  · exact (comp (deriveReasons r) (comp (forTags (checkOut r frame) outs) (comp (f := State.modifyRefuge r _)
      (forTags (checkIn r frame) ins) ⟨fun _ _ => rfl⟩))).apply m s
  · rfl

/-! ### Truck reports -/

theorem modifyTruck (n : Nat) (h : Truck → Truck) : Overlooks (State.modifyTruck n h) := .mk fun m s => by
  unfold State.modifyTruck
  change (match s.positionOf n with | some p => _ | none => _) = _
  cases s.positionOf n <;> rfl

theorem removeClaim? (n : Nat) (z : Option (Fin 32)) : Overlooks (removeClaim? n z) := by
  cases z <;> exact ⟨fun _ _ => rfl⟩

theorem addClaim (n : Nat) (z : Fin 32) : Overlooks (addClaim n z) := .mk fun m s => by
  unfold Machine.addClaim
  change (if isAdded n z s = true then _ else _) = _
  split <;> rfl

theorem arrive (n : Nat) (z : Fin 32) : Overlooks (arrive n z) := .mk fun m s => by
  unfold Machine.arrive
  change (match s.truck n with | none => _ | some t => _) = _
  cases s.truck n with
  | none => rfl
  | some t => exact (ite (comp (modifyTruck ..) (ite id (removeClaim? ..))) id).apply m s

theorem tryFirstGrant (n : Nat) (z : Fin 32) : Overlooks (tryFirstGrant n z) := .mk fun m s => by
  unfold Machine.tryFirstGrant
  change (match s.truck n with
    | none => _ | some t => if t.held = none ∧ s.hlk.alone = false ∧ isAdded n z s = true then _ else _) = _
  cases s.truck n with
  | none => rfl
  | some t => exact (ite (comp (modifyTruck ..) (addClaim n z)) id).apply m s

theorem endEntry (n : Nat) : Overlooks (endEntry n) := .mk fun m s => by
  unfold Machine.endEntry
  change (match s.truck n with | none => _ | some t => _) = _
  cases s.truck n with
  | none => rfl
  | some t => exact (comp (modifyTruck ..) (removeClaim? ..)).apply m s

theorem judgeRequest (n : Nat) (q : Fin 32) : Overlooks (judgeRequest n q) := .mk fun m s => by
  unfold Machine.judgeRequest
  change (if isFit q s = true ∧ isAdded n q s = true then _ else _) = _
  exact (ite (comp (modifyTruck ..) (addClaim n q)) (modifyTruck ..)).apply m s

theorem reportRequests (n : Nat) (requested : Option (Fin 32)) : Overlooks (reportRequests n requested) := .mk fun m s => by
  unfold Machine.reportRequests
  change (match s.truck n with | none => _ | some t => _) = _
  cases s.truck n with
  | none => rfl
  | some t =>
    cases requested with
    | none => exact (endEntry n).apply m s
    | some q =>
      dsimp only
      split
      · exact (endEntry n).apply m s
      · cases t.entry with
        | none => exact (judgeRequest n q).apply m s
        | some e => exact (ite (ite id (judgeRequest n q)) (comp (judgeRequest n q) (endEntry n))).apply m s

theorem judgeIntrusion (n : Nat) (z : Fin 32) : Overlooks (judgeIntrusion n z) := .mk fun m s => by
  unfold Machine.judgeIntrusion
  change (match s.truck n with | none => _ | some t => _) = _
  cases s.truck n with
  | none => rfl
  | some t =>
    exact (ite (modifyTruck n _) (ite (comp (raiseItem ..) (modifyTruck n _)) (comp (endItem ..) (modifyTruck n _)))).apply m s

theorem inZone {f : Fin 32 → State → State} (h : ∀ z, Overlooks (f z)) (z : Option (Fin 32)) : Overlooks (inZone z f) := by
  cases z with
  | none => exact id
  | some z => exact h z

theorem takeReport (n : Nat) (t : Truck) (zone requested : Option (Fin 32)) (l : List Proximity) (frame : Frame) :
    Overlooks (takeReport n t zone requested l frame) := by
  have hanswers : Overlooks (reportAnswers n t) := ite (comp (endItem ..) (modifyTruck ..)) (modifyTruck ..)
  have hplaces : Overlooks (reportPlaces n zone l) := modifyTruck n _
  exact .mk (comp (forEach (takeProximity zone frame) l) (comp (inZone (judgeIntrusion n) zone)
    (comp (reportRequests n requested) (comp (inZone (tryFirstGrant n) zone) (comp (inZone (arrive n) zone) (comp hplaces hanswers)))))).apply

theorem takeTruckReport (r : TruckReport) (stamp : SlotStamp) : Overlooks (takeTruckReport r stamp) := .mk fun m s => by
  unfold Machine.takeTruckReport
  change (match s.truck r.number, optionalKey? 32 r.zone, optionalKey? 32 r.requested with
    | some t, some zone, some requested => _ | _, _, _ => _) = _
  cases s.truck r.number with
  | none => rfl
  | some t =>
    cases optionalKey? 32 r.zone with
    | none => rfl
    | some zone =>
      cases optionalKey? 32 r.requested with
      | none => rfl
      | some requested => exact (ite (takeReport ..) id).apply m s

theorem judgeMessage (e : Received) : Overlooks (judgeMessage e) := .mk fun m s => by
  unfold Machine.judgeMessage handInbound
  cases inbound? e.message with
  | none => rfl
  | some r =>
    cases r with
    | tag r =>
      change (if e.slotClass = .tag ∧ (s.zone r.zone).configured = true then _ else _) = _
      exact (ite (takeTagReport ..) id).apply m s
    | truck r => exact (ite (takeTruckReport ..) id).apply m s
    | refuge r => exact (ite (takeRefugeReport ..) id).apply m s

end Overlooks

/-! ## MESSAGE_TAKING (R169) -/

/-- The receive queue without its head. -/
def withQueue (later : List Received) (s : State) : State := { s with flk := { s.flk with queue := later } }

theorem exec_messageTaking {s : State} (h : s.resetLow = false) : exec .messageTaking s = .next (takeMessage s) :=
  congrArg Host.Outcome.next (unlessReset_high h _)

/-- Taking a message is judging it: it is in hand only meanwhile. -/
theorem takeMessage_of {s : State} {e : Received} {later : List Received} (hhand : s.flk.inHand = none)
    (hqueue : s.flk.queue = e :: later) : takeMessage s = judgeMessage e (withQueue later s) := by
  have hnone : setInHand none (withQueue later s) = withQueue later s := by
    rw [setInHand, withQueue, ← hhand]
  have htake : takeMessage s = setInHand none (judgeMessage e (setInHand (some e) (withQueue later s))) := by
    unfold takeMessage
    rw [hhand, hqueue]
    rfl
  rw [htake, ← (Overlooks.judgeMessage e).apply none]
  exact congrArg (judgeMessage e) hnone

theorem takeMessage_idle {s : State} (h : s.flk.queue = [] ∨ s.flk.inHand ≠ none) : takeMessage s = s := by
  unfold takeMessage
  cases hhand : s.flk.inHand with
  | some m => cases s.flk.queue <;> rfl
  | none =>
    cases hqueue : s.flk.queue with
    | nil => rfl
    | cons e later =>
      rw [hhand, hqueue] at h
      exact (h.elim (fun h => nomatch h) fun h => absurd rfl h)

end Sys2Proof.Machine
end

section
/-! A record handed on after a sighting, a check-in or a check-out (R63, R150, R151): its counts, its refuge, its MISSING item,
the escort judgement, its exposure and its alert. -/

namespace Sys2Proof.Machine

open Sys2Proof.Safety (QueueHolds Raised NotRaised EscortsJudged IsSeparated SeparationJudged OthersStay)

/-! ## Exposure and alert (R86, R142) -/

/-- The move of a record from one counted zone to another raises its exposure (R86, R87). -/
def MoveRaises (before after : Option (Fin 32)) (q : Person) (s : State) : Prop :=
  s.rst.exposureMode = .entries ∧ after ≠ before ∧ s.isBadAir after = true ∧ q.exposure < 65535

theorem exposeMove_of {i : Fin 240} {before after : Option (Fin 32)} {q : Person} {s : State} (h : MoveRaises before after q s) :
    exposeMove i before after s = raiseExposure i s := by
  obtain ⟨hmode, hne, hbad, -⟩ := h
  unfold exposeMove
  rw [hmode]
  exact if_pos ⟨hne, hbad⟩

theorem exposeMove_idle {i : Fin 240} {before after : Option (Fin 32)} {q : Person} {s : State} (hq : s.person i = some q)
    (h : ¬ MoveRaises before after q s) : exposeMove i before after s = s := by
  unfold exposeMove
  cases hmode : s.rst.exposureMode with
  | time => rfl
  | entries =>
    dsimp only
    split
    · next hmoves => exact raiseExposure_full hq fun hlt => h ⟨hmode, hmoves.1, hmoves.2, hlt⟩
    · rfl

/-- What is left of a record's arrival after the escort judgement: its exposure and its alert (R63, R151). -/
def settle (i : Fin 240) (before after : Option (Fin 32)) (s : State) : State := alertArrived i (exposeMove i before after s)

/-- An arrival settled: only the exposure and the alert of the one record change, and in the queue EXPOSURE of it. -/
structure Settled (i : Fin 240) (before after : Option (Fin 32)) (q : Person) (s t : State) : Prop where
  only : RosterOnly s t
  others : ∀ j, j ≠ i → t.slot j = s.slot j
  own : ∃ r, t.slot i = { gen := (s.slot i).gen, person := some r }
    ∧ r = { q with alert := r.alert, exposure := r.exposure, exposureFull := r.exposureFull }
    ∧ r.alert = (if q.state = .present ∧ s.isOrdered q.zone = true then q.alerted.alert else q.alert)
    ∧ (MoveRaises before after q s → r.exposure = q.exposure + 1 ∧ r.exposureFull = (q.exposureFull || q.exposure + 1 == 65535))
    ∧ (¬ MoveRaises before after q s → r.exposure = q.exposure ∧ r.exposureFull = q.exposureFull)
  raised : MoveRaises before after q s → q.exposure + 1 = s.rst.exposureLimit → Raised .exposure (s.personSubject i) t
  spares : ∀ k x, k ≠ .stranger → k ≠ .exposure → Spares k x s t

/-- The alert given on arrival. -/
theorem alertArrived_settled {i : Fin 240} {q : Person} {s : State} (hq : s.person i = some q) :
    (alertArrived i s).slot i = { gen := (s.slot i).gen, person := some (
      { q with alert := if q.state = .present ∧ s.isOrdered q.zone = true then q.alerted.alert else q.alert }) } := by
  rw [alertArrived, slot_modifyPerson_self hq]
  congr 2
  split <;> rfl

theorem raiseExposure_spares {i : Fin 240} {k : ItemKind} (hs : k ≠ .stranger) (he : k ≠ .exposure) (x : Subject) (s : State) :
    Spares k x s (raiseExposure i s) := by
  unfold raiseExposure judgeExposure
  split
  · refine .ite ?_ (.refl s)
    split
    · exact .ite (.trans .of_eq (.raiseItem hs (.of_kind he.symm) _)) .of_eq
    · exact .of_eq
  · exact .refl s

theorem raiseExposure_others {i j : Fin 240} (hj : j ≠ i) (s : State) : (raiseExposure i s).slot j = s.slot j :=
  (raiseExposure_elsewhere (Ne.symm hj) s).slot

theorem settled {i : Fin 240} {q : Person} {s : State} (before after : Option (Fin 32)) (hq : s.person i = some q) :
    Settled i before after q s (settle i before after s) := by
  have halert {u : State} {r : Person} (hu : RosterOnly s u) (hslot : u.slot i = { gen := (s.slot i).gen, person := some r }) :
      (alertArrived i u).slot i = { gen := (s.slot i).gen, person := some (
        { r with alert := if r.state = .present ∧ s.isOrdered r.zone = true then r.alerted.alert else r.alert }) } := by
    have hord : u.isOrdered r.zone = s.isOrdered r.zone := isOrdered_congr (fun z => by rw [show u = _ from hu]; rfl) _
    rw [alertArrived_settled (congrArg Slot.person hslot), hslot, hord]
  have hothers (u : State) (j : Fin 240) (hj : j ≠ i) : (alertArrived i u).slot j = u.slot j := slot_modifyPerson_of_ne hj _ u
  unfold settle
  by_cases h : MoveRaises before after q s
  · obtain ⟨hslot, hraised⟩ := raiseExposure_slot hq h.2.2.2
    rw [exposeMove_of h]
    exact
      { only := (raiseExposure_only i s).trans (.modifyPerson ..)
        others := fun j hj => (hothers _ j hj).trans (raiseExposure_others hj s)
        own := ⟨_, halert (raiseExposure_only i s) hslot, rfl, rfl, fun _ => ⟨rfl, rfl⟩, fun hn => absurd h hn⟩
        raised := fun _ hlimit => raised_congr (t := alertArrived i _) rfl (hraised hlimit)
        spares := fun k x hs he => (raiseExposure_spares hs he x s).trans .of_eq }
  · rw [exposeMove_idle hq h]
    exact
      { only := .modifyPerson ..
        others := hothers s
        own := ⟨_, halert (.refl s) (slot_of_person hq), rfl, rfl, fun hr => absurd hr h, fun _ => ⟨rfl, rfl⟩⟩
        raised := fun hr => absurd hr h
        spares := fun _ _ _ _ => .of_eq }

theorem alerted_alert (p : Person) : p.alerted.alert = if p.alert = .noAlert then .sent else p.alert := rfl

/-- The alert that an arrival leaves, in the words of R142. -/
theorem alert_arrived {q : Person} {a : Alert} {s : State} (hstate : q.state = .present)
    (ha : a = (if q.state = .present ∧ s.isOrdered q.zone = true then q.alerted.alert else q.alert)) :
    a = if q.alert = .noAlert ∧ ∃ w, q.zone = some w ∧ (s.zone w).evac = .ordered then .sent else q.alert := by
  rw [ha, alerted_alert]
  by_cases h : s.isOrdered q.zone = true
  · rw [if_pos ⟨hstate, h⟩]
    exact if_congr (and_iff_left ((isOrdered_iff ..).1 h)).symm rfl rfl
  · rw [if_neg fun hn => h hn.2, if_neg fun hn => h ((isOrdered_iff ..).2 hn.2)]

/-! ## What follows the escort judgement leaves its outcome -/

/-- A change of the alert, the exposure and the last key of one record, and of the queue but for ESCORT_LOST. -/
structure Trimmed (i : Fin 240) (t u : State) : Prop where
  others : ∀ j, j ≠ i → u.slot j = t.slot j
  own : ∀ w, t.person i = some w → ∃ r, u.slot i = { gen := (t.slot i).gen, person := some r }
    ∧ r = { w with alert := r.alert, exposure := r.exposure, exposureFull := r.exposureFull, lastKey := r.lastKey }
  spares : ∀ x, Spares .escortLost x t u

theorem Settled.trimmed {i : Fin 240} {before after : Option (Fin 32)} {q : Person} {s t : State}
    (h : Settled i before after q s t) (hq : s.person i = some q) : Trimmed i s t where
  others := h.others
  own w hw := by
    obtain rfl := Option.some.inj (hq.symm.trans hw)
    obtain ⟨r, hslot, hr, -⟩ := h.own
    refine ⟨r, hslot, hr.trans ?_⟩
    rw [hr]
  spares x := h.spares .escortLost x nofun nofun

theorem Trimmed.trans {i : Fin 240} {s t u : State} (h : Trimmed i s t) (k : Trimmed i t u) : Trimmed i s u where
  others j hj := (k.others j hj).trans (h.others j hj)
  own w hw := by
    obtain ⟨r, hslot, hr⟩ := h.own w hw
    obtain ⟨r', hslot', hr'⟩ := k.own r (congrArg Slot.person hslot)
    refine ⟨r', ?_, hr'.trans ?_⟩
    · rw [hslot', hslot]
    · rw [hr]
  spares x := (h.spares x).trans (k.spares x)

/-- The last key of a record written (R64). -/
def writeKey (i : Fin 240) (sequence : BitVec 2) (s : State) : State :=
  s.modifyPerson i (fun q => { q with lastKey := some sequence })

theorem writeKey_trimmed (i : Fin 240) (sequence : BitVec 2) (s : State) : Trimmed i s (writeKey i sequence s) where
  others _ hj := slot_modifyPerson_of_ne hj ..
  own _ hw := ⟨_, slot_modifyPerson_self hw _, rfl⟩
  spares _ := .of_eq

theorem Trimmed.samePlaces {i : Fin 240} {t u : State} (h : Trimmed i t u) {w : Person} (hw : t.person i = some w) :
    SamePlaces t u := fun j => by
  by_cases hj : j = i
  · subst hj
    obtain ⟨r, hslot, hr⟩ := h.own w hw
    rw [State.person, hslot, hw]
    refine ⟨rfl, ?_⟩
    rw [hr]
    rfl
  · rw [State.person, h.others j hj]
    exact ⟨rfl, rfl⟩

theorem EscortsJudged.trimmed {i : Fin 240} {w : Person} {s t u : State} (h : EscortsJudged i s t)
    (hq : QueueHolds s.atq → QueueHolds t.atq) (hw : t.person i = some w) (k : Trimmed i t u) : EscortsJudged i s u := by
  obtain ⟨hfree, hrecords⟩ := h
  refine ⟨fun j hj hnone => (k.others j hj).trans (hfree j hj hnone), fun j v hv => ?_⟩
  obtain ⟨a, ha, hjudged, hnot, hother⟩ := hrecords j v hv
  obtain ⟨r, hr, hsame⟩ : ∃ r, u.person j = some r
      ∧ r = { a with alert := r.alert, exposure := r.exposure, exposureFull := r.exposureFull, lastKey := r.lastKey } := by
    by_cases hj : j = i
    · subst hj
      obtain ⟨r, hslot, hr⟩ := k.own a ha
      exact ⟨r, congrArg Slot.person hslot, hr⟩
    · exact ⟨a, (person_eq_of_slot (k.others j hj)).trans ha, rfl⟩
  have hsep : r.separation = a.separation := by rw [hsame]
  have hlost : r.escortLost = a.escortLost := by rw [hsame]
  have hiff : IsSeparated r u ↔ IsSeparated a t := by
    rw [(k.samePlaces hw).isSeparated_iff, hsame]
    rfl
  refine ⟨r, hr, fun hc => ?_, fun hc => ?_, fun hj => ?_⟩
  · obtain ⟨hyes, hno⟩ := hjudged hc
    refine ⟨fun hs => ?_, fun hs => ?_⟩
    · rw [hsep, hlost]
      exact hyes (hiff.1 hs)
    · rw [hsep, hlost]
      obtain ⟨hnone, hkept, hended⟩ := hno fun h => hs (hiff.2 h)
      refine ⟨hnone, hkept, fun hv => ⟨(hended hv).1, fun hl hqs => ?_⟩⟩
      exact (k.spares _).notRaised (hq hqs) ((hended hv).2 hl hqs)
  · rw [hsep, hlost]
    exact hnot hc
  · rw [k.others j hj, hother hj, hsep, hlost]

/-! ## The escort judgement -/

theorem judgeSeparation_spares {k : ItemKind} (hk : k ≠ .escortLost) (i : Fin 240) (x : Subject) (s : State) :
    Spares k x s (judgeSeparation i s) := by
  unfold judgeSeparation
  split
  · exact .refl s
  · refine .ite (.ite ?_ ?_) (.refl s)
    · split
      · exact .refl s
      · exact .of_eq
    · split
      · exact .refl s
      · exact .ite (.trans .of_eq (.endItem (.of_kind hk.symm) _)) .of_eq

theorem judgeEscorts_spares {k : ItemKind} (hk : k ≠ .escortLost) (i : Fin 240) (x : Subject) (s : State) :
    Spares k x s (judgeEscorts i s) :=
  (judgeSeparation_spares hk i x s).trans (.forEach (fun j _ => judgeSeparation_spares hk j x) _)

theorem judgeEscorts_holds (i : Fin 240) {s : State} (h : QueueHolds s.atq) : QueueHolds (judgeEscorts i s).atq :=
  (judgeEscorts_spares (k := .missing) nofun i (.tag 0) s h).1

/-- The escort judgement leaves the record itself but for its separation and escort lost. -/
theorem judgeEscorts_own {i : Fin 240} {q : Person} {s : State} (hq : s.person i = some q) :
    ∃ r, (judgeEscorts i s).slot i = { gen := (s.slot i).gen, person := some r }
      ∧ r = { q with separation := r.separation, escortLost := r.escortLost } := by
  by_cases hc : Concerns i i q s
  · refine ⟨_, (judgeEscorts_concerned hq hc).1, ?_⟩
    unfold Person.judged
    split
    · rfl
    · split <;> rfl
  · refine ⟨q, (judgeEscorts_other fun v hv => ?_).trans (slot_of_person hq), rfl⟩
    exact Option.some.inj (hq.symm.trans hv) ▸ hc

end Sys2Proof.Machine
end

section
/-! A sighting's change handed on (R63): what becomes of the record, of the counts and of the other records. -/

namespace Sys2Proof.Machine

open Sys2Proof.Safety (QueueHolds Raised NotRaised EscortsJudged OthersStay)

/-! ## A condition that is not raised by a change -/

/-- A change keeps L7 and raises no condition of a kind. -/
def Quiet (k : ItemKind) (s t : State) : Prop :=
  QueueHolds s.atq → QueueHolds t.atq ∧ ∀ x, NotRaised k x s → NotRaised k x t

namespace Quiet

variable {k : ItemKind}

theorem refl (s : State) : Quiet k s s := fun h => ⟨h, fun _ => id⟩

theorem trans {s t u : State} (h : Quiet k s t) (g : Quiet k t u) : Quiet k s u := fun hs =>
  ⟨(g (h hs).1).1, fun x hx => (g (h hs).1).2 x ((h hs).2 x hx)⟩

theorem of_spares {s t : State} (h : ∀ x, Spares k x s t) : Quiet k s t := fun hs =>
  ⟨(h (.tag 0) hs).1, fun x hx => (h x).notRaised hs hx⟩

theorem of_eq {s t : State} (h : t.atq = s.atq := by rfl) : Quiet k s t := .of_spares fun _ => .of_eq h

theorem ite {c : Prop} [Decidable c] {s t u : State} (ht : Quiet k s t) (hu : Quiet k s u) : Quiet k s (if c then t else u) := by
  split
  · exact ht
  · exact hu

theorem forEach {α : Type} {f : α → State → State} (h : ∀ a s, Quiet k s (f a s)) (l : List α) (s : State) :
    Quiet k s (forEach l f s) := by
  induction l generalizing s with
  | nil => exact .refl s
  | cons a l ih => exact (h a s).trans (ih _)

theorem endItem (x : Subject) (s : State) : Quiet k s (endItem k x s) := fun hs => by
  refine ⟨endItem_holds _ _ _ hs, fun y hy => ?_⟩
  by_cases hxy : x = y
  · exact hxy ▸ notRaised_endItem hs
  · exact (Spares.endItem (.of_subject hxy) s).notRaised hs hy

end Quiet

/-! ## The claims of a sighting (R63, items 1 to 3) -/

theorem deriveReasons_spares {k : ItemKind} (hs : k ≠ .stranger) (hk : k ≠ .refugeFault) (r : Fin 8) (x : Subject) (s : State) :
    Spares k x s (deriveReasons r s) := by
  unfold deriveReasons handReasons
  exact .ite (.ite .of_eq (.ite (.trans .of_eq (.endItem (.of_kind hk.symm) _))
    (.trans .of_eq (.insertItem hs (.of_kind hk.symm) _ _ _ _)))) (.refl s)

theorem occupancyClaim_spares {k : ItemKind} (hs : k ≠ .stranger) (hk : k ≠ .refugeFault) (r : Option (Fin 8)) (x : Subject)
    (s : State) : Spares k x s (occupancyClaim r s) := by
  cases r with
  | none => exact .refl s
  | some r => exact .trans (t := s.modifyRefuge r _) .of_eq (deriveReasons_spares hs hk r x _)

/-- The claims of a sighting, and the end of MISSING. -/
def handPlaces (i : Fin 240) (p q : Person) (s : State) : State :=
  let s1 := countClaim p.countedZone q.countedZone s
  let s2 := if p.state = .mustered then occupancyClaim p.refuge s1 else s1
  if p.state = .missing then endItem .missing (s.personSubject i) s2 else s2

theorem handSighting_eq (i : Fin 240) (p q : Person) (s : State) : handSighting i p q s =
    settle i p.countedZone q.countedZone
      (if p.state = q.state ∧ p.zone = q.zone then handPlaces i p q s else judgeEscorts i (handPlaces i p q s)) := rfl

section HandPlaces

variable (i : Fin 240) (p q : Person) (s : State)

theorem handPlaces_rst : (handPlaces i p q s).rst = s.rst := by
  unfold handPlaces
  dsimp only
  split <;> split <;> simp

theorem handPlaces_frt : (handPlaces i p q s).frt = s.frt := by
  unfold handPlaces
  dsimp only
  split <;> split <;> simp

theorem handPlaces_slot (j : Fin 240) : (handPlaces i p q s).slot j = s.slot j := by
  rw [State.slot, handPlaces_rst]
  rfl

/-- The state before MISSING is ended. -/
theorem handClaims_spares {k : ItemKind} (hs : k ≠ .stranger) (hk : k ≠ .refugeFault) (x : Subject) :
    Spares k x s (if p.state = .mustered then occupancyClaim p.refuge (countClaim p.countedZone q.countedZone s)
      else countClaim p.countedZone q.countedZone s) :=
  .ite (.trans (.of_eq (countClaim_atq ..)) (occupancyClaim_spares hs hk _ _ _)) (.of_eq (countClaim_atq ..))

theorem handPlaces_quiet : Quiet .missing s (handPlaces i p q s) :=
  .trans (.of_spares fun x => handClaims_spares (k := .missing) p q s nofun nofun x) (.ite (.endItem _ _) (.refl _))

theorem handPlaces_missing (h : p.state = .missing) (hq : QueueHolds s.atq) :
    NotRaised .missing (s.personSubject i) (handPlaces i p q s) := by
  unfold handPlaces
  rw [if_pos h]
  exact notRaised_endItem (handClaims_spares (k := .missing) p q s nofun nofun (.tag 0) hq).1

end HandPlaces

theorem Moved.handPlaces {i : Fin 240} {q : Person} {s u : State} (h : Moved i (some q) none none none none none s u)
    (p : Person) : Moved i (some q) p.countedZone q.countedZone p.musterPlace none none s (handPlaces i p q u) := by
  have hcount := h.countClaim p.countedZone q.countedZone
  have hoccupied : Moved i (some q) p.countedZone q.countedZone p.musterPlace none none s
      (if p.state = .mustered then Machine.occupancyClaim p.refuge (Machine.countClaim p.countedZone q.countedZone u)
        else Machine.countClaim p.countedZone q.countedZone u) := by
    unfold Person.musterPlace
    split
    · exact hcount.occupancyClaim p.refuge
    · exact hcount
  exact hoccupied.aside (.ite (.endItem ..) (.refl _))

/-! ## The sighting handed on -/

/-- The escort judgement of a sighting, where it has changed the state or the zone (R63). -/
def rejudge (i : Fin 240) (p q : Person) (s : State) : State :=
  if p.state = q.state ∧ p.zone = q.zone then s else judgeEscorts i s

/-- What becomes of a record that a sighting has made `q` of `p`, and of the rest. -/
structure HandedOn (i : Fin 240) (p q : Person) (s t : State) : Prop where
  own : ∃ r, t.slot i = { gen := (s.slot i).gen, person := some r }
    ∧ r = { q with alert := r.alert, exposure := r.exposure, exposureFull := r.exposureFull,
                   separation := r.separation, escortLost := r.escortLost }
    ∧ r.alert = (if q.state = .present ∧ s.isOrdered q.zone = true then q.alerted.alert else q.alert)
    ∧ (MoveRaises p.countedZone q.countedZone q s →
        r.exposure = q.exposure + 1 ∧ r.exposureFull = (q.exposureFull || q.exposure + 1 == 65535))
    ∧ (¬ MoveRaises p.countedZone q.countedZone q s → r.exposure = q.exposure ∧ r.exposureFull = q.exposureFull)
    ∧ (p.state = q.state → p.zone = q.zone → r.separation = q.separation ∧ r.escortLost = q.escortLost)
  moved : Moved i (some q) p.countedZone q.countedZone p.musterPlace none none s t
  raised : MoveRaises p.countedZone q.countedZone q s → q.exposure + 1 = s.rst.exposureLimit →
    Raised .exposure (s.personSubject i) t
  missing : p.state = .missing → QueueHolds s.atq → NotRaised .missing (s.personSubject i) t
  quiet : Quiet .missing s t
  stays : p.state = q.state → p.zone = q.zone → OthersStay i s t
  escorts : (∀ v, s.person i = some v → q.role = v.role ∧ q.escort = v.escort ∧ q.separation = v.separation
      ∧ q.escortLost = v.escortLost) →
    ¬ (p.state = q.state ∧ p.zone = q.zone) → ∀ u, Trimmed i t u → EscortsJudged i s u

theorem moveRaises_congr {before after : Option (Fin 32)} {q r : Person} {s t : State}
    (hmode : t.rst.exposureMode = s.rst.exposureMode) (hreal : ∀ z, (t.zone z).real = (s.zone z).real)
    (he : r.exposure = q.exposure) : MoveRaises before after r t ↔ MoveRaises before after q s := by
  have hair : t.isBadAir after = s.isBadAir after := by
    cases after with
    | none => rfl
    | some z => simp only [State.isBadAir, hreal]
  rw [MoveRaises, MoveRaises, hmode, hair, he]

section Rejudge

variable {i : Fin 240} {p q : Person} {s : State}

theorem rejudge_own (hq : s.person i = some q) : ∃ r, (rejudge i p q s).slot i = { gen := (s.slot i).gen, person := some r }
    ∧ r = { q with separation := r.separation, escortLost := r.escortLost } ∧ (p.state = q.state → p.zone = q.zone → r = q) := by
  unfold rejudge
  split
  · exact ⟨q, slot_of_person hq, rfl, fun _ _ => rfl⟩
  · next hne =>
    obtain ⟨r, hslot, hr⟩ := judgeEscorts_own hq
    exact ⟨r, hslot, hr, fun hs hz => absurd ⟨hs, hz⟩ hne⟩

theorem rejudge_only : RosterOnly s (rejudge i p q s) := by
  unfold rejudge
  split
  · exact .refl s
  · exact judgeEscorts_only i s

theorem rejudge_spares {k : ItemKind} (hk : k ≠ .escortLost) (x : Subject) : Spares k x s (rejudge i p q s) :=
  .ite (.refl s) (judgeEscorts_spares hk i x s)

theorem rejudge_aside : Aside s (rejudge i p q s) := .ite (.refl s) (.judgeEscorts i s)

end Rejudge

theorem RosterOnly.exposureMode {s t : State} (h : RosterOnly s t) : t.rst.exposureMode = s.rst.exposureMode := by
  rw [show t = _ from h]

theorem RosterOnly.exposureLimit {s t : State} (h : RosterOnly s t) : t.rst.exposureLimit = s.rst.exposureLimit := by
  rw [show t = _ from h]

/-- A sighting handed on from the state in which its claims have been made. -/
theorem handedOn_of {i : Fin 240} {p q : Person} {s u : State}
    (hmoved : Moved i (some q) p.countedZone q.countedZone p.musterPlace none none s u)
    (hown : u.slot i = { gen := (s.slot i).gen, person := some q }) (hothers : ∀ j, j ≠ i → u.slot j = s.slot j)
    (hmode : u.rst.exposureMode = s.rst.exposureMode) (hlimit : u.rst.exposureLimit = s.rst.exposureLimit)
    (hframe : u.frt = s.frt) (hquiet : Quiet .missing s u)
    (hmissing : p.state = .missing → QueueHolds s.atq → NotRaised .missing (s.personSubject i) u) :
    HandedOn i p q s (settle i p.countedZone q.countedZone (rejudge i p q u)) := by
  have hperson : u.person i = some q := congrArg Slot.person hown
  obtain ⟨v, hv, hvq, hsame⟩ := rejudge_own (p := p) hperson
  have honly : RosterOnly u (rejudge i p q u) := rejudge_only
  have hheld : Moved i (some q) p.countedZone q.countedZone p.musterPlace none none s (rejudge i p q u) :=
    hmoved.aside rejudge_aside
  have hsettled := settled p.countedZone q.countedZone (congrArg Slot.person hv)
  have hraises : MoveRaises p.countedZone q.countedZone v (rejudge i p q u) ↔ MoveRaises p.countedZone q.countedZone q s :=
    moveRaises_congr (honly.exposureMode.trans hmode) hheld.air.real (by rw [hvq])
  have hord : (rejudge i p q u).isOrdered v.zone = s.isOrdered q.zone := by
    rw [hvq]
    exact isOrdered_congr hheld.evac _
  have hsubject : (rejudge i p q u).personSubject i = s.personSubject i := personSubject_eq_of_gen (by rw [hv, hown])
  have hmissingStays (x : Subject) : Spares .missing x u (settle i p.countedZone q.countedZone (rejudge i p q u)) :=
    (rejudge_spares (by decide) x).trans (hsettled.spares _ x (by decide) (by decide))
  refine ⟨?_, hheld.aside (.trans (.exposeMove ..) (.alertArrived i _)), fun h hl => ?_, fun h hq => ?_, ?_, fun hs hz j hj => ?_,
    fun hkept hne t ht => ?_⟩
  · obtain ⟨r, hr, hrv, halert, hyes, hno⟩ := hsettled.own
    rw [hraises] at hyes hno
    refine ⟨r, by rw [hr, hv, hown], ?_, ?_, fun h => ?_, fun h => ?_, fun hs hz => ?_⟩
    · rw [hrv, hvq]
    · rw [halert, hord, hvq]
      rfl
    · rw [(hyes h).1, (hyes h).2, hvq]
      exact ⟨rfl, rfl⟩
    · rw [(hno h).1, (hno h).2, hvq]
      exact ⟨rfl, rfl⟩
    · rw [hrv, hsame hs hz]
      exact ⟨rfl, rfl⟩
  · rw [← hsubject]
    refine hsettled.raised (hraises.2 h) ?_
    rw [hvq, honly.exposureLimit, hlimit]
    exact hl
  · exact (hmissingStays _).notRaised (hquiet hq).1 (hmissing h hq)
  · exact hquiet.trans (.of_spares hmissingStays)
  · rw [hsettled.others j hj, rejudge, if_pos ⟨hs, hz⟩, hothers j hj]
  · have hjudge : rejudge i p q u = judgeEscorts i u := if_neg hne
    rw [hjudge] at hsettled hv
    rw [hjudge] at ht
    have hunjudged : Unjudged i s u := ⟨hothers, by rw [hown], fun v hv => ⟨q, hperson, hkept v hv⟩, hframe, hmoved.queue⟩
    exact EscortsJudged.trimmed hunjudged.escortsJudged (fun hq => judgeEscorts_holds i (hmoved.queue hq))
      (congrArg Slot.person hv) ((hsettled.trimmed (congrArg Slot.person hv)).trans ht)

theorem handedOn (i : Fin 240) (p q : Person) (s : State) : HandedOn i p q s (handSighting i p q (makeRecord i q s)) := by
  have hwrite : Moved i (some q) none none none none none s (makeRecord i q s) :=
    (Moved.refl i s).setSlot (v := { gen := (s.slot i).gen, person := some q }) (.inr rfl)
  have hown : (makeRecord i q s).slot i = { gen := (s.slot i).gen, person := some q } := (slot_setSlot ..).trans (if_pos rfl)
  have hsubject : (makeRecord i q s).personSubject i = s.personSubject i := personSubject_of_slot_eq hown
  exact handedOn_of (u := handPlaces i p q (makeRecord i q s)) (hwrite.handPlaces p) ((handPlaces_slot ..).trans hown)
    (fun j hj => (handPlaces_slot ..).trans ((slot_setSlot ..).trans (if_neg hj)))
    (by rw [handPlaces_rst]; rfl) (by rw [handPlaces_rst]; rfl) (handPlaces_frt ..)
    (.trans .of_eq (handPlaces_quiet i p q _)) fun h hq => hsubject ▸ handPlaces_missing i p q (makeRecord i q s) h hq

end Sys2Proof.Machine
end

section
/-! Tag reports (R57 to R64, R170): which are discarded, which tag is a stranger's, and what the sighting of a record leaves. -/

namespace Sys2Proof.Machine

open Sys2Proof.Safety (QueueHolds Raised NotRaised EscortsJudged OthersStay)

/-! ## The bytes of a tag report (R170, R190) -/

theorem Key.ofByte?_eq_some_iff {b : Byte} {x : Key} : Key.ofByte? b = some x ↔ x.code = b := by
  constructor
  · intro h
    unfold Key.ofByte? at h
    split at h
    all_goals cases h
    all_goals next hb => exact (code_eq hb).symm
  · rintro rfl
    cases x <;> rfl

theorem Key.ofByte?_eq_none {b : Byte} (h : 5 < b.toNat) : Key.ofByte? b = none :=
  Option.eq_none_iff_forall_ne_some.2 fun x hx => by
    rw [← Key.ofByte?_eq_some_iff.1 hx] at h
    cases x <;> exact absurd h (by decide)

section Bytes

variable {zone t2 t1 t0 level key sequence : Byte}

theorem inbound?_tag_refused (h : 32 ≤ zone.toNat ∨ 15 < level.toNat ∨ 5 < key.toNat ∨ 3 < sequence.toNat) :
    inbound? [1, zone, t2, t1, t0, level, key, sequence] = none := by
  show tagReport? [zone, t2, t1, t0, level, key, sequence] = none
  unfold tagReport?
  dsimp only
  rcases h with h | h | h | h
  · rw [key?_eq_none_iff.2 h]
  · cases key? 32 zone with
    | none => rfl
    | some z => cases Key.ofByte? key with
      | none => rfl
      | some k => exact if_neg fun hn => absurd hn.1 (Nat.not_le.2 h)
  · rw [Key.ofByte?_eq_none h]
    cases key? 32 zone <;> rfl
  · cases key? 32 zone with
    | none => rfl
    | some z => cases Key.ofByte? key with
      | none => rfl
      | some k => exact if_neg fun hn => absurd hn.2 (Nat.not_le.2 h)

theorem inbound?_tag {z : Fin 32} {k : Key} (hz : z.val = zone.toNat) (hl : level.toNat ≤ 15) (hk : k.code = key)
    (hs : sequence.toNat ≤ 3) : inbound? [1, zone, t2, t1, t0, level, key, sequence] =
      some (.tag { zone := z, tag := word24 t2 t1 t0, level := level.toNat, key := k,
                   sequence := BitVec.ofNat 2 sequence.toNat }) := by
  show tagReport? [zone, t2, t1, t0, level, key, sequence] = _
  unfold tagReport?
  dsimp only
  rw [key?_eq_some_iff.2 hz, Key.ofByte?_eq_some_iff.2 hk]
  exact if_pos ⟨hl, hs⟩

end Bytes

/-- A key of a tag report, for a byte in its range. -/
theorem exists_key {b : Byte} (h : b.toNat ≤ 5) : ∃ k : Key, k.code = b := by
  have hcodes : ∀ n ≤ 5, ∃ k : Key, k.code.toNat = n := by
    intro n hn
    interval_cases n
    exacts [⟨.noKey, rfl⟩, ⟨.call, rfl⟩, ⟨.urgent, rfl⟩, ⟨.emergency, rfl⟩, ⟨.ack, rfl⟩, ⟨.cancel, rfl⟩]
  obtain ⟨k, hk⟩ := hcodes b.toNat h
  exact ⟨k, BitVec.eq_of_toNat_eq hk⟩

/-! ## A report judged (R169, R170) -/

theorem judgeMessage_discards {e : Received} (h : inbound? e.message = none) (s : State) : judgeMessage e s = s := by
  rw [judgeMessage, h]

theorem judgeMessage_tag {e : Received} {r : TagReport} (h : inbound? e.message = some (.tag r)) (s : State) :
    judgeMessage e s = if e.slotClass = .tag ∧ (s.zone r.zone).configured = true then
      takeTagReport r.zone r.tag r.level r.key r.sequence e.frame s else s := by
  rw [judgeMessage, h]
  rfl

section Take

variable {z : Fin 32} {tag : Tag} {level : Nat} {k : Key} {sequence : BitVec 2} {frame : Frame} {s : State}

theorem takeTagReport_invalid (h : validTag tag = false) : takeTagReport z tag level k sequence frame s = s :=
  if_neg (by rw [h]; exact Bool.false_ne_true)

variable (hv : validTag tag = true)

include hv

theorem takeTagReport_record {i : Fin 240} {p : Person} (hi : s.slotOfTag tag = some i) (hp : s.person i = some p) :
    takeTagReport z tag level k sequence frame s = keyEvent i k sequence (sightByReader i p z level frame s) := by
  rw [takeTagReport, if_pos hv, hi]
  dsimp only
  rw [hp]

theorem takeTagReport_portal {i : Fin 240} (hn : s.slotOfTag tag = none) (hi : s.portalSlot? z = some i) :
    takeTagReport z tag level k sequence frame s = keyEvent i k sequence (enrolAtPortal i tag z level frame s) := by
  rw [takeTagReport, if_pos hv, hn]
  dsimp only
  rw [hi]

theorem takeTagReport_stranger (hn : s.slotOfTag tag = none) (hi : s.portalSlot? z = none) :
    takeTagReport z tag level k sequence frame s = raiseItem .stranger (.tag tag) s := by
  rw [takeTagReport, if_pos hv, hn]
  dsimp only
  rw [hi]

end Take

theorem portalSlot?_none {z : Fin 32} {s : State}
    (h : (s.zone z).kind ≠ .portal ∨ s.rst.portalEnrolment = false ∨ ∀ i, s.person i ≠ none) : s.portalSlot? z = none := by
  unfold State.portalSlot?
  split
  · next hon =>
    obtain ⟨hkind, henrol⟩ := hon
    have hfull := (h.resolve_left fun hn => hn hkind).resolve_left fun hn => by rw [henrol] at hn; cases hn
    exact freeSlot_none.2 fun i => Option.isSome_iff_ne_none.2 (hfull i)
  · rfl

theorem portalSlot?_some {z : Fin 32} {i : Fin 240} {s : State} (hkind : (s.zone z).kind = .portal)
    (henrol : s.rst.portalEnrolment = true) (hfree : s.person i = none) (hbefore : ∀ j < i, s.person j ≠ none) :
    s.portalSlot? z = some i := by
  rw [State.portalSlot?, if_pos ⟨hkind, henrol⟩]
  exact freeSlot_some hfree fun j hj => Option.isSome_iff_ne_none.2 (hbefore j hj)

/-! ## The key event (R64) -/

section KeyEvent

variable {i : Fin 240} {q : Person} {sequence : BitVec 2} {s : State} (hq : s.person i = some q)

include hq

theorem keyEvent_again (h : q.lastKey = some sequence) (k : Key) : keyEvent i k sequence s = s := by
  unfold keyEvent
  rw [hq]
  exact if_pos h

theorem keyEvent_new (h : q.lastKey ≠ some sequence) (k : Key) :
    keyEvent i k sequence s = actOnKey i k (writeKey i sequence s) := by
  unfold keyEvent
  rw [hq]
  exact if_neg h

theorem keyEvent_noKey : keyEvent i .noKey sequence s = writeKey i sequence s := by
  by_cases h : q.lastKey = some sequence
  · have hsame : ({ q with lastKey := some sequence } : Person) = q := by rw [← h]
    rw [keyEvent_again hq h, writeKey, modifyPerson_eq hq, hsame, ← slot_of_person hq, setSlot_slot]
  · exact keyEvent_new hq h .noKey

end KeyEvent

/-! ## The sighting of a record (R60 to R62) -/

theorem placeSighted_eq {i : Fin 240} {p : Person} {s : State} (hp : s.person i = some p) (z : Fin 32) (level : Nat)
    (frame : Frame) : placeSighted i p z level frame s =
      handSighting i p (p.heardIn (contest p z level frame).1 (contest p z level frame).2 frame)
        (makeRecord i (p.heardIn (contest p z level frame).1 (contest p z level frame).2 frame) s) := by
  rw [placeSighted, makeRecord, ← modifyPerson_eq hp fun _ => p.heardIn _ _ frame]

/-- A MUSTERED record whose refuge's zone wins the sighting stays MUSTERED (R62). -/
def StaysMustered (p : Person) (won : Option (Fin 32)) (s : State) : Prop :=
  p.state = .mustered ∧ won = p.refuge.bind (fun r => (s.refuge r).zone)

/-- A record that is not PRESENT is given no alert on arrival (R142). -/
theorem alertArrived_absent {i : Fin 240} {q : Person} {s : State} (hq : s.person i = some q) (h : q.state ≠ .present) :
    alertArrived i s = s := by
  rw [alertArrived, modifyPerson_eq hq, if_neg fun hn => h hn.1, ← slot_of_person hq, setSlot_slot]

section SightByReader

variable {i : Fin 240} {p : Person} {s : State} {z : Fin 32} {level : Nat} {frame : Frame}

theorem sightByReader_stays (hp : s.person i = some p) (h : StaysMustered p (contest p z level frame).1 s) :
    sightByReader i p z level frame s =
    makeRecord i { p with heard := some frame, level := (contest p z level frame).2 } s := by
  obtain ⟨hstate, hwon⟩ := h
  have hread : sightByReader i p z level frame s = alertArrived i (s.modifyPerson i
      (fun q => { q with heard := some frame, level := (contest p z level frame).2 })) := by
    unfold sightByReader
    split
    · exact if_pos hwon
    all_goals next h => cases hstate.symm.trans h
  rw [hread, modifyPerson_eq hp]
  refine alertArrived_absent ((person_setSlot ..).trans (if_pos rfl)) ?_
  show p.state ≠ .present
  rw [hstate]
  exact nofun

theorem sightByReader_moves (h : ¬ StaysMustered p (contest p z level frame).1 s) :
    sightByReader i p z level frame s = placeSighted i p z level frame s := by
  unfold sightByReader
  cases hstate : p.state
  case mustered => exact if_neg fun hn => h ⟨hstate, hn⟩
  all_goals rfl

end SightByReader

/-! ## What a sighting leaves (R60 to R63) -/

/-- A record sighted leaves the places of its sighting: the record as R60 to R63 say, before its key event. -/
theorem handedOn_placed {i : Fin 240} {p : Person} {s : State} (hp : s.person i = some p) (z : Fin 32) (level : Nat)
    (frame : Frame) : HandedOn i p (p.heardIn (contest p z level frame).1 (contest p z level frame).2 frame) s
      (placeSighted i p z level frame s) := by
  rw [placeSighted_eq hp]
  exact handedOn ..

theorem claimed_leaves {α : Type} [DecidableEq α] (before : Option α) (a : α) (n : Nat) :
    claimed before none a n = if before = some a then n - 1 else n := by
  unfold claimed
  cases before with
  | none => simp
  | some b => simp

theorem musterPlace_eq_some_iff {p : Person} {r : Fin 8} : p.musterPlace = some r ↔ p.state = .mustered ∧ p.refuge = some r := by
  unfold Person.musterPlace
  split
  · next h => exact (and_iff_right h).symm
  · next h => exact iff_of_false nofun fun hn => h hn.1

/-- The moves of R86 in the words of the statements. -/
theorem moveRaises_iff {before after : Option (Fin 32)} {q : Person} {s : State} : MoveRaises before after q s ↔
    s.rst.exposureMode = .entries ∧ before ≠ after ∧ q.exposure < 65535
      ∧ ∃ w, after = some w ∧ ((s.zone w).real = .caution ∨ (s.zone w).real = .danger ∨ (s.zone w).real = .trip) := by
  rw [MoveRaises, isBadAir_iff, ne_comm, and_comm (a := ∃ _, _)]

/-- A record has been sighted: the report's work but for the key event is `t`, and the record there has `last` as its last
key. -/
def SightedAs (i : Fin 240) (last : Option (BitVec 2)) (z : Fin 32) (tag : Tag) (level : Nat) (frame : Frame) (s t : State) :
    Prop :=
  (∀ k sequence, takeTagReport z tag level k sequence frame s = keyEvent i k sequence t)
    ∧ ∃ q, t.person i = some q ∧ q.lastKey = last

theorem SightedAs.keyed {i : Fin 240} {last : Option (BitVec 2)} {z : Fin 32} {tag : Tag} {level : Nat} {frame : Frame}
    {s t : State} (h : SightedAs i last z tag level frame s t) (k : Key) (sequence : BitVec 2) :
    (last = some sequence → takeTagReport z tag level k sequence frame s = takeTagReport z tag level .noKey sequence frame s)
      ∧ (last ≠ some sequence →
        takeTagReport z tag level k sequence frame s = actOnKey i k (takeTagReport z tag level .noKey sequence frame s)) := by
  obtain ⟨htake, q, hq, rfl⟩ := h
  rw [htake, htake]
  refine ⟨fun hl => ?_, fun hl => ?_⟩
  · rw [keyEvent_again hq hl, keyEvent_again hq hl]
  · rw [keyEvent_new hq hl, keyEvent_noKey hq]

theorem HandedOn.lastKey {i : Fin 240} {p q : Person} {s t : State} (h : HandedOn i p q s t) :
    ∃ r, t.person i = some r ∧ r.lastKey = q.lastKey := by
  obtain ⟨r, hslot, hr, -⟩ := h.own
  exact ⟨r, congrArg Slot.person hslot, by rw [hr]⟩

theorem sightedAs_record {i : Fin 240} {p : Person} {tag : Tag} {s : State} (hv : validTag tag = true)
    (hp : s.person i = some p) (htag : p.tag = tag) (honly : ∀ j q, s.person j = some q → q.tag = tag → j = i) (z : Fin 32)
    (level : Nat) (frame : Frame) : SightedAs i p.lastKey z tag level frame s (sightByReader i p z level frame s) := by
  refine ⟨fun k sequence => takeTagReport_record hv (slotOfTag_some hp htag honly) hp, ?_⟩
  by_cases h : StaysMustered p (contest p z level frame).1 s
  · rw [sightByReader_stays hp h]
    exact ⟨_, (person_setSlot ..).trans (if_pos rfl), rfl⟩
  · rw [sightByReader_moves h]
    exact (handedOn_placed hp z level frame).lastKey

theorem sightedAs_portal {i : Fin 240} {tag : Tag} {z : Fin 32} {s : State} (hv : validTag tag = true)
    (hn : ∀ i p, s.person i = some p → p.tag ≠ tag) (hi : s.portalSlot? z = some i) (level : Nat) (frame : Frame) :
    SightedAs i none z tag level frame s (enrolAtPortal i tag z level frame s) :=
  ⟨fun _ _ => takeTagReport_portal hv (slotOfTag_none.2 hn) hi, (handedOn ..).lastKey⟩

/-- A sighting and its key event without a key: the record's last key is written. -/
theorem SightedAs.noKey {i : Fin 240} {last : Option (BitVec 2)} {z : Fin 32} {tag : Tag} {level : Nat} {frame : Frame}
    {s t : State} (h : SightedAs i last z tag level frame s t) (sequence : BitVec 2) :
    takeTagReport z tag level .noKey sequence frame s = writeKey i sequence t := by
  obtain ⟨htake, q, hq, -⟩ := h
  rw [htake, keyEvent_noKey hq]

/-- Taking a tag report whose reader's zone is configured. -/
theorem exec_tagReport {s : State} {e : Received} {later : List Received} {zone t2 t1 t0 level key sequence : Byte}
    {z : Fin 32} {k : Key} (hs : s.resetLow = false) (hhand : s.flk.inHand = none) (hqueue : s.flk.queue = e :: later)
    (hm : e.message = [1, zone, t2, t1, t0, level, key, sequence]) (hc : e.slotClass = .tag) (hz : z.val = zone.toNat)
    (hl : level.toNat ≤ 15) (hk : k.code = key) (hseq : sequence.toNat ≤ 3) (hconf : (s.zone z).configured = true) :
    exec .messageTaking s = .next (takeTagReport z (word24 t2 t1 t0) level.toNat k (BitVec.ofNat 2 sequence.toNat) e.frame
      (withQueue later s)) := by
  rw [exec_messageTaking hs, takeMessage_of hhand hqueue, judgeMessage_tag (hm ▸ inbound?_tag hz hl hk hseq)]
  exact congrArg _ (if_pos ⟨hc, hconf⟩)

/-- A tag report that fails a check of its own is discarded (R169, R170). -/
theorem judgeMessage_badTag {e : Received} {zone t2 t1 t0 level key sequence : Byte}
    (hm : e.message = [1, zone, t2, t1, t0, level, key, sequence])
    (hbad : e.slotClass ≠ .tag ∨ 32 ≤ zone.toNat ∨ 15 < level.toNat ∨ 5 < key.toNat ∨ 3 < sequence.toNat
      ∨ word24 t2 t1 t0 = 0 ∨ word24 t2 t1 t0 = 0xffffff) (s : State) : judgeMessage e s = s := by
  by_cases hrange : 32 ≤ zone.toNat ∨ 15 < level.toNat ∨ 5 < key.toNat ∨ 3 < sequence.toNat
  · exact judgeMessage_discards (hm ▸ inbound?_tag_refused hrange) s
  · simp only [not_or, Nat.not_le, Nat.not_lt] at hrange
    obtain ⟨hz, hl, hk, hs⟩ := hrange
    obtain ⟨k, hcode⟩ := exists_key hk
    rw [judgeMessage_tag (hm ▸ inbound?_tag (z := ⟨zone.toNat, hz⟩) rfl hl hcode hs)]
    split
    · next hc =>
      refine takeTagReport_invalid (Bool.eq_false_iff.2 fun hv => ?_)
      obtain ⟨h0, h1⟩ := (validTag_iff _).1 hv
      rcases hbad with h | h | h | h | h | h | h
      · exact h hc.1
      · exact absurd hz (Nat.not_lt.2 h)
      · exact absurd hl (Nat.not_le.2 h)
      · exact absurd hk (Nat.not_le.2 h)
      · exact absurd hs (Nat.not_le.2 h)
      · exact h0 h
      · exact h1 h
    · rfl

theorem writeKey_slot {i : Fin 240} {g : Gen} {r : Person} {s : State} (h : s.slot i = { gen := g, person := some r })
    (sequence : BitVec 2) :
    (writeKey i sequence s).slot i = { gen := g, person := some { r with lastKey := some sequence } } := by
  rw [writeKey, slot_modifyPerson_self (congrArg Slot.person h), h]

theorem personSubject_writeKey (i j : Fin 240) (sequence : BitVec 2) (s : State) :
    (writeKey i sequence s).personSubject j = s.personSubject j := personSubject_modifyPerson ..

section Sighted

variable {i : Fin 240} {p : Person} {z : Fin 32} {level : Nat} {frame : Frame} {s : State}

/-- The counts that a sighting into a zone leaves. -/
theorem HandedOn.persons {q : Person} {t : State} (h : HandedOn i p q s t) (w : Fin 32) : (t.zone w).persons =
    if p.countedZone = q.countedZone then (s.zone w).persons
    else if q.countedZone = some w then (s.zone w).persons + 1
    else if p.countedZone = some w then (s.zone w).persons - 1 else (s.zone w).persons := h.moved.persons w

/-- The occupancies that a sighting leaves (R151). -/
theorem HandedOn.occupancy {q : Person} {t : State} (h : HandedOn i p q s t) (r : Fin 8) : (t.refuge r).occupancy =
    if p.state = .mustered ∧ p.refuge = some r then (s.refuge r).occupancy - 1 else (s.refuge r).occupancy := by
  rw [h.moved.occupancy, claimed_leaves]
  exact if_congr musterPlace_eq_some_iff rfl rfl

end Sighted

/-- What R57 makes of a tag that a portal enrols. -/
theorem takeTagReport_enrols {i : Fin 240} {tag : Tag} {z : Fin 32} {level : Nat} {sequence : BitVec 2} {frame : Frame} {s : State}
    (hv : validTag tag = true) (hn : ∀ i p, s.person i = some p → p.tag ≠ tag) (hi : s.portalSlot? z = some i) :
    ∃ t q, takeTagReport z tag level .noKey sequence frame s = t ∧ t.flk = s.flk ∧ t.person i = some q
      ∧ (t.slot i).gen = (s.slot i).gen
      ∧ q.tag = tag ∧ q.role = .crew ∧ q.escort = none ∧ q.state = .present ∧ q.zone = some z
      ∧ q.heard = some frame ∧ q.level = level ∧ q.heardSinceVisit = true ∧ q.misses = 0
      ∧ q.alert = (if (s.zone z).evac = .ordered then .sent else .noAlert)
      ∧ q.lastKey = some sequence
      ∧ ∀ w, (t.zone w).persons = if w = z then (s.zone w).persons + 1 else (s.zone w).persons := by
  have h : HandedOn i _ _ s (enrolAtPortal i tag z level frame s) := handedOn ..
  rw [(sightedAs_portal hv hn hi level frame).noKey]
  obtain ⟨r, hslot, hr, halert, -⟩ := h.own
  have hkeyed := writeKey_slot hslot sequence
  refine ⟨_, _, rfl, (State.modifyPerson_flk ..).trans (enrolAtPortal_flk ..), congrArg Slot.person hkeyed, by rw [hkeyed], ?_⟩
  have hwas : (Person.atPortal tag z level frame).alert = .noAlert := rfl
  refine ⟨by rw [hr]; rfl, by rw [hr]; rfl, by rw [hr]; rfl, by rw [hr]; rfl, by rw [hr]; rfl, by rw [hr]; rfl, by rw [hr]; rfl,
    by rw [hr]; rfl, by rw [hr]; rfl, ?_, rfl, fun w => ?_⟩
  · refine halert.trans ?_
    rw [alerted_alert, hwas, if_pos rfl]
    exact if_congr (by simp [State.isOrdered, Person.atPortal]) rfl rfl
  · refine (h.persons w).trans ?_
    show (if none = some z then _ else if some z = some w then _ else if none = some w then _ else _) = _
    simp only [reduceCtorEq, if_false, Option.some.injEq, eq_comm]

/-- What R60 to R63 make of a record that is sighted and does not stay MUSTERED. -/
theorem takeTagReport_sights {i : Fin 240} {p : Person} {tag : Tag} {z : Fin 32} {level : Nat} {sequence : BitVec 2}
    {frame : Frame} {s : State} (hv : validTag tag = true) (hp : s.person i = some p) (htag : p.tag = tag)
    (honly : ∀ j q, s.person j = some q → q.tag = tag → j = i)
    (hmoves : ¬ StaysMustered p (contest p z level frame).1 s) :
    let won := contest p z level frame
    let counted : Option (Fin 32) := if p.state = .present ∨ p.state = .quiet then p.zone else none
    let moves := s.rst.exposureMode = .entries ∧ counted ≠ won.1 ∧ p.exposure < 65535
      ∧ ∃ w, won.1 = some w ∧ ((s.zone w).real = .caution ∨ (s.zone w).real = .danger ∨ (s.zone w).real = .trip)
    ∃ t q, takeTagReport z tag level .noKey sequence frame s = t ∧ t.flk = s.flk ∧ t.person i = some q
      ∧ q.tag = tag ∧ q.role = p.role ∧ q.state = .present ∧ q.zone = won.1 ∧ q.level = won.2
      ∧ q.refuge = none ∧ q.heard = some frame ∧ q.misses = 0 ∧ q.heardSinceVisit = true
      ∧ q.lastKey = some sequence
      ∧ q.alert = (if p.alert = .noAlert ∧ ∃ w, won.1 = some w ∧ (s.zone w).evac = .ordered then .sent else p.alert)
      ∧ (∀ w, (t.zone w).persons =
          if counted = won.1 then (s.zone w).persons
          else if won.1 = some w then (s.zone w).persons + 1
          else if counted = some w then (s.zone w).persons - 1 else (s.zone w).persons)
      ∧ (∀ r, (t.refuge r).occupancy =
          if p.state = .mustered ∧ p.refuge = some r then (s.refuge r).occupancy - 1 else (s.refuge r).occupancy)
      ∧ (moves → q.exposure = p.exposure + 1 ∧ q.exposureFull = (p.exposureFull || p.exposure + 1 == 65535)
          ∧ (p.exposure + 1 = s.rst.exposureLimit → QueueHolds s.atq → Raised .exposure (s.personSubject i) t))
      ∧ (¬ moves → q.exposure = p.exposure ∧ q.exposureFull = p.exposureFull)
      ∧ (p.state = .missing → QueueHolds s.atq → NotRaised .missing (s.personSubject i) t)
      ∧ (q.state ≠ p.state ∨ q.zone ≠ p.zone → EscortsJudged i s t)
      ∧ (q.state = p.state → q.zone = p.zone →
          q.separation = p.separation ∧ q.escortLost = p.escortLost ∧ OthersStay i s t) := by
  intro won counted moves
  have h := handedOn_placed hp z level frame
  rw [(sightedAs_record hv hp htag honly z level frame).noKey, sightByReader_moves hmoves]
  have hcounted : p.countedZone = counted := countedZone_eq p
  have hmovesIff : MoveRaises p.countedZone won.1 (p.heardIn won.1 won.2 frame) s ↔ moves := by
    rw [moveRaises_iff, hcounted]
    rfl
  obtain ⟨r, hslot, hr, halert, hyes, hno, hstays⟩ := h.own
  have hkeyed := writeKey_slot hslot sequence
  have hstate : r.state = .present := by rw [hr]; rfl
  have hzone : r.zone = won.1 := by rw [hr]; rfl
  refine ⟨_, _, rfl, placeSighted_flk .., congrArg Slot.person hkeyed, ?_⟩
  refine ⟨by rw [hr]; exact htag, by rw [hr]; rfl, hstate, hzone, by rw [hr]; rfl, by rw [hr]; rfl, by rw [hr]; rfl,
    by rw [hr]; rfl, by rw [hr]; rfl, rfl, alert_arrived (q := p.heardIn won.1 won.2 frame) rfl halert, fun w => ?_, h.occupancy,
    fun hm => ?_, fun hm => hno (mt hmovesIff.1 hm), h.missing, fun hne => ?_, fun hs hz => ?_⟩
  · rw [← hcounted]
    exact h.persons w
  · obtain ⟨he, hf⟩ := hyes (hmovesIff.2 hm)
    exact ⟨he, hf, fun hl _ => h.raised (hmovesIff.2 hm) hl⟩
  · refine h.escorts (fun v hv => ?_) (fun hsame => ?_) _ (writeKey_trimmed ..)
    · obtain rfl := Option.some.inj (hp.symm.trans hv)
      exact ⟨rfl, rfl, rfl, rfl⟩
    · exact hne.elim (fun hs => hs (hstate.trans hsame.1.symm)) fun hz => hz (hzone.trans hsame.2.symm)
  · have hs' : p.state = (p.heardIn won.1 won.2 frame).state := (hstate.symm.trans hs).symm
    have hz' : p.zone = (p.heardIn won.1 won.2 frame).zone := (hzone.symm.trans hz).symm
    obtain ⟨hsep, hlost⟩ := hstays hs' hz'
    exact ⟨hsep, hlost, fun j hj => (slot_modifyPerson_of_ne hj ..).trans (h.stays hs' hz' j hj)⟩

/-- What R62 makes of a MUSTERED record whose refuge's zone wins. -/
theorem takeTagReport_stays {i : Fin 240} {p : Person} {tag : Tag} {z : Fin 32} {level : Nat} {sequence : BitVec 2}
    {frame : Frame} {s : State} (hv : validTag tag = true) (hp : s.person i = some p) (htag : p.tag = tag)
    (honly : ∀ j q, s.person j = some q → q.tag = tag → j = i)
    (hstays : StaysMustered p (contest p z level frame).1 s) : takeTagReport z tag level .noKey sequence frame s =
      s.setSlot i { gen := (s.slot i).gen, person := some (
        { p with heard := some frame, level := (contest p z level frame).2, lastKey := some sequence }) } := by
  rw [(sightedAs_record hv hp htag honly z level frame).noKey, sightByReader_stays hp hstays, makeRecord, writeKey,
    modifyPerson_eq ((person_setSlot ..).trans (if_pos rfl)), setSlot_setSlot, slot_setSlot, if_pos rfl]

/-- Settles O56: a report that passes its checks is a stranger's, or the sighting of a record followed by its key event. -/
theorem tagReportSightsItsRecord : Obligations.TagReportSightsItsRecord := by
  intro s hs
  refine ⟨fun h => (exec_messageTaking hs).trans (congrArg _ (takeMessage_idle h)), fun e later hhand hqueue => ?_⟩
  have hexec : exec .messageTaking s = .next (judgeMessage e (withQueue later s)) := by
    rw [exec_messageTaking hs, takeMessage_of hhand hqueue]
  refine ⟨fun h => hexec.trans (congrArg _ (judgeMessage_discards h _)), fun zone t2 t1 t0 level key sequence hm => ?_⟩
  dsimp only
  refine ⟨fun hbad => hexec.trans (congrArg _ (judgeMessage_badTag hm hbad _)), fun z hc hz hl hk hseq h0 h1 => ?_⟩
  have hv : validTag (word24 t2 t1 t0) = true := (validTag_iff _).2 ⟨h0, h1⟩
  have htake {k : Key} (hcode : k.code = key) := exec_tagReport hs hhand hqueue hm hc hz hl hcode hseq
  refine ⟨fun hconf => ?_, fun hconf hn hp => ?_, fun i hconf hn hkind henrol hfree hbefore hk0 => ?_,
    fun i k last hconf hcode hwho => ?_, fun i p hconf hp htag honly hk0 => ⟨fun hstays => ?_, fun hmoves => ?_⟩⟩
  · obtain ⟨k, hcode⟩ := exists_key hk
    rw [hexec, judgeMessage_tag (hm ▸ inbound?_tag hz hl hcode hseq), if_neg fun h => ?_]
    · rfl
    · exact Bool.false_ne_true (hconf.symm.trans h.2)
  · obtain ⟨k, hcode⟩ := exists_key hk
    rw [htake hcode hconf, takeTagReport_stranger hv (slotOfTag_none (s := withQueue later s).2 hn)
      (portalSlot?_none (s := withQueue later s) hp)]
    exact ⟨_, rfl, raiseItem_only .., fun hroom =>
      (stands_insertItem (s := withQueue later s) (.inr hroom) ..).raised⟩
  · obtain ⟨t, q, ht, hrest⟩ := takeTagReport_enrols (s := withQueue later s) (level := level.toNat) (frame := e.frame)
      (sequence := BitVec.ofNat 2 sequence.toNat) hv hn (portalSlot?_some hkind henrol hfree hbefore)
    exact ⟨t, q, (htake (k := .noKey) hk0.symm hconf).trans (congrArg _ ht), hrest⟩
  · obtain ⟨t, hsighted⟩ : ∃ t, SightedAs i last z (word24 t2 t1 t0) level.toNat e.frame (withQueue later s) t := by
      rcases hwho with ⟨p, hp, htag, rfl, honly⟩ | ⟨hn, hkind, henrol, hfree, hbefore, rfl⟩
      · exact ⟨_, sightedAs_record (s := withQueue later s) hv hp htag honly z level.toNat e.frame⟩
      · exact ⟨_, sightedAs_portal (s := withQueue later s) hv hn (portalSlot?_some hkind henrol hfree hbefore) _ _⟩
    obtain ⟨hagain, hnew⟩ := hsighted.keyed k (BitVec.ofNat 2 sequence.toNat)
    refine ⟨_, exec_tagReport (k := .noKey) hs hhand rfl rfl hc hz hl rfl hseq hconf, fun h => ?_, fun h => ?_⟩
    · exact (htake hcode hconf).trans (congrArg _ (hagain h))
    · exact (htake hcode hconf).trans (congrArg _ (hnew h))
  · exact (htake (k := .noKey) hk0.symm hconf).trans
      (congrArg _ (takeTagReport_stays (s := withQueue later s) hv hp htag honly hstays))
  · obtain ⟨t, q, ht, hrest⟩ := takeTagReport_sights (s := withQueue later s) (level := level.toNat) (frame := e.frame)
      (sequence := BitVec.ofNat 2 sequence.toNat) hv hp htag honly hmoves
    exact ⟨t, q, (htake (k := .noKey) hk0.symm hconf).trans (congrArg _ ht), hrest⟩

end Sys2Proof.Machine
end

section
/-! The air state that a zone's channels give it (R19, R20). -/

namespace Sys2Proof.Machine

/-! ## The worst of a list of contributions -/

/-- A contribution is the worst of a list and of one before it: it is one of them, and none is more severe. -/
def IsWorst (o : Option AirState) (l : List (Option AirState)) : Option AirState → Prop
  | none => o = none ∧ ∀ x ∈ l, x = none
  | some a => (o = some a ∨ some a ∈ l) ∧ ∀ b, o = some b ∨ some b ∈ l → b.severity ≤ a.severity

theorem worseAir_cases (a b : Option AirState) :
    (worseAir a b = a ∨ worseAir a b = b) ∧ (worseAir a b = none → a = none ∧ b = none)
      ∧ ∀ c, worseAir a b = some c → ∀ d, a = some d ∨ b = some d → d.severity ≤ c.severity := by
  unfold worseAir
  split
  · exact ⟨.inr rfl, fun h => ⟨rfl, h⟩, fun c hc d hd => by
      rcases hd with hd | hd
      · cases hd
      · rw [hc] at hd; cases hd; exact Nat.le_refl _⟩
  · exact ⟨.inl rfl, nofun, fun c hc d hd => by
      cases hc
      rcases hd with hd | hd
      · cases hd; exact Nat.le_refl _
      · cases hd⟩
  · split
    · next hlt =>
      refine ⟨.inr rfl, nofun, fun c hc d hd => ?_⟩
      cases hc
      rcases hd with hd | hd <;> cases hd
      · exact Nat.le_of_lt hlt
      · exact Nat.le_refl _
    · next hge =>
      refine ⟨.inl rfl, nofun, fun c hc d hd => ?_⟩
      cases hc
      rcases hd with hd | hd <;> cases hd
      · exact Nat.le_refl _
      · exact Nat.not_lt.1 hge

theorem isWorst_foldl (l : List (Option AirState)) (o : Option AirState) : IsWorst o l (l.foldl worseAir o) := by
  induction l generalizing o with
  | nil =>
    cases o with
    | none => exact ⟨rfl, fun _ h => absurd h List.not_mem_nil⟩
    | some a => exact ⟨.inl rfl, fun b hb => by
        rcases hb with hb | hb
        · cases hb; exact Nat.le_refl _
        · exact absurd hb List.not_mem_nil⟩
  | cons x l ih =>
    have h := ih (worseAir o x)
    obtain ⟨hone, hnone, hworse⟩ := worseAir_cases o x
    rw [List.foldl_cons]
    cases hm : l.foldl worseAir (worseAir o x) with
    | none =>
      rw [hm] at h
      obtain ⟨ho, hl⟩ := h
      obtain ⟨ho, hx⟩ := hnone ho
      exact ⟨ho, List.forall_mem_cons.2 ⟨hx, hl⟩⟩
    | some a =>
      rw [hm] at h
      obtain ⟨hmem, hle⟩ := h
      refine ⟨?_, fun b hb => ?_⟩
      · rcases hmem with hmem | hmem
        · rcases hone with h | h
          · exact .inl (h ▸ hmem)
          · exact .inr (List.mem_cons.2 (.inl (h ▸ hmem.symm)))
        · exact .inr (List.mem_cons_of_mem _ hmem)
      · have hfirst : o = some b ∨ x = some b → b.severity ≤ a.severity := fun h => by
          cases hw : worseAir o x with
          | none =>
            obtain ⟨ho, hx⟩ := hnone hw
            rw [ho, hx] at h
            rcases h with h | h <;> cases h
          | some c => exact Nat.le_trans (hworse c hw b h) (hle c (.inl hw))
        rcases hb with hb | hb
        · exact hfirst (.inl hb)
        · rcases List.mem_cons.1 hb with hb | hb
          · exact hfirst (.inr hb.symm)
          · exact hle b (.inr hb)

/-! ## The derived air state (R20) -/

/-- Some channel of a zone is in a state, by a chosen state of it. -/
def HasChannel (s : State) (z : Fin 32) (f : Channel → ChannelState) (x : ChannelState) : Prop :=
  ∃ c, (s.channel c).zone = some z ∧ f (s.channel c) = x

theorem contributionTo_eq_some_iff {z : Fin 32} {f : Channel → ChannelState} {c : Channel} {a : AirState} :
    c.contributionTo z f = some a ↔ c.zone = some z ∧ (f c).contribution = some a := by
  unfold Channel.contributionTo
  split
  · next h => exact (and_iff_right h).symm
  · next h => exact iff_of_false nofun fun hn => h hn.1

theorem contribution_eq_some_iff {x : ChannelState} {a : AirState} : x.contribution = some a ↔
    (x = .normal ∧ a = .clear) ∨ (x = .caution ∧ a = .caution) ∨ (x = .danger ∧ a = .danger) ∨ (x = .trip ∧ a = .trip) := by
  cases x <;> simp [ChannelState.contribution, eq_comm]

/-- The derived air state is the worst that the zone's channels contribute, or UNKNOWN where none contributes. -/
theorem derivedAir_spec (s : State) (f : Channel → ChannelState) (z : Fin 32) :
    (s.derivedAir f z = .unknown ∧ ∀ x a, HasChannel s z f x → x.contribution ≠ some a)
      ∨ ∃ x, HasChannel s z f x ∧ x.contribution = some (s.derivedAir f z)
        ∧ ∀ y b, HasChannel s z f y → y.contribution = some b → b.severity ≤ (s.derivedAir f z).severity := by
  have hmem (a : AirState) : some a ∈ allChannels.map (fun c => (s.channel c).contributionTo z f)
      ↔ ∃ x, HasChannel s z f x ∧ x.contribution = some a := by
    simp only [List.mem_map, contributionTo_eq_some_iff, HasChannel]
    constructor
    · rintro ⟨c, -, hz, ha⟩
      exact ⟨_, ⟨c, hz, rfl⟩, ha⟩
    · rintro ⟨_, ⟨c, hz, rfl⟩, ha⟩
      exact ⟨c, List.mem_finRange c, hz, ha⟩
  have h := isWorst_foldl (allChannels.map (fun c => (s.channel c).contributionTo z f)) none
  rw [derivedAir_eq]
  cases hm : (allChannels.map (fun c => (s.channel c).contributionTo z f)).foldl worseAir none with
  | none =>
    rw [hm] at h
    exact .inl ⟨rfl, fun x a hx ha => nomatch h.2 _ ((hmem a).2 ⟨x, hx, ha⟩)⟩
  | some a =>
    rw [hm] at h
    obtain ⟨hin, hle⟩ := h
    obtain ⟨x, hx, ha⟩ := (hmem a).1 (hin.resolve_left nofun)
    exact .inr ⟨x, hx, ha, fun y b hy hb => hle b (.inr ((hmem b).2 ⟨y, hy, hb⟩))⟩

section Derived

variable {s : State} {z : Fin 32} {f : Channel → ChannelState}

/-- A contribution of a channel bounds the derived air state from below, and a channel contributes that state. -/
theorem derivedAir_of_has {x : ChannelState} {a : AirState} (hx : HasChannel s z f x) (ha : x.contribution = some a) :
    a.severity ≤ (s.derivedAir f z).severity ∧ ∃ y, HasChannel s z f y ∧ y.contribution = some (s.derivedAir f z) := by
  rcases derivedAir_spec s f z with ⟨-, hnone⟩ | ⟨y, hy, hD, hle⟩
  · exact absurd ha (hnone x a hx)
  · exact ⟨hle x a hx ha, y, hy, hD⟩

theorem derivedAir_trip (h : HasChannel s z f .trip) : s.derivedAir f z = .trip := by
  obtain ⟨hle, y, -, hD⟩ := derivedAir_of_has h rfl
  rcases contribution_eq_some_iff.1 hD with ⟨-, hD⟩ | ⟨-, hD⟩ | ⟨-, hD⟩ | ⟨-, hD⟩
  · exact absurd (hD ▸ hle) (by decide)
  · exact absurd (hD ▸ hle) (by decide)
  · exact absurd (hD ▸ hle) (by decide)
  · exact hD

variable (ht : ¬ HasChannel s z f .trip)

include ht

theorem derivedAir_danger (h : HasChannel s z f .danger) : s.derivedAir f z = .danger := by
  obtain ⟨hle, y, hy, hD⟩ := derivedAir_of_has h rfl
  rcases contribution_eq_some_iff.1 hD with ⟨-, hD⟩ | ⟨-, hD⟩ | ⟨-, hD⟩ | ⟨rfl, -⟩
  · exact absurd (hD ▸ hle) (by decide)
  · exact absurd (hD ▸ hle) (by decide)
  · exact hD
  · exact absurd hy ht

variable (hd : ¬ HasChannel s z f .danger)

include hd

theorem derivedAir_caution (h : HasChannel s z f .caution) : s.derivedAir f z = .caution := by
  obtain ⟨hle, y, hy, hD⟩ := derivedAir_of_has h rfl
  rcases contribution_eq_some_iff.1 hD with ⟨-, hD⟩ | ⟨-, hD⟩ | ⟨rfl, -⟩ | ⟨rfl, -⟩
  · exact absurd (hD ▸ hle) (by decide)
  · exact hD
  · exact absurd hy hd
  · exact absurd hy ht

variable (hc : ¬ HasChannel s z f .caution)

include hc

theorem derivedAir_clear (h : HasChannel s z f .normal) : s.derivedAir f z = .clear := by
  obtain ⟨-, y, hy, hD⟩ := derivedAir_of_has h rfl
  rcases contribution_eq_some_iff.1 hD with ⟨-, hD⟩ | ⟨rfl, -⟩ | ⟨rfl, -⟩ | ⟨rfl, -⟩
  · exact hD
  · exact absurd hy hc
  · exact absurd hy hd
  · exact absurd hy ht

theorem derivedAir_unknown (hn : ¬ HasChannel s z f .normal) : s.derivedAir f z = .unknown := by
  rcases derivedAir_spec s f z with ⟨hD, -⟩ | ⟨y, hy, hD, -⟩
  · exact hD
  · rcases contribution_eq_some_iff.1 hD with ⟨rfl, -⟩ | ⟨rfl, -⟩ | ⟨rfl, -⟩ | ⟨rfl, -⟩
    · exact absurd hy hn
    · exact absurd hy hc
    · exact absurd hy hd
    · exact absurd hy ht

end Derived

/-- An air state is the one that the channels of a zone give by a chosen state of them: CLEAR where it is not monitored, and
else the worst, NORMAL for CLEAR, and UNKNOWN where none contributes (R19, R20). -/
def IsDerived (s : State) (z : Fin 32) (f : Channel → ChannelState) (y : AirState) : Prop :=
  ((s.zone z).monitored = false → y = .clear)
    ∧ ((s.zone z).monitored = true →
      (HasChannel s z f .trip → y = .trip) ∧ (¬ HasChannel s z f .trip → HasChannel s z f .danger → y = .danger)
      ∧ (¬ HasChannel s z f .trip → ¬ HasChannel s z f .danger → HasChannel s z f .caution → y = .caution)
      ∧ (¬ HasChannel s z f .trip → ¬ HasChannel s z f .danger → ¬ HasChannel s z f .caution → HasChannel s z f .normal →
          y = .clear)
      ∧ (¬ HasChannel s z f .trip → ¬ HasChannel s z f .danger → ¬ HasChannel s z f .caution → ¬ HasChannel s z f .normal →
          y = .unknown))

theorem isDerived (s : State) (z : Fin 32) (f : Channel → ChannelState) :
    IsDerived s z f (if (s.zone z).monitored then s.derivedAir f z else .clear) := by
  refine ⟨fun h => if_neg (by rw [h]; exact Bool.false_ne_true), fun h => ?_⟩
  rw [if_pos h]
  exact ⟨derivedAir_trip, derivedAir_danger, derivedAir_caution, derivedAir_clear, derivedAir_unknown⟩

end Sys2Proof.Machine
end

section
/-! A zone's real air state change handed on (R23): the trip line, the orders, the refuges' door breaches and the exposures. -/

namespace Sys2Proof.Machine

open Sys2Proof.Safety (QueueHolds Raised NotRaised)

/-! ## What leaves a zone's own items -/

/-- A change that is none of a zone's own items: they stay or are reinserted as the zone stands, and a TRIP_LINE notice stays. -/
structure ZoneSpared (z : Fin 32) (s t : State) : Prop where
  shuffled : ∀ k, Shuffled k (.zone z) s t
  spares : ∀ k, k ≠ .stranger → Spares k (.zone z) s t
  tripLine : s.hpt.flags.tripLine = true → t.hpt.flags.tripLine = true

namespace ZoneSpared

variable {z : Fin 32}

theorem refl (s : State) : ZoneSpared z s s := ⟨fun _ => .refl s, fun _ _ => .refl s, id⟩

theorem trans {s t u : State} (h : ZoneSpared z s t) (k : ZoneSpared z t u) : ZoneSpared z s u :=
  ⟨fun x => (h.shuffled x).trans (k.shuffled x), fun x hx => (h.spares x hx).trans (k.spares x hx), k.tripLine ∘ h.tripLine⟩

theorem ite {c : Prop} [Decidable c] {s t u : State} (ht : ZoneSpared z s t) (hu : ZoneSpared z s u) :
    ZoneSpared z s (if c then t else u) := by
  split
  · exact ht
  · exact hu

theorem forEach {α : Type} {f : α → State → State} (h : ∀ a s, ZoneSpared z s (f a s)) (l : List α) (s : State) :
    ZoneSpared z s (forEach l f s) := forEach_keeps (ZoneSpared z s) f (fun a _ hs => hs.trans (h a _)) l s (.refl s)

/-- A change outside the queue that leaves the zone's air states. -/
theorem of_air {s t : State} (hq : t.atq = s.atq) (ha : s.hpt.flags.attention = true → t.hpt.flags.attention = true)
    (hl : s.hpt.flags.tripLine = true → t.hpt.flags.tripLine = true) (hr : (t.zone z).reported = (s.zone z).reported)
    (hx : (t.zone z).real = (s.zone z).real) : ZoneSpared z s t := by
  refine ⟨fun k => ⟨ha, rfl, ?_, fun a ha _ _ => .inl (hq ▸ ha), fun a ha _ _ => .inl (hq ▸ ha)⟩, fun _ _ => .of_eq hq, hl⟩
  rw [freshTest, freshTest, hr, hx]

theorem modifyPerson (i : Fin 240) (f : Person → Person) (s : State) : ZoneSpared z s (s.modifyPerson i f) :=
  of_air rfl id id rfl rfl

theorem modifyRefuge (r : Fin 8) (f : Refuge → Refuge) (s : State) : ZoneSpared z s (s.modifyRefuge r f) :=
  of_air rfl id id rfl rfl

theorem insertItem {k : ItemKind} {x : Subject} (hx : x ≠ .zone z) (b : Bool) (d : Detail) (r : Bool) (s : State) :
    ZoneSpared z s (insertItem k x b d r s) :=
  ⟨fun _ => .insertItem (.of_subject hx) b d r s, fun _ hk => .insertItem hk (.of_subject hx) b d r s, fun h => by
    rw [(QueueTold.insertItem k x b d r s).flags]; exact h⟩

theorem endItem {k : ItemKind} {x : Subject} (hx : x ≠ .zone z) (s : State) : ZoneSpared z s (endItem k x s) :=
  ⟨fun _ => .endItem (.of_subject hx) s, fun _ _ => .endItem (.of_subject hx) s, fun h => by
    rw [(QueueTold.endItem k x s).flags]; exact h⟩

theorem deriveReasons (r : Fin 8) (s : State) : ZoneSpared z s (deriveReasons r s) := by
  have hne : Subject.refuge r ≠ .zone z := nofun
  have hhand (old new : FaultReasons) (t : State) : ZoneSpared z t (handReasons r old new t) :=
    .ite (.refl t) (.ite (.endItem hne t) (.insertItem hne ..))
  exact .ite (.trans (t := s.modifyRefuge r _) (.modifyRefuge ..) (hhand ..)) (.refl s)

theorem judgeExposure (i : Fin 240) (s : State) : ZoneSpared z s (judgeExposure i s) := by
  have hne : s.personSubject i ≠ .zone z := nofun
  unfold Machine.judgeExposure
  split
  · exact .ite (.insertItem hne ..) (.refl s)
  · exact .refl s

theorem raiseExposure (i : Fin 240) (s : State) : ZoneSpared z s (raiseExposure i s) := by
  unfold Machine.raiseExposure
  split
  · exact .ite (.trans (t := s.modifyPerson i Person.raised) (.modifyPerson ..) (.judgeExposure ..)) (.refl s)
  · exact .refl s

theorem exposeRise (x y : AirState) (s : State) : ZoneSpared z s (exposeRise z x y s) := by
  unfold Machine.exposeRise
  split
  · exact .refl s
  · exact .ite (.forEach (fun i t => .ite (.raiseExposure i t) (.refl t)) _ s) (.refl s)

end ZoneSpared

theorem Ordered.zoneSpared {cause : Causes} {l : List (Fin 32)} {s t : State} (h : Ordered cause l s t) (z : Fin 32) :
    ZoneSpared z s t := by
  have hz := h.zone z
  refine .of_air (by rw [h.only]) (fun ha => by rw [h.only]; exact ha) (fun hl => by rw [h.only]; exact hl) ?_ ?_
  all_goals
    rw [hz]
    split
    · unfold Zone.orderedBy
      split <;> rfl
    · rfl

/-! ## The orders of a real change (R139) -/

/-- The zones that the air part orders: the zone itself where its level is reached. -/
def airOrders (z : Fin 32) (y : AirState) (s : State) : List (Fin 32) :=
  if y.isBad = true ∧ (s.zone z).autoLevel.severity ≤ y.severity then [z] else []

/-- The zones that the line part orders: those that share the zone's line, where it has come to TRIP. -/
def lineOrders (z : Fin 32) (x y : AirState) (s : State) : List (Fin 32) :=
  if y = .trip ∧ x ≠ .trip then
    match (s.zone z).tripLine with
    | some line => s.sharingLine z line
    | none => []
  else []

theorem ordered_orderByAir (z : Fin 32) (y : AirState) (s : State) :
    Ordered Causes.onlyAir (airOrders z y s) s (orderByAir z y s) := by
  unfold airOrders orderByAir
  split
  · exact ordered_orderZone ..
  · exact .nil ..

theorem ordered_orderByLine (z : Fin 32) (x y : AirState) (s : State) :
    Ordered Causes.onlyLine (lineOrders z x y s) s (orderByLine z x y s) := by
  unfold lineOrders orderByLine
  split
  · cases (s.zone z).tripLine with
    | some line => exact ordered_forEach _ ((List.nodup_finRange 32).filter _) s
    | none => exact .nil ..
  · exact .nil ..

theorem mem_airOrders {z w : Fin 32} {y : AirState} {s : State}
    (hlevel : (s.zone z).autoLevel = .danger ∨ (s.zone z).autoLevel = .trip) : w ∈ airOrders z y s ↔ w = z
      ∧ (((s.zone z).autoLevel = .danger ∧ (y = .danger ∨ y = .trip)) ∨ ((s.zone z).autoLevel = .trip ∧ y = .trip)) := by
  have hreached : y.isBad = true ∧ (s.zone z).autoLevel.severity ≤ y.severity ↔
      ((s.zone z).autoLevel = .danger ∧ (y = .danger ∨ y = .trip)) ∨ ((s.zone z).autoLevel = .trip ∧ y = .trip) := by
    rcases hlevel with h | h
    · rw [h]
      cases y <;> simp [AirState.isBad, AirState.severity]
    · rw [h]
      cases y <;> simp [AirState.isBad, AirState.severity]
  unfold airOrders
  split
  · next h => rw [List.mem_singleton, and_iff_left (hreached.1 h)]
  · next h => exact iff_of_false List.not_mem_nil fun hn => h (hreached.2 hn.2)

theorem mem_lineOrders {z w : Fin 32} {x y : AirState} {s : State} : w ∈ lineOrders z x y s ↔
    w ≠ z ∧ x ≠ y ∧ y = .trip ∧ ∃ line, (s.zone z).tripLine = some line ∧ (s.zone w).tripLine = some line := by
  unfold lineOrders
  split
  · next h =>
    obtain ⟨rfl, hx⟩ := h
    cases hl : (s.zone z).tripLine with
    | none => simp
    | some line => simp [State.sharingLine, allZones, hx]
  · next h =>
    refine iff_of_false List.not_mem_nil fun ⟨_, hne, hy, _⟩ => h ⟨hy, fun hx => hne (hx.trans hy.symm)⟩

/-- Two orders of different zones, one by AIR and then one by LINE (R139). -/
structure Evacuated (la ll : List (Fin 32)) (s t : State) : Prop where
  only : t = { s with
    znt := { s.znt with zones := t.znt.zones }, rst := { s.rst with slots := t.rst.slots }
    hlk := { s.hlk with trucks := t.hlk.trucks } }
  air : ∀ w ∈ la, t.zone w = (s.zone w).orderedBy Causes.onlyAir s.frt.frame (t.zone w).grants
  line : ∀ w ∈ ll, t.zone w = (s.zone w).orderedBy Causes.onlyLine s.frt.frame (t.zone w).grants
  spared : ∀ w, w ∉ la → w ∉ ll → t.zone w = s.zone w
  slot : ∀ i, t.slot i = { gen := (s.slot i).gen, person := (s.person i).map (Person.alertedIn (s.fresh (la ++ ll))) }
  granted : ∀ n u, t.truck n = some u → ∃ v, s.truck n = some v ∧ ∀ w, u.grantedZone = some w → v.grantedZone = some w

theorem Ordered.grantedZone {cause : Causes} {l : List (Fin 32)} {s t : State} (h : Ordered cause l s t) {n : Nat} {u : Truck}
    (hu : t.truck n = some u) : ∃ v, s.truck n = some v ∧ ∀ w, u.grantedZone = some w → v.grantedZone = some w := by
  rw [h.truck] at hu
  split at hu
  · obtain ⟨v, hv, rfl⟩ := Option.map_eq_some_iff.1 hu
    exact ⟨v, hv, fun w hw => (Truck.grantedZone_deferredIn.1 hw).1⟩
  · exact ⟨u, hu, fun _ => id⟩

theorem evacuated {la ll : List (Fin 32)} (hapart : ∀ w ∈ la, w ∉ ll) {s t u : State} (h : Ordered Causes.onlyAir la s t)
    (g : Ordered Causes.onlyLine ll t u) : Evacuated la ll s u := by
  have hother : ∀ w, w ∉ la → t.zone w = s.zone w := fun w hw => (h.zone w).trans (if_neg hw)
  have hlater : ∀ w, w ∉ ll → u.zone w = t.zone w := fun w hw => (g.zone w).trans (if_neg hw)
  have hframe : t.frt = s.frt := by rw [h.only]
  have hfresh : (fun w => s.fresh la w || t.fresh ll w) = s.fresh (la ++ ll) := funext fun w => by
    rw [Bool.eq_iff_iff, Bool.or_eq_true, fresh_iff, fresh_iff, fresh_iff, List.mem_append, or_and_right]
    exact or_congr .rfl (and_congr_right fun hw => by rw [hother w fun ha => hapart w ha hw])
  refine ⟨?_, fun w hw => ?_, fun w hw => ?_, fun w ha hl => (hlater w hl).trans (hother w ha), fun i => ?_, fun n v hv => ?_⟩
  · have hg := g.only
    rw [h.only] at hg
    exact hg
  · rw [hlater w (hapart w hw)]
    exact (h.zone w).trans (if_pos hw)
  · refine (g.zone w).trans ((if_pos hw).trans ?_)
    rw [hother w fun ha => hapart w ha hw, hframe]
  · rw [g.slot, State.person, h.slot, Option.map_map]
    refine congrArg (fun f => Slot.mk _ (Option.map f (s.person i))) (funext fun p => ?_)
    rw [Function.comp_apply, Person.alertedIn_alertedIn, hfresh]
  · obtain ⟨v', hv', hfall⟩ := g.grantedZone hv
    obtain ⟨v'', hv'', hfall'⟩ := h.grantedZone hv'
    exact ⟨v'', hv'', fun w hw => hfall' w (hfall w hw)⟩

/-- What the orders of a real change leave of a zone's evacuation fields. -/
def EvacMarks (a l : Prop) (now : Frame) (r r' : Zone) : Prop :=
  (r'.evac = .ordered ↔ r.evac = .ordered ∨ a ∨ l)
    ∧ (r'.causes.air = true ↔ a ∨ (r.causes.air = true ∧ (r.evac = .ordered ∨ ¬ l)))
    ∧ (r'.causes.line = true ↔ l ∨ (r.causes.line = true ∧ (r.evac = .ordered ∨ ¬ a)))
    ∧ (r.evac = .notOrdered → a ∨ l → r'.causes.host = false ∧ r'.orderedStamp = some now)
    ∧ (r.evac = .ordered ∨ ¬ (a ∨ l) → r'.causes.host = r.causes.host ∧ r'.orderedStamp = r.orderedStamp)

theorem evacMarks_air {a l : Prop} (ha : a) (hl : ¬ l) (now : Frame) (g : List Nat) (r : Zone) :
    EvacMarks a l now r (r.orderedBy Causes.onlyAir now g) := by
  cases he : r.evac with
  | ordered =>
    rw [Zone.orderedBy_again he]
    simp [EvacMarks, he, ha, hl, Causes.union, Causes.onlyAir, Causes.none]
  | notOrdered =>
    rw [Zone.orderedBy_first he]
    simp [EvacMarks, he, ha, hl, Causes.onlyAir, Causes.none]

theorem evacMarks_line {a l : Prop} (ha : ¬ a) (hl : l) (now : Frame) (g : List Nat) (r : Zone) :
    EvacMarks a l now r (r.orderedBy Causes.onlyLine now g) := by
  cases he : r.evac with
  | ordered =>
    rw [Zone.orderedBy_again he]
    simp [EvacMarks, he, ha, hl, Causes.union, Causes.onlyLine, Causes.none]
  | notOrdered =>
    rw [Zone.orderedBy_first he]
    simp [EvacMarks, he, ha, hl, Causes.onlyLine, Causes.none]

theorem evacMarks_spared {a l : Prop} (ha : ¬ a) (hl : ¬ l) (now : Frame) (r : Zone) : EvacMarks a l now r r := by
  simp [EvacMarks, ha, hl]

theorem Evacuated.marks {la ll : List (Fin 32)} {s t : State} (h : Evacuated la ll s t) (hapart : ∀ w ∈ la, w ∉ ll)
    (w : Fin 32) : EvacMarks (w ∈ la) (w ∈ ll) s.frt.frame (s.zone w) (t.zone w) := by
  by_cases ha : w ∈ la
  · rw [h.air w ha]
    exact evacMarks_air ha (hapart w ha) ..
  · by_cases hl : w ∈ ll
    · rw [h.line w hl]
      exact evacMarks_line ha hl ..
    · rw [h.spared w ha hl]
      exact evacMarks_spared ha hl ..

/-- The orders of a zone's real change. -/
def orders (z : Fin 32) (x y : AirState) (s : State) : State := orderByLine z x y (orderByAir z y s)

theorem tripLine_orderByAir (z w : Fin 32) (y : AirState) (s : State) :
    ((orderByAir z y s).zone w).tripLine = (s.zone w).tripLine := by
  rw [(ordered_orderByAir z y s).zone w]
  split
  · unfold Zone.orderedBy
    split <;> rfl
  · rfl

theorem airOrders_apart {z w : Fin 32} {x y : AirState} {s t : State} (h : w ∈ airOrders z y s) : w ∉ lineOrders z x y t := by
  unfold airOrders at h
  split at h
  · rw [List.mem_singleton] at h
    exact fun hl => (mem_lineOrders.1 hl).1 h
  · exact absurd h List.not_mem_nil

theorem lineOrders_orderByAir (z : Fin 32) (x y : AirState) (s : State) :
    lineOrders z x y (orderByAir z y s) = lineOrders z x y s := by
  unfold lineOrders State.sharingLine
  simp only [tripLine_orderByAir]

theorem evacuated_orders (z : Fin 32) (x y : AirState) (s : State) :
    Evacuated (airOrders z y s) (lineOrders z x y s) s (orders z x y s) := by
  have h := ordered_orderByLine z x y (orderByAir z y s)
  rw [lineOrders_orderByAir] at h
  exact evacuated (fun w hw => airOrders_apart hw) (ordered_orderByAir z y s) h

theorem zoneSpared_orders (z : Fin 32) (x y : AirState) (s : State) : ZoneSpared z s (orders z x y s) :=
  ((ordered_orderByAir z y s).zoneSpared z).trans ((ordered_orderByLine z x y _).zoneSpared z)

/-! ## Door breaches (R153) -/

/-- The fault reasons of the refuges of a list derived anew. -/
def breaches (l : List (Fin 8)) (s : State) : State := forEach l deriveReasons s

theorem breaches_only (l : List (Fin 8)) (s : State) : RefugesOnly s (breaches l s) :=
  forEach_keeps (RefugesOnly s) _ (fun r _ h => h.trans (deriveReasons_only r _)) l s (.refl s)

/-- A configured refuge of the list has the reasons that hold for it. -/
theorem breaches_refuge {l : List (Fin 8)} (hl : l.Nodup) {r : Fin 8} (hr : r ∈ l) {s : State}
    (hc : (s.refuge r).configured = true) :
    (breaches l s).refuge r = { s.refuge r with reasons := s.reasonsOf (s.refuge r) } := by
  obtain ⟨u, hu, ht⟩ := forEach_visits (R := OtherRefuges r) (f := deriveReasons) (OtherRefuges.refl r)
    (fun _ _ _ => OtherRefuges.trans) hl hr (fun _ hq => OtherRefuges.deriveReasons hq) s
  have hreasons : u.reasonsOf (s.refuge r) = s.reasonsOf (s.refuge r) := by
    have honly := hu.only
    unfold RefugesOnly at honly
    rw [honly]
    rfl
  rw [breaches, ht.refuge, refuge_deriveReasons, if_pos ⟨rfl, by rw [hu.refuge, hc]⟩, hu.refuge, hreasons]

end Sys2Proof.Machine
end

section
/-! A zone's real air state change handed on (R23), as one change. -/

namespace Sys2Proof.Machine

open Sys2Proof.Safety (QueueHolds Raised NotRaised)

/-! ## The trip line (R26) -/

theorem judgeZoneLine_only (z : Fin 32) (s : State) : judgeZoneLine z s = { s with
    znt := { s.znt with lines := (judgeZoneLine z s).znt.lines }
    hpt := { s.hpt with flags := { s.hpt.flags with tripLine := (judgeZoneLine z s).hpt.flags.tripLine } } } := by
  unfold judgeZoneLine judgeLine
  split
  · split <;> rfl
  · rfl

theorem lines_judgeZoneLine (z : Fin 32) (line : Fin 8) (s : State) : (judgeZoneLine z s).znt.lines[line] =
    if (s.zone z).tripLine = some line then s.isTripped line else s.znt.lines[line] := by
  unfold judgeZoneLine
  split
  · next l hl =>
    rw [lines_judgeLine, hl]
    by_cases h : line = l
    · rw [if_pos h, if_pos (congrArg some h.symm), h]
    · rw [if_neg h, if_neg fun e => h (Option.some.inj e).symm]
  · next hl =>
    rw [hl]
    exact (if_neg nofun).symm

/-- An assertion or a release of the zone's line raises TRIP_LINE, and no judgement takes the notice back. -/
theorem tripLine_judgeZoneLine (z : Fin 32) (s : State) :
    (s.hpt.flags.tripLine = true → (judgeZoneLine z s).hpt.flags.tripLine = true)
      ∧ ((∃ line : Fin 8, (judgeZoneLine z s).znt.lines[line] ≠ s.znt.lines[line]) →
          (judgeZoneLine z s).hpt.flags.tripLine = true) := by
  unfold judgeZoneLine judgeLine
  split
  · split
    · exact ⟨id, fun ⟨_, h⟩ => absurd rfl h⟩
    · exact ⟨fun _ => rfl, fun _ => rfl⟩
  · exact ⟨id, fun ⟨_, h⟩ => absurd rfl h⟩

theorem zoneSpared_judgeZoneLine (z : Fin 32) (s : State) : ZoneSpared z s (judgeZoneLine z s) := by
  have honly := judgeZoneLine_only z s
  exact .of_air (by rw [honly]) (fun h => by rw [honly]; exact h) (tripLine_judgeZoneLine z s).1
    (by rw [zone_judgeZoneLine]) (by rw [zone_judgeZoneLine])

/-! ## The exposures (R23, R86) -/

/-- A zone's real change raises the exposure of a record (R86, R87). -/
def ChangeRaises (z : Fin 32) (x y : AirState) (p : Person) (s : State) : Prop :=
  s.rst.exposureMode = .entries ∧ x = .clear ∧ y.isBad = true ∧ p.countedZone = some z ∧ p.exposure < 65535

theorem exposeRise_of {z : Fin 32} {x y : AirState} {s : State} (hmode : s.rst.exposureMode = .entries) (hx : x = .clear)
    (hy : y.isBad = true) : exposeRise z x y s = raiseExposures (fun i s => s.isCountedIn z i) s := by
  unfold exposeRise
  rw [hmode]
  exact if_pos ⟨hx, hy⟩

theorem exposeRise_idle {z : Fin 32} {x y : AirState} {s : State}
    (h : ¬ (s.rst.exposureMode = .entries ∧ x = .clear ∧ y.isBad = true)) : exposeRise z x y s = s := by
  unfold exposeRise
  cases hmode : s.rst.exposureMode with
  | time => rfl
  | entries => exact if_neg fun hn => h ⟨hmode, hn⟩

theorem exposeRise_only (z : Fin 32) (x y : AirState) (s : State) : RosterOnly s (exposeRise z x y s) := by
  by_cases h : s.rst.exposureMode = .entries ∧ x = .clear ∧ y.isBad = true
  · rw [exposeRise_of h.1 h.2.1 h.2.2]
    exact raiseExposures_only s
  · rw [exposeRise_idle h]
    exact .refl s

theorem exposeRise_free {z : Fin 32} {x y : AirState} {s : State} {i : Fin 240} (hi : s.person i = none) :
    (exposeRise z x y s).slot i = s.slot i := by
  by_cases h : s.rst.exposureMode = .entries ∧ x = .clear ∧ y.isBad = true
  · rw [exposeRise_of h.1 h.2.1 h.2.2]
    exact raiseExposures_free hi
  · rw [exposeRise_idle h]

theorem isCountedIn_iff {z : Fin 32} {i : Fin 240} {p : Person} {s : State} (hp : s.person i = some p) :
    s.isCountedIn z i = true ↔ p.countedZone = some z := by
  rw [State.isCountedIn, hp]
  exact beq_iff_eq

theorem exposeRise_slot {z : Fin 32} {x y : AirState} {s : State} {i : Fin 240} {p : Person} (hp : s.person i = some p) :
    (ChangeRaises z x y p s →
      (exposeRise z x y s).slot i = { gen := (s.slot i).gen, person := some p.raised }
        ∧ (p.exposure + 1 = s.rst.exposureLimit → QueueHolds s.atq →
            Raised .exposure (s.personSubject i) (exposeRise z x y s)))
      ∧ (¬ ChangeRaises z x y p s → (exposeRise z x y s).slot i = s.slot i) := by
  have hcounted (t : State) (_ : RosterOnly s t) (hslot : t.slot i = s.slot i) : t.isCountedIn z i = s.isCountedIn z i := by
    rw [State.isCountedIn, State.isCountedIn, person_eq_of_slot hslot]
  obtain ⟨hraises, hstays⟩ := raiseExposures_slot (exposed := fun i s => s.isCountedIn z i) hcounted hp
  refine ⟨fun ⟨hmode, hx, hy, hz, hlt⟩ => ?_, fun hnot => ?_⟩
  · rw [exposeRise_of hmode hx hy]
    exact hraises ((isCountedIn_iff hp).2 hz) hlt
  · by_cases h : s.rst.exposureMode = .entries ∧ x = .clear ∧ y.isBad = true
    · rw [exposeRise_of h.1 h.2.1 h.2.2]
      exact hstays fun hn => hnot ⟨h.1, h.2.1, h.2.2, (isCountedIn_iff hp).1 hn.1, hn.2⟩
    · rw [exposeRise_idle h]

/-! ## The change handed on -/

/-- What the refuge and evacuation unit and the roster make of a zone's real change from `x` to `y`. -/
structure ChangeTaken (z : Fin 32) (x y : AirState) (s t : State) : Prop where
  spared : ZoneSpared z s t
  marks : ∀ w, EvacMarks (w ∈ airOrders z y s) (w ∈ lineOrders z x y s) s.frt.frame (s.zone w) (t.zone w)
  free : ∀ i, s.person i = none → t.slot i = s.slot i
  record : ∀ i p, s.person i = some p →
    let q := p.alertedIn (s.fresh (airOrders z y s ++ lineOrders z x y s))
    (ChangeRaises z x y q s → t.slot i = { gen := (s.slot i).gen, person := some q.raised }
        ∧ (q.exposure + 1 = s.rst.exposureLimit → QueueHolds s.atq → Raised .exposure (s.personSubject i) t))
      ∧ (¬ ChangeRaises z x y q s → t.slot i = { gen := (s.slot i).gen, person := some q })
  breach : ∀ r, (s.refuge r).configured = true → (s.refuge r).zone = some z →
    ((t.refuge r).reasons.doorBreach = true
      ↔ (s.refuge r).door = .opened ∧ ((s.zone z).real = .danger ∨ (s.zone z).real = .trip))
  granted : ∀ n u, t.truck n = some u → ∃ v, s.truck n = some v ∧ ∀ w, u.grantedZone = some w → v.grantedZone = some w

/-- The refuges in a zone. -/
def refugesIn (z : Fin 32) (s : State) : List (Fin 8) := allRefuges.filter (fun r => (s.refuge r).zone == some z)

theorem mem_refugesIn {z : Fin 32} {r : Fin 8} {s : State} : r ∈ refugesIn z s ↔ (s.refuge r).zone = some z := by
  simp [refugesIn, allRefuges]

theorem handReal_eq {z : Fin 32} {x y : AirState} (h : x ≠ y) (s : State) : handReal z x y s =
    exposeRise z x y (breaches (refugesIn z (judgeZoneLine z s)) (orders z x y (judgeZoneLine z s))) := if_neg h

theorem doorBreach_reasonsOf {r : Refuge} {z : Fin 32} {s : State} (hz : r.zone = some z) :
    (s.reasonsOf r).doorBreach = true ↔ r.door = .opened ∧ ((s.zone z).real = .danger ∨ (s.zone z).real = .trip) := by
  simp [State.reasonsOf, Refuge.derived, hz]

theorem zoneSpared_breaches (z : Fin 32) (l : List (Fin 8)) (s : State) : ZoneSpared z s (breaches l s) :=
  .forEach (fun r t => .deriveReasons r t) l s

/-- The orders, the door breaches and the exposures of a real change. -/
theorem changeTaken (z : Fin 32) (x y : AirState) (s : State) :
    ChangeTaken z x y s (exposeRise z x y (breaches (refugesIn z s) (orders z x y s))) := by
  have hevac := evacuated_orders z x y s
  have hmarks := hevac.marks fun w hw => airOrders_apart hw
  have hspared := zoneSpared_orders z x y s
  generalize orders z x y s = u at *
  have hbreaches := breaches_only (refugesIn z s) u
  have hbreachSpared := zoneSpared_breaches z (refugesIn z s) u
  have hrefuge (r : Fin 8) (hz : (s.refuge r).zone = some z) (hc : (s.refuge r).configured = true) :=
    breaches_refuge (s := u) (l := refugesIn z s) ((List.nodup_finRange 8).filter _) (mem_refugesIn.2 hz)
      (show (u.refuge r).configured = true by rw [hevac.only]; exact hc)
  generalize breaches (refugesIn z s) u = b at *
  have hrose := exposeRise_only z x y b
  have honly := hevac.only
  have hslot : ∀ i, b.slot i = ⟨(s.slot i).gen,
      (s.person i).map (Person.alertedIn (s.fresh (airOrders z y s ++ lineOrders z x y s)))⟩ := fun i => by
    rw [← hevac.slot i, show b = _ from hbreaches]
    rfl
  have hrst : b.rst.exposureMode = s.rst.exposureMode ∧ b.rst.exposureLimit = s.rst.exposureLimit := by
    rw [show b = _ from hbreaches, honly]
    exact ⟨rfl, rfl⟩
  have hreal : (u.zone z).real = (s.zone z).real := by
    by_cases ha : z ∈ airOrders z y s
    · rw [hevac.air z ha]
      unfold Zone.orderedBy
      split <;> rfl
    · rw [hevac.spared z ha fun hl => (mem_lineOrders.1 hl).1 rfl]
  refine ⟨(hspared.trans hbreachSpared).trans (.exposeRise x y b), fun w => ?_, fun i hi => ?_, fun i p hp => ?_,
    fun r hc hz => ?_, fun n v hv => hevac.granted n v ?_⟩
  · rw [show exposeRise z x y b = _ from hrose, show b = _ from hbreaches]
    exact hmarks w
  · have hnone : b.person i = none := by rw [State.person, hslot, hi]; rfl
    rw [exposeRise_free hnone, hslot, hi]
    exact (slot_of_person_none hi).symm
  · intro q
    have hq : b.slot i = { gen := (s.slot i).gen, person := some q } := by rw [hslot, hp]; rfl
    have hraises : ChangeRaises z x y q b ↔ ChangeRaises z x y q s := by rw [ChangeRaises, ChangeRaises, hrst.1]
    obtain ⟨hyes, hno⟩ := exposeRise_slot (z := z) (x := x) (y := y) (congrArg Slot.person hq)
    rw [hraises, hq, hrst.2, personSubject_of_slot_eq hq] at hyes
    rw [hraises, hq] at hno
    exact ⟨fun h => ⟨(hyes h).1, fun hl hqs => (hyes h).2 hl (((hspared.trans hbreachSpared).spares .exposure nofun hqs).1)⟩,
      hno⟩
  · have hown : (exposeRise z x y b).refuge r = b.refuge r := by rw [show exposeRise z x y b = _ from hrose]; rfl
    have hsame : u.refuge r = s.refuge r := by rw [honly]; rfl
    rw [hown, hrefuge r hz hc, hsame, doorBreach_reasonsOf hz, hreal]
  · rw [← hv]
    refine (truck_congr ?_ n).symm
    rw [show exposeRise z x y b = _ from hrose, show b = _ from hbreaches]

theorem lines_changeTaken (z : Fin 32) (x y : AirState) (l : List (Fin 8)) (s : State) :
    (exposeRise z x y (breaches l (orders z x y s))).znt.lines = s.znt.lines := by
  rw [show exposeRise z x y _ = _ from exposeRise_only .., show breaches l _ = _ from breaches_only ..,
    (evacuated_orders z x y s).only]

/-- A real change handed on, from the state in which it is found. -/
theorem realHanded {z : Fin 32} {x y : AirState} (h : x ≠ y) (s : State) : ChangeTaken z x y s (handReal z x y s)
    ∧ (∀ line : Fin 8, (handReal z x y s).znt.lines[line] =
        if (s.zone z).tripLine = some line then s.isTripped line else s.znt.lines[line])
    ∧ ((∃ line : Fin 8, (handReal z x y s).znt.lines[line] ≠ s.znt.lines[line]) →
        (handReal z x y s).hpt.flags.tripLine = true) := by
  have htaken := changeTaken z x y (judgeZoneLine z s)
  have hkept := lines_changeTaken z x y (refugesIn z (judgeZoneLine z s)) (judgeZoneLine z s)
  rw [handReal_eq h, hkept]
  refine ⟨?_, fun line => lines_judgeZoneLine z line s, fun hl =>
    htaken.spared.tripLine ((tripLine_judgeZoneLine z s).2 hl)⟩
  have hspared := (zoneSpared_judgeZoneLine z s).trans htaken.spared
  generalize exposeRise z x y _ = t at *
  obtain ⟨-, hmarks, hfree, hrecord, hbreach, hgranted⟩ := htaken
  rw [judgeZoneLine_only z s] at hmarks hfree hrecord hbreach hgranted
  exact ⟨hspared, hmarks, hfree, hrecord, hbreach, hgranted⟩

end Sys2Proof.Machine
end

section
/-! A zone recomputed after a change of a channel (R21 to R24), and that a change of a channel reaches its zone (R105). -/

namespace Sys2Proof.Machine

open Sys2Proof.Safety (QueueHolds Raised NotRaised)

/-! ## The zone table's own part -/

/-- Two states differ at most in the zones' air states and grant sets, the trucks, the attention queue and the notices. -/
structure AirOnly (s t : State) : Prop where
  only : t = { s with
    znt := { s.znt with zones := t.znt.zones }, hlk := { s.hlk with trucks := t.hlk.trucks }
    atq := t.atq, hpt := { s.hpt with flags := t.hpt.flags } }
  zone : ∀ w, t.zone w =
    { s.zone w with reported := (t.zone w).reported, real := (t.zone w).real, grants := (t.zone w).grants }

namespace AirOnly

theorem refl (s : State) : AirOnly s s := ⟨rfl, fun _ => rfl⟩

theorem trans {s t u : State} (h : AirOnly s t) (k : AirOnly t u) : AirOnly s u := by
  refine ⟨?_, fun w => ?_⟩
  · have hk := k.only
    rw [h.only] at hk
    exact hk
  · rw [k.zone w, h.zone w]

theorem queue {s t : State} (h : QueueOnly s t) : AirOnly s t := by
  refine ⟨?_, fun w => by rw [h.zone_eq w]⟩
  rw [show t = _ from h]

theorem deferred {picks : Fin 32 → Bool} {l : List Nat} {s t : State} (h : Deferred picks l s t) : AirOnly s t := by
  refine ⟨?_, fun w => ?_⟩
  · rw [h.only]
  · rw [h.zone w]

theorem writeAir (z : Fin 32) (a b : AirState) (s : State) : AirOnly s (writeAir z a b s) :=
  ⟨rfl, fun w => by rw [zone_writeAir]⟩

theorem slot {s t : State} (h : AirOnly s t) (i : Fin 240) : t.slot i = s.slot i := by rw [h.only]; rfl

theorem person {s t : State} (h : AirOnly s t) (i : Fin 240) : t.person i = s.person i := by rw [h.only]; rfl

theorem refuge {s t : State} (h : AirOnly s t) (r : Fin 8) : t.refuge r = s.refuge r := by rw [h.only]; rfl

theorem frt {s t : State} (h : AirOnly s t) : t.frt = s.frt := by rw [h.only]

theorem rst {s t : State} (h : AirOnly s t) : t.rst = s.rst := by rw [h.only]

theorem lines {s t : State} (h : AirOnly s t) : t.znt.lines = s.znt.lines := by rw [h.only]

theorem evac {s t : State} (h : AirOnly s t) (w : Fin 32) : (t.zone w).evac = (s.zone w).evac := by rw [h.zone w]

theorem tripLine {s t : State} (h : AirOnly s t) (w : Fin 32) : (t.zone w).tripLine = (s.zone w).tripLine := by rw [h.zone w]

theorem autoLevel {s t : State} (h : AirOnly s t) (w : Fin 32) : (t.zone w).autoLevel = (s.zone w).autoLevel := by
  rw [h.zone w]

end AirOnly

/-! ## A reported change handed on (R22) -/

theorem zoneItem_ne {x y : AirState} {k : ItemKind} (h : x ≠ y) (hx : x.item? = some k) : y.item? ≠ some k := by
  cases x <;> cases hx <;> cases y <;> simp_all [AirState.item?]

theorem zoneItem_ne_stranger {x : AirState} {k : ItemKind} (h : x.item? = some k) : k ≠ .stranger := by
  cases x <;> cases h <;> exact nofun

theorem withdraws_iff (y : AirState) : y.withdraws = true ↔ y = .danger ∨ y = .trip ∨ y = .unknown := by
  simp [AirState.withdraws, or_assoc]

/-- The items of a zone's reported change from `x` to `y`. -/
def reportItems (z : Fin 32) (x y : AirState) (s : State) : State :=
  insertZoneItem z y ((s.zone z).real != y) (endZoneItem z x s)

theorem endZoneItem_only (z : Fin 32) (x : AirState) (s : State) : QueueOnly s (endZoneItem z x s) := by
  unfold endZoneItem
  split
  · exact endItem_only ..
  · exact .refl s

theorem insertZoneItem_only (z : Fin 32) (y : AirState) (b : Bool) (s : State) : QueueOnly s (insertZoneItem z y b s) := by
  unfold insertZoneItem
  split
  · exact insertItem_only ..
  · exact .refl s

theorem endZoneItem_holds (z : Fin 32) (x : AirState) {s : State} (h : QueueHolds s.atq) :
    QueueHolds (endZoneItem z x s).atq := by
  unfold endZoneItem
  split
  · exact endItem_holds _ _ _ h
  · exact h

theorem insertZoneItem_holds (z : Fin 32) (y : AirState) (b : Bool) {s : State} (h : QueueHolds s.atq) :
    QueueHolds (insertZoneItem z y b s).atq := by
  unfold insertZoneItem
  split
  · exact insertItem_holds _ _ _ _ _ _ h
  · exact h

theorem notRaised_reportItems {z : Fin 32} {x y : AirState} {k : ItemKind} {s : State} (hne : x ≠ y) (hk : x.item? = some k)
    (hq : QueueHolds s.atq) : NotRaised k (.zone z) (reportItems z x y s) := by
  have hended : NotRaised k (.zone z) (endZoneItem z x s) := by
    rw [endZoneItem, hk]
    exact notRaised_endItem hq
  unfold reportItems insertZoneItem
  split
  · next k' hk' =>
    have hother : k' ≠ k := fun e => zoneItem_ne hne hk (e ▸ hk')
    exact (Spares.insertItem (zoneItem_ne_stranger hk) (.of_kind hother) _ _ _ _).notRaised (endZoneItem_holds z x hq) hended
  · exact hended

theorem raised_reportItems {z : Fin 32} {x y : AirState} {k : ItemKind} (hk : y.item? = some k) (s : State) :
    Raised k (.zone z) (reportItems z x y s) := by
  unfold reportItems insertZoneItem
  rw [hk]
  exact raised_insertItem (zoneItem_ne_stranger hk) ..

/-- A zone's reported change from `x` to `y` handed on. -/
structure ReportHanded (z : Fin 32) (x y : AirState) (s t : State) : Prop where
  only : AirOnly s t
  holds : QueueHolds s.atq → QueueHolds t.atq
  ended : QueueHolds s.atq → ∀ k, x.item? = some k → NotRaised k (.zone z) t
  raised : ∀ k, y.item? = some k → Raised k (.zone z) t
  withdrawn : y = .danger ∨ y = .trip ∨ y = .unknown →
    ∀ n ∈ s.hlk.pollList, ∀ u, t.truck n = some u → u.grantedZone ≠ some z

theorem reportHanded {z : Fin 32} {x y : AirState} (h : x ≠ y) (s : State) :
    ReportHanded z x y s (handReported z x y s) := by
  have hitems : QueueOnly s (reportItems z x y s) := (endZoneItem_only ..).trans (insertZoneItem_only ..)
  have hholds : QueueHolds s.atq → QueueHolds (reportItems z x y s).atq :=
    fun hq => insertZoneItem_holds _ _ _ (endZoneItem_holds _ _ hq)
  have heq : handReported z x y s =
      if y.withdraws = true then withdrawEntriesTo z (reportItems z x y s) else reportItems z x y s := if_neg h
  rw [heq]
  by_cases hw : y.withdraws = true
  · rw [if_pos hw]
    have hdeferred := deferred_withdrawEntriesTo z (reportItems z x y s)
    have hsame : (withdrawEntriesTo z (reportItems z x y s)).atq = (reportItems z x y s).atq := by rw [hdeferred.only]
    refine ⟨(AirOnly.queue hitems).trans (.deferred hdeferred), fun hq => hsame ▸ hholds hq, fun hq k hk =>
      notRaised_congr hsame (notRaised_reportItems h hk hq), fun k hk => raised_congr hsame (raised_reportItems hk s),
      fun _ n hn u hu hg => ?_⟩
    have hlist : n ∈ (reportItems z x y s).hlk.pollList := by rw [show reportItems z x y s = _ from hitems]; exact hn
    rw [hdeferred.truck, if_pos hlist] at hu
    obtain ⟨v, -, rfl⟩ := Option.map_eq_some_iff.1 hu
    exact Bool.false_ne_true ((Truck.grantedZone_deferredIn.1 hg).2.symm.trans ((picked_some z z).2 rfl))
  · rw [if_neg hw]
    exact ⟨.queue hitems, hholds, fun hq k hk => notRaised_reportItems h hk hq, fun k hk => raised_reportItems hk s,
      fun hy => absurd ((withdraws_iff y).2 hy) hw⟩

/-! ## The test mark (R24) -/

theorem updateTestMark_cases (z : Fin 32) (s : State) : updateTestMark z s = s
    ∨ ∃ k, (s.zone z).reported.item? = some k
      ∧ updateTestMark z s = insertItem k (.zone z) ((s.zone z).reported != (s.zone z).real) .absent false s := by
  unfold updateTestMark
  cases hk : (s.zone z).reported.item? with
  | none => exact .inl rfl
  | some k =>
    dsimp only
    cases s.item k (.zone z) with
    | none => exact .inl rfl
    | some it =>
      dsimp only
      split
      · exact .inr ⟨k, rfl, rfl⟩
      · exact .inl rfl

theorem updateTestMark_only (z : Fin 32) (s : State) : QueueOnly s (updateTestMark z s) := by
  rcases updateTestMark_cases z s with h | ⟨k, -, h⟩
  · rw [h]; exact .refl s
  · rw [h]; exact insertItem_only ..

theorem updateTestMark_holds (z : Fin 32) {s : State} (hq : QueueHolds s.atq) : QueueHolds (updateTestMark z s).atq := by
  rcases updateTestMark_cases z s with h | ⟨k, -, h⟩
  · rw [h]; exact hq
  · rw [h]; exact insertItem_holds _ _ _ _ _ _ hq

theorem raised_updateTestMark {z : Fin 32} {k : ItemKind} {s : State} (hk : (s.zone z).reported.item? = some k)
    (hr : Raised k (.zone z) s) : Raised k (.zone z) (updateTestMark z s) := by
  rcases updateTestMark_cases z s with h | ⟨k', hk', h⟩
  · rw [h]; exact hr
  · rw [hk] at hk'
    obtain rfl := Option.some.inj hk'
    rw [h]
    exact raised_insertItem (zoneItem_ne_stranger hk) ..

theorem notRaised_updateTestMark {z : Fin 32} {k : ItemKind} {s : State} (hs : k ≠ .stranger)
    (hk : (s.zone z).reported.item? ≠ some k) (hq : QueueHolds s.atq) (hr : NotRaised k (.zone z) s) :
    NotRaised k (.zone z) (updateTestMark z s) := by
  rcases updateTestMark_cases z s with h | ⟨k', hk', h⟩
  · rw [h]; exact hr
  · rw [h]
    exact (Spares.insertItem hs (.of_kind fun e => hk (e ▸ hk')) _ _ _ s).notRaised hq hr

/-- After the update every ACTIVE item of the zone's reported state carries the zone's test mark. -/
theorem test_updateTestMark {z : Fin 32} {k : ItemKind} {s : State} (hk : (s.zone z).reported.item? = some k)
    (hq : QueueHolds s.atq) {it : Item} (hm : it ∈ (updateTestMark z s).atq.items) (hkind : it.kind = k)
    (hsubject : it.subject = .zone z) (hc : it.condition = .active) :
    it.test = ((s.zone z).reported != (s.zone z).real) := by
  unfold updateTestMark at hm
  rw [hk] at hm
  dsimp only at hm
  cases hi : s.item k (.zone z) with
  | none =>
    rw [hi] at hm
    exact absurd ⟨hkind, hsubject⟩ ((item_none ..).1 hi it hm)
  | some a =>
    rw [hi] at hm
    dsimp only at hm
    split at hm
    · exact (mem_insertItem_own hm hkind hsubject).1
    · next hkept =>
      have ha := item_eq_some hq hm hkind hsubject
      rw [hi] at ha
      obtain rfl := Option.some.inj ha
      exact not_not.1 fun hne => hkept ⟨hc, hne⟩

end Sys2Proof.Machine
end

section
/-! A zone recomputed (R20 to R26), and that a change of a channel reaches its zone (R105). -/

namespace Sys2Proof.Machine

open Sys2Proof.Safety (QueueHolds Raised NotRaised)

/-! ## The report -/

/-- The states of a zone written and its reported change handed on: a recomputation up to the real change (R21). -/
def reportAir (z : Fin 32) (a b : AirState) (s : State) : State :=
  updateTestMark z (handReported z (s.zone z).reported a (writeAir z a b s))

/-- A zone's states are written and its report is made. -/
structure AirReported (z : Fin 32) (a b : AirState) (s t : State) : Prop where
  only : AirOnly s t
  reported : ∀ w, (t.zone w).reported = if w = z then a else (s.zone w).reported
  real : ∀ w, (t.zone w).real = if w = z then b else (s.zone w).real
  holds : QueueHolds s.atq → QueueHolds t.atq
  items : QueueHolds s.atq → a ≠ (s.zone z).reported →
    (∀ k, (s.zone z).reported.item? = some k → NotRaised k (.zone z) t) ∧ ∀ k, a.item? = some k → Raised k (.zone z) t
  withdrawn : a ≠ (s.zone z).reported → a = .danger ∨ a = .trip ∨ a = .unknown →
    ∀ n ∈ s.hlk.pollList, ∀ u, t.truck n = some u → u.grantedZone ≠ some z
  test : QueueHolds s.atq → a ≠ (s.zone z).reported ∨ b ≠ (s.zone z).real → ∀ k, a.item? = some k → ∀ it ∈ t.atq.items,
    it.kind = k → it.subject = .zone z → it.condition = .active → it.test = decide (a ≠ b)

theorem airOnly_handReported (z : Fin 32) (x y : AirState) (s : State) : AirOnly s (handReported z x y s) := by
  by_cases h : x = y
  · rw [handReported, if_pos h]
    exact .refl s
  · exact (reportHanded h s).only

theorem handReported_holds (z : Fin 32) (x y : AirState) {s : State} (hq : QueueHolds s.atq) :
    QueueHolds (handReported z x y s).atq := (Tame.handReported z x y s).roll.queue hq

theorem airReported (z : Fin 32) (a b : AirState) (s : State) : AirReported z a b s (reportAir z a b s) := by
  have hwritten : QueueHolds s.atq → QueueHolds (writeAir z a b s).atq := id
  have hair := ((Tame.handReported z (s.zone z).reported a (writeAir z a b s)).trans (Aside.updateTestMark z _).tame).air
  have hmark := updateTestMark_only z (handReported z (s.zone z).reported a (writeAir z a b s))
  have hreal : ((handReported z (s.zone z).reported a (writeAir z a b s)).zone z).real = b := by
    rw [(Tame.handReported ..).air.real, zone_writeAir]
    exact if_pos rfl
  have hrep : ((handReported z (s.zone z).reported a (writeAir z a b s)).zone z).reported = a := by
    rw [(Tame.handReported ..).air.reported, zone_writeAir]
    exact if_pos rfl
  refine ⟨((AirOnly.writeAir z a b s).trans (airOnly_handReported ..)).trans (.queue hmark), fun w => ?_, fun w => ?_,
    fun hq => updateTestMark_holds z (handReported_holds _ _ _ hq), fun hq hne => ?_, fun hne ha n hn u hu => ?_,
    fun hq _ k hk it hm hkind hsubject hc => ?_⟩
  · exact (hair.reported w).trans (by rw [zone_writeAir])
  · exact (hair.real w).trans (by rw [zone_writeAir])
  · have hhanded := reportHanded (z := z) hne.symm (writeAir z a b s)
    refine ⟨fun k hk => ?_, fun k hk => raised_updateTestMark (by rw [hrep]; exact hk) (hhanded.raised k hk)⟩
    exact notRaised_updateTestMark (zoneItem_ne_stranger hk) (by rw [hrep]; exact zoneItem_ne hne.symm hk)
      (hhanded.holds hq) (hhanded.ended hq k hk)
  · refine (reportHanded (z := z) hne.symm (writeAir z a b s)).withdrawn ha n hn u ?_
    rw [← hu]
    refine (truck_congr ?_ n).symm
    rw [show reportAir z a b s = _ from hmark]
  · rw [test_updateTestMark (by rw [hrep]; exact hk) (handReported_holds _ _ _ (hwritten hq)) hm hkind hsubject hc, hrep, hreal,
      Bool.eq_iff_iff, bne_iff_ne, decide_eq_true_iff]

/-- A recomputation reports the zone's states and then hands on its real change; without a change it does neither (R21). -/
theorem recomputeZone_reports (z : Fin 32) (s : State) : ∃ w, AirReported z (s.reportedAir z) (s.realAir z) s w
    ∧ recomputeZone z s = handReal z (s.zone z).real (s.realAir z) w := by
  by_cases h : s.reportedAir z = (s.zone z).reported ∧ s.realAir z = (s.zone z).real
  · refine ⟨s, ⟨.refl s, fun w => ?_, fun w => ?_, id, fun _ hne => absurd h.1 hne, fun hne => absurd h.1 hne,
      fun _ hne => absurd h (not_and_or.2 hne)⟩, (if_pos h).trans (if_pos h.2.symm).symm⟩
    · split
      · next hw => rw [hw, h.1]
      · rfl
    · split
      · next hw => rw [hw, h.2]
      · rfl
  · exact ⟨_, airReported z _ _ s, if_neg h⟩

/-! ## The real change, seen from before the report -/

/-- The air part of a real change orders a zone (R139). -/
def ByAir (z : Fin 32) (x y : AirState) (s : State) (w : Fin 32) : Prop := w = z ∧ x ≠ y
  ∧ (((s.zone z).autoLevel = .danger ∧ (y = .danger ∨ y = .trip)) ∨ ((s.zone z).autoLevel = .trip ∧ y = .trip))

/-- The line part of a real change orders a zone (R139). -/
def ByLine (z : Fin 32) (x y : AirState) (s : State) (w : Fin 32) : Prop := w ≠ z ∧ x ≠ y ∧ y = .trip
  ∧ ∃ line, (s.zone z).tripLine = some line ∧ (s.zone w).tripLine = some line

/-- A real change alerts a record (R138). -/
def AirCaught (z : Fin 32) (x y : AirState) (s : State) (p : Person) : Prop := p.alert = .noAlert
  ∧ (p.state = .present ∨ p.state = .quiet ∨ p.state = .missing)
  ∧ ∃ w, p.zone = some w ∧ (s.zone w).evac = .notOrdered ∧ (ByAir z x y s w ∨ ByLine z x y s w)

/-- A real change raises the exposure of a record (R86, R87). -/
def AirRises (z : Fin 32) (x y : AirState) (s : State) (p : Person) : Prop := s.rst.exposureMode = .entries ∧ x = .clear
  ∧ (y = .caution ∨ y = .danger ∨ y = .trip) ∧ (p.state = .present ∨ p.state = .quiet) ∧ p.zone = some z ∧ p.exposure < 65535

/-- What a real change makes of a record: an alert where it is caught, and a raise of its exposure where it rises. -/
structure AirRecord (z : Fin 32) (x y : AirState) (s t : State) (i : Fin 240) (p q : Person) : Prop where
  slot : t.slot i = { gen := (s.slot i).gen, person := some q }
  only : q = { p with alert := q.alert, exposure := q.exposure, exposureFull := q.exposureFull }
  caught : AirCaught z x y s p → q.alert = .sent
  spared : ¬ AirCaught z x y s p → q.alert = p.alert
  rises : AirRises z x y s p → q.exposure = p.exposure + 1
    ∧ q.exposureFull = (p.exposureFull || p.exposure + 1 == 65535)
    ∧ (p.exposure + 1 = s.rst.exposureLimit → QueueHolds s.atq → Raised .exposure (s.personSubject i) t)
  stays : ¬ AirRises z x y s p → q.exposure = p.exposure ∧ q.exposureFull = p.exposureFull

/-- The evacuations, the records and the door breaches after a real change from `x` to `y`. -/
structure AirTaken (z : Fin 32) (x y : AirState) (s t : State) : Prop where
  marks : ∀ w, EvacMarks (ByAir z x y s w) (ByLine z x y s w) s.frt.frame (s.zone w) (t.zone w)
  free : ∀ i, s.person i = none → t.slot i = s.slot i
  record : ∀ i p, s.person i = some p → ∃ q, AirRecord z x y s t i p q
  breach : ∀ r, (s.refuge r).configured = true → (s.refuge r).zone = some z → x ≠ y →
    ((t.refuge r).reasons.doorBreach = true ↔ (s.refuge r).door = .opened ∧ (y = .danger ∨ y = .trip))

theorem changeRaises_iff {z : Fin 32} {x y : AirState} {s : State} {p q : Person} (hs : q.state = p.state)
    (hz : q.zone = p.zone) (he : q.exposure = p.exposure) : ChangeRaises z x y q s ↔ AirRises z x y s p := by
  have hcounted : q.countedZone = some z ↔ (p.state = .present ∨ p.state = .quiet) ∧ p.zone = some z := by
    rw [countedZone_eq, hs, hz]
    split
    · next h => exact (and_iff_right h).symm
    · next h => exact iff_of_false nofun fun hn => h hn.1
  rw [ChangeRaises, AirRises, hcounted, AirState.isBad_iff, he, and_assoc (a := p.state = .present ∨ p.state = .quiet)]

section Changed

variable {z : Fin 32} {x y : AirState} {s : State}

theorem AirTaken.refl (s : State) (h : x = y) : AirTaken z x y s s := by
  have hair (w : Fin 32) : ¬ ByAir z x y s w := fun hn => hn.2.1 h
  have hline (w : Fin 32) : ¬ ByLine z x y s w := fun hn => hn.2.1 h
  refine ⟨fun w => evacMarks_spared (hair w) (hline w) .., fun _ _ => rfl, fun i p hp => ⟨p, ?_⟩, fun r _ _ hne => absurd h hne⟩
  refine ⟨slot_of_person hp, rfl, fun ⟨_, _, w, _, _, hw⟩ => absurd hw (not_or.2 ⟨hair w, hline w⟩), fun _ => rfl,
    fun ⟨_, hx, hy, _⟩ => ?_, fun _ => ⟨rfl, rfl⟩⟩
  rw [← h, hx] at hy
  rcases hy with hy | hy | hy <;> cases hy

variable (h : x ≠ y) (hlevel : (s.zone z).autoLevel = .danger ∨ (s.zone z).autoLevel = .trip)

include h hlevel

theorem mem_airOrders_iff (w : Fin 32) : w ∈ airOrders z y s ↔ ByAir z x y s w := by
  rw [mem_airOrders hlevel, ByAir, and_iff_right h]

theorem airCaught_iff (p : Person) : ((∃ w, p.zone = some w ∧ s.fresh (airOrders z y s ++ lineOrders z x y s) w = true)
    ∧ (p.state = .present ∨ p.state = .quiet ∨ p.state = .missing) ∧ p.alert = .noAlert) ↔ AirCaught z x y s p := by
  have hfresh (w : Fin 32) : s.fresh (airOrders z y s ++ lineOrders z x y s) w = true
      ↔ (s.zone w).evac = .notOrdered ∧ (ByAir z x y s w ∨ ByLine z x y s w) := by
    rw [fresh_iff, List.mem_append, mem_airOrders_iff h hlevel, mem_lineOrders, and_comm]
    rfl
  simp only [hfresh, AirCaught]
  exact ⟨fun ⟨hw, hstate, halert⟩ => ⟨halert, hstate, hw⟩, fun ⟨halert, hstate, hw⟩ => ⟨hw, hstate, halert⟩⟩

theorem ChangeTaken.airTaken {t : State} (hy : (s.zone z).real = y) (hc : ChangeTaken z x y s t) : AirTaken z x y s t := by
  refine ⟨fun w => ?_, hc.free, fun i p hp => ?_, fun r hr hz _ => by rw [hc.breach r hr hz, hy]⟩
  · rw [← show (w ∈ airOrders z y s) = ByAir z x y s w from propext (mem_airOrders_iff h hlevel w),
      ← show (w ∈ lineOrders z x y s) = ByLine z x y s w from propext mem_lineOrders]
    exact hc.marks w
  · obtain ⟨hraised, hkept⟩ := hc.record i p hp
    obtain ⟨hcaught, hspared⟩ := Person.alertedIn_iff (picks := s.fresh (airOrders z y s ++ lineOrders z x y s)) (p := p)
    rw [airCaught_iff h hlevel] at hcaught hspared
    have hq : (p.alertedIn (s.fresh (airOrders z y s ++ lineOrders z x y s))) =
        { p with alert := (p.alertedIn (s.fresh (airOrders z y s ++ lineOrders z x y s))).alert } := by
      by_cases hp : AirCaught z x y s p
      · rw [hcaught hp]
      · rw [hspared hp]
    generalize p.alertedIn (s.fresh (airOrders z y s ++ lineOrders z x y s)) = q at *
    have hsent (hp : AirCaught z x y s p) : q.alert = .sent := by rw [hcaught hp]
    have hsame (hp : ¬ AirCaught z x y s p) : q.alert = p.alert := by rw [hspared hp]
    have hexposure : q.exposure = p.exposure ∧ q.exposureFull = p.exposureFull := by rw [hq]; exact ⟨rfl, rfl⟩
    have hiff : ChangeRaises z x y q s ↔ AirRises z x y s p :=
      changeRaises_iff (by rw [hq]) (by rw [hq]) hexposure.1
    rw [hiff, hexposure.1] at hraised
    rw [hiff] at hkept
    by_cases hrises : AirRises z x y s p
    · obtain ⟨hslot, htold⟩ := hraised hrises
      refine ⟨q.raised, hslot, ?_, hsent, hsame, fun _ => ⟨?_, ?_, htold⟩, fun hn => absurd hrises hn⟩
      · rw [hq]; rfl
      · rw [← hexposure.1]; rfl
      · rw [← hexposure.1, ← hexposure.2]; rfl
    · exact ⟨q, hkept hrises, by rw [hq], hsent, hsame, fun hn => absurd hn hrises, fun _ => hexposure⟩

end Changed

/-- The report of a zone is no part of what a real change reads. -/
theorem AirTaken.of_airOnly {z : Fin 32} {x y : AirState} {s w t : State} (h : AirOnly s w)
    (hq : QueueHolds s.atq → QueueHolds w.atq) (ht : AirTaken z x y w t) : AirTaken z x y s t := by
  have hair (v : Fin 32) : ByAir z x y w v ↔ ByAir z x y s v := by rw [ByAir, ByAir, h.autoLevel]
  have hline (v : Fin 32) : ByLine z x y w v ↔ ByLine z x y s v := by simp only [ByLine, h.tripLine]
  have hcaught (p : Person) : AirCaught z x y w p ↔ AirCaught z x y s p := by simp only [AirCaught, hair, hline, h.evac]
  have hrises (p : Person) : AirRises z x y w p ↔ AirRises z x y s p := by rw [AirRises, AirRises, h.rst]
  refine ⟨fun v => ?_, fun i hi => ?_, fun i p hp => ?_, fun r hr hz hne => ?_⟩
  · have hm := ht.marks v
    rw [h.zone v] at hm
    simp only [hair, hline, h.frt] at hm
    exact hm
  · rw [ht.free i (by rw [h.person]; exact hi), h.slot]
  · obtain ⟨q, hslot, honly, hsent, hsame, hraised, hkept⟩ := ht.record i p (by rw [h.person]; exact hp)
    rw [h.slot] at hslot
    rw [hcaught] at hsent hsame
    rw [hrises, h.rst, personSubject_eq_of_slot (h.slot i)] at hraised
    rw [hrises] at hkept
    exact ⟨q, hslot, honly, hsent, hsame,
      fun hr => ⟨(hraised hr).1, (hraised hr).2.1, fun hl hs => (hraised hr).2.2 hl (hq hs)⟩, hkept⟩
  · have hb := ht.breach r
    rw [h.refuge] at hb
    exact hb hr hz hne

/-! ## The recomputation -/

/-- What a real change of a zone keeps of the air and of the items made by the report, and what becomes of the lines. -/
structure AirHandled (z : Fin 32) (x y : AirState) (s t : State) : Prop where
  spared : ZoneSpared z s t
  granted : ∀ n u, t.truck n = some u → ∃ v, s.truck n = some v ∧ ∀ w, u.grantedZone = some w → v.grantedZone = some w
  lines : ∀ line : Fin 8, t.znt.lines[line] =
    if (s.zone z).tripLine = some line ∧ y ≠ x then t.isTripped line else s.znt.lines[line]
  notice : (∃ line : Fin 8, t.znt.lines[line] ≠ s.znt.lines[line]) → t.hpt.flags.tripLine = true

theorem isTripped_handReal (z : Fin 32) (x y : AirState) (line : Fin 8) (s : State) :
    (handReal z x y s).isTripped line = s.isTripped line := by
  by_cases h : x = y
  · rw [handReal, if_pos h]
  · have hafter := ((Tame.evacuateByAir z x y (judgeZoneLine z s)).trans (Aside.exposeRise z x y _).tame).air.isTripped line
    rw [show handReal z x y s = _ from if_neg h, hafter]
    exact isTripped_congr fun w => by rw [zone_judgeZoneLine]

theorem airHandled (z : Fin 32) (x y : AirState) (s : State) : AirHandled z x y s (handReal z x y s) := by
  have htripped := isTripped_handReal z x y (s := s)
  by_cases h : x = y
  · have hidle : handReal z x y s = s := if_pos h
    rw [hidle]
    exact ⟨.refl s, fun _ u hu => ⟨u, hu, fun _ => id⟩, fun line => (if_neg fun hn => hn.2 h.symm).symm,
      fun ⟨_, hn⟩ => absurd rfl hn⟩
  · obtain ⟨hc, hlines, hnotice⟩ := realHanded (z := z) h s
    refine ⟨hc.spared, hc.granted, fun line => ?_, hnotice⟩
    simp only [hlines, htripped, ne_eq, Ne.symm h, not_false_iff, and_true]

theorem airTaken_handReal {z : Fin 32} {x y : AirState} {s : State} (hy : (s.zone z).real = y)
    (hlevel : (s.zone z).autoLevel = .danger ∨ (s.zone z).autoLevel = .trip) : AirTaken z x y s (handReal z x y s) := by
  by_cases h : x = y
  · rw [handReal, if_pos h]
    exact .refl s h
  · exact (realHanded h s).1.airTaken h hlevel hy

/-- A zone's change of its reported or its real state taken in full (R20 to R26), `s` the state before it. -/
structure AirChanged (z : Fin 32) (s t : State) : Prop where
  reported : (t.zone z).reported = t.reportedAir z
  real : (t.zone z).real = t.realAir z
  others : ∀ w, w ≠ z → (t.zone w).reported = (s.zone w).reported ∧ (t.zone w).real = (s.zone w).real
  lines : ∀ line : Fin 8, t.znt.lines[line] =
    if (s.zone z).tripLine = some line ∧ (t.zone z).real ≠ (s.zone z).real then
      decide (∃ w, (t.zone w).tripLine = some line ∧ (t.zone w).real = .trip)
    else s.znt.lines[line]
  notice : (∃ line : Fin 8, t.znt.lines[line] ≠ s.znt.lines[line]) → t.hpt.flags.tripLine = true
  items : QueueHolds s.atq → (t.zone z).reported ≠ (s.zone z).reported →
    (∀ k, (s.zone z).reported.item? = some k → NotRaised k (.zone z) t)
      ∧ (∀ k, (t.zone z).reported.item? = some k → Raised k (.zone z) t)
      ∧ ((t.zone z).reported = .danger ∨ (t.zone z).reported = .trip ∨ (t.zone z).reported = .unknown →
          ∀ n ∈ s.hlk.pollList, ∀ u, t.truck n = some u → u.grantedZone ≠ some z)
  test : QueueHolds s.atq → (t.zone z).reported ≠ (s.zone z).reported ∨ (t.zone z).real ≠ (s.zone z).real →
    ∀ k, (t.zone z).reported.item? = some k → ∀ it ∈ t.atq.items, it.kind = k → it.subject = .zone z →
      it.condition = .active → it.test = decide ((t.zone z).reported ≠ (t.zone z).real)
  taken : (s.zone z).autoLevel = .danger ∨ (s.zone z).autoLevel = .trip →
    AirTaken z (s.zone z).real (t.zone z).real s t

theorem airChanged_recomputeZone (z : Fin 32) (s : State) : AirChanged z s (recomputeZone z s) := by
  have hrejudged := Rejudged.recomputeZone z s
  have hall := recomputed z s
  have hrep := hall.reported z
  have hreal := hall.real z
  obtain ⟨w, hw, ht⟩ := recomputeZone_reports z s
  have hwrep := hw.reported z
  have hwreal := hw.real z
  rw [if_pos rfl] at hrep hreal hwrep hwreal
  have hhandled := airHandled z (s.zone z).real (s.realAir z) w
  have htaken := airTaken_handReal (x := (s.zone z).real) hwreal (z := z)
  rw [← ht] at hhandled htaken
  rw [hw.only.autoLevel] at htaken
  generalize recomputeZone z s = t at *
  refine ⟨(hrejudged.agrees z rfl).1, (hrejudged.agrees z rfl).2,
    fun v hv => ⟨hrejudged.reported v hv, hrejudged.real v hv⟩, fun line => ?_, fun hl => ?_, fun hq hne => ?_,
    fun hq hne k hk it hm hkind hsubject hc => ?_, fun hlevel => ?_⟩
  · have htripped : t.isTripped line = decide (∃ v, (t.zone v).tripLine = some line ∧ (t.zone v).real = .trip) := by
      rw [Bool.eq_iff_iff, isTripped_iff, decide_eq_true_iff]
    rw [hhandled.lines, htripped, hw.only.tripLine, hw.only.lines, hreal]
  · refine hhandled.notice ?_
    rw [hw.only.lines]
    exact hl
  · rw [hrep] at hne ⊢
    obtain ⟨hended, hraised⟩ := hw.items hq hne
    refine ⟨fun k hk => (hhandled.spared.spares k (zoneItem_ne_stranger hk)).notRaised (hw.holds hq) (hended k hk),
      fun k hk => (hhandled.spared.spares k (zoneItem_ne_stranger hk)).raised (hw.holds hq) (hraised k hk),
      fun ha n hn u hu hg => ?_⟩
    obtain ⟨v, hv, hfall⟩ := hhandled.granted n u hu
    exact hw.withdrawn hne ha n hn v hv (hfall z hg)
  · rw [hrep, hreal] at hne
    rw [hrep] at hk
    rw [hrep, hreal]
    rcases (hhandled.spared.shuffled k).after it hm hkind hsubject with ha | ⟨-, -, hb⟩
    · exact hw.test hq hne k hk it ha hkind hsubject hc
    · rw [hb, freshTest, hwrep, hwreal, Bool.eq_iff_iff, bne_iff_ne, decide_eq_true_iff]
  · rw [hreal]
    exact (htaken hlevel).of_airOnly hw.only hw.holds

/-- A change of a channel record is no part of what the change of its zone is seen from. -/
theorem AirChanged.of_channel {z : Fin 32} {c : Fin 32} {f : Channel → Channel} {s t : State}
    (h : AirChanged z (s.modifyChannel c f) t) : AirChanged z s t := by
  obtain ⟨hrep, hreal, hothers, hlines, hnotice, hitems, htest, htaken⟩ := h
  refine ⟨hrep, hreal, hothers, hlines, hnotice, hitems, htest, fun hlevel => ?_⟩
  obtain ⟨hmarks, hfree, hrecord, hbreach⟩ := htaken hlevel
  refine ⟨hmarks, hfree, fun i p hp => ?_, hbreach⟩
  obtain ⟨q, hslot, honly, hsent, hsame, hraised, hkept⟩ := hrecord i p hp
  exact ⟨q, hslot, honly, hsent, hsame, hraised, hkept⟩

/-- Settles O36: a zone's air states are the worst of its channels' states, and a change of a channel's reported or real state
goes to its zone alone: the trip line, the items and withdrawals, the test mark, the orders, the exposures and the door breaches. -/
theorem channelChangeReachesItsZone : Obligations.ChannelChangeReachesItsZone := by
  refine ⟨fun s z => ⟨isDerived s z Channel.reported, isDerived s z Channel.real⟩, fun c f s => ?_⟩
  dsimp only
  refine ⟨(channel_changeChannel c c f s).trans (if_pos rfl), fun d hd => (channel_changeChannel c d f s).trans (if_neg hd),
    fun h => ?_, fun z hsame hz => ?_⟩
  · unfold changeChannel
    dsimp only
    split
    · rfl
    · next hsame => rw [h.resolve_left hsame]; rfl
  · have ht : changeChannel c f s = recomputeZone z (s.modifyChannel c f) := (if_neg hsame).trans (by rw [hz]; rfl)
    have h : AirChanged z s (changeChannel c f s) := by
      rw [ht]
      exact (airChanged_recomputeZone z _).of_channel
    generalize changeChannel c f s = t at *
    refine ⟨h.reported, h.real, h.others, h.lines, h.notice, h.items, h.test, fun hlevel => ?_⟩
    obtain ⟨hmarks, hfree, hrecord, hbreach⟩ := h.taken hlevel
    refine ⟨hmarks, hfree, fun i p hp => ?_, hbreach⟩
    obtain ⟨q, hq⟩ := hrecord i p hp
    exact ⟨q, hq.slot, hq.only, hq.caught, hq.spared, hq.rises, hq.stays⟩

end Sys2Proof.Machine
end

section
/-! A taken truck report at the truck table and the grant sets (R121 to R128): its steps, each with what it makes of the truck's
record and of the zones that hold the truck. -/

namespace Sys2Proof.Machine

open Sys2Proof.Safety (AddsBelowLimit RequestsFit)

/-! ## L3 and L6 (R29, R127) -/

theorem zone_modifyTruck (n : Nat) (f : Truck → Truck) (s : State) (w : Fin 32) : (s.modifyTruck n f).zone w = s.zone w := by
  rw [State.zone, State.modifyTruck_znt]
  rfl

/-- A number of an ascending list put into it leaves it. -/
theorem insertNumber_of_mem {n : Nat} {l : List Nat} (h : l.Pairwise (· < ·)) (hn : n ∈ l) : insertNumber n l = l := by
  induction l with
  | nil => cases hn
  | cons m l ih =>
    obtain ⟨hm, hl⟩ := List.pairwise_cons.1 h
    unfold insertNumber
    rcases List.mem_cons.1 hn with rfl | hn
    · rw [if_neg (lt_irrefl n), if_pos rfl]
    · have hlt := hm n hn
      rw [if_neg (Nat.not_lt.2 hlt.le), if_neg hlt.ne', ih hl hn]

theorem isAdded_iff {n : Nat} {z : Fin 32} {s : State} :
    isAdded n z s = true ↔ n ∈ (s.zone z).grants ∨ (s.zone z).grants.length < (s.zone z).limit := by
  simp [isAdded]

theorem addsBelowLimit {n : Nat} {z : Fin 32} {s : State} (hs : (s.zone z).grants.Pairwise (· < ·)) : AddsBelowLimit n z s := by
  intro hne
  by_cases hadd : isAdded n z s = true
  · rw [grants_addClaim hadd, if_pos rfl] at hne
    exact (isAdded_iff.1 hadd).resolve_left fun hn => hne (insertNumber_of_mem hs hn)
  · rw [addClaim, if_neg hadd] at hne
    exact absurd rfl hne

theorem requestsFit (n : Nat) (q : Fin 32) (s : State) : RequestsFit n q s := by
  intro hne
  unfold judgeRequest at hne
  split at hne
  · next h => exact h.1
  · exact absurd (by rw [zone_modifyTruck]) hne

/-! ## The steps on the truck's own record and its places -/

/-- The other trucks leave room in a zone for a truck (R29). -/
def Room (n : Nat) (z : Fin 32) (s : State) : Prop := ((s.zone z).grants.filter (fun m => m != n)).length < (s.zone z).limit

/-- A truck is answered ADDED where it is in the set, or where the others leave room (R29). -/
theorem isAdded_iff_room {n : Nat} {z : Fin 32} {s : State} : isAdded n z s = true ↔ n ∈ (s.zone z).grants ∨ Room n z s := by
  rw [isAdded_iff]
  by_cases hz : n ∈ (s.zone z).grants
  · exact iff_of_true (.inl hz) (.inl hz)
  · have hself : (s.zone z).grants.filter (fun m => m != n) = (s.zone z).grants :=
      List.filter_eq_self.2 fun m hm => bne_iff_ne.2 fun he => hz (he ▸ hm)
    rw [Room, hself]

/-- A change of the truck table, of the truck's own places in the grant sets, of the queue and of the notices. -/
structure Linked (n : Nat) (s t : State) : Prop where
  only : t = { s with
    znt := { s.znt with zones := t.znt.zones }, hlk := { s.hlk with trucks := t.hlk.trucks }
    atq := t.atq, hpt := { s.hpt with flags := t.hpt.flags } }
  zone : ∀ w, t.zone w = { s.zone w with grants := (t.zone w).grants }
  peers : ∀ w, (t.zone w).grants.filter (fun m => m != n) = (s.zone w).grants.filter (fun m => m != n)

namespace Linked

variable {n : Nat}

theorem refl (s : State) : Linked n s s := ⟨rfl, fun _ => rfl, fun _ => rfl⟩

theorem trans {s t u : State} (h : Linked n s t) (k : Linked n t u) : Linked n s u := by
  refine ⟨?_, fun w => ?_, fun w => (k.peers w).trans (h.peers w)⟩
  · have hk := k.only
    rw [h.only] at hk
    exact hk
  · rw [k.zone w, h.zone w]

theorem queue {s t : State} (h : QueueOnly s t) : Linked n s t := by
  refine ⟨?_, fun w => by rw [h.zone_eq w], fun w => by rw [h.zone_eq w]⟩
  rw [show t = _ from h]

theorem modifyTruck (f : Truck → Truck) (s : State) : Linked n s (s.modifyTruck n f) := by
  refine ⟨?_, fun w => ?_, fun w => ?_⟩
  · unfold State.modifyTruck
    split <;> rfl
  · rw [zone_modifyTruck]
  · rw [zone_modifyTruck]

theorem regranted {s t : State} (h : Regranted s t)
    (hp : ∀ w, (t.zone w).grants.filter (fun m => m != n) = (s.zone w).grants.filter (fun m => m != n)) : Linked n s t :=
  ⟨by rw [h.zones], h.zone, hp⟩

end Linked

theorem filter_insertNumber (n : Nat) (l : List Nat) :
    (insertNumber n l).filter (fun m => m != n) = l.filter (fun m => m != n) := by
  induction l with
  | nil => simp [insertNumber]
  | cons m l ih =>
    unfold insertNumber
    split
    · rw [List.filter_cons_of_neg (by simp)]
    · split
      · rfl
      · rw [List.filter_cons, List.filter_cons, ih]

/-- Under way in a report of the truck `n`, from `s` on: its record is `v`, and `M` are the zones in whose grant set it is. -/
structure Stage (n : Nat) (s : State) (v : Truck) (M : Fin 32 → Prop) (t : State) : Prop where
  linked : Linked n s t
  truck : t.truck n = some v
  member : ∀ w, n ∈ (t.zone w).grants ↔ M w

namespace Stage

variable {n : Nat} {s t : State} {v : Truck} {M : Fin 32 → Prop}

theorem congr {N : Fin 32 → Prop} (h : Stage n s v M t) (hN : ∀ w, M w ↔ N w) : Stage n s v N t :=
  ⟨h.linked, h.truck, fun w => (h.member w).trans (hN w)⟩

theorem start (ht : s.truck n = some v) : Stage n s v (fun w => n ∈ (s.zone w).grants) s := ⟨.refl s, ht, fun _ => .rfl⟩

theorem modifyTruck (h : Stage n s v M t) (f : Truck → Truck) (hf : ∀ t, (f t).number = t.number := by exact fun _ => rfl) :
    Stage n s (f v) M (t.modifyTruck n f) := by
  refine ⟨h.linked.trans (.modifyTruck f t), ?_, fun w => ?_⟩
  · rw [truck_modifyTruck hf, if_pos rfl, h.truck, Option.map_some]
  · rw [zone_modifyTruck]
    exact h.member w

theorem queue {u : State} (h : Stage n s v M t) (hu : QueueOnly t u) : Stage n s v M u := by
  refine ⟨h.linked.trans (.queue hu), ?_, fun w => ?_⟩
  · have htrucks : u.hlk.trucks = t.hlk.trucks := by rw [show u = _ from hu]
    rw [truck_congr htrucks, h.truck]
  · rw [hu.zone_eq w]
    exact h.member w

theorem removeClaim? (h : Stage n s v M t) (o : Option (Fin 32)) :
    Stage n s v (fun w => M w ∧ o ≠ some w) (removeClaim? n o t) := by
  refine ⟨h.linked.trans (.regranted (.removeClaim? n o t) fun w => ?_), ?_, fun w => ?_⟩
  · rw [grants_removeClaim?]
    split
    · rw [List.filter_filter]
      simp only [Bool.and_self]
    · rfl
  · rw [truck_congr (Regranted.removeClaim? ..).trucks, h.truck]
  · rw [grants_removeClaim?, ← h.member w]
    split
    · next ho => simp [ho]
    · next ho => exact (and_iff_left ho).symm

theorem addClaim (h : Stage n s v M t) {q : Fin 32} (hadd : isAdded n q t = true) :
    Stage n s v (fun w => M w ∨ w = q) (addClaim n q t) := by
  refine ⟨h.linked.trans (.regranted (.addClaim n q t) fun w => ?_), ?_, fun w => ?_⟩
  · rw [grants_addClaim hadd]
    split
    · exact filter_insertNumber ..
    · rfl
  · rw [truck_congr (Regranted.addClaim ..).trucks, h.truck]
  · rw [grants_addClaim hadd, ← h.member w]
    split
    · next hq => simp [mem_insertNumber, hq, or_comm]
    · next hq => exact (or_iff_left (Ne.symm hq)).symm

theorem isAdded_iff (h : Stage n s v M t) (q : Fin 32) : isAdded n q t = true ↔ M q ∨ Room n q s := by
  have hlimit : (t.zone q).limit = (s.zone q).limit := by rw [h.linked.zone q]
  rw [isAdded_iff_room, h.member q, Room, h.linked.peers q, hlimit]
  rfl

theorem alone (h : Stage n s v M t) : t.hlk.alone = s.hlk.alone := by rw [h.linked.only]

theorem isFit (h : Stage n s v M t) (q : Fin 32) : isFit q t = isFit q s := by
  rw [Machine.isFit, Machine.isFit, h.alone, h.linked.zone q]

end Stage

/-! ## The arrival and the first grant (R125, R126) -/

/-- What the arrival and the first grant make of a truck's record and its places. -/
inductive Placement (n : Nat) (s : State) (zone : Option (Fin 32)) (u : Truck) (M : Fin 32 → Prop) :
    Truck → (Fin 32 → Prop) → Prop
  | stays (h : ∀ z, zone = some z → u.grantedZone ≠ some z ∧ ¬ (u.held = none ∧ s.hlk.alone = false ∧ (M z ∨ Room n z s))) :
      Placement n s zone u M u M
  | arrives (z : Fin 32) (hz : zone = some z) (hg : u.grantedZone = some z) :
      Placement n s zone u M { u with held := some z, entry := none } (fun w => M w ∧ (u.held = some z ∨ u.held ≠ some w))
  | first (z : Fin 32) (hz : zone = some z) (hg : u.grantedZone ≠ some z)
      (hfirst : u.held = none ∧ s.hlk.alone = false ∧ (M z ∨ Room n z s)) :
      Placement n s zone u M { u with held := some z } (fun w => M w ∨ w = z)

theorem Stage.arrive {n : Nat} {s t : State} {u : Truck} {M : Fin 32 → Prop} (h : Stage n s u M t) {z : Fin 32}
    (hg : u.grantedZone = some z) : Stage n s { u with held := some z, entry := none }
      (fun w => M w ∧ (u.held = some z ∨ u.held ≠ some w)) (arrive n z t) := by
  unfold Machine.arrive
  rw [h.truck]
  dsimp only
  rw [if_pos hg]
  split
  · next hh =>
      exact (h.modifyTruck fun t => { t with held := some z, entry := none }).congr
        fun w => (and_iff_left (Or.inl hh)).symm
  · next hh =>
    exact ((h.removeClaim? u.held).modifyTruck fun t => { t with held := some z, entry := none }).congr fun w =>
      and_congr_right fun _ => (or_iff_right hh).symm

theorem arrive_idle {n : Nat} {t : State} {u : Truck} (ht : t.truck n = some u) {z : Fin 32} (hg : u.grantedZone ≠ some z) :
    arrive n z t = t := by
  unfold arrive
  rw [ht]
  exact if_neg hg

theorem tryFirstGrant_held {n : Nat} {t : State} {u : Truck} (ht : t.truck n = some u) {z w : Fin 32} (hh : u.held = some w) :
    tryFirstGrant n z t = t := by
  unfold tryFirstGrant
  rw [ht]
  exact if_neg fun hn => by rw [hh] at hn; cases hn.1

/-- The arrival and the first grant of a truck. -/
theorem Stage.placement {n : Nat} {s t : State} {u : Truck} {M : Fin 32 → Prop} (h : Stage n s u M t) (zone : Option (Fin 32)) :
    ∃ v N, Placement n s zone u M v N ∧ Stage n s v N (inZone zone (tryFirstGrant n) (inZone zone (Machine.arrive n) t)) := by
  cases zone with
  | none => exact ⟨u, M, .stays nofun, h⟩
  | some z =>
    show ∃ v N, _ ∧ Stage n s v N (tryFirstGrant n z (Machine.arrive n z t))
    by_cases hg : u.grantedZone = some z
    · have ha := h.arrive hg
      rw [tryFirstGrant_held ha.truck (z := z) rfl]
      exact ⟨_, _, .arrives z rfl hg, ha⟩
    · have hiff : (u.held = none ∧ t.hlk.alone = false ∧ isAdded n z t = true)
          ↔ (u.held = none ∧ s.hlk.alone = false ∧ (M z ∨ Room n z s)) := by rw [h.isAdded_iff, h.alone]
      rw [arrive_idle h.truck hg, tryFirstGrant, h.truck]
      dsimp only
      split
      · next hok =>
        exact ⟨_, _, .first z rfl hg (hiff.1 hok), (h.addClaim hok.2.2).modifyTruck fun t => { t with held := some z }⟩
      · next hok =>
        refine ⟨u, M, .stays fun w hw => ?_, h⟩
        obtain rfl := Option.some.inj hw
        exact ⟨hg, mt hiff.2 hok⟩

/-! ## The request (R127) -/

/-- What the judgement of a request makes of a truck's record and its places. -/
inductive Judgement (n : Nat) (s : State) (requested : Option (Fin 32)) (v : Truck) (M : Fin 32 → Prop) :
    Truck → (Fin 32 → Prop) → Prop
  | ends (h : requested = none ∨ requested = v.held) :
      Judgement n s requested v M { v with entry := none } (fun w => M w ∧ v.grantedZone ≠ some w)
  | keeps (q : Fin 32) (hq : requested = some q) (hh : v.held ≠ some q) (hg : v.grantedZone = some q) :
      Judgement n s requested v M v M
  | grants (q : Fin 32) (hq : requested = some q) (hh : v.held ≠ some q) (hg : v.grantedZone ≠ some q)
      (hfit : isFit q s = true ∧ (M q ∨ Room n q s)) :
      Judgement n s requested v M { v with entry := some { zone := q, status := .granted } }
        (fun w => (M w ∧ v.grantedZone ≠ some w) ∨ w = q)
  | defers (q : Fin 32) (hq : requested = some q) (hh : v.held ≠ some q) (hg : v.grantedZone ≠ some q)
      (hunfit : ¬ (isFit q s = true ∧ (M q ∨ Room n q s))) :
      Judgement n s requested v M (v.deferredTo q) (fun w => M w ∧ v.grantedZone ≠ some w)

theorem Stage.endEntry {n : Nat} {s t : State} {v : Truck} {M : Fin 32 → Prop} (h : Stage n s v M t) :
    Stage n s { v with entry := none } (fun w => M w ∧ v.grantedZone ≠ some w) (endEntry n t) := by
  unfold Machine.endEntry
  rw [h.truck]
  exact (h.removeClaim? v.grantedZone).modifyTruck fun t => { t with entry := none }

/-- A request judged for a zone that the truck neither holds nor is granted, once its GRANTED entry elsewhere is ended. -/
theorem Stage.judgeRequest {n : Nat} {s t : State} {v v' : Truck} {M : Fin 32 → Prop} {q : Fin 32} (hh : v.held ≠ some q)
    (hg : v.grantedZone ≠ some q) (hv : v' = { v with entry := v'.entry })
    (h : Stage n s v' (fun w => M w ∧ v.grantedZone ≠ some w) t) :
    ∃ x N, Judgement n s (some q) v M x N ∧ Stage n s x N (judgeRequest n q t) := by
  have hiff : (Machine.isFit q t = true ∧ isAdded n q t = true) ↔ (Machine.isFit q s = true ∧ (M q ∨ Room n q s)) := by
    rw [h.isFit, h.isAdded_iff, and_iff_left hg]
  have hgrant : ({ v' with entry := some { zone := q, status := .granted } } : Truck) =
      { v with entry := some { zone := q, status := .granted } } := by rw [hv]
  have hdefer : v'.deferredTo q = v.deferredTo q := by rw [hv]; rfl
  unfold Machine.judgeRequest
  split
  · next hok =>
    exact ⟨_, _, .grants q rfl hh hg (hiff.1 hok), hgrant ▸ (h.addClaim hok.2).modifyTruck fun t =>
      { t with entry := some { zone := q, status := .granted } }⟩
  · next hok => exact ⟨_, _, .defers q rfl hh hg (mt hiff.2 hok), hdefer ▸ h.modifyTruck fun t => t.deferredTo q⟩

theorem Stage.judgement {n : Nat} {s t : State} {v : Truck} {M : Fin 32 → Prop} (h : Stage n s v M t)
    (requested : Option (Fin 32)) :
    ∃ x N, Judgement n s requested v M x N ∧ Stage n s x N (reportRequests n requested t) := by
  unfold reportRequests
  rw [h.truck]
  cases requested with
  | none => exact ⟨_, _, .ends (.inl rfl), h.endEntry⟩
  | some q =>
    dsimp only
    split
    · next hh => exact ⟨_, _, .ends (.inr hh.symm), h.endEntry⟩
    · next hh =>
      have hungranted (hg : v.grantedZone = none) : Stage n s v (fun w => M w ∧ v.grantedZone ≠ some w) t :=
        h.congr fun w => (and_iff_left (by rw [hg]; exact nofun)).symm
      cases he : v.entry with
      | none =>
        have hg : v.grantedZone = none := by rw [Truck.grantedZone, he]
        exact Stage.judgeRequest hh (by rw [hg]; exact nofun) rfl (hungranted hg)
      | some e =>
        dsimp only
        split
        · next hz =>
          split
          · next hs =>
            exact ⟨v, M, .keeps q rfl hh (Truck.grantedZone_eq_some_iff.2 (by rw [he, ← hz, ← hs])), h⟩
          · next hs =>
            have hg : v.grantedZone = none := by
              rw [Truck.grantedZone, he]
              exact if_neg hs
            exact Stage.judgeRequest hh (by rw [hg]; exact nofun) rfl (hungranted hg)
        · next hz =>
          refine Stage.judgeRequest hh (fun hg => hz ?_) rfl h.endEntry
          rw [Truck.grantedZone_eq_some_iff, he] at hg
          rw [Option.some.inj hg]

end Sys2Proof.Machine
end

section
/-! What a taken truck report leaves of the truck's record, its places and the queue, up to its proximity list (R122 to R128). -/

namespace Sys2Proof.Machine

open Sys2Proof.Safety (QueueHolds Raised NotRaised)

/-! ## The placement -/

section Placement

variable {n : Nat} {s : State} {zone : Option (Fin 32)} {u v : Truck} {M N : Fin 32 → Prop} (h : Placement n s zone u M v N)

include h

/-- The placement writes the held grant and the entry alone. -/
theorem Placement.same : v = { u with held := v.held, entry := v.entry } := by
  cases h <;> rfl

theorem Placement.held_of_granted {z : Fin 32} (hz : zone = some z) (hg : u.grantedZone = some z) : v.held = some z := by
  cases h with
  | stays hs => exact absurd hg (hs z hz).1
  | arrives w hw hg' => exact hz ▸ hw.symm
  | first w hw hg' hf => exact hz ▸ hw.symm

theorem Placement.held_first {z : Fin 32} (hz : zone = some z) (hg : u.grantedZone ≠ some z) (hh : u.held = none) :
    (s.hlk.alone = false ∧ (M z ∨ Room n z s) → v.held = some z)
    ∧ (¬ (s.hlk.alone = false ∧ (M z ∨ Room n z s)) → v.held = none) := by
  cases h with
  | stays hs => exact ⟨fun hf => absurd ⟨hh, hf⟩ (hs z hz).2, fun _ => hh⟩
  | arrives w hw hg' =>
    obtain rfl := Option.some.inj (hz.symm.trans hw)
    exact absurd hg' hg
  | first w hw hg' hf =>
    obtain rfl := Option.some.inj (hz.symm.trans hw)
    exact ⟨fun _ => rfl, fun hn => absurd hf.2 hn⟩

theorem Placement.held_kept (hk : zone = none ∨ (u.held ≠ none ∧ zone ≠ u.grantedZone)) : v.held = u.held := by
  cases h with
  | stays hs => rfl
  | arrives w hw hg =>
    rcases hk with hk | ⟨-, hk⟩
    · rw [hw] at hk; cases hk
    · exact absurd (hw.trans hg.symm) hk
  | first w hw hg hf =>
    rcases hk with hk | ⟨hk, -⟩
    · rw [hw] at hk; cases hk
    · exact absurd hf.1 hk

variable {q : Fin 32} (hh : v.held ≠ some q)

include hh

theorem Placement.grantedZone_iff : v.grantedZone = some q ↔ u.grantedZone = some q := by
  cases h with
  | stays hs => rfl
  | arrives w hw hg => exact iff_of_false nofun fun hn => hh (hg.symm.trans hn)
  | first w hw hg hf => rfl

/-- In the grant set of a zone that it does not hold now the truck is where it was and did not hold it. -/
theorem Placement.member_iff : N q ↔ M q ∧ u.held ≠ some q := by
  cases h with
  | stays hs => exact (and_iff_left hh).symm
  | arrives w hw hg => exact and_congr_right fun _ => or_iff_right_of_imp fun hu hn => hh (hu.symm.trans hn)
  | first w hw hg hf =>
    have hq : q ≠ w := fun hn => hh (congrArg some hn.symm)
    have hnone : u.held ≠ some q := by
      rw [hf.1]
      exact nofun
    exact (or_iff_left hq).trans (and_iff_left hnone).symm

theorem Placement.held_ne_of_granted (hg : u.grantedZone = some q) : u.held ≠ some q := by
  cases h with
  | stays hs => exact hh
  | arrives w hw hg' => exact absurd (hg'.symm.trans hg) hh
  | first w hw hg' hf =>
    rw [hf.1]
    exact nofun

end Placement

/-! ## The judgement of the request -/

section Judgement

variable {n : Nat} {s : State} {requested : Option (Fin 32)} {v x : Truck} {N K : Fin 32 → Prop}
  (h : Judgement n s requested v N x K)

include h

/-- The judgement writes the entry alone. -/
theorem Judgement.same : x = { v with entry := x.entry } := by
  cases h <;> rfl

theorem Judgement.held : x.held = v.held := by rw [h.same]

theorem Judgement.ended (hr : requested = none ∨ requested = v.held) : x.entry = none := by
  have hno {q : Fin 32} (hq : requested = some q) (hh : v.held ≠ some q) : False := by
    rcases hr with hr | hr
    · rw [hr] at hq; cases hq
    · exact hh (hr ▸ hq)
  cases h with
  | ends => rfl
  | keeps q hq hh => exact (hno hq hh).elim
  | grants q hq hh => exact (hno hq hh).elim
  | defers q hq hh => exact (hno hq hh).elim

variable {q : Fin 32} (hq : requested = some q) (hh : v.held ≠ some q)

include hq hh

/-- A request for a zone that the truck does not hold: its GRANTED entry is kept, or it is judged by the zone (R127). -/
theorem Judgement.asked :
    (v.grantedZone = some q → x = v ∧ ∀ w, K w ↔ N w)
      ∧ (v.grantedZone ≠ some q → isFit q s = true ∧ (N q ∨ Room n q s) →
          x.entry = some { zone := q, status := .granted } ∧ ∀ w, K w ↔ (N w ∧ v.grantedZone ≠ some w) ∨ w = q)
      ∧ (v.grantedZone ≠ some q → ¬ (isFit q s = true ∧ (N q ∨ Room n q s)) →
          x.entry = some { zone := q, status := .deferred } ∧ ∀ w, K w ↔ N w ∧ v.grantedZone ≠ some w) := by
  cases h with
  | ends hr =>
    rcases hr with hr | hr
    · rw [hr] at hq; cases hq
    · exact absurd (hr ▸ hq) hh
  | keeps w hw hh' hg =>
    obtain rfl := Option.some.inj (hw.symm.trans hq)
    exact ⟨fun _ => ⟨rfl, fun _ => .rfl⟩, fun hn => absurd hg hn, fun hn => absurd hg hn⟩
  | grants w hw hh' hg hfit =>
    obtain rfl := Option.some.inj (hw.symm.trans hq)
    exact ⟨fun hn => absurd hn hg, fun _ _ => ⟨rfl, fun _ => .rfl⟩, fun _ hn => absurd hfit hn⟩
  | defers w hw hh' hg hunfit =>
    obtain rfl := Option.some.inj (hw.symm.trans hq)
    exact ⟨fun hn => absurd hn hg, fun _ hn => absurd hn hunfit, fun _ _ => ⟨rfl, fun _ => .rfl⟩⟩

end Judgement

theorem Judgement.member_of_left {n : Nat} {s : State} {requested : Option (Fin 32)} {v x : Truck} {N K : Fin 32 → Prop}
    (h : Judgement n s requested v N x K) {w : Fin 32} (hx : x.grantedZone ≠ some w) (hK : K w) :
    N w ∧ v.grantedZone ≠ some w := by
  cases h with
  | ends hr => exact hK
  | keeps q hq hh hg => exact ⟨hK, hx⟩
  | grants q hq hh hg hfit =>
    refine hK.resolve_right fun hw => hx ?_
    rw [hw]
    rfl
  | defers q hq hh hg hunfit => exact hK

/-! ## Both together -/

/-- A zone is fit to be entered on a request, in the words of R127. -/
theorem isFit_iff {q : Fin 32} {s : State} : isFit q s = true ↔
    ((s.zone q).reported = .clear ∨ (s.zone q).reported = .caution) ∧ (s.zone q).evac = .notOrdered ∧ s.hlk.alone = false := by
  simp [isFit, and_assoc]

/-- The part of the truck's claims that R122 to R127 lay down: `u` the record before, `x` after, and `K` its places then. -/
structure Claimed (n : Nat) (s : State) (zone requested : Option (Fin 32)) (u x : Truck) (K : Fin 32 → Prop) : Prop where
  same : x = { u with held := x.held, entry := x.entry, intrusion := x.intrusion }
  arrived : ∀ z, zone = some z → u.entry = some { zone := z, status := .granted } → x.held = some z
  first : ∀ z, zone = some z → u.grantedZone ≠ some z → u.held = none →
    x.held = (if s.hlk.alone = false ∧ (n ∈ (s.zone z).grants ∨ (s.zone z).grants.length < (s.zone z).limit) then some z
      else none)
  kept : zone = none ∨ (u.held ≠ none ∧ zone ≠ u.grantedZone) → x.held = u.held
  ended : requested = none ∨ requested = x.held → x.entry = none
  status : ∀ q, requested = some q → x.held ≠ some q → ∃ status, x.entry = some { zone := q, status := status }
    ∧ (status = .granted → u.entry = some { zone := q, status := .granted }
      ∨ (((s.zone q).reported = .clear ∨ (s.zone q).reported = .caution) ∧ (s.zone q).evac = .notOrdered
        ∧ s.hlk.alone = false ∧ (n ∈ (s.zone q).grants ∨ Room n q s)))
  judged : ∀ q, requested = some q → x.held ≠ some q → (n ∈ (s.zone q).grants → u.held = some q ∨ u.grantedZone = some q) →
    let kept := u.entry = some { zone := q, status := .granted }
    let fit := ((s.zone q).reported = .clear ∨ (s.zone q).reported = .caution) ∧ (s.zone q).evac = .notOrdered
      ∧ s.hlk.alone = false ∧ Room n q s
    (kept → x.entry = some { zone := q, status := .granted } ∧ (n ∈ (s.zone q).grants → K q))
      ∧ (¬ kept → fit → x.entry = some { zone := q, status := .granted } ∧ K q)
      ∧ (¬ kept → ¬ fit → x.entry = some { zone := q, status := .deferred } ∧ ¬ K q)
  givenUp : ∀ w, u.held = some w ∨ u.grantedZone = some w → x.held ≠ some w → x.grantedZone ≠ some w → ¬ K w

theorem claimed_of {n : Nat} {s : State} {zone requested : Option (Fin 32)} {u v x : Truck} {N K : Fin 32 → Prop}
    (hp : Placement n s zone u (fun w => n ∈ (s.zone w).grants) v N) (hj : Judgement n s requested v N x K) :
    Claimed n s zone requested u x K := by
  have hheld := hj.held
  refine ⟨?_, fun z hz he => ?_, fun z hz hg hh => ?_, fun hk => hheld.trans (hp.held_kept hk), fun hr => ?_,
    fun q hq hh => ?_, fun q hq hh hM => ?_, fun w hw hh hg hK => ?_⟩
  · rw [hj.same, hp.same]
  · exact hheld.trans (hp.held_of_granted hz (Truck.grantedZone_eq_some_iff.2 he))
  · obtain ⟨hyes, hno⟩ := hp.held_first hz hg hh
    rw [← isAdded_iff_room] at hyes hno
    rw [hheld]
    split
    · next hf => exact hyes ⟨hf.1, isAdded_iff.2 hf.2⟩
    · next hf => exact hno fun hn => hf ⟨hn.1, isAdded_iff.1 hn.2⟩
  · exact hj.ended (hheld ▸ hr)
  · rw [hheld] at hh
    have hiff := hp.grantedZone_iff hh
    obtain ⟨hkeeps, hgrants, hdefers⟩ := hj.asked hq hh
    by_cases hg : v.grantedZone = some q
    · refine ⟨.granted, ?_, fun _ => .inl (Truck.grantedZone_eq_some_iff.1 (hiff.1 hg))⟩
      rw [(hkeeps hg).1]
      exact Truck.grantedZone_eq_some_iff.1 hg
    · by_cases hf : isFit q s = true ∧ (N q ∨ Room n q s)
      · refine ⟨.granted, (hgrants hg hf).1, fun _ => .inr ?_⟩
        obtain ⟨hfit, hroom⟩ := hf
        obtain ⟨hair, hevac, halone⟩ := isFit_iff.1 hfit
        exact ⟨hair, hevac, halone, hroom.imp_left fun hN => ((hp.member_iff hh).1 hN).1⟩
      · exact ⟨.deferred, (hdefers hg hf).1, nofun⟩
  · rw [hheld] at hh
    obtain ⟨hkeeps, hgrants, hdefers⟩ := hj.asked hq hh
    rw [ne_eq, hp.grantedZone_iff hh] at hgrants hdefers
    rw [hp.grantedZone_iff hh] at hkeeps
    have hout (hg : u.grantedZone ≠ some q) : ¬ N q := fun hN => by
      obtain ⟨hm, hu⟩ := (hp.member_iff hh).1 hN
      exact (hM hm).elim hu hg
    have hfit : (((s.zone q).reported = .clear ∨ (s.zone q).reported = .caution) ∧ (s.zone q).evac = .notOrdered
        ∧ s.hlk.alone = false ∧ Room n q s) ↔ isFit q s = true ∧ Room n q s := by
      rw [isFit_iff, and_assoc, and_assoc]
    dsimp only
    rw [← Truck.grantedZone_eq_some_iff, hfit]
    refine ⟨fun hg => ?_, fun hg hf => ?_, fun hg hf => ?_⟩
    · obtain ⟨hx, hK⟩ := hkeeps hg
      refine ⟨?_, fun hm => (hK q).2 ((hp.member_iff hh).2 ⟨hm, hp.held_ne_of_granted hh hg⟩)⟩
      rw [hx]
      exact Truck.grantedZone_eq_some_iff.1 ((hp.grantedZone_iff hh).2 hg)
    · obtain ⟨hx, hK⟩ := hgrants hg ⟨hf.1, .inr hf.2⟩
      exact ⟨hx, (hK q).2 (.inr rfl)⟩
    · obtain ⟨hx, hK⟩ := hdefers hg fun hn => hf ⟨hn.1, hn.2.resolve_left (hout hg)⟩
      exact ⟨hx, fun hn => hout hg ((hK q).1 hn).1⟩
  · rw [hheld] at hh
    obtain ⟨hN, hvg⟩ := hj.member_of_left hg hK
    exact hw.elim ((hp.member_iff hh).1 hN).2 fun hug => hvg ((hp.grantedZone_iff hh).2 hug)

/-! ## The steps up to the proximity list -/

/-- A truck's record once it has answered and its report's zone and proximity list stand in it (R122). -/
def Truck.answering (u : Truck) (zone : Option (Fin 32)) (l : List Proximity) : Truck :=
  { u with answered := true, missed := 0, state := .linked, zone := zone, proximity := l }

/-- A truck's record once its intrusion into the reported zone has been judged (R128). -/
def Truck.judgedIn (x : Truck) (zone : Option (Fin 32)) : Truck :=
  match zone with
  | some z => { x with intrusion := x.held != some z }
  | none => x

/-- The judgement of the intrusion is no part of the truck's claims. -/
theorem Claimed.judgedIn {n : Nat} {s : State} {zone requested : Option (Fin 32)} {u x : Truck} {K : Fin 32 → Prop}
    (h : Claimed n s zone requested u x K) : Claimed n s zone requested u (x.judgedIn zone) K := by
  obtain ⟨hsame, harrived, hfirst, hkept, hended, hstatus, hjudged, hgiven⟩ := h
  cases zone with
  | none => exact ⟨hsame, harrived, hfirst, hkept, hended, hstatus, hjudged, hgiven⟩
  | some z =>
    refine ⟨?_, harrived, hfirst, hkept, hended, hstatus, hjudged, hgiven⟩
    rw [Truck.judgedIn, hsame]

/-- The steps of a report before its request is judged. -/
def reportPlaced (n : Nat) (u : Truck) (zone : Option (Fin 32)) (l : List Proximity) (s : State) : State :=
  inZone zone (tryFirstGrant n) (inZone zone (arrive n) (reportPlaces n zone l (reportAnswers n u s)))

/-- The steps of a report before its proximity list is taken. -/
def reportLinked (n : Nat) (u : Truck) (zone requested : Option (Fin 32)) (l : List Proximity) (s : State) : State :=
  inZone zone (judgeIntrusion n) (reportRequests n requested (reportPlaced n u zone l s))

theorem takeReport_eq (n : Nat) (u : Truck) (zone requested : Option (Fin 32)) (l : List Proximity) (frame : Frame) (s : State) :
    takeReport n u zone requested l frame s = forEach l (takeProximity zone frame) (reportLinked n u zone requested l s) := rfl

theorem Stage.answers {n : Nat} {s : State} {u : Truck} (hu : s.truck n = some u) (zone : Option (Fin 32)) (l : List Proximity) :
    Stage n s (u.answering zone l) (fun w => n ∈ (s.zone w).grants) (reportPlaces n zone l (reportAnswers n u s)) := by
  have hanswers : Stage n s { u with answered := true, missed := 0, state := .linked } (fun w => n ∈ (s.zone w).grants)
      (reportAnswers n u s) := by
    have h := (Stage.start hu).modifyTruck fun t => { t with answered := true, missed := 0, state := .linked }
    unfold reportAnswers
    dsimp only
    split
    · exact h.queue (endItem_only ..)
    · exact h
  exact hanswers.modifyTruck fun t => { t with zone := zone, proximity := l }

theorem Stage.judgeIntrusion {n : Nat} {s t : State} {x : Truck} {K : Fin 32 → Prop} (h : Stage n s x K t)
    (zone : Option (Fin 32)) : Stage n s (x.judgedIn zone) K (inZone zone (judgeIntrusion n) t) := by
  cases zone with
  | none => exact h
  | some z =>
    have hwrite := h.modifyTruck fun t => { t with intrusion := x.held != some z }
    show Stage n s _ K (Machine.judgeIntrusion n z t)
    unfold Machine.judgeIntrusion
    rw [h.truck]
    dsimp only
    split
    · exact hwrite
    · split
      · exact hwrite.queue (raiseItem_only ..)
      · exact hwrite.queue (endItem_only ..)

end Sys2Proof.Machine
end

section
/-! What a taken truck report leaves of the attention queue (R122, R128), and what a proximity entry leaves of other matters. -/

namespace Sys2Proof.Machine

open Sys2Proof.Safety (QueueHolds Raised NotRaised)

/-! ## Lengths of the queue -/

theorem length_endItem (k : ItemKind) (x : Subject) (s : State) :
    (endItem k x s).atq.items.length ≤ s.atq.items.length := by
  unfold endItem
  cases hi : s.item k x with
  | none => exact Nat.le_refl _
  | some it =>
    dsimp only
    split
    · split
      · obtain ⟨hm, hk, hx⟩ := item_some hi
        have hlt : (s.eraseItem k x).atq.items.length < s.atq.items.length :=
          List.length_filter_lt_length_iff_exists.2 ⟨it, hm, by simp [Item.isFor, hk, hx]⟩
        unfold removeItem reinsert
        split
        · split
          · exact (length_placeItem ..).trans_le hlt
          · exact hlt.le
        · exact hlt.le
      · exact (List.length_map _).le
    · exact Nat.le_refl _

theorem length_raiseItem {k : ItemKind} {x : Subject} {s : State} (h : s.atq.items.length < 31) :
    (raiseItem k x s).atq.items.length < 32 := by
  have hroom : s.atq.items.length < Config.queueCapacity := Nat.lt_succ_of_lt h
  unfold raiseItem insertItem
  split
  · split
    · dsimp only
      split
      · exact (List.length_map _).trans_lt hroom
      · exact (List.length_map _).trans_lt hroom
    · refine (length_placeItem ..).trans_lt (Nat.succ_lt_succ (Nat.lt_of_le_of_lt ?_ h))
      exact List.length_filter_le ..
  · split
    · exact hroom
    · rw [if_pos hroom]
      exact (length_placeItem ..).trans_lt (Nat.succ_lt_succ h)

/-! ## The queue after the steps up to the proximity list -/

theorem Regranted.atq {s t : State} (h : Regranted s t) : t.atq = s.atq := by rw [h.zones]

theorem atq_arrive (n : Nat) (z : Fin 32) (s : State) : (arrive n z s).atq = s.atq := by
  unfold arrive
  split
  · rfl
  · split
    · rw [State.modifyTruck_atq]
      split
      · rfl
      · exact (Regranted.removeClaim? ..).atq
    · rfl

theorem atq_tryFirstGrant (n : Nat) (z : Fin 32) (s : State) : (tryFirstGrant n z s).atq = s.atq := by
  unfold tryFirstGrant
  split
  · rfl
  · split
    · rw [State.modifyTruck_atq, (Regranted.addClaim ..).atq]
    · rfl

theorem atq_endEntry (n : Nat) (s : State) : (endEntry n s).atq = s.atq := by
  unfold endEntry
  split
  · rfl
  · rw [State.modifyTruck_atq, (Regranted.removeClaim? ..).atq]

theorem atq_judgeRequest (n : Nat) (q : Fin 32) (s : State) : (judgeRequest n q s).atq = s.atq := by
  unfold judgeRequest
  split
  · rw [State.modifyTruck_atq, (Regranted.addClaim ..).atq]
  · exact State.modifyTruck_atq ..

theorem atq_reportRequests (n : Nat) (requested : Option (Fin 32)) (s : State) : (reportRequests n requested s).atq = s.atq := by
  unfold reportRequests
  split
  · rfl
  · split
    · exact atq_endEntry ..
    · split
      · exact atq_endEntry ..
      · split
        · exact atq_judgeRequest ..
        · split
          · split
            · rfl
            · exact atq_judgeRequest ..
          · rw [atq_judgeRequest, atq_endEntry]

theorem atq_reportPlaced (n : Nat) (u : Truck) (zone requested : Option (Fin 32)) (l : List Proximity) (s : State) :
    (reportRequests n requested (reportPlaced n u zone l s)).atq = (reportAnswers n u s).atq := by
  unfold reportPlaced reportPlaces
  rw [atq_reportRequests]
  cases zone with
  | none => exact State.modifyTruck_atq ..
  | some z => exact (atq_tryFirstGrant ..).trans ((atq_arrive ..).trans (State.modifyTruck_atq ..))

/-- The intrusion judged: it is raised where it begins, ended where it ends, and nothing else is told (R128). -/
structure IntrusionTold (n : Nat) (x y : Truck) (s t : State) : Prop where
  holds : QueueHolds s.atq → QueueHolds t.atq
  spares : ∀ k z, k ≠ .stranger → k ≠ .intrusion → Spares k z s t
  raised : x.intrusion = false → y.intrusion = true → Raised .intrusion (.truck n) t
  ended : QueueHolds s.atq → x.intrusion = true → y.intrusion = false → NotRaised .intrusion (.truck n) t
  length : s.atq.items.length < 31 → t.atq.items.length < 32

theorem IntrusionTold.of_atq {n : Nat} {x y : Truck} {s t u : State} (h : t.atq = s.atq) (k : IntrusionTold n x y t u) :
    IntrusionTold n x y s u := by
  obtain ⟨hholds, hspares, hraised, hended, hlength⟩ := k
  rw [h] at hholds hended hlength
  exact ⟨hholds, fun k z hs hk => (Spares.of_eq h).trans (hspares k z hs hk), hraised, hended, hlength⟩

theorem intrusionTold {n : Nat} {x : Truck} {t : State} (ht : t.truck n = some x) (zone : Option (Fin 32)) :
    IntrusionTold n x (x.judgedIn zone) t (inZone zone (judgeIntrusion n) t) := by
  cases zone with
  | none =>
    exact ⟨id, fun _ _ _ _ => .refl t, fun h h' => Bool.noConfusion (h.symm.trans h'), fun _ h h' =>
      Bool.noConfusion (h.symm.trans h'), Nat.lt_succ_of_lt⟩
  | some z =>
    show IntrusionTold n x { x with intrusion := x.held != some z } t (judgeIntrusion n z t)
    have hjudge : judgeIntrusion n z t =
        if x.intrusion = (x.held != some z) then t.modifyTruck n fun u => { u with intrusion := x.held != some z }
        else if (x.held != some z) = true then
          raiseItem .intrusion (.truck n) (t.modifyTruck n fun u => { u with intrusion := x.held != some z })
        else endItem .intrusion (.truck n) (t.modifyTruck n fun u => { u with intrusion := x.held != some z }) := by
      unfold judgeIntrusion
      rw [ht]
    have hwritten : (t.modifyTruck n fun u => { u with intrusion := x.held != some z }).atq = t.atq := State.modifyTruck_atq ..
    rw [hjudge]
    generalize (t.modifyTruck n fun u => { u with intrusion := x.held != some z }) = w at hwritten ⊢
    refine .of_atq hwritten ?_
    split
    · next he =>
      exact ⟨id, fun _ _ _ _ => .refl w, fun h h' => Bool.noConfusion ((h.symm.trans he).trans h'),
        fun _ h h' => Bool.noConfusion ((h.symm.trans he).trans h'), Nat.lt_succ_of_lt⟩
    · split
      · next hin =>
        exact ⟨insertItem_holds _ _ _ _ _ _, fun k y hs hk => .raiseItem hs (.of_kind hk.symm) w,
          fun _ _ => raised_raiseItem (k := .intrusion) nofun w, fun _ _ h => Bool.noConfusion (h.symm.trans hin), length_raiseItem⟩
      · next hout =>
        exact ⟨endItem_holds _ _ _, fun k y _ hk => .endItem (.of_kind hk.symm) w,
          fun _ h => absurd h hout, fun hq _ _ => notRaised_endItem hq,
          fun h => Nat.lt_of_le_of_lt (length_endItem ..) (Nat.lt_succ_of_lt h)⟩

/-- What a report tells up to its proximity list: LINK_LOST ends where the truck was LAPSED, and the intrusion is judged. -/
structure ReportTold (n : Nat) (u y : Truck) (s t : State) : Prop where
  holds : QueueHolds s.atq → QueueHolds t.atq
  missing : ∀ x, Spares .missing x s t
  linkLost : QueueHolds s.atq → u.state = .lapsed → NotRaised .linkLost (.truck n) t
  raised : u.intrusion = false → y.intrusion = true → Raised .intrusion (.truck n) t
  ended : QueueHolds s.atq → u.intrusion = true → y.intrusion = false → NotRaised .intrusion (.truck n) t
  length : s.atq.items.length < 31 → t.atq.items.length < 32

theorem reportTold {n : Nat} {s : State} {u x : Truck} {zone requested : Option (Fin 32)} {l : List Proximity}
    (hx : (reportRequests n requested (reportPlaced n u zone l s)).truck n = some x) (hu : x.intrusion = u.intrusion) :
    ReportTold n u (x.judgedIn zone) s (reportLinked n u zone requested l s) := by
  have htold := intrusionTold hx zone
  have hplaced := atq_reportPlaced n u zone requested l s
  unfold reportLinked
  generalize reportRequests n requested (reportPlaced n u zone l s) = w at htold hplaced
  have hanswered : (QueueHolds s.atq → QueueHolds w.atq) ∧ (∀ k y, k ≠ .linkLost → Spares k y s w)
      ∧ (QueueHolds s.atq → u.state = .lapsed → NotRaised .linkLost (.truck n) w)
      ∧ w.atq.items.length ≤ s.atq.items.length := by
    unfold reportAnswers at hplaced
    dsimp only at hplaced
    split at hplaced
    · have hq : (s.modifyTruck n fun t => { t with answered := true, missed := 0, state := .linked }).atq = s.atq :=
        State.modifyTruck_atq ..
      generalize (s.modifyTruck n fun t => { t with answered := true, missed := 0, state := .linked }) = v at hq hplaced
      rw [hplaced, ← hq]
      refine ⟨endItem_holds _ _ _, fun k y hk => ?_, fun hs _ => ?_, length_endItem ..⟩
      · exact (Spares.of_eq hq).trans ((Spares.endItem (.of_kind hk.symm) v).trans (.of_eq hplaced))
      · exact notRaised_congr hplaced (notRaised_endItem hs)
    · next hno =>
      have hq : w.atq = s.atq := hplaced.trans (State.modifyTruck_atq ..)
      rw [hq]
      exact ⟨id, fun _ _ _ => .of_eq hq, fun _ h => absurd h hno, Nat.le_refl _⟩
  obtain ⟨hholds, hspares, hlost, hlength⟩ := hanswered
  exact ⟨fun hs => htold.holds (hholds hs), fun y => (hspares .missing y nofun).trans (htold.spares .missing y nofun nofun),
    fun hs hl => (htold.spares .linkLost _ nofun nofun).notRaised (hholds hs) (hlost hs hl), fun h => htold.raised (hu.trans h),
    fun hs h => htold.ended (hholds hs) (hu.trans h), fun h => htold.length (Nat.lt_of_le_of_lt hlength h)⟩

/-! ## The matters that a sighting leaves -/

/-- A kind of which no sighting tells. -/
def ItemKind.isAloof (k : ItemKind) : Prop :=
  k ≠ .stranger ∧ k ≠ .refugeFault ∧ k ≠ .missing ∧ k ≠ .escortLost ∧ k ≠ .exposure

theorem settle_spares {k : ItemKind} (hs : k ≠ .stranger) (he : k ≠ .exposure) (i : Fin 240) (before after : Option (Fin 32))
    (x : Subject) (s : State) : Spares k x s (settle i before after s) := by
  have hmove : Spares k x s (exposeMove i before after s) := by
    unfold exposeMove
    split
    · exact .refl s
    · exact .ite (raiseExposure_spares hs he x s) (.refl s)
  exact hmove.trans .of_eq

theorem handSighting_spares {k : ItemKind} (hk : k.isAloof) (i : Fin 240) (p q : Person) (x : Subject) (s : State) :
    Spares k x s (handSighting i p q s) := by
  obtain ⟨hs, hr, hm, hl, he⟩ := hk
  have hplaces : Spares k x s (handPlaces i p q s) :=
    (handClaims_spares p q s hs hr x).trans (.ite (.endItem (.of_kind hm.symm) _) (.refl _))
  rw [handSighting_eq]
  exact (hplaces.trans (.ite (.refl _) (judgeEscorts_spares hl i x _))).trans (settle_spares hs he i _ _ x _)

theorem takeProximity_spares {k : ItemKind} (hk : k.isAloof) (z : Option (Fin 32)) (frame : Frame) (e : Proximity) (x : Subject)
    (s : State) : Spares k x s (takeProximity z frame e s) := by
  have hplaced (i : Fin 240) (p : Person) (z : Fin 32) : Spares k x s (placeSighted i p z 0 frame s) :=
    .trans (t := s.modifyPerson i _) .of_eq (handSighting_spares hk i p _ x _)
  unfold takeProximity
  split
  · exact .refl s
  · refine .ite ?_ (.refl s)
    split
    · split
      · unfold sightByTruck
        split
        · exact .refl s
        all_goals exact hplaced _ _ _
      · exact .refl s
    · exact .raiseItem hk.1 (.of_kind hk.1.symm) s

end Sys2Proof.Machine
end

section
/-! Changes that come to several records one after another: what each leaves of the others. -/

namespace Sys2Proof.Machine

open Sys2Proof.Safety (QueueHolds Raised NotRaised EscortsJudged SeparationJudged)

/-! ## A record that another's change leaves -/

/-- A record differs at most in what the escort judgement writes. -/
def Person.Judged (p q : Person) : Prop := q = { p with separation := q.separation, escortLost := q.escortLost }

theorem Person.Judged.refl (p : Person) : p.Judged p := rfl

theorem Person.Judged.trans {p q r : Person} (h : p.Judged q) (k : q.Judged r) : p.Judged r := by
  have hk : r = { q with separation := r.separation, escortLost := r.escortLost } := k
  rw [show q = _ from h] at hk
  exact hk

/-- A change leaves a slot's generation, and its record but for what the escort judgement writes. -/
def Brushed (j : Fin 240) (s t : State) : Prop :=
  (s.person j = none → t.slot j = s.slot j)
    ∧ ∀ v, s.person j = some v → ∃ w, t.slot j = { gen := (s.slot j).gen, person := some w } ∧ v.Judged w

namespace Brushed

variable {j : Fin 240}

theorem of_slot {s t : State} (h : t.slot j = s.slot j) : Brushed j s t :=
  ⟨fun _ => h, fun v hv => ⟨v, h.trans (slot_of_person hv), .refl v⟩⟩

theorem trans {s t u : State} (h : Brushed j s t) (k : Brushed j t u) : Brushed j s u := by
  refine ⟨fun hn => ?_, fun v hv => ?_⟩
  · have hslot := h.1 hn
    rw [k.1 ((person_eq_of_slot hslot).trans hn), hslot]
  · obtain ⟨w, hw, hvw⟩ := h.2 v hv
    obtain ⟨x, hx, hwx⟩ := k.2 w (congrArg Slot.person hw)
    exact ⟨x, by rw [hx, hw], hvw.trans hwx⟩

theorem of_escortsJudged {i : Fin 240} {s t : State} (h : EscortsJudged i s t) (hj : j ≠ i) : Brushed j s t := by
  refine ⟨h.1 j hj, fun v hv => ?_⟩
  obtain ⟨w, -, -, -, hslot⟩ := h.2 j v hv
  exact ⟨_, hslot hj, rfl⟩

end Brushed

theorem HandedOn.brushed {i j : Fin 240} {p q : Person} {s t : State} (h : HandedOn i p q s t)
    (hkept : ∀ v, s.person i = some v → q.role = v.role ∧ q.escort = v.escort ∧ q.separation = v.separation
      ∧ q.escortLost = v.escortLost) (hj : j ≠ i) : Brushed j s t := by
  by_cases hsame : p.state = q.state ∧ p.zone = q.zone
  · exact .of_slot (h.stays hsame.1 hsame.2 j hj)
  · exact .of_escortsJudged (h.escorts hkept hsame t ⟨fun _ _ => rfl, fun w hw => ⟨w, slot_of_person hw, rfl⟩,
      fun x => .refl t⟩) hj

/-! ## What every such change keeps -/

/-- A change keeps the tags, the orders and the grant sets, and raises no MISSING. -/
structure Steady (s t : State) : Prop where
  tags : ∀ j, (t.person j).map Person.tag = (s.person j).map Person.tag
  evac : ∀ z, (t.zone z).evac = (s.zone z).evac
  grants : ∀ z, (t.zone z).grants = (s.zone z).grants
  quiet : Quiet .missing s t

namespace Steady

theorem refl (s : State) : Steady s s := ⟨fun _ => rfl, fun _ => rfl, fun _ => rfl, .refl s⟩

theorem trans {s t u : State} (h : Steady s t) (k : Steady t u) : Steady s u :=
  ⟨fun j => (k.tags j).trans (h.tags j), fun z => (k.evac z).trans (h.evac z), fun z => (k.grants z).trans (h.grants z),
    h.quiet.trans k.quiet⟩

theorem queue {s t : State} (h : QueueOnly s t) (hq : Quiet .missing s t) : Steady s t :=
  ⟨fun j => by rw [person_eq_of_slot (h.slot_eq j)], fun z => by rw [h.zone_eq], fun z => by rw [h.zone_eq], hq⟩

/-- The tags of the records, where one record is written with its tag and the others are brushed. -/
theorem tags_of {i : Fin 240} {p q : Person} {s t : State} (hp : s.person i = some p) (hq : t.person i = some q)
    (htag : q.tag = p.tag) (hothers : ∀ j, j ≠ i → Brushed j s t) (j : Fin 240) :
    (t.person j).map Person.tag = (s.person j).map Person.tag := by
  by_cases hj : j = i
  · rw [hj, hp, hq]
    exact congrArg some htag
  · cases hv : s.person j with
    | none => rw [person_eq_of_slot ((hothers j hj).1 hv), hv]
    | some v =>
      obtain ⟨w, hw, hvw⟩ := (hothers j hj).2 v hv
      rw [State.person, hw, show w = _ from hvw]
      rfl

end Steady

/-- A tag names the same slot while the records keep their tags. -/
theorem Steady.only {i : Fin 240} {tag : Tag} {s t : State} (h : Steady s t)
    (honly : ∀ j q, s.person j = some q → q.tag = tag → j = i) : ∀ j q, t.person j = some q → q.tag = tag → j = i := by
  intro j q hq htag
  have hsame := h.tags j
  rw [hq, Option.map_some, htag] at hsame
  obtain ⟨v, hv, hvtag⟩ := Option.map_eq_some_iff.1 hsame.symm
  exact honly j v hv hvtag

/-! ## A list of acts, some of which mark the record followed -/

/-- A walk over a list of acts, each of which sets a mark or leaves it. -/
theorem forEach_marks {α : Type} {R : Bool → State → Prop} {m : α → Bool} {f : α → State → State}
    (h : ∀ a b t, R b t → R (b || m a) (f a t)) (l : List α) (b : Bool) (s : State) (hs : R b s) :
    R (b || l.any m) (forEach l f s) := by
  induction l generalizing b s with
  | nil => simpa using hs
  | cons a l ih =>
    rw [List.any_cons, ← Bool.or_assoc]
    exact ih _ _ (h a b s hs)

/-! ## The escort judgement as it is seen from a state with the same roster -/

theorem EscortsJudged.of_roster {i : Fin 240} {s w t : State} (hr : w.rst = s.rst) (hf : w.frt = s.frt)
    (hq : QueueHolds s.atq → QueueHolds w.atq) (h : EscortsJudged i w t) : EscortsJudged i s t := by
  have hslot (j : Fin 240) : w.slot j = s.slot j := by rw [State.slot, hr]; rfl
  have hperson (j : Fin 240) : w.person j = s.person j := person_eq_of_slot (hslot j)
  have hhandle : w.handle i = s.handle i := by rw [State.handle, State.handle, hslot]
  obtain ⟨hfree, hrecords⟩ := h
  refine ⟨fun j hj hn => ?_, fun j v hv => ?_⟩
  · rw [hfree j hj ((hperson j).trans hn), hslot]
  · obtain ⟨x, hx, hjudged, hnot, hother⟩ := hrecords j v ((hperson j).trans hv)
    rw [hhandle] at hjudged hnot
    rw [hslot] at hother
    refine ⟨x, hx, fun hc => ?_, hnot, hother⟩
    obtain ⟨hyes, hno⟩ := hjudged hc
    rw [hf] at hyes
    refine ⟨hyes, fun hs => ?_⟩
    obtain ⟨hnone, hkept, hended⟩ := hno hs
    refine ⟨hnone, hkept, fun hv => ⟨(hended hv).1, fun hl hqs => ?_⟩⟩
    rw [← personSubject_eq_of_slot (hslot j)]
    exact (hended hv).2 hl (hq hqs)

end Sys2Proof.Machine
end

section
/-! The proximity list of a truck report (R58 to R63, R123): the records it names are sighted, one entry after another. -/

namespace Sys2Proof.Machine

open Sys2Proof.Safety (QueueHolds Raised NotRaised EscortsJudged)

/-! ## A record sighted by a truck -/

/-- What the sightings of a record by a truck in a zone make of it: `p` before and `q` after (R60 to R63). -/
structure Sighted (z : Fin 32) (frame : Frame) (s : State) (p q : Person) : Prop where
  state : q.state = .present
  refuge : q.refuge = none
  heard : q.heard = some frame
  misses : q.misses = 0
  heardSinceVisit : q.heardSinceVisit = true
  zone : q.zone = if p.heard ≠ some frame then some z else p.zone
  level : q.level = if p.heard ≠ some frame then 0 else p.level
  alert : q.alert = if p.alert = .noAlert ∧ ∃ w, q.zone = some w ∧ (s.zone w).evac = .ordered then .sent else p.alert

theorem Sighted.judged {z : Fin 32} {frame : Frame} {s : State} {p q r : Person} (hp : p.Judged q) (h : Sighted z frame s q r) :
    Sighted z frame s p r := by
  rw [show q = _ from hp] at h
  exact ⟨h.state, h.refuge, h.heard, h.misses, h.heardSinceVisit, h.zone, h.level, h.alert⟩

theorem Sighted.left {z : Fin 32} {frame : Frame} {s : State} {p q r : Person} (h : Sighted z frame s p q) (hq : q.Judged r) :
    Sighted z frame s p r := by
  rw [show r = _ from hq]
  exact ⟨h.state, h.refuge, h.heard, h.misses, h.heardSinceVisit, h.zone, h.level, h.alert⟩

theorem Sighted.steady {z : Fin 32} {frame : Frame} {s t : State} {p q : Person} (hs : Steady s t)
    (h : Sighted z frame t p q) : Sighted z frame s p q := by
  obtain ⟨hstate, hrefuge, hheard, hmisses, hvisit, hzone, hlevel, halert⟩ := h
  simp only [hs.evac] at halert
  exact ⟨hstate, hrefuge, hheard, hmisses, hvisit, hzone, hlevel, halert⟩

/-- A record sighted once more in the same frame stays as the first sighting has left it. -/
theorem Sighted.trans {z : Fin 32} {frame : Frame} {s : State} {p q r : Person} (h : Sighted z frame s p q)
    (k : Sighted z frame s q r) : Sighted z frame s p r := by
  have hzone : r.zone = q.zone := k.zone.trans (if_neg (not_not.2 h.heard))
  have hlevel : r.level = q.level := k.level.trans (if_neg (not_not.2 h.heard))
  refine ⟨k.state, k.refuge, k.heard, k.misses, k.heardSinceVisit, hzone.trans h.zone, hlevel.trans h.level, ?_⟩
  rw [k.alert, h.alert, hzone]
  by_cases hc : p.alert = .noAlert ∧ ∃ w, q.zone = some w ∧ (s.zone w).evac = .ordered
  · rw [if_pos hc]
    exact if_neg fun hn => nomatch hn.1
  · rw [if_neg hc, if_neg hc]

theorem sightByTruck_moves {i : Fin 240} {p : Person} {z : Fin 32} {frame : Frame} (h : p.state ≠ .mustered) (s : State) :
    sightByTruck i p z frame s = placeSighted i p z 0 frame s := by
  unfold sightByTruck
  split
  · next hm => exact absurd hm h
  all_goals rfl

theorem sightByTruck_mustered {i : Fin 240} {p : Person} {z : Fin 32} {frame : Frame} (h : p.state = .mustered) (s : State) :
    sightByTruck i p z frame s = s := by
  unfold sightByTruck
  rw [h]

section Placed

variable {i : Fin 240} {p : Person} {z : Fin 32} {frame : Frame} {s : State} (hp : s.person i = some p)

include hp

theorem placeSighted_keeps : ∀ v, s.person i = some v →
    let q := p.heardIn (contest p z 0 frame).1 (contest p z 0 frame).2 frame
    q.role = v.role ∧ q.escort = v.escort ∧ q.separation = v.separation ∧ q.escortLost = v.escortLost := by
  intro v hv
  obtain rfl := Option.some.inj (hp.symm.trans hv)
  exact ⟨rfl, rfl, rfl, rfl⟩

theorem placeSighted_brushes {j : Fin 240} (hj : j ≠ i) : Brushed j s (placeSighted i p z 0 frame s) :=
  (handedOn_placed hp z 0 frame).brushed (placeSighted_keeps hp) hj

theorem placeSighted_sights : ∃ r, (placeSighted i p z 0 frame s).slot i = { gen := (s.slot i).gen, person := some r }
    ∧ r.tag = p.tag ∧ r.lastKey = p.lastKey ∧ Sighted z frame s p r := by
  obtain ⟨r, hslot, hr, halert, -⟩ := (handedOn_placed hp z 0 frame).own
  have hzone : r.zone = if p.heard ≠ some frame then some z else p.zone := by
    rw [hr]
    show (contest p z 0 frame).1 = _
    unfold contest
    by_cases hh : p.heard = some frame
    · rw [if_pos ⟨hh, Nat.zero_le _⟩, if_neg (not_not.2 hh)]
    · rw [if_neg fun hn => hh hn.1, if_pos hh]
  have hlevel : r.level = if p.heard ≠ some frame then 0 else p.level := by
    rw [hr]
    show (contest p z 0 frame).2 = _
    unfold contest
    by_cases hh : p.heard = some frame
    · rw [if_pos ⟨hh, Nat.zero_le _⟩, if_neg (not_not.2 hh)]
    · rw [if_neg fun hn => hh hn.1, if_pos hh]
  have hwon : r.zone = (contest p z 0 frame).1 := by rw [hr]; rfl
  refine ⟨r, hslot, by rw [hr]; rfl, by rw [hr]; rfl, by rw [hr]; rfl, by rw [hr]; rfl, by rw [hr]; rfl, by rw [hr]; rfl,
    by rw [hr]; rfl, hzone, hlevel, ?_⟩
  rw [hwon]
  exact alert_arrived (q := p.heardIn (contest p z 0 frame).1 (contest p z 0 frame).2 frame) rfl halert

theorem placeSighted_steady : Steady s (placeSighted i p z 0 frame s) := by
  have h := handedOn_placed hp z 0 frame
  obtain ⟨r, hslot, htag, -⟩ := placeSighted_sights (z := z) (frame := frame) hp
  exact ⟨Steady.tags_of hp (congrArg Slot.person hslot) htag fun _ hj => placeSighted_brushes hp hj, h.moved.evac, h.moved.grants,
    h.quiet⟩

end Placed

/-! ## A proximity entry -/

section Entry

variable {z : Fin 32} {frame : Frame} {e : Proximity} {s : State}

theorem takeProximity_invalid (h : validTag e.tag = false) : takeProximity (some z) frame e s = s :=
  if_neg (by rw [h]; exact Bool.false_ne_true)

theorem takeProximity_record {i : Fin 240} {p : Person} (hv : validTag e.tag = true) (hi : s.slotOfTag e.tag = some i)
    (hp : s.person i = some p) : takeProximity (some z) frame e s = sightByTruck i p z frame s := by
  rw [takeProximity, if_pos hv, hi]
  dsimp only
  rw [hp]

theorem takeProximity_stranger (hv : validTag e.tag = true) (hn : s.slotOfTag e.tag = none) :
    takeProximity (some z) frame e s = raiseItem .stranger (.tag e.tag) s := by
  rw [takeProximity, if_pos hv, hn]

/-- A proximity entry moves nobody, or it sights the record of its tag. -/
theorem takeProximity_cases (z : Fin 32) (frame : Frame) (e : Proximity) (s : State) :
    QueueOnly s (takeProximity (some z) frame e s) ∧ Quiet .missing s (takeProximity (some z) frame e s)
      ∨ ∃ i p, s.person i = some p ∧ p.tag = e.tag ∧ takeProximity (some z) frame e s = placeSighted i p z 0 frame s := by
  cases hv : validTag e.tag with
  | false =>
    rw [takeProximity_invalid hv]
    exact .inl ⟨.refl s, .refl s⟩
  | true =>
    cases hi : s.slotOfTag e.tag with
    | none =>
      rw [takeProximity_stranger hv hi]
      exact .inl ⟨raiseItem_only .., .of_spares fun x => .raiseItem (k := .missing) (k' := .stranger) nofun (.of_kind nofun) s⟩
    | some i =>
      obtain ⟨p, hp, htag⟩ := person_of_slotOfTag hi
      rw [takeProximity_record hv hi hp]
      by_cases hm : p.state = .mustered
      · rw [sightByTruck_mustered hm]
        exact .inl ⟨.refl s, .refl s⟩
      · rw [sightByTruck_moves hm]
        exact .inr ⟨i, p, hp, htag, rfl⟩

theorem takeProximity_steady (z : Fin 32) (frame : Frame) (e : Proximity) (s : State) :
    Steady s (takeProximity (some z) frame e s) := by
  rcases takeProximity_cases z frame e s with ⟨honly, hquiet⟩ | ⟨i, p, hp, -, h⟩
  · exact .queue honly hquiet
  · rw [h]
    exact placeSighted_steady hp

theorem takeProximity_brushes {j : Fin 240} (hj : ∀ q, s.person j = some q → q.tag ≠ e.tag) :
    Brushed j s (takeProximity (some z) frame e s) := by
  rcases takeProximity_cases z frame e s with ⟨honly, -⟩ | ⟨i, p, hp, htag, h⟩
  · exact .of_slot (honly.slot_eq j)
  · rw [h]
    exact placeSighted_brushes hp fun hij => hj p (hij ▸ hp) htag

end Entry

/-! ## The list -/

/-- The record in a slot while a proximity list is taken: `b` is whether an entry has sighted it. -/
structure Listed (i : Fin 240) (p : Person) (z : Fin 32) (frame : Frame) (s : State) (b : Bool) (t : State) : Prop where
  steady : Steady s t
  record : ∃ q, t.slot i = { gen := (s.slot i).gen, person := some q } ∧ q.tag = p.tag ∧ q.lastKey = p.lastKey
    ∧ (b = true → Sighted z frame s p q) ∧ (b = false → p.Judged q)
  missing : b = true → p.state = .missing → QueueHolds s.atq → NotRaised .missing (s.personSubject i) t

/-- An entry sights a record that is not MUSTERED by its tag. -/
def Person.isSightedBy (p : Person) (e : Proximity) : Bool := decide (p.state ≠ .mustered ∧ e.tag = p.tag)

theorem Listed.brush {i : Fin 240} {p : Person} {z : Fin 32} {frame : Frame} {s t u : State} {b : Bool}
    (h : Listed i p z frame s b t) (hs : Steady t u) (hb : Brushed i t u) : Listed i p z frame s b u := by
  obtain ⟨hsteady, ⟨q, hslot, htag, hkey, hyes, hno⟩, hmissing⟩ := h
  obtain ⟨r, hr, hqr⟩ := hb.2 q (congrArg Slot.person hslot)
  refine ⟨hsteady.trans hs, ⟨r, by rw [hr, hslot], ?_, ?_, fun h => (hyes h).left hqr, fun h => (hno h).trans hqr⟩,
    fun h hm hq => (hs.quiet (hsteady.quiet hq).1).2 _ (hmissing h hm hq)⟩
  · rw [show r = _ from hqr]; exact htag
  · rw [show r = _ from hqr]; exact hkey

theorem Listed.sight {i : Fin 240} {p q : Person} {z : Fin 32} {frame : Frame} {s t : State} {b : Bool}
    (h : Listed i p z frame s b t) (hq : t.person i = some q) :
    Listed i p z frame s true (placeSighted i q z 0 frame t) := by
  obtain ⟨hsteady, ⟨q', hslot, htag, hkey, hyes, hno⟩, hmissing⟩ := h
  obtain rfl := Option.some.inj ((congrArg Slot.person hslot).symm.trans hq)
  have hsubject : t.personSubject i = s.personSubject i := personSubject_of_slot_eq hslot
  have hafter := placeSighted_steady (z := z) (frame := frame) hq
  obtain ⟨r, hr, hrtag, hrkey, hsighted⟩ := placeSighted_sights (z := z) (frame := frame) hq
  have hnow : Sighted z frame s q' r := hsighted.steady hsteady
  refine ⟨hsteady.trans hafter, ⟨r, by rw [hr, hslot], hrtag.trans htag, hrkey.trans hkey, fun _ => ?_, nofun⟩,
    fun _ hm hqs => ?_⟩
  · cases b with
    | true => exact (hyes rfl).trans hnow
    | false => exact hnow.judged (hno rfl)
  · cases b with
    | true => exact (hafter.quiet (hsteady.quiet hqs).1).2 _ (hmissing rfl hm hqs)
    | false =>
      have hstate : q'.state = .missing := by rw [show q' = _ from hno rfl]; exact hm
      rw [← hsubject]
      exact (handedOn_placed hq z 0 frame).missing hstate (hsteady.quiet hqs).1

theorem Listed.step {i : Fin 240} {p : Person} {z : Fin 32} {frame : Frame} {s t : State} {b : Bool}
    (honly : ∀ j q, s.person j = some q → q.tag = p.tag → j = i) (hv : validTag p.tag = true)
    (h : Listed i p z frame s b t) (e : Proximity) :
    Listed i p z frame s (b || p.isSightedBy e) (takeProximity (some z) frame e t) := by
  have hafter := takeProximity_steady z frame e t
  obtain ⟨q, hslot, htag, -, hyes, hno⟩ := h.record
  have hq : t.person i = some q := congrArg Slot.person hslot
  by_cases he : e.tag = p.tag
  · have hi : t.slotOfTag e.tag = some i := slotOfTag_some hq (htag.trans he.symm) (he ▸ h.steady.only honly)
    rw [takeProximity_record (he ▸ hv) hi hq]
    by_cases hm : q.state = .mustered
    · have hb : b = false := Bool.eq_false_iff.2 fun hb => by
        rw [(hyes hb).state] at hm
        cases hm
      have hp : p.isSightedBy e = false := decide_eq_false fun hn => hn.1 (by
        rw [show q = _ from hno hb] at hm
        exact hm)
      rw [sightByTruck_mustered hm, hp, Bool.or_false]
      exact h
    · have hmark : (b || p.isSightedBy e) = true := by
        cases b with
        | true => rfl
        | false =>
          refine decide_eq_true ⟨fun hp => hm ?_, he⟩
          rw [show q = _ from hno rfl]
          exact hp
      rw [hmark, sightByTruck_moves hm]
      exact h.sight hq
  · have hp : p.isSightedBy e = false := decide_eq_false fun hn => he hn.2
    rw [hp, Bool.or_false]
    refine h.brush hafter (takeProximity_brushes fun r hr htag' => he ?_)
    obtain rfl := Option.some.inj (hq.symm.trans hr)
    exact htag'.symm.trans htag

/-- A record after a proximity list: it has been sighted exactly where an entry names it and it was not MUSTERED. -/
theorem listed_of {i : Fin 240} {p : Person} {s : State} (hp : s.person i = some p)
    (honly : ∀ j q, s.person j = some q → q.tag = p.tag → j = i) (hv : validTag p.tag = true) (z : Fin 32) (frame : Frame)
    (l : List Proximity) : Listed i p z frame s (l.any p.isSightedBy) (forEach l (takeProximity (some z) frame) s) := by
  refine forEach_marks (R := Listed i p z frame s) (fun e b t h => h.step honly hv e) l false s ?_
  exact ⟨.refl s, ⟨p, slot_of_person hp, rfl, rfl, nofun, fun _ => .refl p⟩, nofun⟩

theorem any_isSightedBy {p : Person} {l : List Proximity} :
    l.any p.isSightedBy = true ↔ p.state ≠ .mustered ∧ ∃ x ∈ l, x.tag = p.tag := by
  simp only [List.any_eq_true, Person.isSightedBy, decide_eq_true_iff]
  exact ⟨fun ⟨x, hx, hs, ht⟩ => ⟨hs, x, hx, ht⟩, fun ⟨hs, x, hx, ht⟩ => ⟨x, hx, hs, ht⟩⟩

/-- A proximity list of one entry has the escorts of the record it sights judged, where its state or zone changes. -/
theorem escortsJudged_placed {i : Fin 240} {p q : Person} {z : Fin 32} {frame : Frame} {s : State} (hp : s.person i = some p)
    (hq : (placeSighted i p z 0 frame s).person i = some q) (hne : q.state ≠ p.state ∨ q.zone ≠ p.zone) :
    EscortsJudged i s (placeSighted i p z 0 frame s) := by
  have h := handedOn_placed hp z 0 frame
  obtain ⟨r, hslot, hr, -⟩ := h.own
  obtain rfl := Option.some.inj ((congrArg Slot.person hslot).symm.trans hq)
  refine h.escorts (placeSighted_keeps hp) (fun hsame => hne.elim (fun hs => hs ?_) fun hz => hz ?_) _
    ⟨fun _ _ => rfl, fun w hw => ⟨w, slot_of_person hw, rfl⟩, fun x => .refl _⟩
  · rw [hr]; exact hsame.1.symm
  · rw [hr]; exact hsame.2.symm

end Sys2Proof.Machine
end

section
/-! A truck report taken (R121 to R128), and the truck reports that are discarded. -/

namespace Sys2Proof.Machine

open Sys2Proof.Safety (QueueHolds Raised NotRaised EscortsJudged CountsAgree)

/-! ## The checks of R121 -/

theorem judgeMessage_truck {e : Received} {r : TruckReport} (h : inbound? e.message = some (.truck r)) (s : State) :
    judgeMessage e s =
      if e.slotClass = .haul then takeTruckReport r { frame := e.frame, slot := e.slot } s else s := by
  rw [judgeMessage, h]
  rfl

theorem optionalKey?_outside {b : Byte} (h : ¬ (b.toNat < 32 ∨ b = 255)) : optionalKey? 32 b = none := by
  rw [optionalKey?_eq_none_iff]
  exact ⟨fun hb => h (.inr hb), Nat.not_lt.1 fun hb => h (.inl hb)⟩

theorem takeTruckReport_discards {r : TruckReport} {stamp : SlotStamp} {s : State}
    (h : ¬ (r.zone.toNat < 32 ∨ r.zone = 255) ∨ ¬ (r.requested.toNat < 32 ∨ r.requested = 255)
      ∨ ∀ u, s.truck r.number = some u → u.lastPoll ≠ some stamp ∨ u.answered = true) : takeTruckReport r stamp s = s := by
  unfold takeTruckReport
  split
  · next u zone requested hu hz hr =>
    refine if_neg fun hn => ?_
    rcases h with h | h | h
    · rw [optionalKey?_outside h] at hz
      cases hz
    · rw [optionalKey?_outside h] at hr
      cases hr
    · rcases h u hu with h | h
      · exact h hn.1
      · rw [h] at hn
        cases hn.2
  · rfl

theorem takeTruckReport_takes {r : TruckReport} {stamp : SlotStamp} {s : State} {u : Truck} {zone requested : Option (Fin 32)}
    (hu : s.truck r.number = some u) (hpoll : u.lastPoll = some stamp) (hans : u.answered = false)
    (hz : optionalKey zone = r.zone) (hr : optionalKey requested = r.requested) :
    takeTruckReport r stamp s = takeReport r.number u zone requested r.proximity stamp.frame s := by
  unfold takeTruckReport
  rw [hu, (optionalKey?_eq_some_iff (by decide)).2 hz, (optionalKey?_eq_some_iff (by decide)).2 hr]
  exact if_pos ⟨hpoll, hans⟩

/-! ## What the proximity list leaves of the link -/

theorem steady_proximities (zone : Option (Fin 32)) (frame : Frame) (l : List Proximity) (s : State) :
    Steady s (forEach l (takeProximity zone frame) s) := by
  refine forEach_keeps (Steady s) _ (fun e t h => h.trans ?_) l s (.refl s)
  cases zone with
  | none => exact .refl t
  | some z => exact takeProximity_steady z frame e t

theorem hlk_proximities (zone : Option (Fin 32)) (frame : Frame) (l : List Proximity) (s : State) :
    (forEach l (takeProximity zone frame) s).hlk = s.hlk := forEach_same State.hlk _ (fun _ _ => takeProximity_hlk ..) l s

theorem flk_proximities (zone : Option (Fin 32)) (frame : Frame) (l : List Proximity) (s : State) :
    (forEach l (takeProximity zone frame) s).flk = s.flk := forEach_same State.flk _ (fun _ _ => takeProximity_flk ..) l s

theorem proximities_nowhere (frame : Frame) (l : List Proximity) (s : State) :
    forEach l (takeProximity none frame) s = s := forEach_keeps (· = s) _ (fun _ _ h => h) l s rfl

theorem spares_proximities {k : ItemKind} (hk : k.isAloof) (zone : Option (Fin 32)) (frame : Frame) (l : List Proximity)
    (x : Subject) (s : State) : Spares k x s (forEach l (takeProximity zone frame) s) :=
  .forEach (fun e _ t => takeProximity_spares hk zone frame e x t) s

/-! ## The report taken -/

/-- The record `p` in a slot before a taken report from a zone, and what it finds there after it (R58 to R63, R123). -/
structure ProximityTaken (i : Fin 240) (p : Person) (z : Fin 32) (frame : Frame) (l : List Proximity) (s t : State) (q : Person) :
    Prop where
  slot : t.slot i = { gen := (s.slot i).gen, person := some q }
  tag : q.tag = p.tag
  lastKey : q.lastKey = p.lastKey
  sighted : p.state ≠ .mustered ∧ (∃ x ∈ l, x.tag = p.tag) → Sighted z frame s p q
    ∧ (p.state = .missing → QueueHolds s.atq → NotRaised .missing (s.personSubject i) t)
    ∧ (∀ x, l = [x] → q.state ≠ p.state ∨ q.zone ≠ p.zone → EscortsJudged i s t)
  unsighted : ¬ (p.state ≠ .mustered ∧ ∃ x ∈ l, x.tag = p.tag) → p.Judged q

section Taken

variable {n : Nat} {u : Truck} {zone requested : Option (Fin 32)} {l : List Proximity} {frame : Frame} {s : State}

theorem proximityTaken {w : State} {i : Fin 240} {p : Person} (hlinked : Linked n s w)
    (hmissing : ∀ x, Spares .missing x s w) (hp : s.person i = some p) (h0 : p.tag ≠ 0) (h1 : p.tag ≠ 0xffffff)
    (honly : ∀ j q, s.person j = some q → q.tag = p.tag → j = i) (z : Fin 32) :
    ∃ q, ProximityTaken i p z frame l s (forEach l (takeProximity (some z) frame) w) q := by
  have hrst : w.rst = s.rst := by rw [hlinked.only]
  have hslot (j : Fin 240) : w.slot j = s.slot j := by rw [State.slot, hrst]; rfl
  have hperson (j : Fin 240) : w.person j = s.person j := person_eq_of_slot (hslot j)
  have hholds (hq : QueueHolds s.atq) : QueueHolds w.atq := (hmissing (.tag 0) hq).1
  have hv : validTag p.tag = true := (validTag_iff _).2 ⟨h0, h1⟩
  have honlyW : ∀ j q, w.person j = some q → q.tag = p.tag → j = i := fun j q hq => honly j q ((hperson j).symm.trans hq)
  have hpW : w.person i = some p := (hperson i).trans hp
  have hlisted := listed_of hpW honlyW hv z frame l
  obtain ⟨q, hq, htag, hkey, hyes, hno⟩ := hlisted.record
  refine ⟨q, by rw [hq, hslot], htag, hkey, fun h => ?_, fun h => hno (Bool.eq_false_iff.2 fun hn => h (any_isSightedBy.1 hn))⟩
  have hmark := any_isSightedBy.2 h
  have hevac (v : Fin 32) : (w.zone v).evac = (s.zone v).evac := by rw [hlinked.zone v]
  obtain ⟨hstate, hrefuge, hheard, hmisses, hvisit, hzone, hlevel, halert⟩ := hyes hmark
  simp only [hevac] at halert
  refine ⟨⟨hstate, hrefuge, hheard, hmisses, hvisit, hzone, hlevel, halert⟩, fun hm hqs => ?_, fun x hx hne => ?_⟩
  · rw [← personSubject_eq_of_slot (hslot i)]
    exact hlisted.missing hmark hm (hholds hqs)
  · subst hx
    obtain ⟨hm, y, hy, hytag⟩ := h
    obtain rfl := List.mem_singleton.1 hy
    have hplaced : forEach [y] (takeProximity (some z) frame) w = placeSighted i p z 0 frame w := by
      show takeProximity (some z) frame y w = _
      rw [takeProximity_record (hytag ▸ hv) (slotOfTag_some hpW hytag.symm (hytag ▸ honlyW)) hpW, sightByTruck_moves hm]
    rw [hplaced] at hq ⊢
    exact EscortsJudged.of_roster hrst (by rw [hlinked.only]) hholds (escortsJudged_placed hpW (congrArg Slot.person hq) hne)

/-- A report is taken: the truck's record and its places, the queue, and the rest of the state. -/
structure TruckTaken (n : Nat) (u : Truck) (zone requested : Option (Fin 32)) (l : List Proximity) (frame : Frame)
    (s t : State) (v : Truck) : Prop where
  claimed : Claimed n s zone requested (u.answering zone l) v (fun w => n ∈ (t.zone w).grants)
  flk : t.flk = s.flk
  truck : t.truck n = some v
  intrusion : ∀ z, zone = some z → v.intrusion = decide (v.held ≠ some z)
  unplaced : zone = none → v.intrusion = u.intrusion
  peers : ∀ w, (t.zone w).grants.filter (fun m => m != n) = (s.zone w).grants.filter (fun m => m != n)
  nowhere : zone = none → t.rst = s.rst
  counts : CountsAgree s → CountsAgree t
  people : ∀ z, zone = some z → ∀ i p, s.person i = some p → p.tag ≠ 0 → p.tag ≠ 0xffffff →
    (∀ j q, s.person j = some q → q.tag = p.tag → j = i) → ∃ q, ProximityTaken i p z frame l s t q
  stranger : ∀ z x, zone = some z → l = [x] → x.tag ≠ 0 → x.tag ≠ 0xffffff →
    (∀ i p, s.person i = some p → p.tag ≠ x.tag) → s.atq.items.length < 31 → Raised .stranger (.tag x.tag) t
  linkLost : QueueHolds s.atq → u.state = .lapsed → NotRaised .linkLost (.truck n) t
  raised : QueueHolds s.atq → u.intrusion = false → v.intrusion = true → Raised .intrusion (.truck n) t
  ended : QueueHolds s.atq → u.intrusion = true → v.intrusion = false → NotRaised .intrusion (.truck n) t

theorem truckTaken (hu : s.truck n = some u) (zone requested : Option (Fin 32)) (l : List Proximity) (frame : Frame) :
    ∃ v, TruckTaken n u zone requested l frame s (takeReport n u zone requested l frame s) v := by
  have hcounts := (Tame.takeReport n u zone requested l frame s).roll.counts
  obtain ⟨v, N, hplacement, hplaced⟩ := (Stage.answers hu zone l).placement zone
  obtain ⟨x, K, hjudgement, hjudged⟩ := hplaced.judgement requested
  have hclaimed := claimed_of hplacement hjudgement
  have hstage := hjudged.judgeIntrusion zone
  have hbefore : x.intrusion = u.intrusion := by
    rw [hjudgement.same, hplacement.same]
    rfl
  have htold : ReportTold n u (x.judgedIn zone) s (reportLinked n u zone requested l s) := reportTold hjudged.truck hbefore
  rw [takeReport_eq] at hcounts ⊢
  change Stage n s (x.judgedIn zone) K (reportLinked n u zone requested l s) at hstage
  generalize reportLinked n u zone requested l s = w at hstage htold hcounts ⊢
  have hlinked := hstage.linked
  have hsteady := steady_proximities zone frame l w
  have hspares {k : ItemKind} (hk : k.isAloof) (y : Subject) := spares_proximities hk zone frame l y w
  have hmember : K = fun y => n ∈ ((forEach l (takeProximity zone frame) w).zone y).grants := funext fun y => by
    rw [hsteady.grants]
    exact propext (hstage.member y).symm
  refine ⟨x.judgedIn zone, hmember ▸ hclaimed.judgedIn, ?_, ?_, fun z hz => ?_, fun hz => ?_, fun y => ?_,
    fun hz => ?_, hcounts, fun z hz i p hp h0 h1 honly => ?_,
    fun z e hz hl h0 h1 hn hroom => ?_, fun hq h => ?_, fun hq h h' => ?_, fun hq h h' => ?_⟩
  · rw [flk_proximities, hlinked.only]
  · exact (truck_congr (congrArg HaulLink.trucks (hlk_proximities zone frame l w)) n).trans hstage.truck
  · rw [hz, Truck.judgedIn, Bool.eq_iff_iff, bne_iff_ne, decide_eq_true_iff]
  · rw [hz]
    exact hbefore
  · rw [hsteady.grants]
    exact hlinked.peers y
  · rw [hz, proximities_nowhere, hlinked.only]
  · rw [hz]
    exact proximityTaken hlinked htold.missing hp h0 h1 honly z
  · have hnone : w.slotOfTag e.tag = none := slotOfTag_none.2 fun i p hp => hn i p (by
      rw [← hp, hlinked.only]
      rfl)
    rw [hz, hl]
    show Raised _ _ (takeProximity (some z) frame e w)
    rw [takeProximity_stranger ((validTag_iff _).2 ⟨h0, h1⟩) hnone]
    exact (stands_insertItem (.inr (htold.length hroom)) ..).raised
  · exact (hspares (by simp [ItemKind.isAloof]) _).notRaised (htold.holds hq) (htold.linkLost hq h)
  · exact (hspares (by simp [ItemKind.isAloof]) _).raised (htold.holds hq) (htold.raised h h')
  · exact (hspares (by simp [ItemKind.isAloof]) _).notRaised (htold.holds hq) (htold.ended hq h h')

end Taken

end Sys2Proof.Machine
end

section
/-! A refuge's fault reasons and their item (R153): what a report of other things leaves of them, and what the derivation at
its end makes of them. -/

namespace Sys2Proof.Machine

open Sys2Proof.Safety (QueueHolds Raised NotRaised)

/-! ## Changes that leave a refuge but for its occupancy -/

/-- A change leaves a refuge but for its occupancy, and its fault's items but for reinsertions. -/
structure RefugeKept (r : Fin 8) (s t : State) : Prop where
  refuge : t.refuge r = { s.refuge r with occupancy := (t.refuge r).occupancy }
  shuffled : Shuffled .refugeFault (.refuge r) s t

namespace RefugeKept

variable {r : Fin 8}

theorem refl (s : State) : RefugeKept r s s := ⟨rfl, .refl s⟩

theorem trans {s t u : State} (h : RefugeKept r s t) (k : RefugeKept r t u) : RefugeKept r s u := by
  refine ⟨?_, h.shuffled.trans k.shuffled⟩
  have hk := k.refuge
  rw [h.refuge] at hk
  exact hk

theorem ite {c : Prop} [Decidable c] {s t u : State} (ht : RefugeKept r s t) (hu : RefugeKept r s u) :
    RefugeKept r s (if c then t else u) := by
  split
  · exact ht
  · exact hu

theorem forEach {α : Type} {f : α → State → State} (h : ∀ a s, RefugeKept r s (f a s)) (l : List α) (s : State) :
    RefugeKept r s (forEach l f s) := forEach_keeps (RefugeKept r s) f (fun a t ht => ht.trans (h a t)) l s (.refl s)

/-- A change outside the queue and the notices that leaves the refuge but for its occupancy. -/
theorem of_refuge {s t : State} (h : t.refuge r = { s.refuge r with occupancy := (t.refuge r).occupancy })
    (hq : t.atq = s.atq := by rfl) (hf : t.hpt.flags = s.hpt.flags := by rfl) : RefugeKept r s t := by
  refine ⟨h, fun ha => hf ▸ ha, ?_, rfl, fun a ha _ _ => .inl (hq ▸ ha), fun a ha _ _ => .inl (hq.symm ▸ ha)⟩
  rw [freshDetail_refuge, freshDetail_refuge, h]

theorem of_rev {s t : State} (h : t.rev = s.rev := by rfl) (hq : t.atq = s.atq := by rfl)
    (hf : t.hpt.flags = s.hpt.flags := by rfl) : RefugeKept r s t := by
  refine .of_refuge ?_ hq hf
  rw [State.refuge, h]
  rfl

theorem endItem {k : ItemKind} {x : Subject} (ho : Other .refugeFault (.refuge r) k x) (s : State) :
    RefugeKept r s (endItem k x s) := by
  refine ⟨?_, .endItem ho s⟩
  rw [(endItem_only k x s).refuge_eq]

theorem insertItem {k : ItemKind} {x : Subject} (ho : Other .refugeFault (.refuge r) k x) (b : Bool) (d : Detail) (renew : Bool)
    (s : State) : RefugeKept r s (insertItem k x b d renew s) := by
  refine ⟨?_, .insertItem ho b d renew s⟩
  rw [(insertItem_only k x b d renew s).refuge_eq]

theorem countClaim (a b : Option (Fin 32)) (s : State) : RefugeKept r s (countClaim a b s) :=
  .of_rev (countClaim_rev ..) (countClaim_atq ..) (by rw [countClaim_only])

theorem modifyRefuge {q : Fin 8} (hq : q ≠ r) (f : Refuge → Refuge) (s : State) : RefugeKept r s (s.modifyRefuge q f) := by
  refine .of_refuge ?_
  rw [refuge_modifyRefuge, if_neg (Ne.symm hq)]

theorem setOccupancy (f : Nat → Nat) (s : State) : RefugeKept r s (setOccupancy r f s) := by
  refine .of_refuge ?_
  rw [Machine.setOccupancy, refuge_modifyRefuge, if_pos rfl]

theorem deriveReasons {q : Fin 8} (hq : q ≠ r) (s : State) : RefugeKept r s (deriveReasons q s) := by
  have ho : Other .refugeFault (.refuge r) .refugeFault (.refuge q) := .of_subject fun e => hq (Subject.refuge.inj e)
  have hhand (old new : FaultReasons) (t : State) : RefugeKept r t (handReasons q old new t) :=
    .ite (.refl t) (.ite (.endItem ho t) (.insertItem ho ..))
  exact .ite (.trans (t := s.modifyRefuge q _) (.modifyRefuge hq ..) (hhand ..)) (.refl s)

theorem moveOccupancy (p : Person) (s : State) : RefugeKept r s (moveOccupancy p r s) := by
  unfold Machine.moveOccupancy
  split
  · split
    · exact .refl s
    · next hne =>
      refine .trans ?_ (.setOccupancy ..)
      cases hq : p.refuge with
      | none => exact .refl s
      | some q =>
        have hqr : q ≠ r := fun h => hne (hq.trans (congrArg some h))
        exact .trans (t := s.modifyRefuge q _) (.modifyRefuge hqr ..) (.deriveReasons hqr _)
  · exact .setOccupancy ..

theorem judgeSeparation (i : Fin 240) (s : State) : RefugeKept r s (judgeSeparation i s) := by
  unfold Machine.judgeSeparation
  split
  · exact .refl s
  · refine .ite (.ite ?_ ?_) (.refl s)
    · split
      · exact .refl s
      · exact .of_rev
    · split
      · exact .refl s
      · exact .ite (.trans (t := s.modifyPerson i _) .of_rev (.endItem (k := .escortLost) (.of_kind nofun) _)) .of_rev

theorem judgeEscorts (i : Fin 240) (s : State) : RefugeKept r s (judgeEscorts i s) :=
  (judgeSeparation i s).trans (.forEach judgeSeparation _ _)

theorem settle (i : Fin 240) (before after : Option (Fin 32)) (s : State) : RefugeKept r s (settle i before after s) := by
  have hraise : RefugeKept r s (raiseExposure i s) := by
    unfold raiseExposure judgeExposure
    split
    · refine .ite (.trans (t := s.modifyPerson i Person.raised) .of_rev ?_) (.refl s)
      split
      · exact .ite (.insertItem (k := .exposure) (.of_kind nofun) ..) (.refl _)
      · exact .refl _
    · exact .refl s
  have hmove : RefugeKept r s (exposeMove i before after s) := by
    unfold exposeMove
    split
    · exact .refl s
    · exact .ite hraise (.refl s)
  exact hmove.trans .of_rev

end RefugeKept

/-! ## The reasons derived and handed on (R153) -/

theorem FaultReasons.isEmpty_iff (x : FaultReasons) : x.isEmpty = true ↔ x = .none := by
  obtain ⟨a, b, c, d, e⟩ := x
  simp [FaultReasons.isEmpty, FaultReasons.none, and_assoc]

/-- A reason other than the panel's silence joins a set. -/
def FaultReasons.Joined (old new : FaultReasons) : Prop :=
  (new.doorBreach = true ∧ old.doorBreach = false) ∨ (new.doorFault = true ∧ old.doorFault = false)
    ∨ (new.supply = true ∧ old.supply = false) ∨ (new.overCapacity = true ∧ old.overCapacity = false)

theorem FaultReasons.joined_iff {old new : FaultReasons} (h : new.silent = false) : old.Joined new ↔ new.isSubset old = false := by
  have himp (a b : Bool) : (!a || b) = false ↔ a = true ∧ b = false := by cases a <;> cases b <;> simp
  unfold FaultReasons.isSubset FaultReasons.Joined
  rw [h]
  simp only [Bool.and_eq_false_iff, himp, Bool.false_eq_true, false_and, or_false, or_assoc]

theorem FaultReasons.Joined.changes {old new : FaultReasons} (h : old.Joined new) : new ≠ old ∧ new ≠ .none := by
  refine ⟨fun he => ?_, fun he => ?_⟩
  · rw [he] at h
    rcases h with h | h | h | h
    all_goals exact Bool.noConfusion (h.1.symm.trans h.2)
  · rw [he] at h
    rcases h with h | h | h | h
    all_goals exact Bool.noConfusion h.1

/-- What a refuge's reasons handed on make of its fault's item: `old` and `new` are the sets before and after. -/
structure FaultHanded (r : Fin 8) (old new : FaultReasons) (s t : State) : Prop where
  idle : new = old → t.atq = s.atq
  ended : QueueHolds s.atq → new ≠ old → new = .none → NotRaised .refugeFault (.refuge r) t
  raised : new ≠ old → new ≠ .none → Raised .refugeFault (.refuge r) t
  detail : new ≠ old → new ≠ .none → ∀ it ∈ t.atq.items, it.kind = .refugeFault → it.subject = .refuge r → it.detail = .faults new
  renewed : old ≠ .none → old.Joined new → ∀ it ∈ t.atq.items, it.kind = .refugeFault → it.subject = .refuge r → it.state = .new
  told : QueueHolds s.atq → old ≠ .none → old.Joined new → ∀ it ∈ s.atq.items, it.kind = .refugeFault →
    it.subject = .refuge r → it.state ≠ .new → t.hpt.flags.attention = true
  item : new ≠ old → new ≠ .none → ∀ it, s.item .refugeFault (.refuge r) = some it → it.condition = .active →
    ∀ state, (old ≠ .none → old.Joined new → state = .new) → (¬ (old ≠ .none ∧ old.Joined new) → state = it.state) →
      t.item .refugeFault (.refuge r) = some { it with test := false, detail := .faults new, state := state }
  attention : s.hpt.flags.attention = true → t.hpt.flags.attention = true

theorem faultHanded {r : Fin 8} {old new : FaultReasons} (hsilent : new.silent = false) (s : State) :
    FaultHanded r old new s (handReasons r old new s) := by
  have hempty : new.isEmpty = true ↔ new = .none := new.isEmpty_iff
  by_cases hsame : new = old
  · have hidle : handReasons r old new s = s := if_pos hsame
    rw [hidle]
    exact ⟨fun _ => rfl, fun _ h => absurd hsame h, fun h => absurd hsame h, fun h => absurd hsame h,
      fun _ h => absurd hsame h.changes.1, fun _ _ h => absurd hsame h.changes.1, fun h => absurd hsame h, id⟩
  · by_cases hnone : new = .none
    · have hend : handReasons r old new s = endItem .refugeFault (.refuge r) s :=
        (if_neg hsame).trans (if_pos (hempty.2 hnone))
      rw [hend]
      exact ⟨fun h => absurd h hsame, fun hq _ _ => notRaised_endItem hq, fun _ h => absurd hnone h, fun _ h => absurd hnone h,
        fun _ h => absurd hnone h.changes.2, fun _ _ h => absurd hnone h.changes.2, fun _ h => absurd hnone h,
        (QueueTold.endItem ..).kept⟩
    · have hinsert : handReasons r old new s =
          insertItem .refugeFault (.refuge r) false (.faults new) (!old.isEmpty && !new.isSubset old) s :=
        (if_neg hsame).trans (if_neg (mt hempty.1 hnone))
      have hrenew : (!old.isEmpty && !new.isSubset old) = true ↔ old ≠ .none ∧ old.Joined new := by
        rw [FaultReasons.joined_iff hsilent, Bool.and_eq_true, Bool.not_eq_true', Bool.not_eq_true', ← Bool.not_eq_true,
          old.isEmpty_iff]
      rw [hinsert]
      refine ⟨fun h => absurd h hsame, fun _ _ h => absurd h hnone, fun _ _ => raised_insertItem (by decide) ..,
        fun _ _ it hm hk hx =>
        (mem_insertItem_own hm hk hx).2.1, fun ho hj it hm hk hx => (mem_insertItem_own hm hk hx).2.2 (hrenew.2 ⟨ho, hj⟩),
        fun hq ho hj it hm hk hx hn => ?_, fun _ _ it hi hc state hyes hno => ?_, (QueueTold.insertItem ..).kept⟩
      · rw [hrenew.2 ⟨ho, hj⟩]
        exact attention_insertItem hq hm hk hx hn
      · have hstate : state = if (!old.isEmpty && !new.isSubset old) = true then .new else it.state := by
          split
          · next h => exact hyes (hrenew.1 h).1 (hrenew.1 h).2
          · next h => exact hno (mt hrenew.2 h)
        have hchanged := item_changeItem (k := .refugeFault) (x := .refuge r) (s := s)
          (f := fun i => { i with test := false, detail := .faults new,
                                  state := if (!old.isEmpty && !new.isSubset old) = true then .new else i.state })
        rw [hi] at hchanged
        rw [insertItem_active _ _ _ hi hc, hstate]
        dsimp only
        split
        all_goals exact hchanged

end Sys2Proof.Machine
end

section
/-! A check-in and a check-out of one record (R150, R151), and what they leave of the refuge, of the other records and of the
queue. -/

namespace Sys2Proof.Machine

open Sys2Proof.Safety (QueueHolds Raised NotRaised EscortsJudged)

/-! ## What every act of a refuge report keeps -/

/-- An act of a report of a refuge: tags, orders and real air states stay, and so does the refuge but for its occupancy. -/
structure Attended (r : Fin 8) (s t : State) : Prop where
  steady : Steady s t
  kept : RefugeKept r s t
  real : ∀ z, (t.zone z).real = (s.zone z).real

namespace Attended

variable {r : Fin 8}

theorem refl (s : State) : Attended r s s := ⟨.refl s, .refl s, fun _ => rfl⟩

theorem trans {s t u : State} (h : Attended r s t) (k : Attended r t u) : Attended r s u :=
  ⟨h.steady.trans k.steady, h.kept.trans k.kept, fun z => (k.real z).trans (h.real z)⟩

theorem zone {s t : State} (h : Attended r s t) : (t.refuge r).zone = (s.refuge r).zone := by rw [h.kept.refuge]

theorem holds {s t : State} (h : Attended r s t) (hq : QueueHolds s.atq) : QueueHolds t.atq := (h.steady.quiet hq).1

end Attended

/-- An act on a record under way from `s` to `t` that is attended: the other records are brushed, and the record keeps its tag. -/
theorem attended_of {i : Fin 240} {o : Option Person} {before after : Option (Fin 32)} {left joined : Option (Fin 8)} {r : Fin 8}
    {p q : Person} {s t : State} (hmoved : Moved i o before after left joined none s t) (hkept : RefugeKept r s t)
    (hquiet : Quiet .missing s t) (hp : s.person i = some p) (hq : t.person i = some q) (htag : q.tag = p.tag)
    (hothers : ∀ j, j ≠ i → Brushed j s t) : Attended r s t :=
  ⟨⟨Steady.tags_of hp hq htag hothers, hmoved.evac, hmoved.grants, hquiet⟩, hkept, hmoved.air.real⟩

/-! ## The check-in (R150) -/

/-- A check-in up to its escort judgement. -/
def letIn (r : Fin 8) (frame : Frame) (i : Fin 240) (p : Person) (s : State) : State :=
  let s1 := moveOccupancy p r (s.modifyPerson i (fun q => q.musteredAt r (s.refuge r).zone frame))
  let s2 := countClaim p.countedZone none s1
  if p.state = .missing then endItem .missing (s.personSubject i) s2 else s2

section CheckIn

variable {r : Fin 8} {frame : Frame} {i : Fin 240} {p : Person} {s : State}

theorem letIn_rst : (letIn r frame i p s).rst = (s.modifyPerson i (fun q => q.musteredAt r (s.refuge r).zone frame)).rst := by
  unfold letIn
  dsimp only
  split <;> simp

theorem letIn_frt : (letIn r frame i p s).frt = s.frt := by
  unfold letIn
  dsimp only
  split <;> simp

theorem letIn_kept : RefugeKept r s (letIn r frame i p s) := by
  have hclaimed : RefugeKept r s (countClaim p.countedZone none
      (moveOccupancy p r (s.modifyPerson i (fun q => q.musteredAt r (s.refuge r).zone frame)))) :=
    .trans (.trans (t := s.modifyPerson i _) .of_rev (.moveOccupancy p _)) (.countClaim ..)
  exact .ite (hclaimed.trans (.endItem (k := .missing) (.of_kind nofun) _)) hclaimed

theorem moveOccupancy_spares {k : ItemKind} (hs : k ≠ .stranger) (hk : k ≠ .refugeFault) (x : Subject) (s : State) :
    Spares k x s (moveOccupancy p r s) :=
  .ite (.ite (.refl s) (.trans (t := occupancyClaim p.refuge s) (occupancyClaim_spares hs hk _ _ _) .of_eq)) .of_eq

theorem letIn_claims_spares (x : Subject) : Spares .missing x s (countClaim p.countedZone none
    (moveOccupancy p r (s.modifyPerson i (fun q => q.musteredAt r (s.refuge r).zone frame)))) :=
  .trans (t := s.modifyPerson i _) .of_eq
    ((moveOccupancy_spares (k := .missing) nofun nofun x _).trans (.of_eq (countClaim_atq ..)))

theorem letIn_quiet : Quiet .missing s (letIn r frame i p s) :=
  .trans (.of_spares letIn_claims_spares) (.ite (.endItem _ _) (.refl _))

theorem letIn_missing (h : p.state = .missing) (hq : QueueHolds s.atq) :
    NotRaised .missing (s.personSubject i) (letIn r frame i p s) := by
  unfold letIn
  rw [if_pos h]
  exact notRaised_endItem (letIn_claims_spares (.tag 0) hq).1

variable (hp : s.person i = some p)

include hp

theorem checkIn_eq : checkIn r frame i s = judgeEscorts i (letIn r frame i p s) := by
  unfold checkIn
  rw [hp]
  rfl

theorem letIn_moved : Moved i (some (p.musteredAt r (s.refuge r).zone frame)) p.countedZone none p.musterPlace (some r) none s
    (letIn r frame i p s) := by
  have hwrite := (Moved.refl i s).modifyPerson (f := fun q => q.musteredAt r (s.refuge r).zone frame)
    fun p q h => ⟨rfl, rfl, rfl, fun e => e, h.connection⟩
  rw [hp] at hwrite
  have hcount := (hwrite.moveOccupancy p r).countClaim p.countedZone none
  unfold letIn
  dsimp only
  split
  · exact hcount.aside (.endItem ..)
  · exact hcount

theorem letIn_own : (letIn r frame i p s).slot i =
    { gen := (s.slot i).gen, person := some (p.musteredAt r (s.refuge r).zone frame) } := by
  rw [State.slot, letIn_rst]
  exact slot_modifyPerson_self hp _

theorem letIn_unjudged : Unjudged i s (letIn r frame i p s) := by
  refine ⟨fun j hj => ?_, by rw [letIn_own hp], fun v hv => ?_, letIn_frt, (letIn_quiet · |>.1)⟩
  · rw [State.slot, letIn_rst]
    exact slot_modifyPerson_of_ne hj ..
  · obtain rfl := Option.some.inj (hp.symm.trans hv)
    exact ⟨_, congrArg Slot.person (letIn_own hp), rfl, rfl, rfl, rfl⟩

/-- A check-in of a record: what becomes of it, of its escorts and of the occupancies. -/
structure CheckedIn (r : Fin 8) (frame : Frame) (i : Fin 240) (p : Person) (s t : State) : Prop where
  attended : Attended r s t
  own : ∃ q, t.slot i = { gen := (s.slot i).gen, person := some q } ∧ (p.musteredAt r (s.refuge r).zone frame).Judged q
  escorts : EscortsJudged i s t
  missing : p.state = .missing → QueueHolds s.atq → NotRaised .missing (s.personSubject i) t
  occupancy : ∀ k, (t.refuge k).occupancy = claimed p.musterPlace (some r) k (s.refuge k).occupancy

theorem checkedIn : CheckedIn r frame i p s (checkIn r frame i s) := by
  have hescorts : EscortsJudged i s (judgeEscorts i (letIn r frame i p s)) := (letIn_unjudged hp).escortsJudged
  have hmoved := (letIn_moved (r := r) (frame := frame) hp).aside (.judgeEscorts i _)
  have hspares (x : Subject) := judgeEscorts_spares (k := .missing) nofun i x (letIn r frame i p s)
  have hslot := letIn_own (r := r) (frame := frame) hp
  obtain ⟨q, hq, hqs⟩ := judgeEscorts_own (congrArg Slot.person hslot)
  rw [checkIn_eq hp]
  refine ⟨attended_of hmoved (letIn_kept.trans (.judgeEscorts i _)) (letIn_quiet.trans (.of_spares hspares)) hp
    (congrArg Slot.person hq) (by rw [hqs]; rfl) fun j hj => .of_escortsJudged hescorts hj, ⟨q, by rw [hq, hslot], hqs⟩, hescorts,
    fun hm hqs => (hspares _).notRaised (letIn_quiet hqs).1 (letIn_missing hm hqs), hmoved.occupancy⟩

end CheckIn

/-! ## The check-out (R151) -/

/-- A check-out up to its escort judgement. -/
def discharge (r : Fin 8) (frame : Frame) (i : Fin 240) (s : State) : State :=
  countClaim none (s.refuge r).zone
    ((setOccupancy r (· - 1) s).modifyPerson i (fun q => q.checkedOut (s.refuge r).zone frame))

/-- What a check-out leaves of a record: PRESENT in the refuge's zone, with the alert and the exposure of its arrival. -/
def Person.LeftTo (p : Person) (zone : Option (Fin 32)) (frame : Frame) (q : Person) : Prop :=
  q = { p.checkedOut zone frame with alert := q.alert, exposure := q.exposure, exposureFull := q.exposureFull,
                                     separation := q.separation, escortLost := q.escortLost }

section CheckOut

variable {r : Fin 8} {frame : Frame} {i : Fin 240} {p : Person} {s : State}

theorem discharge_rst : (discharge r frame i s).rst = (s.modifyPerson i (fun q => q.checkedOut (s.refuge r).zone frame)).rst := by
  unfold discharge
  rw [countClaim_rst]
  rfl

theorem discharge_kept : RefugeKept r s (discharge r frame i s) :=
  .trans (.trans (t := (setOccupancy r (· - 1) s).modifyPerson i _) (.trans (.setOccupancy (· - 1) s) .of_rev) (.refl _))
    (.countClaim ..)

theorem discharge_atq : (discharge r frame i s).atq = s.atq := countClaim_atq ..

theorem checkOut_idle (h : ∀ p, s.person i = some p → ¬ (p.state = .mustered ∧ p.refuge = some r)) :
    checkOut r frame i s = s := by
  unfold checkOut
  cases hp : s.person i with
  | none => rfl
  | some p => exact if_neg (h p hp)

variable (hp : s.person i = some p)

include hp

theorem discharge_own : (discharge r frame i s).slot i =
    { gen := (s.slot i).gen, person := some (p.checkedOut (s.refuge r).zone frame) } := by
  rw [State.slot, discharge_rst]
  exact slot_modifyPerson_self hp _

theorem discharge_unjudged : Unjudged i s (discharge r frame i s) := by
  refine ⟨fun j hj => ?_, by rw [discharge_own hp], fun v hv => ?_, countClaim_frt ..,
    fun hq => by rw [discharge_atq]; exact hq⟩
  · rw [State.slot, discharge_rst]
    exact slot_modifyPerson_of_ne hj ..
  · obtain rfl := Option.some.inj (hp.symm.trans hv)
    exact ⟨_, congrArg Slot.person (discharge_own hp), rfl, rfl, rfl, rfl⟩

variable (hat : p.state = .mustered ∧ p.refuge = some r)

include hat

theorem checkOut_eq : checkOut r frame i s = settle i none (s.refuge r).zone (judgeEscorts i (discharge r frame i s)) := by
  unfold checkOut
  rw [hp]
  exact if_pos hat

theorem discharge_moved : Moved i (some (p.checkedOut (s.refuge r).zone frame)) none (s.refuge r).zone (some r) none none s
    (discharge r frame i s) := by
  have hleave : Moved i (s.person i) none none (some r) none none s (setOccupancy r (· - 1) s) := by
    refine (Moved.refl i s).modifyRefuge fun q => ?_
    rw [refuge_modifyRefuge]
    by_cases hq : q = r
    · subst hq; simp [claimed]
    · simp [claimed, hq, Ne.symm hq]
  have hwrite := hleave.modifyPerson (f := fun q => q.checkedOut (s.refuge r).zone frame)
    fun p q h => ⟨rfl, rfl, rfl, h.alert, h.connection⟩
  rw [hp] at hwrite
  exact hwrite.countClaim none (s.refuge r).zone

end CheckOut

/-- A check-out of a record MUSTERED at the refuge: what becomes of it, of its escorts and of the occupancies. -/
structure CheckedOut (r : Fin 8) (frame : Frame) (i : Fin 240) (p : Person) (s t : State) : Prop where
  attended : Attended r s t
  own : ∃ q, t.slot i = { gen := (s.slot i).gen, person := some q } ∧ p.LeftTo (s.refuge r).zone frame q
    ∧ q.alert = (if p.alert = .noAlert ∧ ∃ w, (s.refuge r).zone = some w ∧ (s.zone w).evac = .ordered then .sent else p.alert)
    ∧ (MoveRaises none (s.refuge r).zone p s → q.exposure = p.exposure + 1)
    ∧ (¬ MoveRaises none (s.refuge r).zone p s → q.exposure = p.exposure)
  escorts : EscortsJudged i s t
  occupancy : ∀ k, (t.refuge k).occupancy = claimed (some r) none k (s.refuge k).occupancy

theorem checkedOut {r : Fin 8} {frame : Frame} {i : Fin 240} {p : Person} {s : State} (hp : s.person i = some p)
    (hat : p.state = .mustered ∧ p.refuge = some r) : CheckedOut r frame i p s (checkOut r frame i s) := by
  have hown := discharge_own (r := r) (frame := frame) hp
  obtain ⟨w, hw, hws⟩ := judgeEscorts_own (congrArg Slot.person hown)
  have hjudged := (discharge_moved (frame := frame) hp hat).aside (.judgeEscorts i _)
  have honly : RosterOnly (discharge r frame i s) (judgeEscorts i (discharge r frame i s)) := judgeEscorts_only i _
  have hsettled := settled none (s.refuge r).zone (congrArg Slot.person hw)
  have hescorts : EscortsJudged i s (settle i none (s.refuge r).zone (judgeEscorts i (discharge r frame i s))) :=
    EscortsJudged.trimmed (discharge_unjudged hp).escortsJudged (fun hq => hjudged.queue hq) (congrArg Slot.person hw)
      (hsettled.trimmed (congrArg Slot.person hw))
  have hmoved := hjudged.aside (.trans (.exposeMove i none (s.refuge r).zone _) (.alertArrived i _))
  have hmode : (judgeEscorts i (discharge r frame i s)).rst.exposureMode = s.rst.exposureMode := by
    rw [honly.exposureMode, discharge_rst]
    rfl
  have hraises : MoveRaises none (s.refuge r).zone w (judgeEscorts i (discharge r frame i s))
      ↔ MoveRaises none (s.refuge r).zone p s := moveRaises_congr hmode hjudged.air.real (by rw [hws]; rfl)
  have hquiet : Quiet .missing s (settle i none (s.refuge r).zone (judgeEscorts i (discharge r frame i s))) :=
    .of_spares fun x => (Spares.of_eq discharge_atq).trans ((judgeEscorts_spares (k := .missing) nofun i x _).trans
      (settle_spares (k := .missing) nofun nofun i _ _ x _))
  obtain ⟨q, hq, hqs, halert, hyes, hno⟩ := hsettled.own
  rw [hraises] at hyes hno
  rw [checkOut_eq hp hat]
  refine ⟨attended_of hmoved ((discharge_kept.trans (.judgeEscorts i _)).trans (.settle ..)) hquiet hp (congrArg Slot.person hq) ?_
    fun j hj => .of_escortsJudged hescorts hj, ⟨q, by rw [hq, hw, hown], ?_, ?_, fun h => ?_, fun h => ?_⟩, hescorts,
    hmoved.occupancy⟩
  · rw [hqs, hws]; rfl
  · rw [Person.LeftTo, hqs, hws]
  · have hzone : w.zone = (s.refuge r).zone := by rw [hws]; rfl
    have hwas : w.alert = p.alert := by rw [hws]; rfl
    have hstate : w.state = .present := by rw [hws]; rfl
    have harrived := alert_arrived hstate halert
    simp only [hjudged.evac, hzone, hwas] at harrived
    exact harrived
  · rw [(hyes h).1, hws]; rfl
  · rw [(hno h).1, hws]; rfl

end Sys2Proof.Machine
end

section
/-! The two lists of a refuge report (R149): the records whose tags they name are checked in, and then out, one after another. -/

namespace Sys2Proof.Machine

open Sys2Proof.Safety (QueueHolds Raised NotRaised EscortsJudged)

/-! ## One tag -/

/-- A tag acted on; one that no live record holds is ignored (R149). -/
def tagAct (act : Fin 240 → State → State) (t : Tag) (s : State) : State :=
  match s.slotOfTag t with
  | some i => act i s
  | none => s

theorem forTags_eq (tags : List Tag) (act : Fin 240 → State → State) (s : State) :
    forTags tags act s = forEach (tags.filter validTag) (tagAct act) s := rfl

theorem tagAct_none {act : Fin 240 → State → State} {t : Tag} {s : State} (h : s.slotOfTag t = none) : tagAct act t s = s := by
  rw [tagAct, h]

theorem tagAct_some {act : Fin 240 → State → State} {t : Tag} {s : State} {i : Fin 240} (h : s.slotOfTag t = some i) :
    tagAct act t s = act i s := by
  rw [tagAct, h]

/-- An act on a record is attended and brushes the other records. -/
def Attends (r : Fin 8) (act : Fin 240 → State → State) : Prop :=
  ∀ j q s, s.person j = some q → Attended r s (act j s) ∧ ∀ i, i ≠ j → Brushed i s (act j s)

theorem attends_checkIn (r : Fin 8) (frame : Frame) : Attends r (checkIn r frame) := fun j q s hq =>
  have h : CheckedIn r frame j q s (checkIn r frame j s) := checkedIn hq
  ⟨h.attended, fun _ hi => .of_escortsJudged h.escorts hi⟩

theorem attends_checkOut (r : Fin 8) (frame : Frame) : Attends r (checkOut r frame) := fun j q s hq => by
  by_cases hat : q.state = .mustered ∧ q.refuge = some r
  · have h : CheckedOut r frame j q s (checkOut r frame j s) := checkedOut hq hat
    exact ⟨h.attended, fun _ hi => .of_escortsJudged h.escorts hi⟩
  · rw [checkOut_idle fun p hp => Option.some.inj (hq.symm.trans hp) ▸ hat]
    exact ⟨.refl s, fun _ _ => .of_slot rfl⟩

theorem Attends.tagAct {r : Fin 8} {act : Fin 240 → State → State} (h : Attends r act) (t : Tag) (s : State) :
    Attended r s (tagAct act t s) := by
  cases hi : s.slotOfTag t with
  | none =>
    rw [tagAct_none hi]
    exact .refl s
  | some j =>
    obtain ⟨q, hq, -⟩ := person_of_slotOfTag hi
    rw [tagAct_some hi]
    exact (h j q s hq).1

theorem Attends.brushes {r : Fin 8} {act : Fin 240 → State → State} (h : Attends r act) {t : Tag} {s : State} {i : Fin 240}
    (hi : ∀ q, s.person i = some q → q.tag ≠ t) : Brushed i s (Machine.tagAct act t s) := by
  cases hj : s.slotOfTag t with
  | none =>
    rw [tagAct_none hj]
    exact .of_slot rfl
  | some j =>
    obtain ⟨q, hq, htag⟩ := person_of_slotOfTag hj
    rw [tagAct_some hj]
    exact (h j q s hq).2 i fun hij => hi q (hij ▸ hq) htag

theorem Attends.forTags {r : Fin 8} {act : Fin 240 → State → State} (h : Attends r act) (tags : List Tag) (s : State) :
    Attended r s (forTags tags act s) :=
  forEach_keeps (Attended r s) _ (fun t _ hs => hs.trans (h.tagAct t _)) _ s (.refl s)

/-! ## One record through a list -/

/-- The record in a slot while a list is walked: `b` is whether its tag has come, and `Q` what then holds of it. -/
structure Followed (r : Fin 8) (i : Fin 240) (tag : Tag) (Q : Bool → Person → State → Prop) (s : State) (b : Bool) (t : State) :
    Prop where
  attended : Attended r s t
  record : ∃ q, t.slot i = { gen := (s.slot i).gen, person := some q } ∧ q.tag = tag ∧ Q b q t

/-- What holds of a record stays while other tags are acted on, and comes to hold when its own is. -/
structure Follows (r : Fin 8) (i : Fin 240) (act : Fin 240 → State → State) (Q : Bool → Person → State → Prop) (s : State) :
    Prop where
  attends : Attends r act
  stays : ∀ b q q' t u, Attended r s t → Attended r t u → q.Judged q' → Q b q t → Q b q' u
  acts : ∀ b q t, Attended r s t → t.slot i = { gen := (s.slot i).gen, person := some q } → Q b q t →
    ∃ q', (act i t).slot i = { gen := (t.slot i).gen, person := some q' } ∧ q'.tag = q.tag ∧ Q true q' (act i t)

theorem Followed.step {r : Fin 8} {i : Fin 240} {tag : Tag} {act : Fin 240 → State → State} {Q : Bool → Person → State → Prop}
    {s t : State} {b : Bool} (hf : Follows r i act Q s) (honly : ∀ j q, s.person j = some q → q.tag = tag → j = i)
    (h : Followed r i tag Q s b t) (x : Tag) : Followed r i tag Q s (b || x == tag) (tagAct act x t) := by
  obtain ⟨hattended, q, hslot, htag, hQ⟩ := h
  have hq : t.person i = some q := congrArg Slot.person hslot
  have hafter := hf.attends.tagAct x t
  by_cases hx : x = tag
  · obtain ⟨q', hslot', htag', hQ'⟩ := hf.acts b q t hattended hslot hQ
    have hi : t.slotOfTag x = some i := slotOfTag_some hq (htag.trans hx.symm) (hx ▸ hattended.steady.only honly)
    rw [beq_iff_eq.2 hx, Bool.or_true]
    refine ⟨hattended.trans hafter, ?_⟩
    rw [tagAct_some hi]
    exact ⟨q', by rw [hslot', hslot], htag'.trans htag, hQ'⟩
  · rw [beq_eq_false_iff_ne.2 hx, Bool.or_false]
    obtain ⟨q', hslot', hqq'⟩ := (hf.attends.brushes (t := x) (s := t) (i := i) fun q' hq' hq'tag => hx (by
      obtain rfl := Option.some.inj (hq.symm.trans hq')
      exact hq'tag.symm.trans htag)).2 q hq
    refine ⟨hattended.trans hafter, q', by rw [hslot', hslot], ?_, hf.stays b q q' t _ hattended hafter hqq' hQ⟩
    rw [show q' = _ from hqq']
    exact htag

theorem followed_forTags {r : Fin 8} {i : Fin 240} {p : Person} {act : Fin 240 → State → State}
    {Q : Bool → Person → State → Prop} {s : State} (hf : Follows r i act Q s) (hp : s.person i = some p)
    (honly : ∀ j q, s.person j = some q → q.tag = p.tag → j = i) (hv : validTag p.tag = true) (hQ : Q false p s)
    (tags : List Tag) : Followed r i p.tag Q s (decide (p.tag ∈ tags)) (forTags tags act s) := by
  have hmark : (tags.filter validTag).any (· == p.tag) = decide (p.tag ∈ tags) := by
    rw [Bool.eq_iff_iff, List.any_eq_true, decide_eq_true_iff]
    refine ⟨fun ⟨x, hx, he⟩ => ?_, fun hm => ⟨p.tag, List.mem_filter.2 ⟨hm, hv⟩, beq_iff_eq.2 rfl⟩⟩
    exact beq_iff_eq.1 he ▸ (List.mem_filter.1 hx).1
  rw [← hmark, forTags_eq]
  exact forEach_marks (R := Followed r i p.tag Q s) (fun x b t h => h.step hf honly x) _ false s
    ⟨.refl s, p, slot_of_person hp, rfl, hQ⟩

/-! ## The check-ins -/

/-- What the check-ins have made of a record: MUSTERED at the refuge with MISSING ended, or as it was. -/
def EnteredAs (r : Fin 8) (frame : Frame) (i : Fin 240) (p : Person) (s : State) (b : Bool) (q : Person) (t : State) : Prop :=
  (b = true → (p.musteredAt r (s.refuge r).zone frame).Judged q) ∧ (b = false → p.Judged q)
    ∧ (b = true → p.state = .missing → QueueHolds s.atq → NotRaised .missing (s.personSubject i) t)

theorem follows_checkIn {r : Fin 8} {frame : Frame} {i : Fin 240} {p : Person} {s : State} :
    Follows r i (checkIn r frame) (EnteredAs r frame i p s) s where
  attends := attends_checkIn r frame
  stays b q q' t u hst htu hqq' h := ⟨fun hb => (h.1 hb).trans hqq', fun hb => (h.2.1 hb).trans hqq',
    fun hb hm hq => (htu.steady.quiet (hst.holds hq)).2 _ (h.2.2 hb hm hq)⟩
  acts b q t hst hslot h := by
    obtain ⟨hyes, hno, hmissing⟩ := h
    have hdone : CheckedIn r frame i q t (checkIn r frame i t) := checkedIn (congrArg Slot.person hslot)
    have hsubject : t.personSubject i = s.personSubject i := personSubject_of_slot_eq hslot
    obtain ⟨q', hslot', hjudged⟩ := hdone.own
    rw [hst.zone] at hjudged
    refine ⟨q', hslot', by rw [show q' = _ from hjudged]; rfl, fun _ => ?_, nofun, fun _ hm hq => ?_⟩
    · refine Person.Judged.trans ?_ hjudged
      cases b with
      | true => rw [show q = _ from hyes rfl]; rfl
      | false => rw [show q = _ from hno rfl]; rfl
    · cases b with
      | true => exact (hdone.attended.steady.quiet (hst.holds hq)).2 _ (hmissing rfl hm hq)
      | false =>
        rw [← hsubject]
        refine hdone.missing ?_ (hst.holds hq)
        rw [show q = _ from hno rfl]
        exact hm

/-! ## The check-outs -/

/-- What the check-outs have made of a record: PRESENT in the refuge's zone where it was MUSTERED at the refuge, or as it was. -/
def LeftAs (r : Fin 8) (frame : Frame) (p : Person) (s : State) (b : Bool) (q : Person) (_ : State) : Prop :=
  (b = true ∧ p.state = .mustered ∧ p.refuge = some r → p.LeftTo (s.refuge r).zone frame q)
    ∧ (¬ (b = true ∧ p.state = .mustered ∧ p.refuge = some r) → p.Judged q)

theorem Person.LeftTo.judged {p q q' : Person} {zone : Option (Fin 32)} {frame : Frame} (h : p.LeftTo zone frame q)
    (hq : q.Judged q') : p.LeftTo zone frame q' := by
  have hk : q' = { q with separation := q'.separation, escortLost := q'.escortLost } := hq
  rw [show q = _ from h] at hk
  rw [Person.LeftTo]
  rw [hk]

theorem follows_checkOut {r : Fin 8} {frame : Frame} {i : Fin 240} {p : Person} {s : State} :
    Follows r i (checkOut r frame) (LeftAs r frame p s) s where
  attends := attends_checkOut r frame
  stays b q q' t u hst htu hqq' h := ⟨fun hb => (h.1 hb).judged hqq', fun hb => (h.2 hb).trans hqq'⟩
  acts b q t hst hslot h := by
    obtain ⟨hyes, hno⟩ := h
    have hq : t.person i = some q := congrArg Slot.person hslot
    by_cases hat : q.state = .mustered ∧ q.refuge = some r
    · have hdone : CheckedOut r frame i q t (checkOut r frame i t) := checkedOut hq hat
      obtain ⟨q', hslot', hleft, -⟩ := hdone.own
      rw [hst.zone] at hleft
      have hnot : ¬ (b = true ∧ p.state = .mustered ∧ p.refuge = some r) := fun hb => by
        rw [show q = _ from hyes hb] at hat
        cases hat.1
      have hpq := hno hnot
      have hwas : p.state = .mustered ∧ p.refuge = some r := by
        rw [show q = _ from hpq] at hat
        exact hat
      refine ⟨q', hslot', by rw [show q' = _ from hleft]; rfl, fun _ => ?_, fun hb => absurd ⟨rfl, hwas⟩ hb⟩
      rw [show q = _ from hpq] at hleft
      exact hleft
    · rw [checkOut_idle fun q' hq' => Option.some.inj (hq.symm.trans hq') ▸ hat]
      refine ⟨q, slot_of_person hq, rfl, fun hb => ?_, fun hb => ?_⟩
      · by_cases hbefore : b = true
        · exact hyes ⟨hbefore, hb.2⟩
        · have hpq := hno fun hn => hbefore hn.1
          rw [show q = _ from hpq] at hat
          exact absurd hb.2 hat
      · exact hno fun hn => hb ⟨rfl, hn.2⟩

end Sys2Proof.Machine
end

section
/-! A refuge report taken (R149 to R153). -/

namespace Sys2Proof.Machine

open Sys2Proof.Safety (QueueHolds Raised NotRaised EscortsJudged OccupanciesAgree CountsAgree)

/-! ## The steps of a report -/

/-- A refuge's record with what a report says of it (R149). -/
def Refuge.reported (x : Refuge) (door : Door) (supply : Supply) (frame : Frame) : Refuge :=
  { x with door := door, supply := supply, lastReport := frame, panel := .reporting }

/-- The refuge written by a report. -/
def writeReport (r : Fin 8) (door : Door) (supply : Supply) (frame : Frame) (s : State) : State :=
  s.modifyRefuge r (fun x => x.reported door supply frame)

theorem occupancy_writeReport (r k : Fin 8) (door : Door) (supply : Supply) (frame : Frame) (s : State) :
    ((writeReport r door supply frame s).refuge k).occupancy = (s.refuge k).occupancy := by
  rw [writeReport, refuge_modifyRefuge]
  split
  · next h => rw [h]; rfl
  · rfl

theorem refuge_writeReport (r : Fin 8) (door : Door) (supply : Supply) (frame : Frame) (s : State) :
    (writeReport r door supply frame s).refuge r = (s.refuge r).reported door supply frame := refuge_modifyRefuge_self ..

/-- A report's check-ins and then its check-outs. -/
def attend (r : Fin 8) (ins outs : List Tag) (frame : Frame) (s : State) : State :=
  forTags outs (checkOut r frame) (forTags ins (checkIn r frame) s)

theorem takeRefugeReport_eq {r : Fin 8} {s : State} (h : (s.refuge r).configured = true) (door : Door) (supply : Supply)
    (ins outs : List Tag) (frame : Frame) : takeRefugeReport r door supply ins outs frame s =
      deriveReasons r (attend r ins outs frame (writeReport r door supply frame s)) := if_pos h

theorem attended_attend (r : Fin 8) (ins outs : List Tag) (frame : Frame) (s : State) :
    Attended r s (attend r ins outs frame s) :=
  ((attends_checkIn r frame).forTags ins s).trans ((attends_checkOut r frame).forTags outs _)

theorem forTags_flk {act : Fin 240 → State → State} (h : ∀ i s, (act i s).flk = s.flk) (tags : List Tag) (s : State) :
    (forTags tags act s).flk = s.flk := by
  refine forEach_same State.flk _ (fun t u => ?_) _ s
  split
  · exact h ..
  · rfl

theorem attend_flk (r : Fin 8) (ins outs : List Tag) (frame : Frame) (s : State) : (attend r ins outs frame s).flk = s.flk :=
  (forTags_flk (fun _ _ => checkOut_flk ..) ..).trans (forTags_flk (fun _ _ => checkIn_flk ..) ..)

theorem forTags_nil (act : Fin 240 → State → State) (s : State) : forTags [] act s = s := rfl

theorem forTags_singleton {act : Fin 240 → State → State} {s : State} {i : Fin 240} {p : Person} (hv : validTag p.tag = true)
    (hp : s.person i = some p) (honly : ∀ j q, s.person j = some q → q.tag = p.tag → j = i) :
    forTags [p.tag] act s = act i s := by
  rw [forTags_eq, List.filter_cons_of_pos hv, List.filter_nil]
  exact tagAct_some (slotOfTag_some hp rfl honly)

/-! ## The derivation at the end -/

theorem deriveReasons_slot (r : Fin 8) (s : State) (i : Fin 240) : (deriveReasons r s).slot i = s.slot i := by
  rw [show deriveReasons r s = _ from deriveReasons_only r s]
  rfl

theorem deriveReasons_trimmed (r : Fin 8) (i : Fin 240) (s : State) : Trimmed i s (deriveReasons r s) where
  others j _ := deriveReasons_slot r s j
  own w hw := ⟨w, (deriveReasons_slot r s i).trans (slot_of_person hw), rfl⟩
  spares x := deriveReasons_spares (k := .escortLost) nofun nofun r x s

theorem occupancy_deriveReasons (r k : Fin 8) (s : State) :
    ((deriveReasons r s).refuge k).occupancy = (s.refuge k).occupancy := by
  rw [refuge_deriveReasons]
  split
  · next h => rw [h.1]
  · rfl

/-- An escort judgement before a report's end is one of the whole report. -/
theorem escortsJudged_derived {r : Fin 8} {i : Fin 240} {s u t : State} (hr : u.rst = s.rst) (hf : u.frt = s.frt)
    (ha : u.atq = s.atq) (h : EscortsJudged i u t) (hq : QueueHolds u.atq → QueueHolds t.atq) {w : Person}
    (hw : t.person i = some w) : EscortsJudged i s (deriveReasons r t) :=
  EscortsJudged.of_roster hr hf (fun hs => by rw [ha]; exact hs)
    (EscortsJudged.trimmed h hq hw (deriveReasons_trimmed r i t))

/-! ## The refuge and its fault -/

/-- The fault reasons that a report leaves (R153). -/
def reportReasons (r : Fin 8) (door : Door) (supply : Supply) (occupancy : Nat) (s : State) : FaultReasons :=
  { doorBreach := decide (door = .opened
      ∧ ∃ z, (s.refuge r).zone = some z ∧ ((s.zone z).real = .danger ∨ (s.zone z).real = .trip))
    doorFault := decide (door = .fault)
    supply := decide (supply = .low ∨ supply = .fail)
    silent := false
    overCapacity := decide ((s.refuge r).capacity < occupancy) }

/-- The refuge after its report, and its fault's item. -/
structure RefugeReported (r : Fin 8) (door : Door) (supply : Supply) (frame : Frame) (s t : State) : Prop where
  flk : t.flk = s.flk
  refuge : t.refuge r = { (s.refuge r).reported door supply frame with
    occupancy := (t.refuge r).occupancy, reasons := reportReasons r door supply (t.refuge r).occupancy s }
  ended : QueueHolds s.atq → (t.refuge r).reasons ≠ (s.refuge r).reasons → (t.refuge r).reasons = .none →
    NotRaised .refugeFault (.refuge r) t
  raised : QueueHolds s.atq → (t.refuge r).reasons ≠ (s.refuge r).reasons → (t.refuge r).reasons ≠ .none →
    Raised .refugeFault (.refuge r) t
      ∧ ∀ it ∈ t.atq.items, it.kind = .refugeFault ∧ it.subject = .refuge r → it.detail = .faults (t.refuge r).reasons
  renewed : QueueHolds s.atq → (s.refuge r).reasons ≠ .none → (s.refuge r).reasons.Joined (t.refuge r).reasons →
    (∀ it ∈ t.atq.items, it.kind = .refugeFault ∧ it.subject = .refuge r → it.state = .new)
      ∧ ∀ it ∈ s.atq.items, it.kind = .refugeFault ∧ it.subject = .refuge r → it.state ≠ .new → t.hpt.flags.attention = true

section Taken

variable {r : Fin 8} {s : State} (hc : (s.refuge r).configured = true) (door : Door) (supply : Supply) (ins outs : List Tag)
  (frame : Frame)

include hc

/-- A report is its attendance and the handing on of the reasons that then hold. -/
theorem takeRefugeReport_hands : ∃ u, Attended r (writeReport r door supply frame s) u
    ∧ u = attend r ins outs frame (writeReport r door supply frame s)
    ∧ let t := takeRefugeReport r door supply ins outs frame s
      t.refuge r = { (s.refuge r).reported door supply frame with
        occupancy := (u.refuge r).occupancy, reasons := reportReasons r door supply (u.refuge r).occupancy s }
      ∧ t = deriveReasons r u
      ∧ FaultHanded r (s.refuge r).reasons (reportReasons r door supply (u.refuge r).occupancy s) u t := by
  have hattended := attended_attend r ins outs frame (writeReport r door supply frame s)
  have hwritten := refuge_writeReport r door supply frame s
  rw [takeRefugeReport_eq hc]
  refine ⟨_, hattended, rfl, ?_⟩
  generalize attend r ins outs frame (writeReport r door supply frame s) = u at hattended
  have hrefuge := hattended.kept.refuge
  rw [hwritten] at hrefuge
  have hcu : (u.refuge r).configured = true := by rw [hrefuge]; exact hc
  have hreal (z : Fin 32) : (u.zone z).real = (s.zone z).real := hattended.real z
  have hreasons : u.reasonsOf (u.refuge r) = reportReasons r door supply (u.refuge r).occupancy s := by
    rw [derived_eq, hrefuge]
    simp only [hreal]
    rfl
  have hold : (u.refuge r).reasons = (s.refuge r).reasons := by rw [hrefuge]; rfl
  refine ⟨?_, rfl, ?_⟩
  · rw [refuge_deriveReasons, if_pos ⟨rfl, hcu⟩, hreasons, hrefuge]
  · have hhanded := faultHanded (r := r) (old := (s.refuge r).reasons)
      (new := reportReasons r door supply (u.refuge r).occupancy s) rfl
      (u.modifyRefuge r (fun x => { x with reasons := reportReasons r door supply (u.refuge r).occupancy s }))
    rw [deriveReasons_of hcu, hreasons, hold]
    obtain ⟨hidle, hended, hraised, hdetail, hrenewed, htold, hitem, hattention⟩ := hhanded
    exact ⟨hidle, hended, hraised, hdetail, hrenewed, htold, hitem, hattention⟩

theorem refugeReported : RefugeReported r door supply frame s (takeRefugeReport r door supply ins outs frame s) := by
  obtain ⟨u, hattended, hu, hrefuge, ht, hhanded⟩ := takeRefugeReport_hands hc door supply ins outs frame
  have hflk : (takeRefugeReport r door supply ins outs frame s).flk = s.flk := by
    rw [ht, hu, show deriveReasons r _ = _ from deriveReasons_only ..]
    exact attend_flk ..
  generalize takeRefugeReport r door supply ins outs frame s = t at *
  have hocc : (t.refuge r).occupancy = (u.refuge r).occupancy := by rw [hrefuge]
  have hreasons : (t.refuge r).reasons = reportReasons r door supply (u.refuge r).occupancy s := by rw [hrefuge]
  have hholds (hq : QueueHolds s.atq) : QueueHolds u.atq := hattended.holds hq
  refine ⟨hflk, by rw [hocc]; exact hrefuge, fun hq => ?_, fun hq hne hnone => ?_, fun hq hold hj => ?_⟩
  · rw [hreasons]
    exact hhanded.ended (hholds hq)
  · rw [hreasons] at hne hnone ⊢
    exact ⟨hhanded.raised hne hnone, fun it hm hf => hhanded.detail hne hnone it hm hf.1 hf.2⟩
  · rw [hreasons] at hj
    refine ⟨fun it hm hf => hhanded.renewed hold hj it hm hf.1 hf.2, fun it hm hf hn => ?_⟩
    rcases hattended.kept.shuffled.before it hm hf.1 hf.2 with hu | hu
    · exact hhanded.told (hholds hq) hold hj it hu hf.1 hf.2 hn
    · exact hhanded.attention hu

/-- A report without tags leaves the queue but for its own fault's item. -/
theorem faultHanded_alone : FaultHanded r (s.refuge r).reasons
    ((takeRefugeReport r door supply [] [] frame s).refuge r).reasons s (takeRefugeReport r door supply [] [] frame s) := by
  obtain ⟨u, -, hu, hrefuge, -, hhanded⟩ := takeRefugeReport_hands hc door supply [] [] frame
  have hreasons : ((takeRefugeReport r door supply [] [] frame s).refuge r).reasons =
      reportReasons r door supply (u.refuge r).occupancy s := by rw [hrefuge]
  rw [hreasons]
  generalize takeRefugeReport r door supply [] [] frame s = t at *
  obtain ⟨hidle, hended, hraised, hdetail, hrenewed, htold, hitem, hattention⟩ := hhanded
  subst hu
  exact ⟨hidle, hended, hraised, hdetail, hrenewed, htold, hitem, hattention⟩

end Taken

end Sys2Proof.Machine
end

section
/-! The records of a refuge report (R149 to R151), and that refuge reports and truck reports are taken (R121 to R128, R169). -/

namespace Sys2Proof.Machine

open Sys2Proof.Safety (QueueHolds Raised NotRaised EscortsJudged OccupanciesAgree CountsAgree)

/-! ## A record of a report -/

/-- A record after a refuge report: MUSTERED where it has come in, PRESENT where it has gone out, and else as it was. -/
structure RefugeRecord (r : Fin 8) (ins outs : List Tag) (frame : Frame) (i : Fin 240) (p : Person) (s t : State) (q : Person) :
    Prop where
  slot : t.slot i = { gen := (s.slot i).gen, person := some q }
  tag : q.tag = p.tag
  entered : p.tag ∈ ins → p.tag ∉ outs → (p.musteredAt r (s.refuge r).zone frame).Judged q
  left : p.tag ∈ outs → p.tag ∈ ins ∨ (p.state = .mustered ∧ p.refuge = some r) →
    q.state = .present ∧ q.refuge = none ∧ q.zone = (s.refuge r).zone ∧ q.misses = 0 ∧ q.heard = some frame ∧ q.level = 15
      ∧ q.heardSinceVisit = true
  stays : p.tag ∉ ins → p.tag ∉ outs ∨ ¬ (p.state = .mustered ∧ p.refuge = some r) → p.Judged q
  missing : p.tag ∈ ins → p.state = .missing → QueueHolds s.atq → NotRaised .missing (s.personSubject i) t

theorem Person.LeftTo.fields {p q : Person} {zone : Option (Fin 32)} {frame : Frame} (h : p.LeftTo zone frame q) :
    q.state = .present ∧ q.refuge = none ∧ q.zone = zone ∧ q.misses = 0 ∧ q.heard = some frame ∧ q.level = 15
      ∧ q.heardSinceVisit = true := by
  rw [show q = _ from h]
  exact ⟨rfl, rfl, rfl, rfl, rfl, rfl, rfl⟩

theorem Person.Judged.musteredAt {p q : Person} {r : Fin 8} {zone : Option (Fin 32)} {frame : Frame}
    (h : (p.musteredAt r zone frame).Judged q) : q.state = .mustered ∧ q.refuge = some r ∧ q.zone = zone ∧ q.alert = .noAlert
      ∧ q.misses = 0 ∧ q.heard = some frame ∧ q.level = 15 ∧ q.heardSinceVisit = p.heardSinceVisit := by
  rw [show q = _ from h]
  exact ⟨rfl, rfl, rfl, rfl, rfl, rfl, rfl, rfl⟩

theorem Person.Judged.fields {p q : Person} (h : p.Judged q) : q.state = p.state ∧ q.refuge = p.refuge ∧ q.zone = p.zone
    ∧ q.alert = p.alert ∧ q.misses = p.misses ∧ q.heard = p.heard ∧ q.level = p.level
    ∧ q.heardSinceVisit = p.heardSinceVisit ∧ q.exposure = p.exposure := by
  rw [show q = _ from h]
  exact ⟨rfl, rfl, rfl, rfl, rfl, rfl, rfl, rfl, rfl⟩

section Attended

variable {r : Fin 8} {i : Fin 240} {p : Person} {s : State} (hp : s.person i = some p)
  (honly : ∀ j q, s.person j = some q → q.tag = p.tag → j = i) (hv : validTag p.tag = true) (ins outs : List Tag) (frame : Frame)

include hp honly hv

theorem refugeRecord_attend : ∃ q, RefugeRecord r ins outs frame i p s (attend r ins outs frame s) q := by
  have hin := followed_forTags (Q := EnteredAs r frame i p s) (follows_checkIn (r := r) (frame := frame)) hp honly hv
    ⟨nofun, fun _ => .refl p, nofun⟩ ins
  obtain ⟨hattended, q, hslot, htag, hyes, hno, hmissing⟩ := hin
  unfold attend
  generalize forTags ins (checkIn r frame) s = u at *
  have hout := followed_forTags (Q := LeftAs r frame q u) (follows_checkOut (r := r) (frame := frame) (i := i))
    (congrArg Slot.person hslot) (htag ▸ hattended.steady.only honly) (htag ▸ hv) ⟨nofun, fun _ => .refl q⟩ outs
  obtain ⟨hafter, w, hwslot, hwtag, hleft, hkept⟩ := hout
  rw [htag, decide_eq_true_iff] at hleft hkept
  rw [decide_eq_true_iff] at hyes hmissing
  rw [decide_eq_false_iff_not] at hno
  rw [hattended.zone] at hleft
  have hentered (hm : p.tag ∈ ins) : q.state = .mustered ∧ q.refuge = some r := by
    obtain ⟨hs, hr, -⟩ := (hyes hm).musteredAt
    exact ⟨hs, hr⟩
  have hsame (hm : p.tag ∉ ins) : (q.state = .mustered ∧ q.refuge = some r) ↔ (p.state = .mustered ∧ p.refuge = some r) := by
    obtain ⟨hs, hr, -⟩ := (hno hm).fields
    rw [hs, hr]
  refine ⟨w, by rw [hwslot, hslot], hwtag.trans htag, fun hm hn => ?_, fun hm hor => ?_, fun hm hor => ?_, fun hm hs hq => ?_⟩
  · exact (hyes hm).trans (hkept fun hn' => hn hn'.1)
  · refine (hleft ⟨hm, ?_⟩).fields
    by_cases hin : p.tag ∈ ins
    · exact hentered hin
    · exact (hsame hin).2 (hor.resolve_left hin)
  · refine (hno hm).trans (hkept fun hn => ?_)
    exact hor.elim (fun ho => ho hn.1) fun ho => ho ((hsame hm).1 hn.2)
  · exact (hafter.steady.quiet (hattended.holds hq)).2 _ (hmissing hm hs hq)

variable (hc : (s.refuge r).configured = true) (door : Door) (supply : Supply)

include hc

theorem refugeRecord : ∃ q, RefugeRecord r ins outs frame i p s (takeRefugeReport r door supply ins outs frame s) q := by
  obtain ⟨q, hslot, htag, hentered, hleft, hstays, hmissing⟩ := refugeRecord_attend (r := r)
    (s := writeReport r door supply frame s)
    hp honly hv ins outs frame
  have hattended := attended_attend r ins outs frame (writeReport r door supply frame s)
  have hzone : ((writeReport r door supply frame s).refuge r).zone = (s.refuge r).zone := by
    rw [refuge_writeReport]
    rfl
  rw [takeRefugeReport_eq hc]
  generalize attend r ins outs frame (writeReport r door supply frame s) = u at *
  rw [hzone] at hentered hleft
  refine ⟨q, (deriveReasons_slot r u i).trans hslot, htag, hentered, hleft, hstays, fun hm hs hq => ?_⟩
  exact (deriveReasons_spares (k := .missing) nofun nofun r _ u).notRaised (hattended.holds hq) (hmissing hm hs hq)

/-- A report that checks one record in and none out. -/
theorem report_checkIn : let t := takeRefugeReport r door supply [p.tag] [] frame s
    EscortsJudged i s t ∧ ∀ k, (t.refuge k).occupancy = claimed p.musterPlace (some r) k (s.refuge k).occupancy := by
  intro t
  have hdone : CheckedIn r frame i p (writeReport r door supply frame s) _ := checkedIn hp
  have ht : t = deriveReasons r (checkIn r frame i (writeReport r door supply frame s)) := by
    refine (takeRefugeReport_eq hc ..).trans ?_
    rw [attend, forTags_nil]
    exact congrArg (deriveReasons r) (forTags_singleton hv hp honly)
  obtain ⟨q, hq, -⟩ := hdone.own
  rw [ht]
  refine ⟨escortsJudged_derived rfl rfl rfl hdone.escorts hdone.attended.holds (congrArg Slot.person hq), fun k => ?_⟩
  rw [occupancy_deriveReasons, hdone.occupancy, occupancy_writeReport]

/-- A report that checks one record out that is MUSTERED at the refuge. -/
theorem report_checkOut (hat : p.state = .mustered ∧ p.refuge = some r) :
    let t := takeRefugeReport r door supply [] [p.tag] frame s
    EscortsJudged i s t ∧ (t.refuge r).occupancy = (s.refuge r).occupancy - 1
      ∧ ∀ q, t.person i = some q →
        q.alert = (if p.alert = .noAlert ∧ ∃ z, (s.refuge r).zone = some z ∧ (s.zone z).evac = .ordered then .sent else p.alert)
          ∧ q.exposure = (if s.rst.exposureMode = .entries ∧ p.exposure < 65535 ∧ ∃ z, (s.refuge r).zone = some z
              ∧ ((s.zone z).real = .caution ∨ (s.zone z).real = .danger ∨ (s.zone z).real = .trip)
            then p.exposure + 1 else p.exposure) := by
  intro t
  have hdone : CheckedOut r frame i p (writeReport r door supply frame s) _ := checkedOut hp hat
  have hzone : ((writeReport r door supply frame s).refuge r).zone = (s.refuge r).zone := by
    rw [refuge_writeReport]
    rfl
  have ht : t = deriveReasons r (checkOut r frame i (writeReport r door supply frame s)) := by
    refine (takeRefugeReport_eq hc ..).trans ?_
    rw [attend, forTags_nil]
    exact congrArg (deriveReasons r) (forTags_singleton hv hp honly)
  obtain ⟨q, hq, -, halert, hyes, hno⟩ := hdone.own
  have hraises : MoveRaises none (s.refuge r).zone p (writeReport r door supply frame s)
      ↔ s.rst.exposureMode = .entries ∧ p.exposure < 65535 ∧ ∃ z, (s.refuge r).zone = some z
        ∧ ((s.zone z).real = .caution ∨ (s.zone z).real = .danger ∨ (s.zone z).real = .trip) := by
    rw [moveRaises_iff]
    refine and_congr_right fun _ => ⟨fun h => h.2, fun h => ⟨fun hn => ?_, h⟩⟩
    obtain ⟨-, z, hz, -⟩ := h
    rw [hz] at hn
    cases hn
  rw [hzone] at halert hyes hno
  rw [hraises] at hyes hno
  rw [ht]
  refine ⟨escortsJudged_derived rfl rfl rfl hdone.escorts hdone.attended.holds (congrArg Slot.person hq), ?_, fun w hw => ?_⟩
  · rw [occupancy_deriveReasons, hdone.occupancy, occupancy_writeReport, claimed_leaves, if_pos rfl]
  · rw [person_eq_of_slot (deriveReasons_slot r _ i), State.person, hq] at hw
    obtain rfl := Option.some.inj hw
    refine ⟨halert, ?_⟩
    split
    · next h => exact hyes h
    · next h => exact hno h

end Attended

end Sys2Proof.Machine
end

section
/-! That refuge reports and truck reports are taken or discarded (R121 to R128, R149 to R153, R169). -/

namespace Sys2Proof.Machine

open Sys2Proof.Safety (QueueHolds Raised NotRaised EscortsJudged OccupanciesAgree CountsAgree)

theorem judgeMessage_refuge {e : Received} {r : RefugeReport} (h : inbound? e.message = some (.refuge r)) (s : State) :
    judgeMessage e s =
      if e.slotClass = .tag then takeRefugeReport r.refuge r.door r.supply r.checkIns r.checkOuts e.frame s else s := by
  rw [judgeMessage, h]
  rfl

theorem takeRefugeReport_discards {r : Fin 8} {s : State} (h : (s.refuge r).configured = false) (door : Door) (supply : Supply)
    (ins outs : List Tag) (frame : Frame) : takeRefugeReport r door supply ins outs frame s = s :=
  if_neg (by rw [h]; exact Bool.false_ne_true)

/-- Settles O57: L3 and L6 hold at every state, and a refuge report of a configured refuge and a truck report that answers its
last poll are taken in their steps, any other being discarded. -/
theorem refugeAndTruckReportsAreTaken : Obligations.RefugeAndTruckReportsAreTaken := by
  refine ⟨fun n z s => addsBelowLimit, requestsFit, fun s e later hs hhand hqueue => ?_⟩
  have hexec : exec .messageTaking s = .next (judgeMessage e (withQueue later s)) := by
    rw [exec_messageTaking hs, takeMessage_of hhand hqueue]
  refine ⟨fun ⟨r, door, supply, ins, outs⟩ hm => ⟨fun hno => ?_, fun htag hc => ?_⟩, fun rep hm => ⟨fun hno => ?_,
    fun u zone requested hhaul hu hpoll hans hz hr => ?_⟩⟩
  · rw [hexec, judgeMessage_refuge hm]
    split
    · next htag =>
      exact congrArg _ (takeRefugeReport_discards (s := withQueue later s) (hno.resolve_left (not_not.2 htag)) ..)
    · rfl
  · have hroll := (Tame.takeRefugeReport r door supply ins outs e.frame (withQueue later s)).roll
    rw [hexec, judgeMessage_refuge hm, if_pos htag]
    obtain ⟨hflk, hrefuge, hended, hraised, hrenewed⟩ :=
      refugeReported (s := withQueue later s) hc door supply ins outs e.frame
    have hreasons : ((takeRefugeReport r door supply ins outs e.frame (withQueue later s)).refuge r).reasons =
        reportReasons r door supply ((takeRefugeReport r door supply ins outs e.frame (withQueue later s)).refuge r).occupancy
          (withQueue later s) := congrArg Refuge.reasons hrefuge
    rw [hreasons] at hended hraised hrenewed
    refine ⟨_, rfl, hflk, congrArg Refuge.door hrefuge, congrArg Refuge.supply hrefuge, congrArg Refuge.panel hrefuge,
      congrArg Refuge.lastReport hrefuge, ⟨hreasons, hended, hraised, hrenewed, fun hin hout => ?_⟩,
      fun i p hp h0 h1 honly => ?_, hroll.occupancies, hroll.counts⟩
    · subst hin hout
      have hhanded := faultHanded_alone (s := withQueue later s) hc door supply e.frame
      rw [hreasons] at hhanded
      exact ⟨hhanded.idle, fun it hne hsome _ => hhanded.item hne hsome it⟩
    · have hv : validTag p.tag = true := (validTag_iff _).2 ⟨h0, h1⟩
      obtain ⟨q, hslot, htag, hentered, hleft, hstays, hmissing⟩ :=
        refugeRecord (s := withQueue later s) hp honly hv ins outs e.frame hc door supply
      have hin := report_checkIn (s := withQueue later s) hp honly hv e.frame hc door supply
      have hout := report_checkOut (s := withQueue later s) hp honly hv e.frame hc door supply
      refine ⟨?_, ?_, ?_, ?_, ?_, ?_, q, hslot, htag, fun hi ho => (hentered hi ho).musteredAt, hleft,
        fun hi ho => (hstays hi ho).fields, hmissing⟩
      · rintro rfl rfl
        exact hin.1
      · rintro rfl rfl hat
        exact (hout hat).1
      · rintro rfl rfl hst
        obtain ⟨hs, hr, hz, ha, hm, hh, hl, -⟩ := (hentered List.mem_cons_self List.not_mem_nil).musteredAt
        refine ⟨q, congrArg Slot.person hslot, hs, hr, hz, ha, hm, hh, hl, (hin.2 r).trans ?_⟩
        rw [Person.musterPlace, if_neg hst, claimed, if_neg nofun, if_pos rfl]
        rfl
      · rintro rfl rfl hst href
        obtain ⟨-, hocc, hrest⟩ := hout ⟨hst, href⟩
        obtain ⟨halert, hexposure⟩ := hrest q (congrArg Slot.person hslot)
        obtain ⟨hs, hr, hz, hm, hh, hl, hvisit⟩ := hleft List.mem_cons_self (.inr ⟨hst, href⟩)
        exact ⟨q, congrArg Slot.person hslot, hs, hr, hz, hm, hh, hl, hvisit, hocc, halert, hexposure⟩
      · rintro rfl rfl hst href
        refine (hin.2 r).trans ?_
        rw [Person.musterPlace, if_pos hst, href, claimed, if_pos rfl]
        rfl
      · rintro k rfl rfl hst href hk
        have hne : some k ≠ some r := fun h => hk (Option.some.inj h)
        refine ⟨(hin.2 k).trans ?_, (hin.2 r).trans ?_⟩
        · rw [Person.musterPlace, if_pos hst, href, claimed, if_neg hne, if_neg hne.symm, if_pos rfl]
          rfl
        · rw [Person.musterPlace, if_pos hst, href, claimed, if_neg hne, if_pos rfl]
          rfl
  · rw [hexec, judgeMessage_truck hm]
    split
    · next hhaul =>
      exact congrArg _ (takeTruckReport_discards (s := withQueue later s) (hno.resolve_left (not_not.2 hhaul)))
    · rfl
  · obtain ⟨v, h⟩ := truckTaken (s := withQueue later s) hu zone requested rep.proximity e.frame
    rw [hexec, judgeMessage_truck hm, if_pos hhaul,
      takeTruckReport_takes (s := withQueue later s) (stamp := { frame := e.frame, slot := e.slot }) hu hpoll hans hz hr]
    obtain ⟨-, -, -, hnumber⟩ := truck_some hu
    obtain ⟨hsame, harrived, hfirst, hkept, hended, hstatus, hjudged, hgiven⟩ := h.claimed
    refine ⟨_, v, rfl, h.flk, h.truck, ?_, ?_, ?_, ?_, ?_, ?_, ?_, ?_, ?_, harrived, hfirst, hkept, h.intrusion, h.unplaced,
      hended, hstatus, hjudged, hgiven, h.peers, h.nowhere, h.counts, fun z hzone i p hp h0 h1 honly => ?_, h.stranger,
      fun hq => ⟨h.linkLost hq, h.raised hq, h.ended hq⟩⟩
    case refine_1 => rw [hsame]; exact hnumber
    case refine_10 =>
      obtain ⟨q, hq⟩ := h.people z hzone i p hp h0 h1 honly
      refine ⟨q, hq.slot, hq.tag, hq.lastKey, fun hsighted => ?_, fun hno => (hq.unsighted hno).fields⟩
      obtain ⟨hs, hmissing, hescorts⟩ := hq.sighted hsighted
      exact ⟨hs.state, hs.refuge, hs.heard, hs.misses, hs.heardSinceVisit, hs.zone, hs.level, hs.alert, hmissing, hescorts⟩
    all_goals rw [hsame]; rfl

end Sys2Proof.Machine
end
